-- ==== Sys2Proof/Word.lean ====
section
/-!
DEFINITION. Sys2Proof/Word.lean: the words of the machine. Registers and general registers are 64 bits (R6, R34), a
short-vector register is 256 bits (R34), memory is addressed by byte (R28).
-/

namespace Sys2Proof

/-- A 64-bit register word. -/
abbrev Word := BitVec 64

/-- One byte. -/
abbrev Byte := BitVec 8

/-- A short-vector register, 256 bits (R34, R78). -/
abbrev Vec := BitVec 256

end Sys2Proof
end

