-- ==== Sys2Proof/Syntax.lean ====
section
/-!
DEFINITION. Sys2Proof/Syntax.lean: the commands of the block. Each row of the spec's table of operations and events is
one constructor of `Instr`; its arguments are what the command brings with it: the operand fields of an instruction, the
number of the unit, slot or polder it acts on, and what arrives from outside (queue entries, host data, frames).
-/

namespace Sys2Proof

/-- An Ikist core, 0 to 63 (R25, R102). -/
abbrev CoreId := Fin 64
/-- A general or short-vector register number (R40). -/
abbrev Reg := Fin 32
/-- A predicate number (R34). -/
abbrev Prd := Fin 8
/-- A stream register number (R80). -/
abbrev StreamId := Fin 8
/-- A Polder ID (R10). -/
abbrev PolderId := Fin 256
/-- A task slot, job-table entry or key slot (R10, R62). -/
abbrev SlotId := Fin 16384
/-- A Worker ID, 0 to 215 (R10). -/
abbrev WorkerId := Fin 216

/-- The two forms of a structure load (R90). -/
inductive LdsForm where
  | short (vd ga : Reg) (ew : Fin 4) (off : BitVec 11)
  | long (td ta : StreamId)
  deriving DecidableEq, Repr

/-- The AtomicOps a doorbell completes (R123), with their operands. -/
inductive AtomicOp where
  | fetchAdd (v : Word)
  | swap (v : Word)
  | cas (compare v : Word)
  deriving DecidableEq, Repr

/-- A write to one of the two source selections that R122 stages. -/
inductive EpcSel where
  | src (port : Fin 32) (src : Fin 4)
  | ptp (vlanEn : Bool) (vid : BitVec 12) (delay : Bool) (transport : Fin 4) (domain : BitVec 8)
  deriving DecidableEq, Repr

/-- The kinds of PTP message that R113 and R114 tell apart. -/
inductive PtpKind where
  | announce | sync | followUp | delayResp | pdelayReq | pdelayResp | pdelayFollowUp | management | signaling
  deriving DecidableEq, Repr

/-- What an Announce says of its transmitter's clock, for the default BMCA (R113): priority1, clockClass, clockAccuracy, the variance,
priority2, the grandmaster's identity and the steps to it. -/
structure PtpClock where
  prio1 : BitVec 8
  cls : BitVec 8
  accuracy : BitVec 8
  variance : BitVec 16
  prio2 : BitVec 8
  gm : BitVec 64
  steps : BitVec 16
  deriving DecidableEq, Repr

/-- An arriving PTP message: what R113, R114 and R118 read of it. `timescale` is the flag of an Announce, `clock` its data; `interval` is
logMessageInterval, signed. `refNs` is the time that the message carries with its correction, in nanoseconds, and `phaseNs` how far the
counter is into its tick at the message's hardware timestamp. -/
structure PtpMsg where
  kind : PtpKind
  port : Fin 32
  transport : Fin 4
  vid : Option (BitVec 12)
  domain : BitVec 8
  version : Nat
  timescale : Bool
  sender : Nat
  clock : PtpClock
  interval : BitVec 8
  seq : BitVec 16
  twoStep : Bool
  refNs : Nat
  phaseNs : Nat
  deriving DecidableEq, Repr

/-- What PTP_DELAY_REQUEST_SEND sends: for the selection in force or the staged one, a request or the answer to a Pdelay_Req, and how far the
counter is into its tick. -/
structure PtpSend where
  staged : Bool
  answer : Bool
  phaseNs : Nat
  deriving DecidableEq, Repr

/-- The sources that failed the start-up test: those of the repetition count test, and those of the adaptive proportion test (R232, R233). -/
structure StartupFailures where
  rct : BitVec 8
  apt : BitVec 8
  deriving DecidableEq, Repr

/-- An arriving IRIG-B frame: its 100 elements, 0 and 1 for a bit and 2 for a position marker, whether its format carries a BCD year (R113),
and how far the counter is into its tick at the frame's reference edge. -/
structure IrigFrame where
  elems : List (Fin 3)
  withYear : Bool
  phaseNs : Nat
  deriving DecidableEq, Repr

/-- A card or module in the socket: SD or MMC, supported and unlocked, its highest mode, its CID, its blocks that are not zero, and for a
module its replay-protected block: key, write counter and units. -/
structure CardMedium where
  sd : Bool := true
  usable : Bool := true
  maxMode : Nat := 1
  s18a : Bool := false
  cid : List (BitVec 8) := []
  blocks : List (Nat × List (BitVec 8)) := []
  rpmbKey : List (BitVec 8) := []
  rpmbCnt : Nat := 0
  rpmb : List (Nat × List (BitVec 8)) := []
  deriving DecidableEq, Repr

/-- What a debugger asks through the debug access port (R445): attach or detach, halt, step or resume a core, look at one of its registers
(g0 to g31, then pc, the predicates, XPC, XCAUSE, XADDR, XHND, EIX), read or write memory or a register. -/
inductive DapOp where
  | attach (on : Bool)
  | halt (c : Fin 64)
  | step (c : Fin 64)
  | resume (c : Fin 64)
  | inspect (c : Fin 64) (what : Fin 79)
  | read (a : BitVec 48) (len : Nat)
  | write (a : BitVec 48) (data : List (BitVec 8))
  deriving DecidableEq, Repr


/-- The commands of the block: one constructor per row of the spec's table of operations and events. -/
inductive Instr where
  /-- ADD (R41): ALU instruction that writes ra plus rb to rd. -/
  | add (c : CoreId) (rd ra rb : Reg)
  /-- SUB (R41): ALU instruction that writes ra minus rb to rd. -/
  | sub (c : CoreId) (rd ra rb : Reg)
  /-- AND (R41): ALU instruction that writes the bitwise AND of ra and rb to rd. -/
  | andOp (c : CoreId) (rd ra rb : Reg)
  /-- OR (R41): ALU instruction that writes the bitwise OR of ra and rb to rd. -/
  | orOp (c : CoreId) (rd ra rb : Reg)
  /-- XOR (R41): ALU instruction that writes the bitwise XOR of ra and rb to rd. -/
  | xorOp (c : CoreId) (rd ra rb : Reg)
  /-- SLL (R41): ALU instruction that shifts ra left by rb[5:0]. -/
  | sll (c : CoreId) (rd ra rb : Reg)
  /-- SRL (R41): ALU instruction that shifts ra right logically by rb[5:0]. -/
  | srl (c : CoreId) (rd ra rb : Reg)
  /-- SRA (R41): ALU instruction that shifts ra right arithmetically by rb[5:0]. -/
  | sra (c : CoreId) (rd ra rb : Reg)
  /-- ROTR (R41): ALU instruction that rotates ra right by rb[5:0]. -/
  | rotr (c : CoreId) (rd ra rb : Reg)
  /-- MUL (R41): ALU instruction that writes the low 64 bits of ra times rb. -/
  | mul (c : CoreId) (rd ra rb : Reg)
  /-- MULHU (R41): ALU instruction that writes the high 64 bits of the unsigned 128-bit product. -/
  | mulhu (c : CoreId) (rd ra rb : Reg)
  /-- MULH (R41): ALU instruction that writes the high 64 bits of the signed 128-bit product. -/
  | mulh (c : CoreId) (rd ra rb : Reg)
  /-- DIVU (R42): Unsigned division, returning all ones on division by zero. -/
  | divu (c : CoreId) (rd ra rb : Reg)
  /-- DIV (R42): Signed division truncating towards zero, with no exception. -/
  | div (c : CoreId) (rd ra rb : Reg)
  /-- REMU (R42): Unsigned remainder, returning ra on division by zero. -/
  | remu (c : CoreId) (rd ra rb : Reg)
  /-- REM (R42): Signed remainder taking the sign of ra. -/
  | rem (c : CoreId) (rd ra rb : Reg)
  /-- MINU (R41): ALU instruction that writes the unsigned minimum of ra and rb. -/
  | minu (c : CoreId) (rd ra rb : Reg)
  /-- MIN (R41): ALU instruction that writes the signed minimum of ra and rb. -/
  | min (c : CoreId) (rd ra rb : Reg)
  /-- MAXU (R41): ALU instruction that writes the unsigned maximum of ra and rb. -/
  | maxu (c : CoreId) (rd ra rb : Reg)
  /-- MAX (R41): ALU instruction that writes the signed maximum of ra and rb. -/
  | max (c : CoreId) (rd ra rb : Reg)
  /-- CLZ (R41): ALU instruction that counts the leading zeros of ra, giving 64 for 0. -/
  | clz (c : CoreId) (rd ra : Reg)
  /-- CTZ (R41): ALU instruction that counts the trailing zeros of ra, giving 64 for 0. -/
  | ctz (c : CoreId) (rd ra : Reg)
  /-- POPC (R41): ALU instruction that counts the one bits of ra. -/
  | popc (c : CoreId) (rd ra : Reg)
  /-- BSWAP (R41): ALU instruction that byte-reverses ra. -/
  | bswap (c : CoreId) (rd ra : Reg)
  /-- SEL (R41): ALU instruction that selects ra or rb according to predicate PX. -/
  | sel (c : CoreId) (rd ra rb : Reg) (px : Prd)
  /-- CMPEQ (R41): Compare instruction that writes ra equal to rb into predicate PX. -/
  | cmpeq (c : CoreId) (px : Prd) (ra rb : Reg)
  /-- CMPNE (R41): Compare instruction that writes ra not equal to rb into predicate PX. -/
  | cmpne (c : CoreId) (px : Prd) (ra rb : Reg)
  /-- CMPLT (R41): Compare instruction that writes signed ra less than rb into predicate PX. -/
  | cmplt (c : CoreId) (px : Prd) (ra rb : Reg)
  /-- CMPLTU (R41): Compare instruction that writes unsigned ra less than rb into predicate PX. -/
  | cmpltu (c : CoreId) (px : Prd) (ra rb : Reg)
  /-- CMPGE (R41): Compare instruction that writes signed ra greater than or equal to rb into predicate PX. -/
  | cmpge (c : CoreId) (px : Prd) (ra rb : Reg)
  /-- CMPGEU (R41): Compare instruction that writes unsigned ra greater than or equal to rb into predicate PX. -/
  | cmpgeu (c : CoreId) (px : Prd) (ra rb : Reg)
  /-- PAND (R41): Predicate instruction that ANDs two predicates. -/
  | pand (c : CoreId) (pd pa pb : Prd)
  /-- POR (R41): Predicate instruction that ORs two predicates. -/
  | por (c : CoreId) (pd pa pb : Prd)
  /-- PXOR (R41): Predicate instruction that XORs two predicates. -/
  | pxor (c : CoreId) (pd pa pb : Prd)
  /-- PNOT (R41): Predicate instruction that inverts a predicate. -/
  | pnot (c : CoreId) (pd pa : Prd)
  /-- MFP (R41): Copies predicates p7 to p0 into rd. -/
  | mfp (c : CoreId) (rd : Reg)
  /-- MTP (R41): Copies ra[7:0] into predicates p7 to p0. -/
  | mtp (c : CoreId) (ra : Reg)
  /-- ADDI (R43): ALUI instruction that adds the sign-extended IMM12 to ra. -/
  | addi (c : CoreId) (rd ra : Reg) (imm : BitVec 12)
  /-- ANDI (R43): ALUI instruction that ANDs ra with the sign-extended IMM12. -/
  | andi (c : CoreId) (rd ra : Reg) (imm : BitVec 12)
  /-- ORI (R43): ALUI instruction that ORs ra with the sign-extended IMM12. -/
  | ori (c : CoreId) (rd ra : Reg) (imm : BitVec 12)
  /-- XORI (R43): ALUI instruction that XORs ra with the sign-extended IMM12. -/
  | xori (c : CoreId) (rd ra : Reg) (imm : BitVec 12)
  /-- SLLI (R43): ALUI instruction that shifts ra left by IMM12[5:0]. -/
  | slli (c : CoreId) (rd ra : Reg) (sh : BitVec 6)
  /-- SRLI (R43): ALUI instruction that shifts ra right logically by IMM12[5:0]. -/
  | srli (c : CoreId) (rd ra : Reg) (sh : BitVec 6)
  /-- SRAI (R43): ALUI instruction that shifts ra right arithmetically by IMM12[5:0]. -/
  | srai (c : CoreId) (rd ra : Reg) (sh : BitVec 6)
  /-- CMPEQI (R43): ALUI compare of ra with the immediate for equality into a predicate. -/
  | cmpeqi (c : CoreId) (px : Prd) (ra : Reg) (imm : BitVec 12)
  /-- CMPLTI (R43): ALUI signed less-than compare of ra with the immediate into a predicate. -/
  | cmplti (c : CoreId) (px : Prd) (ra : Reg) (imm : BitVec 12)
  /-- CMPLTUI (R43): ALUI unsigned less-than compare of ra with the immediate into a predicate. -/
  | cmpltui (c : CoreId) (px : Prd) (ra : Reg) (imm : BitVec 12)
  /-- LIMM (R44): Places IMM16 in quarter Q of rd, clearing or keeping the other bits by K. -/
  | limm (c : CoreId) (rd : Reg) (q : Fin 4) (k : Bool) (imm : BitVec 16)
  /-- LD (R45): Loads 8 to 64 bits from ra plus OFF12, optionally sign-extended. -/
  | ld (c : CoreId) (rd ra : Reg) (sz : Fin 4) (sx : Bool) (off : BitVec 12)
  /-- ST (R45): Stores 8 to 64 bits of rs at ra plus OFF12, posted to HBM, CXL, Cistern and host window. -/
  | st (c : CoreId) (rs ra : Reg) (sz : Fin 4) (off : BitVec 12)
  /-- AMO_SWAP (R46): Atomic swap of memory at ra with rb, returning the old value. -/
  | amoSwap (c : CoreId) (rd ra rb : Reg) (w64 : Bool)
  /-- AMO_ADD (R46): Atomic add of rb to memory at ra, returning the old value. -/
  | amoAdd (c : CoreId) (rd ra rb : Reg) (w64 : Bool)
  /-- AMO_AND (R46): Atomic AND of rb into memory at ra, returning the old value. -/
  | amoAnd (c : CoreId) (rd ra rb : Reg) (w64 : Bool)
  /-- AMO_OR (R46): Atomic OR of rb into memory at ra, returning the old value. -/
  | amoOr (c : CoreId) (rd ra rb : Reg) (w64 : Bool)
  /-- AMO_XOR (R46): Atomic XOR of rb into memory at ra, returning the old value. -/
  | amoXor (c : CoreId) (rd ra rb : Reg) (w64 : Bool)
  /-- AMO_MAX (R46): Atomic signed maximum of memory at ra and rb. -/
  | amoMax (c : CoreId) (rd ra rb : Reg) (w64 : Bool)
  /-- AMO_MIN (R46): Atomic signed minimum of memory at ra and rb. -/
  | amoMin (c : CoreId) (rd ra rb : Reg) (w64 : Bool)
  /-- AMO_MAXU (R46): Atomic unsigned maximum of memory at ra and rb. -/
  | amoMaxu (c : CoreId) (rd ra rb : Reg) (w64 : Bool)
  /-- AMO_MINU (R46): Atomic unsigned minimum of memory at ra and rb. -/
  | amoMinu (c : CoreId) (rd ra rb : Reg) (w64 : Bool)
  /-- AMO_CAS (R46): Atomic compare-and-swap storing rb only if memory equals rd. -/
  | amoCas (c : CoreId) (rd ra rb : Reg) (w64 : Bool)
  /-- BR (R47): Branches by OFF22 words when predicate P equals S. -/
  | br (c : CoreId) (p : Prd) (sense : Bool) (off : BitVec 22)
  /-- J (R47): Jumps by OFF24 words. -/
  | j (c : CoreId) (off : BitVec 24)
  /-- CALL (R47): Jumps by OFF24 words and writes the return address to g31. -/
  | call (c : CoreId) (off : BitVec 24)
  /-- JR (R47): Jumps to the address in ra, raising MISALIGN if not 4-byte-aligned. -/
  | jr (c : CoreId) (ra : Reg)
  /-- CALLR (R47): Jumps to ra and writes the return address to g31. -/
  | callr (c : CoreId) (ra : Reg)
  /-- NOP (R48): Does nothing. -/
  | nop (c : CoreId)
  /-- FENCE (R49): Waits until every earlier load and store of the task has completed or been accepted. -/
  | fence (c : CoreId)
  /-- MFS (R36): Reads a system register into g[reg]. -/
  | mfs (c : CoreId) (r : Reg) (num : BitVec 15)
  /-- MTS (R36): Writes g[reg] into an RW system register. -/
  | mts (c : CoreId) (r : Reg) (num : BitVec 15)
  /-- TRAP (R48): Raises the TRAP exception with a recorded number. -/
  | trap (c : CoreId) (num : BitVec 15)
  /-- XRET (R70): Returns from an in-task exception handler to XPC and clears XACT. -/
  | xret (c : CoreId)
  /-- BKPT (R48): Raises the BKPT exception. -/
  | bkpt (c : CoreId)
  /-- HALT (R48): Privileged instruction that stops the core until the management core restarts it. -/
  | halt (c : CoreId)
  /-- ERET (R48): Privileged return from firmware to the interrupted U task. -/
  | eret (c : CoreId)
  /-- WAITWORK (R52): Privileged wait by a core until the Pump assigns it a task. -/
  | waitwork (c : CoreId) (rd : Reg)
  /-- TASK_DISPATCH (R105): The Pump answers a waiting worker from its affinity list or priority queue and the task resumes. -/
  | taskDispatch (w : WorkerId)
  /-- OPERATOR_UNIT_WORK_REQUEST (R105): An operator unit asks the Pump for work in hardware. -/
  | operatorUnitWorkRequest (w : WorkerId)
  /-- DONE (R58): Ends the task; the slot frees once its jobs complete and session actions are performed. -/
  | done (c : CoreId)
  /-- YIELD (R52): Saves the frame and leaves the task ready; a marked task ends here. -/
  | yield (c : CoreId)
  /-- SPAWN (R54): Creates a task from a spawn descriptor, or returns all ones if no slot is free. -/
  | spawn (c : CoreId) (rd ra : Reg)
  /-- FREE (R58): Ends or marks for ending a task slot of the same program. -/
  | free (c : CoreId) (rd ra : Reg)
  /-- SETEV (R55): Sets event flags of a task of the caller's polder, possibly making it ready. -/
  | setev (c : CoreId) (rd ra rb : Reg)
  /-- CLREV (R52): Clears flags of the calling task, TIMEOUT included. -/
  | clrev (c : CoreId) (rb : Reg)
  /-- WAITEV (R56): Waits for any or all of a mask of flags with an optional tick limit. -/
  | waitev (c : CoreId) (rd ra rb : Reg) (all : Bool)
  /-- SLEEP (R57): Waits for a number of ticks, or parks the task with 0xFFFF_FFFF. -/
  | sleep (c : CoreId) (ra : Reg)
  /-- TIMER_EXPIRY (R110): At the expiry tick edge the wait condition is sampled and TIMEOUT is set if it does not hold. -/
  | timerExpiry (t : SlotId)
  /-- TIMER_RETIREMENT (R109): The Pump retires a due timer and makes its task ready. -/
  | timerRetirement
  /-- AFFINITY_HOLD_EXPIRY (R104): A task held on an affinity list longer than PMP_AFFHOLD moves to its priority queue. -/
  | affinityHoldExpiry (w : WorkerId) (t : SlotId)
  /-- SLOT_WAIT_EXPIRY (R99): A hardware requester still waiting for a task slot at its limit latches FCL bit 14. -/
  | slotWaitExpiry
  /-- HW_REQUESTER_SLOT_GRANT (R99): A freed slot is given to a waiting hardware requester before SPAWN. -/
  | hwRequesterSlotGrant
  /-- PMP_WOFF_WRITE (R106): Takes workers offline or back into service and drains their affinity lists. -/
  | pmpWoffWrite (m : Fin 4) (v : Word)
  /-- ENG (R59): Issues an engine job from a descriptor and returns its job handle. -/
  | eng (c : CoreId) (cls : Fin 8) (ev : Fin 32) (ra rd : Reg) (opc : BitVec 8)
  /-- ABORT (R64): CTL function that ends an outstanding job of the caller's program with ABORTED. -/
  | abort (c : CoreId) (rd ra : Reg)
  /-- PROBE (R64): CTL function that reports whether a job of the caller's program is outstanding. -/
  | probe (c : CoreId) (rd ra : Reg)
  /-- JOB_COMPLETION (R61): A job writes outputs, STATUS, DETAIL, OUTLEN and DONE, then sets its event flag. -/
  | jobCompletion (e : SlotId)
  /-- KINFO (R65): Returns the attribute word of an owned key slot. -/
  | kinfo (c : CoreId) (rd ra : Reg)
  /-- KALLOC (R65): Allocates the lowest free polder key slot to the caller's polder. -/
  | kalloc (c : CoreId) (rd rb : Reg)
  /-- KZERO (R178): Zeroises and frees a key slot, ending every job that names it. -/
  | kzero (c : CoreId) (rd ra : Reg)
  /-- KPUB (R227): Writes a slot's public part, optionally with a DEV_ID-signed attestation. -/
  | kpub (c : CoreId) (rd ra rb : Reg) (ev : Fin 32)
  /-- KIMP (R229): Imports a wrapped key blob into an empty slot. -/
  | kimp (c : CoreId) (rd ra rb : Reg) (ev : Fin 32)
  /-- KEXP (R228): Exports a slot as a wrapped blob if its policy allows. -/
  | kexp (c : CoreId) (rd ra rb : Reg) (ev : Fin 32)
  /-- KATTR (R220): Narrows a slot's attributes or reports that the change would widen them. -/
  | kattr (c : CoreId) (rd ra rb : Reg)
  /-- OP_DEF (R348): Copies an operator descriptor and parameters into a pipeline, staged if it runs. -/
  | opDef (c : CoreId) (pipe : Fin 16) (ra : Reg) (opc : BitVec 6)
  /-- OP_RUN (R349): Checks a pipeline and starts it as a job, or queues it behind a running instance. -/
  | opRun (c : CoreId) (pipe : Fin 16) (ra : Reg) (ev : Fin 32)
  /-- OP_STOP (R68): Ends the running instance of a pipeline with ABORTED. -/
  | opStop (c : CoreId) (pipe : Fin 16)
  /-- TLD (R82): Loads a stream descriptor from memory. -/
  | tld (c : CoreId) (td : StreamId) (ga : Reg)
  /-- TST (R82): Stores a stream descriptor to memory. -/
  | tst (c : CoreId) (td : StreamId) (ga : Reg)
  /-- TSET (R82): Builds a stream descriptor from two general registers. -/
  | tset (c : CoreId) (td : StreamId) (ga gb : Reg)
  /-- TADV (R82): Advances a stream's BASE by COUNT times STRIDE. -/
  | tadv (c : CoreId) (td : StreamId)
  /-- TCNT (R82): Sets a stream's COUNT. -/
  | tcnt (c : CoreId) (td : StreamId) (ga : Reg)
  /-- VADD (R83): Short-vector element-wise add. -/
  | vadd (c : CoreId) (vd va vb : Reg) (ew : Fin 4)
  /-- VSUB (R83): Short-vector element-wise subtract. -/
  | vsub (c : CoreId) (vd va vb : Reg) (ew : Fin 4)
  /-- VAND (R83): Short-vector bitwise AND. -/
  | vand (c : CoreId) (vd va vb : Reg) (ew : Fin 4)
  /-- VOR (R83): Short-vector bitwise OR. -/
  | vor (c : CoreId) (vd va vb : Reg) (ew : Fin 4)
  /-- VXOR (R83): Short-vector bitwise XOR. -/
  | vxor (c : CoreId) (vd va vb : Reg) (ew : Fin 4)
  /-- VMIN (R83): Short-vector element minimum. -/
  | vmin (c : CoreId) (vd va vb : Reg) (ew : Fin 4) (sg : Bool)
  /-- VMAX (R83): Short-vector element maximum. -/
  | vmax (c : CoreId) (vd va vb : Reg) (ew : Fin 4) (sg : Bool)
  /-- VADDS (R83): Short-vector saturating add. -/
  | vadds (c : CoreId) (vd va vb : Reg) (ew : Fin 4) (sg : Bool)
  /-- VSUBS (R83): Short-vector saturating subtract. -/
  | vsubs (c : CoreId) (vd va vb : Reg) (ew : Fin 4) (sg : Bool)
  /-- VABSD (R83): Short-vector exact absolute difference. -/
  | vabsd (c : CoreId) (vd va vb : Reg) (ew : Fin 4) (sg : Bool)
  /-- VMUL (R83): Short-vector low-half multiply. -/
  | vmul (c : CoreId) (vd va vb : Reg) (ew : Fin 4) (sg : Bool)
  /-- VMULH (R83): Short-vector high-half multiply. -/
  | vmulh (c : CoreId) (vd va vb : Reg) (ew : Fin 4) (sg : Bool)
  /-- VBSEL (R83): Short-vector bitwise select under vd. -/
  | vbsel (c : CoreId) (vd va vb : Reg) (ew : Fin 4)
  /-- VCMPEQ (R83): Short-vector equality compare to masks. -/
  | vcmpeq (c : CoreId) (vd va vb : Reg) (ew : Fin 4) (sg : Bool)
  /-- VCMPLT (R83): Short-vector less-than compare to masks. -/
  | vcmplt (c : CoreId) (vd va vb : Reg) (ew : Fin 4) (sg : Bool)
  /-- VCMPLE (R83): Short-vector less-or-equal compare to masks. -/
  | vcmple (c : CoreId) (vd va vb : Reg) (ew : Fin 4) (sg : Bool)
  /-- VTANY (R83): Sets a predicate if any bit of a vector register is 1. -/
  | vtany (c : CoreId) (px : Prd) (va : Reg)
  /-- VTALL (R83): Sets a predicate if every bit of a vector register is 1. -/
  | vtall (c : CoreId) (px : Prd) (va : Reg)
  /-- VSLL (R83): Short-vector per-element shift left. -/
  | vsll (c : CoreId) (vd va vb : Reg) (ew : Fin 4)
  /-- VSRL (R83): Short-vector per-element logical shift right. -/
  | vsrl (c : CoreId) (vd va vb : Reg) (ew : Fin 4)
  /-- VSRA (R83): Short-vector per-element arithmetic shift right. -/
  | vsra (c : CoreId) (vd va vb : Reg) (ew : Fin 4)
  /-- VPERM (R83): Short-vector byte permutation. -/
  | vperm (c : CoreId) (vd va vb : Reg)
  /-- VMACC (R83): Short-vector multiply-accumulate. -/
  | vmacc (c : CoreId) (vd va vb : Reg) (ew : Fin 4)
  /-- VSAD (R84): Accumulates absolute differences into four 64-bit lanes. -/
  | vsad (c : CoreId) (vd va vb : Reg) (ew : Fin 4) (sg : Bool)
  /-- VRADD (R83): Sums all elements of a vector register into lane 0. -/
  | vradd (c : CoreId) (vd va : Reg) (ew : Fin 4) (sg : Bool)
  /-- VBCST (R83): Broadcasts a general register into every element. -/
  | vbcst (c : CoreId) (vd ga : Reg) (ew : Fin 4)
  /-- VINS (R83): Inserts a general register into one element. -/
  | vins (c : CoreId) (vd ga : Reg) (idx : Fin 32) (ew : Fin 4)
  /-- VEXT (R83): Extracts one element into a general register. -/
  | vext (c : CoreId) (rd va : Reg) (idx : Fin 32) (ew : Fin 4) (sg : Bool)
  /-- VMOV (R83): Copies a vector register. -/
  | vmov (c : CoreId) (vd va : Reg)
  /-- VLD (R85): Loads 32 aligned bytes into a vector register. -/
  | vld (c : CoreId) (vd ga : Reg) (off : BitVec 15)
  /-- VST (R85): Stores a vector register to 32 aligned bytes. -/
  | vst (c : CoreId) (vs ga : Reg) (off : BitVec 15)
  /-- LV_BINARY (R86): Long-vector element-wise operation LVADD to LVMULH over two streams. -/
  | lvBinary (c : CoreId) (td ta tb : StreamId) (fn : Fin 12) (sg : Bool)
  /-- LV_BINARY_SCALAR (R86): Long-vector element-wise operation with lane 0 of a short vector as second operand. -/
  | lvBinaryScalar (c : CoreId) (td ta : StreamId) (fn : Fin 12) (sv : Reg) (sg : Bool)
  /-- LVSAD (R86): Accumulates long-vector absolute differences into four lanes. -/
  | lvsad (c : CoreId) (ta tb : StreamId) (sv : Reg) (sg : Bool)
  /-- LVSUM (R86): Accumulates the sum of a long vector into lane 0. -/
  | lvsum (c : CoreId) (ta : StreamId) (sv : Reg) (sg : Bool)
  /-- LVMIN (R86): Reduces a long vector to its minimum in lane 0. -/
  | lvmin (c : CoreId) (ta : StreamId) (sv : Reg) (sg : Bool)
  /-- LVMAX (R86): Reduces a long vector to its maximum in lane 0. -/
  | lvmax (c : CoreId) (ta : StreamId) (sv : Reg) (sg : Bool)
  /-- LVCNT (R86): Counts non-zero long-vector elements into lane 0. -/
  | lvcnt (c : CoreId) (ta : StreamId) (sv : Reg)
  /-- LVCPY (R86): Copies a long vector with width conversion. -/
  | lvcpy (c : CoreId) (td ta : StreamId) (sg : Bool)
  /-- LVCMPEQ (R86): Long-vector equality compare to masks. -/
  | lvcmpeq (c : CoreId) (td ta tb : StreamId) (sg : Bool)
  /-- LVCMPLT (R86): Long-vector less-than compare to masks. -/
  | lvcmplt (c : CoreId) (td ta tb : StreamId) (sg : Bool)
  /-- LVCMPLE (R86): Long-vector less-or-equal compare to masks. -/
  | lvcmple (c : CoreId) (td ta tb : StreamId) (sg : Bool)
  /-- LVGATH (R86): Gathers elements by index into a long vector. -/
  | lvgath (c : CoreId) (td ta tb : StreamId)
  /-- LVCOMP (R86): Compresses selected elements and reports their count. -/
  | lvcomp (c : CoreId) (td ta tb : StreamId) (sv : Reg)
  /-- LDS2 (R90): Structure load de-interleaving two fields, short or long form. -/
  | lds2 (c : CoreId) (f : LdsForm)
  /-- LDS3 (R90): Structure load de-interleaving three fields, short or long form. -/
  | lds3 (c : CoreId) (f : LdsForm)
  /-- LDS4 (R90): Structure load de-interleaving four fields, short or long form. -/
  | lds4 (c : CoreId) (f : LdsForm)
  /-- MLKEM_KEYGEN (R166): Generates an ML-KEM key pair, private key to OSLOT. -/
  | mlkemKeygen (e : SlotId)
  /-- MLKEM_ENCAPS (R167): Encapsulates to an ML-KEM key after its checks, secret to OSLOT. -/
  | mlkemEncaps (e : SlotId)
  /-- MLKEM_DECAPS (R167): Decapsulates with implicit rejection into OSLOT. -/
  | mlkemDecaps (e : SlotId)
  /-- MLDSA_KEYGEN (R166): Generates an ML-DSA key pair. -/
  | mldsaKeygen (e : SlotId)
  /-- MLDSA_SIGN (R168): Signs with ML-DSA, reporting rejection rounds in DETAIL. -/
  | mldsaSign (e : SlotId)
  /-- MLDSA_VERIFY (R168): Verifies an ML-DSA signature. -/
  | mldsaVerify (e : SlotId)
  /-- MCE_KEYGEN (R170): Generates a Classic McEliece key in a work area, retrying seeds. -/
  | mceKeygen (e : SlotId)
  /-- MCE_ENCAPS (R171): Encapsulates to a Classic McEliece public key. -/
  | mceEncaps (e : SlotId)
  /-- MCE_DECAPS (R171): Decapsulates Classic McEliece with implicit rejection. -/
  | mceDecaps (e : SlotId)
  /-- HQC_KEYGEN (R169): Generates an HQC key pair. -/
  | hqcKeygen (e : SlotId)
  /-- HQC_ENCAPS (R171): Encapsulates to an HQC public key. -/
  | hqcEncaps (e : SlotId)
  /-- HQC_DECAPS (R171): Decapsulates HQC with implicit rejection. -/
  | hqcDecaps (e : SlotId)
  /-- EC_KEYGEN (R172): Generates an elliptic-curve key pair. -/
  | ecKeygen (e : SlotId)
  /-- ECDH_EPH (R172): Ephemeral ECDH writing own public key and the shared secret to OSLOT. -/
  | ecdhEph (e : SlotId)
  /-- ECDH (R173): Static ECDH with a slot key into OSLOT. -/
  | ecdh (e : SlotId)
  /-- ECDSA_SIGN (R173): Signs a digest with ECDSA. -/
  | ecdsaSign (e : SlotId)
  /-- ECDSA_VERIFY (R173): Verifies an ECDSA signature. -/
  | ecdsaVerify (e : SlotId)
  /-- EDDSA_SIGN (R173): Signs with PureEdDSA. -/
  | eddsaSign (e : SlotId)
  /-- EDDSA_VERIFY (R173): Verifies a PureEdDSA signature. -/
  | eddsaVerify (e : SlotId)
  /-- RSA_PSS_SIGN (R173): Signs a digest with RSA-PSS. -/
  | rsaPssSign (e : SlotId)
  /-- RSA_PSS_VERIFY (R173): Verifies an RSA-PSS signature. -/
  | rsaPssVerify (e : SlotId)
  /-- RSA_PKCS1_VERIFY (R173): Verifies an RSA PKCS#1 v1.5 signature. -/
  | rsaPkcs1Verify (e : SlotId)
  /-- AEAD_SEAL (R174): AE SEAL encrypts plaintext and appends the tag. -/
  | aeadSeal (e : SlotId)
  /-- AEAD_OPEN (R175): AE OPEN decrypts and verifies, zeroing output on tag failure. -/
  | aeadOpen (e : SlotId)
  /-- CUSTOMER_OPERATION (R255): A job with OPC 0x80 to 0xFF runs customer microcode from the entry vector. -/
  | customerOperation (e : SlotId)
  /-- ENGINE_FAULT (R180): An engine fault takes the engine offline and re-runs the job once elsewhere. -/
  | engineFault (cls : Fin 8) (k : Fin 32) (cause : BitVec 8)
  /-- DG_OPEN (R190): Opens a digest context, absorbs A and writes the handle. -/
  | dgOpen (e : SlotId)
  /-- DG_UPDATE (R196): Absorbs A into an open context, truncating at a declared length. -/
  | dgUpdate (e : SlotId)
  /-- DG_FINAL (R196): Absorbs A and writes or compares the digest, closing the context. -/
  | dgFinal (e : SlotId)
  /-- DG_PEEK (R197): Writes the digest of the bytes so far without closing the context. -/
  | dgPeek (e : SlotId)
  /-- DG_ONESHOT (R190): Opens, absorbs and finalises in one job. -/
  | dgOneshot (e : SlotId)
  /-- DG_CLOSE (R190): Discards a context. -/
  | dgClose (e : SlotId)
  /-- HKDF_EXTRACT (R200): Writes an HKDF PRK to OSLOT. -/
  | hkdfExtract (e : SlotId)
  /-- HKDF_EXPAND (R201): Expands a PRK into OSLOT, or up to 12 bytes to memory. -/
  | hkdfExpand (e : SlotId)
  /-- CT_COMPARE (R202): Compares two byte strings in constant time on the comparison unit. -/
  | ctCompare (e : SlotId)
  /-- SLH_KEYGEN (R205): Generates an SLH-DSA key pair. -/
  | slhKeygen (e : SlotId)
  /-- SLH_SIGN (R205): Signs with SLH-DSA. -/
  | slhSign (e : SlotId)
  /-- SLH_VERIFY (R205): Verifies an SLH-DSA signature. -/
  | slhVerify (e : SlotId)
  /-- HBS_KEYGEN (R207): Generates a stateful hash-based key with floor and limit. -/
  | hbsKeygen (e : SlotId)
  /-- HBS_SIGN (R208): Takes the cursor leaf and signs, reserving a floor block when needed. -/
  | hbsSign (e : SlotId)
  /-- HBS_FLOOR_COMMIT (R209): Completion of a floor commit to MRAM releases signatures of the new block. -/
  | hbsFloorCommit (k : SlotId)
  /-- HBS_VERIFY (R206): Verifies a stateful hash-based signature. -/
  | hbsVerify (e : SlotId)
  /-- HBS_SPLIT (R212): Moves the top leaves of a stateful slot into a wrapped blob. -/
  | hbsSplit (e : SlotId)
  /-- CONTEXT_EXPIRY (R195): An idle digest context becomes EXPIRED and is zeroised at its limit. -/
  | contextExpiry (x : Fin 256)
  /-- DIGEST_FAULT (R215): A hash-core or context RAM error is handled by retry or by aborting the context's jobs. -/
  | digestFault (ctxRam : Bool) (core : Fin 32) (x : Fin 256)
  /-- ZCOMP (R341): Compresses data into a DBS stream with flush points. -/
  | zcomp (e : SlotId)
  /-- ZDECOMP (R342): Decodes a DBS stream. -/
  | zdecomp (e : SlotId)
  /-- COMPRESSION_LANE_FAULT (R344): A lane fault takes the lane offline and re-runs the job once. -/
  | compressionLaneFault (k : Fin 8) (cause : BitVec 8)
  /-- TBL_CREATE (R301): Creates a table from a table descriptor. -/
  | tblCreate (e : SlotId)
  /-- TBL_DROP (R323): Stages a table drop as a generation. -/
  | tblDrop (e : SlotId)
  /-- APPEND (R307): Appends rows to a table, opening segments as needed. -/
  | append (e : SlotId)
  /-- TBL_SEAL (R310): Closes the open segment and waits for it to seal. -/
  | tblSeal (e : SlotId)
  /-- SEG_INFO (R324): Writes a segment record. -/
  | segInfo (e : SlotId)
  /-- SEG_EXPORT (R325): Writes a sealed column segment. -/
  | segExport (e : SlotId)
  /-- SEG_IMPORT (R326): Checks and adds imported column segments as a sealed segment. -/
  | segImport (e : SlotId)
  /-- TBL_INFO (R324): Writes a table summary and its descriptor. -/
  | tblInfo (e : SlotId)
  /-- SEGMENT_WINDOW_CLOSE (R310): At the window tick edge the open segment closes and sealing starts. -/
  | segmentWindowClose (t : Fin 4096)
  /-- SEGMENT_PUBLISH (R311): Once all digests are complete, a segment is published SEALED. -/
  | segmentPublish (t : Fin 4096)
  /-- SEAL_GRANULE_GRANT (R311): Sealing that waited for a store granule resumes when one frees. -/
  | sealGranuleGrant (t : Fin 4096)
  /-- SEGMENT_MIGRATION (R319): A sealed segment is copied to CXL at MIGRATE or under low watermark. -/
  | segmentMigration (t : Fin 4096) (seg : BitVec 25)
  /-- MIGRATION_PUBLISH (R319): The copy completes and the segment is published ARCHIVED. -/
  | migrationPublish (t : Fin 4096) (seg : BitVec 25)
  /-- RETENTION_DROP (R322): A segment becomes DROPPED RETAIN ticks after sealing. -/
  | retentionDrop (t : Fin 4096) (seg : BitVec 25)
  /-- TBL_DROP_STAGING (R323): At the staging edge the table accepts no new work. -/
  | tblDropStaging (t : Fin 4096)
  /-- TBL_DROP_COMPLETE (R323): Once old-generation work ends, segments drop and the Table ID frees. -/
  | tblDropComplete (t : Fin 4096)
  /-- SCAN (R363): A scan task reads one block, evaluates predicates and emits a batch. -/
  | scan (w : WorkerId)
  /-- FILTER (R367): Clears bitmap bits of unselected rows in a batch. -/
  | filter (w : WorkerId)
  /-- PROJECT (R368): Computes output columns and emits a dense batch. -/
  | project (w : WorkerId)
  /-- SINK (R369): Writes a batch to the SINK area. -/
  | sink (w : WorkerId)
  /-- SEAL (R370): Operator task that issues TBL_SEAL. -/
  | seal (w : WorkerId)
  /-- HBUILD (R380): Inserts a batch into a hash table, spilling when refused granules. -/
  | hbuild (w : WorkerId)
  /-- HPROBE (R381): Probes a batch against the build table. -/
  | hprobe (w : WorkerId)
  /-- ASOF (R383): Joins probe rows to the latest reference row. -/
  | asof (w : WorkerId)
  /-- GROUP (R385): Updates group entries for a batch. -/
  | group (w : WorkerId)
  /-- WINDOW (R387): Updates per-window group entries for a batch. -/
  | window (w : WorkerId)
  /-- WINDOW_CLOSE (R388): A window closes at its tick edge and is emitted. -/
  | windowClose (e : SlotId) (op : Fin 255)
  /-- PSAD (R389): Builds per-key profiles for comparison. -/
  | psad (w : WorkerId)
  /-- SORT (R390): Sorts a batch into a run. -/
  | sort (w : WorkerId)
  /-- MERGE (R391): Stores runs and merges them after input ends. -/
  | merge (w : WorkerId)
  /-- TOPK (R392): Keeps the first K rows of its input. -/
  | topk (w : WorkerId)
  /-- OPERATOR_FINAL_EMIT (R386): After input ends a stateful operator processes spills and emits its results. -/
  | operatorFinalEmit (e : SlotId) (op : Fin 255)
  /-- EXCHANGE (R394): Routes rows by key hash to peer devices or locally. -/
  | exchange (w : WorkerId)
  /-- EXCHANGE_TIMEOUT (R394): A missing end marker at the TIMEOUT edge fails the run. -/
  | exchangeTimeout (e : SlotId) (op : Fin 255)
  /-- UDO (R395): Hands a batch to a customer function on a join/aggregate unit. -/
  | udo (w : WorkerId)
  /-- RECEIPT (R397): Passes batches on and keeps result rows for the receipt. -/
  | receipt (w : WorkerId)
  /-- RUN_QUEUE_GRANT (R354): A run waiting for Cistern queue space starts when it frees. -/
  | runQueueGrant (e : SlotId)
  /-- PRODUCER_TASK_CREATE (R355): A producer task is created once an output queue entry is reserved. -/
  | producerTaskCreate (e : SlotId) (op : Fin 255)
  /-- CONSUMER_TASK_CREATE (R355): A consumer task is created for each batch entering a queue. -/
  | consumerTaskCreate (e : SlotId) (op : Fin 255)
  /-- RUN_COMPLETE (R351): A run completes when all operators have drained, or stops at a failure. -/
  | runComplete (e : SlotId)
  /-- OPERATOR_UNIT_FAULT (R366): A unit fault takes the unit offline and re-runs or fails the task. -/
  | operatorUnitFault (w : WorkerId) (cause : BitVec 8) (begun : Bool)
  /-- OPU_CIS_MODE_WRITE (R372): Stages or cancels a Cistern partition mode change. -/
  | opuCisModeWrite (mode : Fin 4)
  /-- CIS_MODE_STAGING_EDGE (R372): At the next tick edge partitions grant within the tighter sizes. -/
  | cisModeStagingEdge
  /-- CIS_MODE_APPLY (R372): When occupancy fits, the partition boundaries move and CUR changes. -/
  | cisModeApply
  /-- SQ_TAIL_DOORBELL (R130): Accepts or refuses a new SQ tail. -/
  | sqTailDoorbell (n : PolderId) (q : Fin 4) (v : Word)
  /-- CQ_HEAD_DOORBELL (R130): Accepts or refuses a new CQ head, freeing CQ slots and host-ring buffers. -/
  | cqHeadDoorbell (n : PolderId) (v : Word)
  /-- SQ_FETCH (R131): The device fetches an SQ entry once it has reserved a CQ slot. -/
  | sqFetch (n : PolderId) (q : Fin 4) (entry : List Byte)
  /-- LOAD_PROGRAM (R139): Checks and places a program image, returning its handle. -/
  | loadProgram (n : PolderId) (q : Fin 4) (image : List Byte) (grant : Bool)
  /-- UNLOAD_PROGRAM (R140): Stops pipelines and ends tasks of a program. -/
  | unloadProgram (n : PolderId) (q : Fin 4)
  /-- UNLOAD_RELEASE (R140): When every slot of the program is FREE the handle is released. -/
  | unloadRelease (n : PolderId) (h : Fin 4096)
  /-- RUN (R137): SQ entry that creates a task from an embedded spawn descriptor. -/
  | run (n : PolderId) (q : Fin 4)
  /-- RUN_SLOT_GRANT (R138): A waiting RUN creates its task when a slot frees. -/
  | runSlotGrant (n : PolderId) (q : Fin 4)
  /-- RUN_WAIT_EXPIRY (R138): A RUN still without a slot at PLD_RUNWAIT completes with TIMEOUT. -/
  | runWaitExpiry (n : PolderId) (q : Fin 4)
  /-- DMA_IN (R141): Copies host memory to device memory. -/
  | dmaIn (n : PolderId) (q : Fin 4) (data : List Byte) (grant : Bool)
  /-- DMA_OUT (R141): Copies device memory to host memory. -/
  | dmaOut (n : PolderId) (q : Fin 4) (grant : Bool)
  /-- SIGNAL (R134): Sets flags of a task slot as SETEV does. -/
  | signal (n : PolderId) (q : Fin 4)
  /-- SQ_FENCE (R132): Orders entries of one SQ. -/
  | sqFence (n : PolderId) (q : Fin 4)
  /-- MSIX_COALESCE_EXPIRY (R136): MSI-X vector n fires when PLD_IRQ.DELAY has passed since the first pending entry. -/
  | msixCoalesceExpiry (n : PolderId)
  /-- UNSUPPORTED_REQUEST (R123): A PCIe request using an unsupported feature is refused or dropped and logged. -/
  | unsupportedRequest (ep : Fin 2) (posted uncorr : Bool) (header : BitVec 128)
  /-- DOORBELL_ATOMICOP (R123): A PCIe FetchAdd, Swap or CAS on a BAR2 doorbell. -/
  | doorbellAtomicop (n : PolderId) (q : Fin 5) (op : AtomicOp)
  /-- PCIE_LINK_DOWN (R125): A link-down stops fetching and abandons in-flight host transfers. -/
  | pcieLinkDown (ep : Fin 2)
  /-- PCIE_LINK_UP (R125): Held completions and records are posted once the link is up again. -/
  | pcieLinkUp (ep : Fin 2)
  /-- PCIE_LINK_RETRAIN (R125): A retraining below the expected width or rate latches bit 27. -/
  | pcieLinkRetrain (ep : Fin 2) (width : Fin 5) (rate : Fin 6)
  /-- FUNCTION_LEVEL_RESET (R126): Resets every polder mapped to an endpoint. -/
  | functionLevelReset (ep : Fin 2)
  /-- D3HOT_ENTRY (R126): Stops fetching from the endpoint's polders. -/
  | d3hotEntry (ep : Fin 2)
  /-- D0_RETURN (R126): Resumes fetching on return to D0. -/
  | d0Return (ep : Fin 2)
  /-- ATS_INVALIDATION_REQUEST (R142): Discards matching cached translations. -/
  | atsInvalidationRequest (n : PolderId) (page : Nat) (pages : Nat)
  /-- ATS_INVALIDATION_COMPLETION (R142): Sent once every access using a discarded translation has completed. -/
  | atsInvalidationCompletion (n : PolderId)
  /-- PLD_DPT_INV (R144): Invalidates cached device page table translations. -/
  | pldDptInv (n : PolderId)
  /-- PLD_PASID_WRITE (R128): Sets a polder's endpoint and PASID, refusing duplicates. -/
  | pldPasidWrite (n : PolderId) (v : Word)
  /-- POLDER_ENABLE (R149): PLD_CTRL.ENABLE moves a DISABLED polder to ACTIVE. -/
  | polderEnable (n : PolderId)
  /-- QUIESCE (R149): Setting or clearing PLD_CTRL.QUIESCE stops or resumes fetching. -/
  | quiesce (n : PolderId) (set : Bool)
  /-- POLDER_RESET (R149): PLD_CTRL.OP = 1 starts draining a quiesced polder. -/
  | polderReset (n : PolderId)
  /-- POLDER_REMOVE (R153): PLD_CTRL.OP = 2 drains and removes a polder. -/
  | polderRemove (n : PolderId)
  /-- DRAIN_END (R149): All host-bound transfers have finished and squashing starts. -/
  | drainEnd (n : PolderId)
  /-- DRAIN_LIMIT_EXPIRY (R150): The drain ends at PLD_DRAIN_LIMIT and squashing starts. -/
  | drainLimitExpiry (n : PolderId)
  /-- RESET_DONE (R154): Set once squashing and every access of the polder's work has completed. -/
  | resetDone (n : PolderId)
  /-- DIRTY_SWAP (R147): Starts a swap of the dirty-page bitmap. -/
  | dirtySwap (n : PolderId)
  /-- SWAP_DONE (R147): Old bitmap writes complete and the new buffer becomes active. -/
  | swapDone (n : PolderId)
  /-- EPC_ENABLE (R112): EPC_CTRL.ENABLE starts the epoch unit. -/
  | epcEnable
  /-- EPC_TICK_WRITE (R112): Sets the tick period before enable, or is refused with CFG_ERR. -/
  | epcTickWrite (v : BitVec 20)
  /-- EPC_SRC_DISABLE (R122): Changing SRC to 0 takes effect at the write and enters NOREF. -/
  | epcSrcDisable
  /-- EPC_SRC_STAGE (R122): Any other source change is staged until the new source measures. -/
  | epcSrcStage (w : EpcSel)
  /-- PTP_MESSAGE (R114): An arriving PTP message is accepted or dropped and counted. -/
  | ptpMessage (m : PtpMsg)
  /-- PTP_DELAY_REQUEST_SEND (R114): The unit transmits Delay_Req or Pdelay_Req and answers Pdelay_Req. -/
  | ptpDelayRequestSend (x : PtpSend)
  /-- IRIGB_FRAME (R115): An IRIG-B frame is accepted or discarded. -/
  | irigbFrame (f : IrigFrame)
  /-- PPS_EDGE (R116): A 1PPS rising edge marks a TAI second. -/
  | ppsEdge (us ns : Nat)
  /-- REFERENCE_LOSS (R118): Missing reference inputs move the unit to HOLDOVER. -/
  | referenceLoss (phaseNs : Nat)
  /-- HOLDOVER_EXPIRY (R120): HOLDOVER ends at its limit and the counter stops in LOST. -/
  | holdoverExpiry
  /-- RNG_ENABLE (R233): Starts the Well in STARTUP. -/
  | rngEnable
  /-- RNG_RESTART (R233): Re-enters STARTUP over the enabled sources. -/
  | rngRestart
  /-- RNG_TESTSRC_WRITE (R234): Sets or clears the test pattern in MAKER. -/
  | rngTestsrcWrite (v : Bool)
  /-- WELL_STARTUP_COMPLETE (R233): The start-up tests end in READY or FAILED. -/
  | wellStartupComplete (failed : StartupFailures) (kat : Bool)
  /-- SOURCE_HEALTH_FAILURE (R232): A source failing a health test is excluded and its blocks discarded. -/
  | sourceHealthFailure (k : Fin 8) (window : BitVec 1024)
  /-- DRBG_RESEED (R235): An instance reaching its reseed count reseeds from the Well. -/
  | drbgReseed (inst : Fin 288)
  /-- ENTROPY_WAIT_EXPIRY (R237): A tenant request waiting for entropy completes with ENTROPY_UNAVAILABLE. -/
  | entropyWaitExpiry (e : SlotId)
  /-- RNG_STALL_EXPIRY (R238): A job waiting for randomness in FAILED completes with ENTROPY_FAILED. -/
  | rngStallExpiry (e : SlotId)
  /-- ENTROPY_DELIVERY (R237): Conditioned output serves a waiting reseed or held job. -/
  | entropyDelivery
  /-- KST_RCPT_WRITE (R239): Stages a new receipt slot designation. -/
  | kstRcptWrite (n : PolderId) (valid : Bool) (k : SlotId)
  /-- RECEIPT_SLOT_STAGING (R239): At the next tick edge new RECEIPT work uses the new slot. -/
  | receiptSlotStaging
  /-- SCRUB_COMPLETE (R225): The scrub of the key store finishes and SCRUB clears. -/
  | scrubComplete
  /-- REWRAP_COMPLETE (R226): The re-wrap of every slot under a new store key finishes. -/
  | rewrapComplete
  /-- MCS_LOAD (R260): MCS_CTRL.OP = 1 checks a microcode image and stages it. -/
  | mcsLoad
  /-- MCS_CLEAR (R261): MCS_CTRL.OP = 2 stages clearing a class's customer region. -/
  | mcsClear (cls : Fin 8)
  /-- CUST_EN_WRITE (R258): Enables customer entries, or stages disabling them. -/
  | custEnWrite (v : Bool)
  /-- MICROCODE_STAGING_EDGE (R261): At the tick edge the class stops starting the affected jobs. -/
  | microcodeStagingEdge
  /-- MICROCODE_APPLY (R261): When started jobs complete the region is written and jobs resume. -/
  | microcodeApply
  /-- MW_ISSUE (R244): Microword that sends a nanoword to the datapath. -/
  | mwIssue (m : Fin 5) (k : Fin 256)
  /-- MW_BRANCH (R245): Microword that branches on a condition. -/
  | mwBranch (m : Fin 5) (k : Fin 256)
  /-- MW_LDI (R246): Microword that loads a loop counter with an immediate. -/
  | mwLdi (m : Fin 5) (k : Fin 256)
  /-- MW_LDA (R246): Microword that loads a loop counter from A_LEN. -/
  | mwLda (m : Fin 5) (k : Fin 256)
  /-- MW_DJNZ (R246): Microword that decrements a counter and branches if non-zero. -/
  | mwDjnz (m : Fin 5) (k : Fin 256)
  /-- MW_CALL (R247): Microword that pushes a return address and branches. -/
  | mwCall (m : Fin 5) (k : Fin 256)
  /-- MW_RETURN (R247): Microword that pops the call stack. -/
  | mwReturn (m : Fin 5) (k : Fin 256)
  /-- MW_YIELD (R253): Microword at which a pending stop is honoured. -/
  | mwYield (m : Fin 5) (k : Fin 256)
  /-- MW_DONE (R247): Microword that ends the job with a status. -/
  | mwDone (m : Fin 5) (k : Fin 256)
  /-- MW_SYNC (R247): Microword that waits for datapath events. -/
  | mwSync (m : Fin 5) (k : Fin 256)
  /-- YIELD_LIMIT_EXPIRY (R253): A stop not honoured within MCS_YIELD_LIMIT stops the job at the next microword. -/
  | yieldLimitExpiry (m : Fin 5) (k : Fin 256)
  /-- CONTROL_STORE_ERROR (R264): A control-store parity or ROM execution error takes units offline or invalidates a region. -/
  | controlStoreError (m : Fin 5) (k : Fin 256) (region : Fin 3) (addr : BitVec 16)
  /-- FRAME_RECEIVE (R270): An Ethernet frame is classified and delivered, answered or dropped. -/
  | frameReceive (port : Fin 32) (fcsOk : Bool) (frame : List (BitVec 8))
  /-- COOKIE_KEY_ROTATION (R277): At each cookie window boundary the cookie key is replaced. -/
  | cookieKeyRotation
  /-- HANDSHAKE_LIMIT_EXPIRY (R293): A session still in HANDSHAKE at its limit receives an HSLIMIT item. -/
  | handshakeLimitExpiry (k : Fin 2097152)
  /-- IDLE_LIMIT_EXPIRY (R294): A session idle to its limit receives an IDLE item. -/
  | idleLimitExpiry (k : Fin 2097152)
  /-- SESSION_TIMER_EXPIRY (R293): The armed session timer gives a RETX item. -/
  | sessionTimerExpiry (k : Fin 2097152)
  /-- TCP_RTO_EXPIRY (R294): The TCP endpoint retransmits, or sends RST and a RESET item after MAXRETX. -/
  | tcpRtoExpiry (k : Fin 2097152)
  /-- DELAYED_ACK_EXPIRY (R292): A delayed ACK is sent after DELACK ticks. -/
  | delayedAckExpiry (k : Fin 2097152)
  /-- PERSIST_TIMER_EXPIRY (R292): The TCP persist timer probes a closed window. -/
  | persistTimerExpiry (k : Fin 2097152)
  /-- ETH_LINK_DOWN (R267): An Ethernet port losing link latches bit 28. -/
  | ethLinkDown (p : Fin 32)
  /-- NET_PORT_CFG_WRITE (R266): Configures a port, refusing illegal or overlapping combinations. -/
  | netPortCfgWrite (p : Fin 32) (v : Word)
  /-- SES_CTRL_MODE_WRITE (R280): Selects S-STD or S-WIDE while no context is in use. -/
  | sesCtrlModeWrite (v : Bool)
  /-- SES_LSN_WRITE (R269): Writes a listener, refused unless the address is the polder's. -/
  | sesLsnWrite (k : Fin 256) (reg : Fin 3) (v : Word)
  /-- SES_PRIVGRP_WRITE (R291): Defines a private group, refusing code points outside 0xFE00 to 0xFEFF. -/
  | sesPrivgrpWrite (k : Fin 4) (v : Word)
  /-- DKE_COMMIT (R416): Validates the staged region set and pends a new generation. -/
  | dkeCommit
  /-- DIKE_GENERATION_EDGE (R416): At the next tick edge the committed set becomes generation CUR + 1. -/
  | dikeGenerationEdge
  /-- DKE_THAW (R414): Releases a frozen master, re-executing or ending its work. -/
  | dkeThaw (endTask : Bool) (mcls : Fin 16) (unit : Fin 256)
  /-- DKE_NTC_POP (R413): Discards the head Dike notice. -/
  | dkeNtcPop
  /-- FAULT_GROUP_RESOLVE (R422): After the 8-cycle group window the highest reaction of the group is executed. -/
  | faultGroupResolve
  /-- BLOCK_RESET_UNIT_RETURN (R423): A unit passing its tests returns online, or stays offline on failure. -/
  | blockResetUnitReturn (src : Fin 37) (unit : Fin 256) (pass : Bool)
  /-- FCL_STATUS_CLEAR (R426): W1C clear of FCL bits, re-latching a persisting cause. -/
  | fclStatusClear (v : Word)
  /-- FCL_ERRN_CLEAR (R426): Clears ASSERTED and releases ERROR_N unless an enabled bit is still set. -/
  | fclErrnClear
  /-- FCL_REC_POP (R427): Discards the head fault record. -/
  | fclRecPop
  /-- FCL_REACT_WRITE (R421): Sets reactions, refusing codes 5 to 7. -/
  | fclReactWrite (j : Fin 4) (v : Word)
  /-- TEST_ITEM_RUN (R428): An idle unit receives an in-service test job or task. -/
  | testItemRun (item : Fin 11) (unit : Fin 256) (result : Option Bool)
  /-- TEST_ABANDON (R429): A test job yields to queued real work at its next YIELD. -/
  | testAbandon (cls : Fin 8) (unit : Fin 32)
  /-- BANK_ROTATION_STEP (R430): A spare bank takes over a Cistern bank and the freed bank is tested. -/
  | bankRotationStep (k : Fin 16) (bank : Fin 17) (pass : Bool)
  /-- TEST_OVERDUE (R432): An item without a pass at its interval edge latches bit 23. -/
  | testOverdue (item : Fin 11)
  /-- THERMAL_WARNING (R514): The junction leaves the grade's range and bit 30 fires. -/
  | thermalWarning (temp : Int)
  /-- THERMAL_CRITICAL (R515): Bit 31 fires, THERMTRIP_N is driven and the device holds in reset. -/
  | thermalCritical (temp : Int)
  /-- NONCE_GEN (R441): Draws a fresh life-cycle nonce. -/
  | nonceGen
  /-- TRANSITION (R442): SUBMIT of a KIND 1 request performs a life-cycle transition and chip reset. -/
  | transition (lost : Option (Fin 5))
  /-- KEY_INSTALL (R441): SUBMIT of a KIND 2 request installs a public key into a device slot. -/
  | keyInstall
  /-- UNLOCK (R453): SUBMIT of a KIND 3 request clears a tamper lock. -/
  | unlock
  /-- BYPASS (R444): TAP instruction selecting the bypass register. -/
  | bypass (tdi : List Bool)
  /-- IDCODE (R444): TAP instruction returning the device ID. -/
  | idcode (tdi : List Bool)
  /-- SAMPLE_PRELOAD (R444): TAP boundary-scan sample, active only where permitted. -/
  | samplePreload (tdi : List Bool)
  /-- EXTEST (R444): TAP boundary-scan external test, active only where permitted. -/
  | extest (tdi : List Bool)
  /-- DBG_AUTH (R446): Shifts in a debug token, accepted or refused. -/
  | dbgAuth (token : List (BitVec 8))
  /-- DAP (R447): Debug access through the debug access port, checked by Dike. -/
  | dap (op : DapOp)
  /-- DEBUG_TOKEN_EXPIRY (R447): The debug authorisation ends at its expiry edge or on epoch loss. -/
  | debugTokenExpiry
  /-- TAMPER_ALARM (R448): A tamper condition persisting for its filter time fires its source. -/
  | tamperAlarm (on off : BitVec 10)
  /-- RELEASE (R450): TMP_CTRL.RELEASE ends a tamper freeze. -/
  | release
  /-- SELFTEST (R452): Stimulates one tamper monitor with its response suppressed. -/
  | selftest (src : Fin 16) (pass : Bool)
  /-- TMP_RESP_WRITE (R449): Sets tamper responses, refusing lowering in FIELDED and RETURNED. -/
  | tmpRespWrite (v : BitVec 40)
  /-- BATTERY_ALARM (R456): An Embankment alarm on VBAT alone is logged and may erase its key. -/
  | batteryAlarm (src : Fin 10)
  /-- EMB_CFG_WRITE (R458): Sets the backup mode and erase policy, re-wrapping the key store. -/
  | embCfgWrite (v : BitVec 4)
  /-- EMB_LOG_CLR (R461): Clears reported Embankment log entries and OVF. -/
  | embLogClr
  /-- CARD_INSERTION (R463): A debounced insertion starts card initialisation. -/
  | cardInsertion (m : CardMedium)
  /-- REINIT (R463): CRD_CTRL.REINIT initialises the card again. -/
  | reinit
  /-- CARD_INIT_COMPLETE (R463): Initialisation ends with a mode selected, or UNUSABLE. -/
  | cardInitComplete (answers switchOk : Bool) (tuned : BitVec 12)
  /-- MOUNT_SCAN (R472): Scans the journal and reconciles replay-protected counters. -/
  | mountScan
  /-- CARD_REMOVAL (R468): Removal ends the current job and every queued job. -/
  | cardRemoval (started : Bool)
  /-- CARD_SLEEP (R465): After IDLE ticks without jobs the card enters SLEEP. -/
  | cardSleep
  /-- CARD_RETUNE (R464): Re-tuning at RETUNE ticks, a CRC error or the card's request. -/
  | cardRetune (cause : Fin 3) (tuned : BitVec 12)
  /-- CRD_SUBMIT (R466): Queues a card job, refused when full or disabled. -/
  | crdSubmit (addr : BitVec 48)
  /-- CARD_READ (R467): Reads blocks from the card. -/
  | cardRead
  /-- CARD_WRITE (R467): Writes blocks to the card outside protected regions. -/
  | cardWrite
  /-- JNL_APPEND (R471): Writes a journal record, commit block last. -/
  | jnlAppend
  /-- JNL_READ (R467): Reads a journal record by sequence. -/
  | jnlRead
  /-- JNL_FORMAT (R470): Starts an empty journal with a new JID. -/
  | jnlFormat
  /-- RP_READ (R474): Reads and verifies a replay-protected unit. -/
  | rpRead
  /-- RP_WRITE (R473): Writes a replay-protected unit with counter bookkeeping. -/
  | rpWrite
  /-- RP_BIND (R475): Binds the inserted card for replay protection. -/
  | rpBind
  /-- LINK_TRAINED (R478): A peer link finishes training and enters KEYING. -/
  | linkTrained (l : Fin 16) (lanes : BitVec 8)
  /-- LINK_TRAINING_TIMEOUT (R477): Training that does not end within 100 ms takes the link DOWN. -/
  | linkTrainingTimeout (l : Fin 16)
  /-- PER_CFG_EN_WRITE (R483): Enables or disables a peer link, refused without a peer key. -/
  | perCfgEnWrite (l : Fin 16) (v : Bool)
  /-- FLIT_RECEIVE (R481): A flit is checked by CRC, tag and sequence and delivered or NAKed. -/
  | flitReceive (l : Fin 16) (flit : List (BitVec 8))
  /-- PEER_LINK_DOWN (R488): A link leaving UP discards buffers and aborts sends. -/
  | peerLinkDown (l : Fin 16)
  /-- REKEY (R484): PER_CFG.REKEY re-runs the keying handshake under traffic. -/
  | rekey (l : Fin 16)
  /-- PEER_FLIT_COUNT_REKEY (R484): After 2^32 flits under one key the link re-keys. -/
  | peerFlitCountRekey (l : Fin 16)
  /-- EPOCH_SEND (R489): At each INTERVAL tick edge every UP link sends an EPOCH message. -/
  | epochSend
  /-- PER_TX (R487): Queues a bulk send on a link. -/
  | perTx (l : Fin 16) (addr : BitVec 48)
  /-- PER_RX_HEAD_WRITE (R487): Advancing HEAD frees receive buffers. -/
  | perRxHeadWrite (l : Fin 16) (head : BitVec 7)
  /-- PORST_RELEASE (R494): Release of PORST_N runs the boot sequence. -/
  | porstRelease (straps : Fin 4) (nor : List (BitVec 8)) (cxl : List (BitVec 32))
  /-- PERST (R491): PERST_x_N resets one endpoint's polders and retrains its link. -/
  | perst (ep : Fin 2)
  /-- PWR_BOOT_GO (R496): Starts a host boot from the given image. -/
  | pwrBootGo (ep : Fin 2) (image : List (BitVec 8))
  /-- BOOT_SOURCE_TIMEOUT (R499): A boot source that delivers nothing in 10 s ends the boot in FAILED. -/
  | bootSourceTimeout
  /-- PWR_FAIL_ASSERT (R500): PWR_FAIL_N low holds MRAM writes and commits LMS floors. -/
  | pwrFailAssert
  /-- PWR_FAIL_DEASSERT (R500): PWR_FAIL_N high releases held MRAM writes and waiting jobs. -/
  | pwrFailDeassert
  /-- POWER_ESTIMATE (R501): Every 10 µs power is re-estimated and throttle stages adjusted. -/
  | powerEstimate (engines scan cores total : BitVec 16)
  /-- PWR_CAP_WRITE (R504): Sets the power mode and cap, refusing caps outside 250 to 500 W. -/
  | pwrCapWrite (v : BitVec 11)
  /-- SMB_READ_ID (R525): SMBus command 0x00 returning GLB_ID bits. -/
  | smbReadId
  /-- SMB_READ_TEMPERATURE (R525): SMBus command 0x01 returning the hottest junction temperature. -/
  | smbReadTemperature
  /-- SMB_READ_POWER (R525): SMBus command 0x02 returning PWR_EST.TOTAL. -/
  | smbReadPower
  /-- SMB_READ_FAULTS (R525): SMBus command 0x03 returning FCL_STATUS. -/
  | smbReadFaults
  /-- SMB_READ_LCS (R525): SMBus command 0x04 returning the life-cycle state. -/
  | smbReadLcs
  /-- SMB_READ_BOOT_STATE (R525): SMBus command 0x05 returning PWR_BOOT.STATE. -/
  | smbReadBootState
  /-- SMB_WRITE_REFUSED (R525): An SMBus write or unlisted command is NACKed at the command byte. -/
  | smbWriteRefused
  /-- REGISTER_WRITE (R7): A write to a register with no row of its own, per its access code. -/
  | registerWrite (bar2 : Bool) (off : Nat) (half : Option Bool) (aligned : Bool) (v : Word)
  /-- TOKEN_BUCKET_REFILL (R275): At each tick edge every prefix-limiter bucket gains RATE tokens, up to BURST. -/
  | tokenBucketRefill
  /-- ETH_LINK_UP (R419): An Ethernet port regains link, which ends the persisting cause of bit 28 and sets its NET_STATUS.LINK bit. -/
  | ethLinkUp (p : Fin 32)
  /-- CXL_LINK_DOWN (R419): A CXL port loses its link or reports an error, which fires source 1 and may retrain the port under a block reset. -/
  | cxlLinkDown (p : Fin 4) (error : Bool)
  /-- MANAGEMENT_WATCHDOG_EXPIRY (R419): The management-core watchdog runs out and fires source 34, which restarts the management firmware or resets the chip. -/
  | managementWatchdogExpiry
  /-- PORST_ASSERT (R491): PORST_N goes low and every block except the Embankment is held in reset, which also ends a THERMTRIP_N hold. -/
  | porstAssert
  /-- POWER_LOSS (R209): Main power collapses, volatile state is lost and the Embankment runs on VBAT alone, with any interrupted MRAM commit leaving the earlier record in force. -/
  | powerLoss (vbat : Bool)
  /-- PCIE_CONFIG_REQUEST (R495): A PCIe configuration request is answered with Configuration Request Retry Status until boot allows, and normally afterwards. -/
  | pcieConfigRequest (ep : Fin 2)
  deriving DecidableEq, Repr

end Sys2Proof
end

