-- ==== Sys2Proof/Decode.lean ====
section
/-!
DEFINITION. Sys2Proof/Decode.lean: commands from words. The spec's table gives its rows no bits, so no table word spells a command. The
words of the cores' programs have the layouts of R39 to R48, R52, R59, R64, R65, R67, R82 to R86 and R90: `decodeCore` reads
them, and answers none for a word that raises ILLEGAL_INSTR whatever the state.
-/

namespace Sys2Proof

/-- The command that a word of the spec's table spells: the table gives no row any bits. -/
def decodeTableWord (nbits w : Nat) : Option Instr :=
  match nbits, w with
  | _, _ => none

/-! ## Fields of instruction words (R39, R40) -/

/-- Bits [hi:lo] of an instruction word (R3). -/
def wbits (w hi lo : Nat) : Nat := w / 2 ^ lo % 2 ^ (hi + 1 - lo)

/-- The register number in the five bits from `lo` (R40). -/
def wreg (w lo : Nat) : Reg := Fin.ofNat 32 (w / 2 ^ lo)

/-- The predicate number in the three bits from `lo` (R41, R47). -/
def wprd (w lo : Nat) : Prd := Fin.ofNat 8 (w / 2 ^ lo)

/-- The stream number in the three bits from `lo` (R82, R86, R90). -/
def wstr (w lo : Nat) : StreamId := Fin.ofNat 8 (w / 2 ^ lo)

/-- The element width in the two bits from `lo` (R79). -/
def wew (w lo : Nat) : Fin 4 := Fin.ofNat 4 (w / 2 ^ lo)

/-- One bit of an instruction word. -/
def wbit (w lo : Nat) : Bool := decide (w / 2 ^ lo % 2 = 1)

/-- An instruction whose must-be-zero fields hold 0 (R39). -/
def whenZero (p : Bool) (i : Instr) : Option Instr := if p then some i else none

/-! ## The scalar and control classes (R40 to R48) -/

/-- SYS: only NOP requires every other field to be 0 (R48). -/
def decodeSys (c : CoreId) (w : Nat) : Option Instr :=
  let r := wreg w 15
  let num := BitVec.ofNat 15 w
  match wbits w 25 20 with
  | 0x00 => whenZero (decide (wbits w 19 0 = 0)) (.nop c)
  | 0x01 => some (.fence c)
  | 0x02 => some (.mfs c r num)
  | 0x03 => some (.mts c r num)
  | 0x04 => some (.trap c num)
  | 0x05 => some (.xret c)
  | 0x06 => some (.bkpt c)
  | 0x08 => some (.halt c)
  | 0x09 => some (.eret c)
  | _ => none

/-- ALU (R41): PX is 0 where the function does not use it, rd is 0 in a compare, the upper bits of predicate numbers are 0. -/
def decodeAlu (c : CoreId) (w : Nat) : Option Instr :=
  let rd := wreg w 21
  let ra := wreg w 16
  let rb := wreg w 11
  let px := wprd w 8
  let fn := w % 256
  let plain : List Instr :=
    [.add c rd ra rb, .sub c rd ra rb, .andOp c rd ra rb, .orOp c rd ra rb, .xorOp c rd ra rb, .sll c rd ra rb, .srl c rd ra rb,
     .sra c rd ra rb, .rotr c rd ra rb, .mul c rd ra rb, .mulhu c rd ra rb, .mulh c rd ra rb, .divu c rd ra rb, .div c rd ra rb,
     .remu c rd ra rb, .rem c rd ra rb, .minu c rd ra rb, .min c rd ra rb, .maxu c rd ra rb, .max c rd ra rb, .clz c rd ra,
     .ctz c rd ra, .popc c rd ra, .bswap c rd ra]
  let compares : List Instr :=
    [.cmpeq c px ra rb, .cmpne c px ra rb, .cmplt c px ra rb, .cmpltu c px ra rb, .cmpge c px ra rb, .cmpgeu c px ra rb]
  let pd := wprd w 21
  let pa := wprd w 16
  let pb := wprd w 11
  let preds : List Instr := [.pand c pd pa pb, .por c pd pa pb, .pxor c pd pa pb, .pnot c pd pa]
  let noPx := decide (wbits w 10 8 = 0)
  if fn < 0x18 then (if noPx then plain[fn]? else none)
  else if fn = 0x18 then some (.sel c rd ra rb px)
  else if 0x20 ≤ fn ∧ fn ≤ 0x25 then (if rd = 0 then compares[fn - 0x20]? else none)
  else if 0x28 ≤ fn ∧ fn ≤ 0x2B then
    if noPx ∧ wbits w 25 24 = 0 ∧ wbits w 20 19 = 0 ∧ wbits w 15 14 = 0 ∧ (fn = 0x2B → rb = 0) then preds[fn - 0x28]? else none
  else if fn = 0x2C then whenZero noPx (.mfp c rd)
  else if fn = 0x2D then whenZero noPx (.mtp c ra)
  else none

/-- ALUI (R43): a shift's IMM12[11:6] and a compare's rd[4:3] are 0. -/
def decodeAlui (c : CoreId) (w : Nat) : Option Instr :=
  let rd := wreg w 21
  let ra := wreg w 16
  let imm := BitVec.ofNat 12 w
  let sh := BitVec.ofNat 6 w
  let px := wprd w 21
  let short := decide (wbits w 11 6 = 0)
  let cmp := decide (wbits w 25 24 = 0)
  match wbits w 15 12 with
  | 0 => some (.addi c rd ra imm)
  | 1 => some (.andi c rd ra imm)
  | 2 => some (.ori c rd ra imm)
  | 3 => some (.xori c rd ra imm)
  | 4 => whenZero short (.slli c rd ra sh)
  | 5 => whenZero short (.srli c rd ra sh)
  | 6 => whenZero short (.srai c rd ra sh)
  | 7 => whenZero cmp (.cmpeqi c px ra imm)
  | 8 => whenZero cmp (.cmplti c px ra imm)
  | 9 => whenZero cmp (.cmpltui c px ra imm)
  | _ => none

/-- LD, and with A = 1 the atomics (R45, R46). -/
def decodeLd (c : CoreId) (w : Nat) : Option Instr :=
  let rd := wreg w 21
  let ra := wreg w 16
  let sz := wew w 14
  let sx := wbit w 13
  if !wbit w 12 then whenZero (!(sx && decide (sz = 3))) (.ld c rd ra sz sx (BitVec.ofNat 12 w))
  else
    let rb := wreg w 3
    let w64 := decide (sz = 3)
    let amos : List Instr :=
      [.amoSwap c rd ra rb w64, .amoAdd c rd ra rb w64, .amoAnd c rd ra rb w64, .amoOr c rd ra rb w64, .amoXor c rd ra rb w64,
       .amoMax c rd ra rb w64, .amoMin c rd ra rb w64, .amoMaxu c rd ra rb w64, .amoMinu c rd ra rb w64, .amoCas c rd ra rb w64]
    if 2 ≤ sz.val ∧ sx = false ∧ wbits w 2 0 = 0 then amos[wbits w 11 8]? else none

/-- JMP/CALL (R47). -/
def decodeJmp (c : CoreId) (w : Nat) : Option Instr :=
  let byReg := decide (wbits w 23 21 = 0) && decide (wbits w 15 0 = 0)
  match wbits w 25 24 with
  | 0 => some (.j c (BitVec.ofNat 24 w))
  | 1 => some (.call c (BitVec.ofNat 24 w))
  | 2 => whenZero byReg (.jr c (wreg w 16))
  | _ => whenZero byReg (.callr c (wreg w 16))

/-! ## TASK, ENG, KEY and OP (R52, R59, R64, R65, R67, R68) -/

/-- TASK (R52). -/
def decodeTask (c : CoreId) (w : Nat) : Option Instr :=
  let rd := wreg w 17
  let ra := wreg w 12
  let rb := wreg w 7
  let fns : List Instr :=
    [.waitwork c rd, .done c, .yield c, .spawn c rd ra, .free c rd ra, .setev c rd ra rb, .clrev c rb, .waitev c rd ra rb (wbit w 6),
     .sleep c ra]
  if wbits w 5 0 = 0 then fns[wbits w 25 22]? else none

/-- ENG; CLS 6 is illegal, and CTL has two functions and EV 0 (R59, R64). -/
def decodeEng (c : CoreId) (w : Nat) : Option Instr :=
  let ra := wreg w 13
  let rd := wreg w 8
  match wbits w 25 23 with
  | 6 => none
  | 7 =>
    if wbits w 22 18 ≠ 0 then none
    else
      match w % 256 with
      | 1 => some (.abort c rd ra)
      | 2 => some (.probe c rd ra)
      | _ => none
  | cls => some (.eng c (Fin.ofNat 8 cls) (wreg w 18) ra rd (BitVec.ofNat 8 w))

/-- KEY: the synchronous functions have EV 0 (R65). -/
def decodeKey (c : CoreId) (w : Nat) : Option Instr :=
  let rd := wreg w 17
  let ra := wreg w 12
  let rb := wreg w 7
  let ev := wreg w 2
  let sync := decide (ev = 0)
  if wbits w 1 0 ≠ 0 then none
  else
    match wbits w 25 22 with
    | 0 => whenZero sync (.kinfo c rd ra)
    | 1 => whenZero sync (.kalloc c rd rb)
    | 2 => whenZero sync (.kzero c rd ra)
    | 3 => some (.kpub c rd ra rb ev)
    | 4 => some (.kimp c rd ra rb ev)
    | 5 => some (.kexp c rd ra rb ev)
    | 6 => whenZero sync (.kattr c rd ra rb)
    | _ => none

/-- OP: DEF and STOP have EV 0, RUN and STOP have OPC 0 (R67, R68). -/
def decodeOp (c : CoreId) (w : Nat) : Option Instr :=
  let pipe : Fin 16 := Fin.ofNat 16 (w / 2 ^ 20)
  let ra := wreg w 15
  let ev := wreg w 10
  let opc := wbits w 5 0
  if wbits w 9 6 ≠ 0 then none
  else
    match wbits w 25 24 with
    | 0 => whenZero (decide (ev = 0)) (.opDef c pipe ra (BitVec.ofNat 6 opc))
    | 1 => whenZero (decide (opc = 0)) (.opRun c pipe ra ev)
    | 2 => whenZero (decide (ev = 0) && decide (opc = 0)) (.opStop c pipe)
    | _ => none

/-! ## Streams, short and long vectors, structure loads (R82 to R86, R90) -/

/-- Opcode 0x1B (R82). -/
def decodeStream (c : CoreId) (w : Nat) : Option Instr :=
  let td := wstr w 23
  let ga := wreg w 18
  let gb := wreg w 13
  if wbits w 12 4 ≠ 0 then none
  else
    match w % 16 with
    | 0 => some (.tld c td ga)
    | 1 => some (.tst c td ga)
    | 2 => some (.tset c td ga gb)
    | 3 => whenZero (decide (ga = 0) && decide (gb = 0)) (.tadv c td)
    | 4 => whenZero (decide (gb = 0)) (.tcnt c td ga)
    | _ => none

/-- Opcodes 0x10 to 0x13 and 0x15 (R83, R84): S is 0 where a function has no signed form. -/
def decodeShort (c : CoreId) (op w : Nat) : Option Instr :=
  let vd := wreg w 21
  let va := wreg w 16
  let vb := wreg w 11
  let ew := wew w 9
  let sg := wbit w 8
  let plain := !sg
  let noB := decide (vb = 0)
  let fn := wbits w 5 0
  if wbits w 7 6 ≠ 0 then none
  else if op = 0x10 then
    let bare : List Instr := [.vadd c vd va vb ew, .vsub c vd va vb ew, .vand c vd va vb ew, .vor c vd va vb ew, .vxor c vd va vb ew]
    let signed : List Instr :=
      [.vmin c vd va vb ew sg, .vmax c vd va vb ew sg, .vadds c vd va vb ew sg, .vsubs c vd va vb ew sg, .vabsd c vd va vb ew sg,
       .vmul c vd va vb ew sg, .vmulh c vd va vb ew sg]
    if fn < 5 then (if plain then bare[fn]? else none)
    else if fn < 0x0C then signed[fn - 5]?
    else whenZero (plain && decide (fn = 0x0C)) (.vbsel c vd va vb ew)
  else if op = 0x11 then
    let toPred := plain && noB && decide (wbits w 25 24 = 0)
    match fn with
    | 0 => some (.vcmpeq c vd va vb ew sg)
    | 1 => some (.vcmplt c vd va vb ew sg)
    | 2 => some (.vcmple c vd va vb ew sg)
    | 3 => whenZero toPred (.vtany c (wprd w 21) va)
    | 4 => whenZero toPred (.vtall c (wprd w 21) va)
    | _ => none
  else if op = 0x12 then
    if !plain then none
    else
      match fn with
      | 0 => some (.vsll c vd va vb ew)
      | 1 => some (.vsrl c vd va vb ew)
      | 2 => some (.vsra c vd va vb ew)
      | 3 => whenZero (decide (ew = 0)) (.vperm c vd va vb)
      | _ => none
  else if op = 0x13 then
    match fn with
    | 0 => whenZero plain (.vmacc c vd va vb ew)
    | 1 => whenZero (decide (ew ≠ 3)) (.vsad c vd va vb ew sg)
    | 2 => whenZero noB (.vradd c vd va ew sg)
    | _ => none
  else
    match fn with
    | 0 => whenZero (plain && noB) (.vbcst c vd va ew)
    | 1 => whenZero plain (.vins c vd va vb ew)
    | 2 => some (.vext c vd va vb ew sg)
    | 3 => whenZero (plain && noB) (.vmov c vd va)
    | _ => none

/-- Opcodes 0x18 to 0x1A (R86): fields a function leaves unused are 0. -/
def decodeLong (c : CoreId) (op w : Nat) : Option Instr :=
  let td := wstr w 23
  let ta := wstr w 20
  let tb := wstr w 17
  let sv := wreg w 6
  let sg := wbit w 5
  let fn := wbits w 16 11
  let noD := decide (td = 0)
  let noB := decide (tb = 0)
  let noX := decide (sv = 0)
  if wbits w 4 0 ≠ 0 then none
  else if op = 0x18 then
    let signed := decide (5 ≤ fn % 0x20) || !sg
    if fn < 0x0C then whenZero (noX && signed) (.lvBinary c td ta tb (Fin.ofNat 12 fn) sg)
    else if 0x20 ≤ fn ∧ fn < 0x2C then whenZero (noB && signed) (.lvBinaryScalar c td ta (Fin.ofNat 12 (fn - 0x20)) sv sg)
    else none
  else if op = 0x19 then
    match fn with
    | 0 => whenZero (noD && !sg) (.lvsad c ta tb sv sg)
    | 1 => whenZero (noD && noB) (.lvsum c ta sv sg)
    | 2 => whenZero (noD && noB) (.lvmin c ta sv sg)
    | 3 => whenZero (noD && noB) (.lvmax c ta sv sg)
    | 4 => whenZero (noD && noB && !sg) (.lvcnt c ta sv)
    | _ => none
  else
    match fn with
    | 0 => whenZero (noB && noX) (.lvcpy c td ta sg)
    | 1 => whenZero (noX && !sg) (.lvcmpeq c td ta tb sg)
    | 2 => whenZero (noX && !sg) (.lvcmplt c td ta tb sg)
    | 3 => whenZero (noX && !sg) (.lvcmple c td ta tb sg)
    | 4 => whenZero (noX && !sg) (.lvgath c td ta tb)
    | 5 => whenZero (!sg) (.lvcomp c td ta tb sv)
    | _ => none

/-- Opcode 0x1C (R90). -/
def decodeLds (c : CoreId) (w : Nat) : Option Instr :=
  let form : Option LdsForm :=
    if !wbit w 25 then some (.short (wreg w 18) (wreg w 13) (wew w 11) (BitVec.ofNat 11 w))
    else if wbits w 16 0 = 0 then some (.long (wstr w 20) (wstr w 17))
    else none
  match wbits w 24 23, form with
  | 1, some f => some (.lds2 c f)
  | 2, some f => some (.lds3 c f)
  | 3, some f => some (.lds4 c f)
  | _, _ => none

/-! ## The instruction word (R39) -/

/-- The instruction that a word is for core `c`; none for a word that raises ILLEGAL_INSTR: an unassigned opcode or function, the
word of opcode 0x3F, a must-be-zero field that is not 0 (R39). -/
def decodeCore (c : CoreId) (word : BitVec 32) : Option Instr :=
  let w := word.toNat
  match wbits w 31 26 with
  | 0x00 => decodeSys c w
  | 0x01 => decodeAlu c w
  | 0x02 => decodeAlui c w
  | 0x03 => whenZero (decide (wbits w 17 16 = 0)) (.limm c (wreg w 21) (wew w 19) (wbit w 18) (BitVec.ofNat 16 w))
  | 0x04 => decodeLd c w
  | 0x05 => whenZero (decide (wbits w 13 12 = 0)) (.st c (wreg w 21) (wreg w 16) (wew w 14) (BitVec.ofNat 12 w))
  | 0x06 => some (.br c (wprd w 23) (wbit w 22) (BitVec.ofNat 22 w))
  | 0x07 => decodeJmp c w
  | 0x08 => decodeTask c w
  | 0x09 => decodeEng c w
  | 0x0A => decodeKey c w
  | 0x0B => decodeOp c w
  | 0x14 => some (if wbit w 15 then .vst c (wreg w 21) (wreg w 16) (BitVec.ofNat 15 w)
                  else .vld c (wreg w 21) (wreg w 16) (BitVec.ofNat 15 w))
  | 0x1B => decodeStream c w
  | 0x1C => decodeLds c w
  | op =>
    if op ∈ [0x10, 0x11, 0x12, 0x13, 0x15] then decodeShort c op w
    else if op ∈ [0x18, 0x19, 0x1A] then decodeLong c op w
    else none

end Sys2Proof
end

