-- ==== Sys2Proof/Config.lean ====
section
/-!
DEFINITION. Sys2Proof/Config.lean: what the spec leaves open, as uninterpreted constants with no body. A `free` argument is
the count of free values taken so far (the field `free` of State), so each use is a value of its own. The functions of
published standards are uninterpreted functions of their inputs; where a caller needs a length it cuts or fills the result.
-/

namespace Sys2Proof.Config

/-! ## Memory and the host -/

/-- What a byte of the CXL tier reads as that nothing has written since its port took its key pair (R320, R527): the decryption by
AES-256-XTS of what the device then holds, by key pair, tweak and offset in the data unit. -/
opaque xtsPlain (pair : List Byte) (tweak offset : Nat) : Byte
/-- The byte the host's memory gives a device read at `addr` (R45, R142). -/
opaque hostByte (free addr : Nat) : Byte
/-- Whether the host grants a translation request for a page (R142). -/
opaque hostGrants (free polder page : Nat) : Bool

/-- What a system register reserved for privileged firmware holds (R36). -/
opaque firmwareReg (free : Nat) (num : BitVec 15) : BitVec 64

/-! ## Published algorithms -/

/-- A hash of R188: ALG, output bytes, function name, customisation, message. -/
opaque hash (alg outLen : Nat) (fn cust msg : List Byte) : List Byte
/-- HMAC over ALG (R200). -/
opaque hmac (alg : Nat) (key msg : List Byte) : List Byte
/-- The public key of a generated pair (R166, R169, R172, R205, R206): parameter set, auxiliary parameters, randomness. -/
opaque keygenPub (pset aux : Nat) (rnd : List Byte) : List Byte
/-- The stored secret of a generated pair (R222). -/
opaque keygenSec (pset aux : Nat) (rnd : List Byte) : List Byte
/-- Attempts a Classic McEliece key generation takes (R170). -/
opaque mceAttempts (pset : Nat) (rnd : List Byte) : Nat
/-- The public part recomputed from a stored seed (R222). -/
opaque pubOfSec (pset : Nat) (sec : List Byte) : List Byte
/-- The encapsulation-key checks of FIPS 203 (R167). -/
opaque kemKeyOk (pset : Nat) (pk : List Byte) : Bool
/-- The ciphertext of an encapsulation (R167, R171). -/
opaque kemCt (pset : Nat) (pk rnd : List Byte) : List Byte
/-- The shared secret of an encapsulation (R167, R171). -/
opaque kemSs (pset : Nat) (pk rnd : List Byte) : List Byte
/-- The decapsulated secret, implicit rejection included (R167, R171). -/
opaque kemDec (pset : Nat) (sk ct : List Byte) : List Byte
/-- A signature (R168, R173, R205, R208): algorithm, mode byte, secret, message, context, randomness. -/
opaque sign (alg mode : Nat) (sk msg ctx rnd : List Byte) : List Byte
/-- Rejection rounds of an ML-DSA signature (R168). -/
opaque signRounds (alg mode : Nat) (sk msg ctx rnd : List Byte) : Nat
/-- Whether a signature verifies (R168, R173, R205, R206). -/
opaque verify (alg mode : Nat) (pk msg ctx sig : List Byte) : Bool
/-- An elliptic-curve shared secret (R172, R173). -/
opaque ecdh (pset : Nat) (sk pt : List Byte) : List Byte
/-- AEAD encryption: ciphertext followed by tag (R174). -/
opaque aeadSeal (pset : Nat) (key iv aad pt : List Byte) : List Byte
/-- The plaintext of an AEAD ciphertext (R174). -/
opaque aeadPlain (pset : Nat) (key iv aad ct : List Byte) : List Byte
/-- Whether an AEAD tag verifies (R174, R175). -/
opaque aeadOk (pset : Nat) (key iv aad ct : List Byte) : Bool
/-- What a step of the supplied handshake comes to, by the program area and the item's data (R289, R290): 1 the handshake keys, 2 the end of the
handshake, 10 or more a fatal alert, else it goes on. -/
opaque hsStep (prog data : List Byte) : Nat
/-- The records the supplied handshake sends at a step (R289). -/
opaque hsFlight (free : Nat) (prog data : List Byte) : List Byte
/-- What the supplied handshake keeps in the program area after a step (R281). -/
opaque hsProg (free : Nat) (prog data : List Byte) : List Byte
/-- The traffic keys of a step: read key, write key, the two record-number keys, then the two IVs (R286, RFC 8446, RFC 9147). -/
opaque hsKeys (free : Nat) (prog data : List Byte) (len : Nat) : List Byte
/-- The cipher suite of the handshake, as its index among those of R289. -/
opaque hsSuite (prog data : List Byte) : Nat
/-- The characters of the client certificate's serialNumber attribute; none where it has no such attribute (R327). -/
opaque clientSerial (prog data : List Byte) : List Byte
/-- The keys that follow at a KeyUpdate, in the order of `hsKeys` (RFC 8446, RFC 9147). -/
opaque nextKeys (old : List Byte) (len : Nat) : List Byte
/-- The time of a CP56Time2a whose fields are no date and time, in nanoseconds TAI (R335). -/
opaque cpTime (octets : List Byte) : Nat
/-- What a DRBG instance gives at its `k`-th draw, with additional input (R235). -/
opaque drbg (inst k : Nat) (extra : List Byte) (len : Nat) : List Byte
/-- A stateful hash-based signature with one leaf (R208). -/
opaque hbsSign (alg p1 p2 levels : Nat) (sk : List Byte) (leaf : Nat) (msg rnd : List Byte) : List Byte

/-! ## Floating point and conversions -/

/-- A result that IEEE 754 or R368 leaves open: the bits of a NaN result, a minimum or maximum with a NaN or of zeros of both signs, a
conversion out of range. Result type, function, operands. -/
opaque fpOpen (ty fn a b : Nat) : Nat

/-! ## Engine microcode -/

/-- A ROM microword of class `m` (R242). -/
opaque romWord (m addr : Nat) : Nat
/-- The ROM address at which an operation of class `m` enters (R251). -/
opaque romEntry (m opc : Nat) : Nat
/-- A ROM nanoword of class `m` (R242). -/
opaque romNano (m idx : Nat) : Nat
/-- What a nanoword's operation gives on its operands (R249, R250). -/
opaque datapath (free m nano a b : Nat) : Nat
/-- The comparator, carry and class-flag conditions after an operation, one bit for each (R245). -/
opaque datapathConds (free m nano a b : Nat) : Nat
/-- A byte that a customer function stores to its output area (R250). -/
opaque customByte (free i : Nat) : Byte
/-- Bytes that a customer function has stored (R250). -/
opaque customLen (free : Nat) : Nat
/-- The vendor's public key for an image's SIG_ALG (R260). -/
opaque vendorKey (alg : Nat) : List Byte

/-! ## The network -/

/-- The MAC address of an Ethernet port. -/
opaque portMac (port : Nat) : Nat
/-- The mask of a DTLS record number under a record-number key (R285, R286): algorithm, key, the first 16 bytes of the ciphertext. -/
opaque recordMask (alg : Nat) (key sample : List Byte) : Nat

/-! ## Cards and keys -/

/-- The replay-protection key of an RP salt, by the count of salts drawn. -/
opaque rpKey (salt : Nat) : List Byte

/-! ## Boot, debug port and test -/

/-- The CAUSE byte of the record of a task that a block reset ends (R71, R423). -/
opaque resetCause (free : Nat) : Byte
/-- The image carries the vendor keys whose digests ROM holds (R498). -/
opaque bootKeysOk (image : List Byte) : Bool
/-- The device ID that the TAP shifts out (R444). -/
opaque idcode : BitVec 32
/-- Cells of the boundary register, and what the pins hold when it captures them (R444). -/
opaque pinSample (free : Nat) : List Bool
/-- Whether a tamper monitor passes a built-in test that software starts by a register write (R452). -/
opaque selfTest (free src : Nat) : Bool

end Sys2Proof.Config
end

