-- ==== Sys2Proof/Machine/RegMap.lean ====
section
/-!
DEFINITION. Sys2Proof/Machine/RegMap.lean: the register map of the spec (R32 and the register tables R33, R122, R155,
R187, R217, R239, R240, R265, R295, R296, R345, R346, R373, R418, R433, R434, R459, R460, R461, R476, R490, R503 to
R505). `F.<REGISTER>_<FIELD>` is a named field; a register of an array takes its indexes as arguments. `regTable` gives
each register's offsets, its Reset word (R8) and its bits by access code (R7).
-/

namespace Sys2Proof.Machine

/-- A named field of a register: the register's BAR0 offset, the field's lowest bit and its width (R3). -/
structure Fld where
  off : Nat
  lo : Nat
  w : Nat
  deriving DecidableEq, Repr

/-- One row of the register map: a register, or an array of registers with up to two indexes. The words `rw`, `w1c`,
`w1s` and `wo` mark the bits of each access code of R7; every other bit is RO or RSV. -/
structure RegRow where
  base : Nat
  stride1 : Nat
  count1 : Nat
  stride2 : Nat
  count2 : Nat
  reset : Nat
  rw : Nat
  w1c : Nat
  w1s : Nat
  wo : Nat
  ro : Nat
  deriving DecidableEq, Repr

/-- R33, RO. -/
def F.GLB_ID_VENDOR : Fld := ⟨0x0, 48, 16⟩
/-- R33, RO. -/
def F.GLB_ID_DEVICE : Fld := ⟨0x0, 32, 16⟩
/-- R33, RO. -/
def F.GLB_ID_STEPPING : Fld := ⟨0x0, 24, 8⟩
/-- R33, RO. -/
def F.GLB_ID_GRADE : Fld := ⟨0x0, 16, 8⟩
/-- R33, RO. -/
def F.GLB_TILES_PRESENT : Fld := ⟨0x8, 0, 3⟩
/-- R33, RO. -/
def F.GLB_CXL_CAP_GIB : Fld := ⟨0x10, 0, 32⟩
/-- R33, RW. -/
def F.GLB_PCIE_EXP_B_EN : Fld := ⟨0x20, 15, 1⟩
/-- R33, RW. -/
def F.GLB_PCIE_EXP_B_RATE : Fld := ⟨0x20, 12, 3⟩
/-- R33, RW. -/
def F.GLB_PCIE_EXP_B_WIDTH : Fld := ⟨0x20, 8, 3⟩
/-- R33, RW. -/
def F.GLB_PCIE_EXP_A_EN : Fld := ⟨0x20, 7, 1⟩
/-- R33, RW. -/
def F.GLB_PCIE_EXP_A_RATE : Fld := ⟨0x20, 4, 3⟩
/-- R33, RW. -/
def F.GLB_PCIE_EXP_A_WIDTH : Fld := ⟨0x20, 0, 3⟩
/-- R122, RO. -/
def F.PMP_STATUS_WAITING : Fld := ⟨0x200000, 32, 15⟩
/-- R122, RO. -/
def F.PMP_STATUS_READY : Fld := ⟨0x200000, 16, 15⟩
/-- R122, RO. -/
def F.PMP_STATUS_FREE : Fld := ⟨0x200000, 0, 15⟩
/-- R122, RW. -/
def F.PMP_AFFHOLD_HOLD : Fld := ⟨0x200008, 0, 32⟩
/-- R122, RW. -/
def F.PMP_HWRES_RESERVE : Fld := ⟨0x200010, 0, 14⟩
/-- R122, RW. -/
def F.PMP_SLOTWAIT_TICKS : Fld := ⟨0x200018, 0, 32⟩
/-- R122, RW. -/
def F.PMP_LATE_MAX_CC : Fld := ⟨0x200020, 0, 32⟩
/-- R122, RO. -/
def F.PMP_TIMERS_ARMED : Fld := ⟨0x200028, 0, 15⟩
/-- R122, RW. -/
def F.PMP_WSEL_WORKER : Fld := ⟨0x200030, 0, 8⟩
/-- R122, RO. -/
def F.PMP_WINFO_AFFLEN : Fld := ⟨0x200038, 32, 15⟩
/-- R122, RO. -/
def F.PMP_WINFO_CV : Fld := ⟨0x200038, 30, 1⟩
/-- R122, RO. -/
def F.PMP_WINFO_TASK : Fld := ⟨0x200038, 16, 14⟩
/-- R122, RO. -/
def F.PMP_WINFO_STATE : Fld := ⟨0x200038, 0, 2⟩
/-- R122, RW. -/
def F.PMP_WOFF_OFF (j : Nat) : Fld := ⟨0x200040 + 0x8 * j, 0, 64⟩
/-- R122, RW. -/
def F.PMP_SLOT_SEL_SLOT : Fld := ⟨0x200060, 0, 14⟩
/-- R122, RO. -/
def F.PMP_SLOT_INFO_POLDER : Fld := ⟨0x200068, 56, 8⟩
/-- R122, RO. -/
def F.PMP_SLOT_INFO_PROGRAM : Fld := ⟨0x200068, 44, 12⟩
/-- R122, RO. -/
def F.PMP_SLOT_INFO_AFF : Fld := ⟨0x200068, 36, 8⟩
/-- R122, RO. -/
def F.PMP_SLOT_INFO_PRIO : Fld := ⟨0x200068, 33, 3⟩
/-- R122, RO. -/
def F.PMP_SLOT_INFO_ALL : Fld := ⟨0x200068, 32, 1⟩
/-- R122, RO. -/
def F.PMP_SLOT_INFO_CLASS : Fld := ⟨0x200068, 30, 2⟩
/-- R122, RO. -/
def F.PMP_SLOT_INFO_V : Fld := ⟨0x200068, 29, 1⟩
/-- R122, RO. -/
def F.PMP_SLOT_INFO_TMR : Fld := ⟨0x200068, 28, 1⟩
/-- R122, RO. -/
def F.PMP_SLOT_INFO_STATE : Fld := ⟨0x200068, 0, 3⟩
/-- R122, RO. -/
def F.PMP_SLOT_FLAGS_MASK : Fld := ⟨0x200070, 32, 32⟩
/-- R122, RO. -/
def F.PMP_SLOT_FLAGS_FLAGS : Fld := ⟨0x200070, 0, 32⟩
/-- R122, RO. -/
def F.PMP_SLOT_EXP_EXPIRY : Fld := ⟨0x200078, 0, 64⟩
/-- R122, RO. -/
def F.PMP_QUOTA_USED (n : Nat) : Fld := ⟨0x201000 + 0x8 * n, 16, 15⟩
/-- R122, RW. -/
def F.PMP_QUOTA_LIMIT (n : Nat) : Fld := ⟨0x201000 + 0x8 * n, 0, 15⟩
/-- R122, W1S. -/
def F.EPC_CTRL_ENABLE : Fld := ⟨0x300000, 0, 1⟩
/-- R122, RW. -/
def F.EPC_SRC_PORT : Fld := ⟨0x300008, 2, 5⟩
/-- R122, RW. -/
def F.EPC_SRC_SRC : Fld := ⟨0x300008, 0, 2⟩
/-- R122, RW. -/
def F.EPC_PTP_VLAN_EN : Fld := ⟨0x300010, 44, 1⟩
/-- R122, RW. -/
def F.EPC_PTP_VID : Fld := ⟨0x300010, 32, 12⟩
/-- R122, RW. -/
def F.EPC_PTP_DELAY : Fld := ⟨0x300010, 10, 1⟩
/-- R122, RW. -/
def F.EPC_PTP_TRANSPORT : Fld := ⟨0x300010, 8, 2⟩
/-- R122, RW. -/
def F.EPC_PTP_DOMAIN : Fld := ⟨0x300010, 0, 8⟩
/-- R122, RW. -/
def F.EPC_TICK_US : Fld := ⟨0x300018, 0, 20⟩
/-- R122, RW. -/
def F.EPC_HOLDOVER_TICKS : Fld := ⟨0x300020, 0, 32⟩
/-- R122, RO. -/
def F.EPC_COUNT_COUNT : Fld := ⟨0x300028, 0, 64⟩
/-- R122, W1C. -/
def F.EPC_STATUS_CFG_ERR : Fld := ⟨0x300030, 7, 1⟩
/-- R122, RO. -/
def F.EPC_STATUS_SRC_PENDING : Fld := ⟨0x300030, 6, 1⟩
/-- R122, RO. -/
def F.EPC_STATUS_BEHIND : Fld := ⟨0x300030, 5, 1⟩
/-- R122, RO. -/
def F.EPC_STATUS_LOCK : Fld := ⟨0x300030, 4, 1⟩
/-- R122, RO. -/
def F.EPC_STATUS_STATE : Fld := ⟨0x300030, 0, 3⟩
/-- R122, RO. -/
def F.EPC_OFFSET_OFFSET : Fld := ⟨0x300038, 0, 64⟩
/-- R122, RW. -/
def F.EPC_UTC_OFFSET_SECONDS : Fld := ⟨0x300040, 0, 16⟩
/-- R122, RW. -/
def F.EPC_YEAR_YEAR : Fld := ⟨0x300048, 0, 16⟩
/-- R122, RW. -/
def F.EPC_NEXT_SEC_SECONDS : Fld := ⟨0x300050, 0, 48⟩
/-- R122, RW. -/
def F.EPC_LOCKTHR_NS : Fld := ⟨0x300058, 0, 32⟩
/-- R122, RO. -/
def F.EPC_STEPS_STEPS : Fld := ⟨0x300060, 0, 32⟩
/-- R122, RO. -/
def F.EPC_DROP_INVALID : Fld := ⟨0x300068, 32, 32⟩
/-- R122, RO. -/
def F.EPC_DROP_PTP : Fld := ⟨0x300068, 0, 32⟩
/-- R155, RO. -/
def F.PLD_ID_POLDER (n : Nat) : Fld := ⟨0x100000 + 0x1000 * n, 0, 8⟩
/-- R155, W1C. -/
def F.PLD_STATUS_CFG_ERR (n : Nat) : Fld := ⟨0x100008 + 0x1000 * n, 6, 1⟩
/-- R155, W1C. -/
def F.PLD_STATUS_DB_ERR (n : Nat) : Fld := ⟨0x100008 + 0x1000 * n, 5, 1⟩
/-- R155, W1C. -/
def F.PLD_STATUS_DRAIN_TIMEOUT (n : Nat) : Fld := ⟨0x100008 + 0x1000 * n, 4, 1⟩
/-- R155, W1C. -/
def F.PLD_STATUS_RESET_DONE (n : Nat) : Fld := ⟨0x100008 + 0x1000 * n, 3, 1⟩
/-- R155, RO. -/
def F.PLD_STATUS_STATE (n : Nat) : Fld := ⟨0x100008 + 0x1000 * n, 0, 3⟩
/-- R155, RW. -/
def F.PLD_SQ_BASE_BASE (n q : Nat) : Fld := ⟨0x100040 + 0x1000 * n + 0x10 * q, 12, 52⟩
/-- R155, RW. -/
def F.PLD_SQ_CFG_EN (n q : Nat) : Fld := ⟨0x100048 + 0x1000 * n + 0x10 * q, 32, 1⟩
/-- R155, RO. -/
def F.PLD_SQ_CFG_HEAD (n q : Nat) : Fld := ⟨0x100048 + 0x1000 * n + 0x10 * q, 16, 16⟩
/-- R155, RW. -/
def F.PLD_SQ_CFG_SIZE (n q : Nat) : Fld := ⟨0x100048 + 0x1000 * n + 0x10 * q, 0, 5⟩
/-- R155, RW. -/
def F.PLD_CQ_BASE_BASE (n : Nat) : Fld := ⟨0x100080 + 0x1000 * n, 12, 52⟩
/-- R155, RO. -/
def F.PLD_CQ_CFG_PHASE (n : Nat) : Fld := ⟨0x100088 + 0x1000 * n, 33, 1⟩
/-- R155, RW. -/
def F.PLD_CQ_CFG_EN (n : Nat) : Fld := ⟨0x100088 + 0x1000 * n, 32, 1⟩
/-- R155, RO. -/
def F.PLD_CQ_CFG_TAIL (n : Nat) : Fld := ⟨0x100088 + 0x1000 * n, 16, 16⟩
/-- R155, RW. -/
def F.PLD_CQ_CFG_SIZE (n : Nat) : Fld := ⟨0x100088 + 0x1000 * n, 0, 5⟩
/-- R155, RW. -/
def F.PLD_IRQ_DELAY (n : Nat) : Fld := ⟨0x100090 + 0x1000 * n, 32, 32⟩
/-- R155, RW. -/
def F.PLD_IRQ_MASK (n : Nat) : Fld := ⟨0x100090 + 0x1000 * n, 16, 1⟩
/-- R155, RW. -/
def F.PLD_IRQ_COUNT (n : Nat) : Fld := ⟨0x100090 + 0x1000 * n, 0, 16⟩
/-- R155, RW. -/
def F.PLD_RUNWAIT_TICKS (n : Nat) : Fld := ⟨0x100098 + 0x1000 * n, 0, 32⟩
/-- R155, RO. -/
def F.PLD_ERRCNT_LOST (n : Nat) : Fld := ⟨0x1000a0 + 0x1000 * n, 32, 32⟩
/-- R155, RO. -/
def F.PLD_ERRCNT_MALFORMED (n : Nat) : Fld := ⟨0x1000a0 + 0x1000 * n, 0, 32⟩
/-- R155, RW. -/
def F.PLD_CTRL_ENABLE (n : Nat) : Fld := ⟨0x100800 + 0x1000 * n, 3, 1⟩
/-- R155, WO. -/
def F.PLD_CTRL_OP (n : Nat) : Fld := ⟨0x100800 + 0x1000 * n, 1, 2⟩
/-- R155, RW. -/
def F.PLD_CTRL_QUIESCE (n : Nat) : Fld := ⟨0x100800 + 0x1000 * n, 0, 1⟩
/-- R155, RW. -/
def F.PLD_PASID_VALID (n : Nat) : Fld := ⟨0x100808 + 0x1000 * n, 63, 1⟩
/-- R155, RW. -/
def F.PLD_PASID_EP (n : Nat) : Fld := ⟨0x100808 + 0x1000 * n, 32, 1⟩
/-- R155, RW. -/
def F.PLD_PASID_PASID_EN (n : Nat) : Fld := ⟨0x100808 + 0x1000 * n, 20, 1⟩
/-- R155, RW. -/
def F.PLD_PASID_PASID (n : Nat) : Fld := ⟨0x100808 + 0x1000 * n, 0, 20⟩
/-- R155, RW. -/
def F.PLD_DRAIN_LIMIT_CC (n : Nat) : Fld := ⟨0x100810 + 0x1000 * n, 0, 32⟩
/-- R155, RW. -/
def F.PLD_DPT_BASE_BASE (n : Nat) : Fld := ⟨0x100818 + 0x1000 * n, 12, 36⟩
/-- R155, RW. -/
def F.PLD_DPT_CFG_PAGES (n : Nat) : Fld := ⟨0x100820 + 0x1000 * n, 0, 23⟩
/-- R155, RO. -/
def F.PLD_DPT_INV_PENDING (n : Nat) : Fld := ⟨0x100828 + 0x1000 * n, 1, 1⟩
/-- R155, WO. -/
def F.PLD_DPT_INV_INV (n : Nat) : Fld := ⟨0x100828 + 0x1000 * n, 0, 1⟩
/-- R155, RO. -/
def F.PLD_QUOTA_CIS_USED (n : Nat) : Fld := ⟨0x100830 + 0x1000 * n, 32, 12⟩
/-- R155, RW. -/
def F.PLD_QUOTA_CIS_LIMIT (n : Nat) : Fld := ⟨0x100830 + 0x1000 * n, 0, 12⟩
/-- R155, RO. -/
def F.PLD_QUOTA_SES_USED (n : Nat) : Fld := ⟨0x100838 + 0x1000 * n, 32, 22⟩
/-- R155, RW. -/
def F.PLD_QUOTA_SES_LIMIT (n : Nat) : Fld := ⟨0x100838 + 0x1000 * n, 0, 22⟩
/-- R155, RW. -/
def F.PLD_HARD_DEFAULT (n : Nat) : Fld := ⟨0x100840 + 0x1000 * n, 0, 2⟩
/-- R155, RW. -/
def F.PLD_ENTWAIT_TICKS (n : Nat) : Fld := ⟨0x100848 + 0x1000 * n, 0, 32⟩
/-- R155, RW. -/
def F.PLD_DIRTY_BASE_BASE (n : Nat) : Fld := ⟨0x100850 + 0x1000 * n, 12, 52⟩
/-- R155, RW. -/
def F.PLD_DIRTY_LIMIT_LIMIT (n : Nat) : Fld := ⟨0x100858 + 0x1000 * n, 15, 49⟩
/-- R155, RW. -/
def F.PLD_DIRTY_NEXT_NEXT (n : Nat) : Fld := ⟨0x100860 + 0x1000 * n, 12, 52⟩
/-- R155, W1C. -/
def F.PLD_DIRTY_CTRL_OVERRANGE (n : Nat) : Fld := ⟨0x100868 + 0x1000 * n, 3, 1⟩
/-- R155, W1C. -/
def F.PLD_DIRTY_CTRL_SWAP_DONE (n : Nat) : Fld := ⟨0x100868 + 0x1000 * n, 2, 1⟩
/-- R155, WO. -/
def F.PLD_DIRTY_CTRL_SWAP (n : Nat) : Fld := ⟨0x100868 + 0x1000 * n, 1, 1⟩
/-- R155, RW. -/
def F.PLD_DIRTY_CTRL_EN (n : Nat) : Fld := ⟨0x100868 + 0x1000 * n, 0, 1⟩
/-- R187, RO. -/
def F.ENG_JOBS_OUTSTANDING : Fld := ⟨0xb00000, 0, 15⟩
/-- R187, W1C. -/
def F.ENG_FAULT_V : Fld := ⟨0xb00008, 63, 1⟩
/-- R187, RO. -/
def F.ENG_FAULT_CAUSE : Fld := ⟨0xb00008, 48, 8⟩
/-- R187, RO. -/
def F.ENG_FAULT_ENGINE : Fld := ⟨0xb00008, 40, 8⟩
/-- R187, RO. -/
def F.ENG_FAULT_CLS : Fld := ⟨0xb00008, 37, 3⟩
/-- R187, RO. -/
def F.ENG_FAULT_ENTRY : Fld := ⟨0xb00008, 0, 14⟩
/-- R187, RO. -/
def F.ENG_MALFORMED_COUNT : Fld := ⟨0xb00010, 0, 32⟩
/-- R187, RO. -/
def F.ENG_RNGWAIT_COUNT : Fld := ⟨0xb00018, 0, 32⟩
/-- R187, RW. -/
def F.ENG_ONLINE_ONLINE (c : Nat) : Fld := ⟨0xb00100 + 0x40 * c, 0, 32⟩
/-- R187, RO. -/
def F.ENG_BUSY_BUSY (c : Nat) : Fld := ⟨0xb00108 + 0x40 * c, 0, 32⟩
/-- R187, RO. -/
def F.ENG_QUEUED_QUEUED (c : Nat) : Fld := ⟨0xb00110 + 0x40 * c, 0, 15⟩
/-- R187, RO. -/
def F.ENG_COMPLETED_COUNT (c : Nat) : Fld := ⟨0xb00118 + 0x40 * c, 0, 64⟩
/-- R187, RO. -/
def F.ENG_HELD_COUNT (c : Nat) : Fld := ⟨0xb00120 + 0x40 * c, 0, 64⟩
/-- R217, RO. -/
def F.DIG_STATUS_WAITING : Fld := ⟨0xa00000, 32, 15⟩
/-- R217, RO. -/
def F.DIG_STATUS_CORES_BUSY : Fld := ⟨0xa00000, 16, 6⟩
/-- R217, RO. -/
def F.DIG_STATUS_CTX_USED : Fld := ⟨0xa00000, 0, 9⟩
/-- R217, RW. -/
def F.DIG_HWRES_RESERVE : Fld := ⟨0xa00008, 0, 9⟩
/-- R217, RW. -/
def F.DIG_IDLE_TICKS : Fld := ⟨0xa00010, 0, 32⟩
/-- R217, RW. -/
def F.DIG_LMS_RESERVE_LEAVES : Fld := ⟨0xa00018, 0, 11⟩
/-- R217, RW. -/
def F.DIG_LMS_LOW_LEAVES : Fld := ⟨0xa00020, 0, 32⟩
/-- R217, W1C. -/
def F.DIG_LOWSLOT_V : Fld := ⟨0xa00028, 63, 1⟩
/-- R217, RO. -/
def F.DIG_LOWSLOT_SLOT : Fld := ⟨0xa00028, 0, 14⟩
/-- R217, W1C. -/
def F.DIG_ERR_CFG_ERR : Fld := ⟨0xa00030, 0, 1⟩
/-- R217, RO. -/
def F.DIG_TRUNC_COUNT : Fld := ⟨0xa00038, 0, 32⟩
/-- R217, RO. -/
def F.DIG_SHORT_COUNT : Fld := ⟨0xa00040, 0, 32⟩
/-- R217, W1C. -/
def F.DIG_FAULT_V : Fld := ⟨0xa00048, 63, 1⟩
/-- R217, RO. -/
def F.DIG_FAULT_CAUSE : Fld := ⟨0xa00048, 48, 8⟩
/-- R217, RO. -/
def F.DIG_FAULT_CORE : Fld := ⟨0xa00048, 40, 8⟩
/-- R217, RO. -/
def F.DIG_FAULT_CTX : Fld := ⟨0xa00048, 0, 8⟩
/-- R217, RW. -/
def F.DIG_CORE_ONLINE_ONLINE : Fld := ⟨0xa00050, 0, 32⟩
/-- R217, RO. -/
def F.DIG_COMPLETED_COUNT : Fld := ⟨0xa00058, 0, 64⟩
/-- R217, RO. -/
def F.DIG_QUOTA_USED (n : Nat) : Fld := ⟨0xa01000 + 0x8 * n, 32, 9⟩
/-- R217, RW. -/
def F.DIG_QUOTA_LIMIT (n : Nat) : Fld := ⟨0xa01000 + 0x8 * n, 0, 9⟩
/-- R239, RO. -/
def F.KST_STATUS_USED : Fld := ⟨0x800000, 32, 15⟩
/-- R239, RO. -/
def F.KST_STATUS_SCRUB : Fld := ⟨0x800000, 24, 1⟩
/-- R239, RO. -/
def F.KST_STATUS_REWRAP : Fld := ⟨0x800000, 23, 1⟩
/-- R239, W1C. -/
def F.KST_STATUS_BINDING_LOST : Fld := ⟨0x800000, 22, 1⟩
/-- R239, W1C. -/
def F.KST_STATUS_ZEROISED : Fld := ⟨0x800000, 21, 1⟩
/-- R239, W1C. -/
def F.KST_STATUS_CFG_ERR : Fld := ⟨0x800000, 20, 1⟩
/-- R239, RO. -/
def F.KST_STATUS_HEAP_FREE : Fld := ⟨0x800000, 0, 17⟩
/-- R239, RO. -/
def F.KST_ERR_DAMAGED : Fld := ⟨0x800008, 32, 32⟩
/-- R239, RO. -/
def F.KST_ERR_MALFORMED : Fld := ⟨0x800008, 0, 32⟩
/-- R239, RW. -/
def F.KST_SEL_SLOT : Fld := ⟨0x800010, 0, 14⟩
/-- R239, RO. -/
def F.KST_INFO_ATTR : Fld := ⟨0x800018, 0, 64⟩
/-- R239, RO. -/
def F.KST_EXPIRY_TICK : Fld := ⟨0x800020, 0, 64⟩
/-- R239, RO. -/
def F.KST_QUOTA_USED (n : Nat) : Fld := ⟨0x801000 + 0x8 * n, 16, 15⟩
/-- R239, RW. -/
def F.KST_QUOTA_LIMIT (n : Nat) : Fld := ⟨0x801000 + 0x8 * n, 0, 15⟩
/-- R239, RO. -/
def F.KST_GQUOTA_USED (n : Nat) : Fld := ⟨0x801800 + 0x8 * n, 32, 17⟩
/-- R239, RW. -/
def F.KST_GQUOTA_LIMIT (n : Nat) : Fld := ⟨0x801800 + 0x8 * n, 0, 17⟩
/-- R239, RW. -/
def F.KST_RCPT_V (n : Nat) : Fld := ⟨0x802000 + 0x8 * n, 63, 1⟩
/-- R239, RO. -/
def F.KST_RCPT_PENDING (n : Nat) : Fld := ⟨0x802000 + 0x8 * n, 62, 1⟩
/-- R239, RW. -/
def F.KST_RCPT_SLOT (n : Nat) : Fld := ⟨0x802000 + 0x8 * n, 0, 14⟩
/-- R240, RW. -/
def F.RNG_CTRL_STRICT : Fld := ⟨0x700000, 3, 1⟩
/-- R240, RW. -/
def F.RNG_CTRL_TESTSRC : Fld := ⟨0x700000, 2, 1⟩
/-- R240, WO. -/
def F.RNG_CTRL_RESTART : Fld := ⟨0x700000, 1, 1⟩
/-- R240, W1S. -/
def F.RNG_CTRL_ENABLE : Fld := ⟨0x700000, 0, 1⟩
/-- R240, RO. -/
def F.RNG_STATUS_EXCLUDED : Fld := ⟨0x700008, 16, 8⟩
/-- R240, RO. -/
def F.RNG_STATUS_HEALTHY : Fld := ⟨0x700008, 8, 8⟩
/-- R240, W1C. -/
def F.RNG_STATUS_CFG_ERR : Fld := ⟨0x700008, 5, 1⟩
/-- R240, RO. -/
def F.RNG_STATUS_TEST : Fld := ⟨0x700008, 4, 1⟩
/-- R240, RO. -/
def F.RNG_STATUS_READY : Fld := ⟨0x700008, 3, 1⟩
/-- R240, RO. -/
def F.RNG_STATUS_STATE : Fld := ⟨0x700008, 0, 3⟩
/-- R240, RW. -/
def F.RNG_SRC_CTRL_DISABLE : Fld := ⟨0x700010, 0, 8⟩
/-- R240, RO. -/
def F.RNG_HEALTH_APT : Fld := ⟨0x700018, 32, 32⟩
/-- R240, RO. -/
def F.RNG_HEALTH_RCT : Fld := ⟨0x700018, 0, 32⟩
/-- R240, RW. -/
def F.RNG_STALL_LIMIT_TICKS : Fld := ⟨0x700020, 0, 32⟩
/-- R240, RW. -/
def F.RNG_INT_RESEED_CALLS : Fld := ⟨0x700028, 0, 21⟩
/-- R240, RW. -/
def F.RNG_TEN_RESEED_CALLS : Fld := ⟨0x700030, 0, 21⟩
/-- R240, RO. -/
def F.RNG_WAITING_JOBS : Fld := ⟨0x700038, 32, 15⟩
/-- R240, RO. -/
def F.RNG_WAITING_TENANT : Fld := ⟨0x700038, 0, 9⟩
/-- R240, RO. -/
def F.RNG_DENIED_FAILED : Fld := ⟨0x700040, 32, 32⟩
/-- R240, RO. -/
def F.RNG_DENIED_UNAVAIL : Fld := ⟨0x700040, 0, 32⟩
/-- R240, RO. -/
def F.RNG_OUTPUT_BLOCKS : Fld := ⟨0x700048, 0, 64⟩
/-- R265, WO. -/
def F.MCS_CTRL_OP : Fld := ⟨0x900000, 8, 2⟩
/-- R265, RW. -/
def F.MCS_CTRL_CLASS : Fld := ⟨0x900000, 2, 3⟩
/-- R265, RW. -/
def F.MCS_CTRL_CUST_EN : Fld := ⟨0x900000, 0, 1⟩
/-- R265, RW. -/
def F.MCS_LOAD_ADDR_ADDR : Fld := ⟨0x900008, 6, 42⟩
/-- R265, RW. -/
def F.MCS_LOAD_LEN_LEN : Fld := ⟨0x900010, 0, 32⟩
/-- R265, RO. -/
def F.MCS_STATUS_DETAIL : Fld := ⟨0x900018, 16, 8⟩
/-- R265, RO. -/
def F.MCS_STATUS_RESULT : Fld := ⟨0x900018, 8, 8⟩
/-- R265, RO. -/
def F.MCS_STATUS_CLASS : Fld := ⟨0x900018, 5, 3⟩
/-- R265, W1C. -/
def F.MCS_STATUS_CFG_ERR : Fld := ⟨0x900018, 4, 1⟩
/-- R265, RO. -/
def F.MCS_STATUS_GEN_PENDING : Fld := ⟨0x900018, 3, 1⟩
/-- R265, RO. -/
def F.MCS_STATUS_BUSY : Fld := ⟨0x900018, 2, 1⟩
/-- R265, W1C. -/
def F.MCS_STATUS_DONE : Fld := ⟨0x900018, 1, 1⟩
/-- R265, RW. -/
def F.MCS_YIELD_LIMIT_CC : Fld := ⟨0x900020, 0, 32⟩
/-- R265, RO. -/
def F.MCS_PATCH_VERSION_VERSION (m : Nat) : Fld := ⟨0x901000 + 0x400 * m, 0, 32⟩
/-- R265, RO. -/
def F.MCS_CUST_VERSION_VERSION (m : Nat) : Fld := ⟨0x901008 + 0x400 * m, 0, 32⟩
/-- R265, RO. -/
def F.MCS_CUST_FLOOR_FLOOR (m : Nat) : Fld := ⟨0x901010 + 0x400 * m, 0, 32⟩
/-- R265, RO. -/
def F.MCS_STATE_CUST_VALID (m : Nat) : Fld := ⟨0x901018 + 0x400 * m, 17, 1⟩
/-- R265, RO. -/
def F.MCS_STATE_PATCH_VALID (m : Nat) : Fld := ⟨0x901018 + 0x400 * m, 16, 1⟩
/-- R265, RO. -/
def F.MCS_STATE_CUST_INFLIGHT (m : Nat) : Fld := ⟨0x901018 + 0x400 * m, 0, 16⟩
/-- R265, RO. -/
def F.MCS_PATCH_DIGEST_DIGEST (m j : Nat) : Fld := ⟨0x901020 + 0x400 * m + 0x8 * j, 0, 64⟩
/-- R265, RO. -/
def F.MCS_CUST_DIGEST_DIGEST (m j : Nat) : Fld := ⟨0x901040 + 0x400 * m + 0x8 * j, 0, 64⟩
/-- R265, RO. -/
def F.MCS_PUBMAP_PUB (m j : Nat) : Fld := ⟨0x901060 + 0x400 * m + 0x8 * j, 0, 64⟩
/-- R265, RO. -/
def F.MCS_CERR_COUNT (m : Nat) : Fld := ⟨0x901070 + 0x400 * m, 0, 32⟩
/-- R265, RO. -/
def F.MCS_MATCH_V (m i : Nat) : Fld := ⟨0x901100 + 0x400 * m + 0x8 * i, 63, 1⟩
/-- R265, RO. -/
def F.MCS_MATCH_TARGET (m i : Nat) : Fld := ⟨0x901100 + 0x400 * m + 0x8 * i, 32, 16⟩
/-- R265, RO. -/
def F.MCS_MATCH_ADDR (m i : Nat) : Fld := ⟨0x901100 + 0x400 * m + 0x8 * i, 0, 16⟩
/-- R295, W1C. -/
def F.NET_STATUS_CFG_ERR : Fld := ⟨0xc00000, 32, 1⟩
/-- R295, RO. -/
def F.NET_STATUS_LINK : Fld := ⟨0xc00000, 0, 32⟩
/-- R295, RW. -/
def F.NET_PORT_CFG_MTU (p : Nat) : Fld := ⟨0xc00100 + 0x8 * p, 16, 14⟩
/-- R295, RW. -/
def F.NET_PORT_CFG_FEC (p : Nat) : Fld := ⟨0xc00100 + 0x8 * p, 8, 2⟩
/-- R295, RW. -/
def F.NET_PORT_CFG_AN (p : Nat) : Fld := ⟨0xc00100 + 0x8 * p, 7, 1⟩
/-- R295, RW. -/
def F.NET_PORT_CFG_SPEED (p : Nat) : Fld := ⟨0xc00100 + 0x8 * p, 4, 3⟩
/-- R295, RW. -/
def F.NET_PORT_CFG_WIDTH (p : Nat) : Fld := ⟨0xc00100 + 0x8 * p, 1, 3⟩
/-- R295, RW. -/
def F.NET_PORT_CFG_EN (p : Nat) : Fld := ⟨0xc00100 + 0x8 * p, 0, 1⟩
/-- R295, RO. -/
def F.NET_PORT_STAT_FRAMES (p : Nat) : Fld := ⟨0xc00200 + 0x8 * p, 32, 32⟩
/-- R295, RO. -/
def F.NET_PORT_STAT_FECCORR (p : Nat) : Fld := ⟨0xc00200 + 0x8 * p, 0, 32⟩
/-- R295, RW. -/
def F.NET_ADDR_HI_ADDR (k : Nat) : Fld := ⟨0xc01000 + 0x20 * k, 0, 64⟩
/-- R295, RW. -/
def F.NET_ADDR_LO_ADDR (k : Nat) : Fld := ⟨0xc01008 + 0x20 * k, 0, 64⟩
/-- R295, RW. -/
def F.NET_ADDR_CFG_V (k : Nat) : Fld := ⟨0xc01010 + 0x20 * k, 63, 1⟩
/-- R295, RW. -/
def F.NET_ADDR_CFG_V6 (k : Nat) : Fld := ⟨0xc01010 + 0x20 * k, 62, 1⟩
/-- R295, RW. -/
def F.NET_ADDR_CFG_VLAN_EN (k : Nat) : Fld := ⟨0xc01010 + 0x20 * k, 61, 1⟩
/-- R295, RW. -/
def F.NET_ADDR_CFG_VID (k : Nat) : Fld := ⟨0xc01010 + 0x20 * k, 36, 12⟩
/-- R295, RW. -/
def F.NET_ADDR_CFG_POLDER (k : Nat) : Fld := ⟨0xc01010 + 0x20 * k, 24, 8⟩
/-- R295, RW. -/
def F.NET_ADDR_PORTS_PORTS (k : Nat) : Fld := ⟨0xc01018 + 0x20 * k, 0, 32⟩
/-- R295, RW. -/
def F.NET_RL_SEL_ENTRY : Fld := ⟨0xc02000, 0, 12⟩
/-- R295, RW. -/
def F.NET_RL_HI_PREFIX : Fld := ⟨0xc02008, 0, 64⟩
/-- R295, RW. -/
def F.NET_RL_LO_PREFIX : Fld := ⟨0xc02010, 0, 64⟩
/-- R295, RW. -/
def F.NET_RL_CFG_V : Fld := ⟨0xc02018, 63, 1⟩
/-- R295, RW. -/
def F.NET_RL_CFG_V6 : Fld := ⟨0xc02018, 62, 1⟩
/-- R295, RW. -/
def F.NET_RL_CFG_LEN : Fld := ⟨0xc02018, 48, 7⟩
/-- R295, RW. -/
def F.NET_RL_CFG_BURST : Fld := ⟨0xc02018, 24, 24⟩
/-- R295, RW. -/
def F.NET_RL_CFG_RATE : Fld := ⟨0xc02018, 0, 24⟩
/-- R295, RO. -/
def F.NET_DROP_COUNT (r : Nat) : Fld := ⟨0xc03000 + 0x8 * r, 0, 64⟩
/-- R296, RW. -/
def F.SES_CTRL_MODE : Fld := ⟨0xd00000, 0, 1⟩
/-- R296, RO. -/
def F.SES_STATUS_CONTEXTS : Fld := ⟨0xd00008, 32, 22⟩
/-- R296, RO. -/
def F.SES_STATUS_HOT : Fld := ⟨0xd00008, 0, 18⟩
/-- R296, RO. -/
def F.SES_ERR_NOPROG : Fld := ⟨0xd00010, 48, 16⟩
/-- R296, RO. -/
def F.SES_ERR_ITEMFAULT : Fld := ⟨0xd00010, 32, 16⟩
/-- R296, RO. -/
def F.SES_ERR_ACTION : Fld := ⟨0xd00010, 16, 16⟩
/-- R296, RO. -/
def F.SES_ERR_POOL : Fld := ⟨0xd00010, 1, 15⟩
/-- R296, W1C. -/
def F.SES_ERR_CFG_ERR : Fld := ⟨0xd00010, 0, 1⟩
/-- R296, RW. -/
def F.SES_COOKIE_WINDOW : Fld := ⟨0xd00018, 0, 32⟩
/-- R296, RW. -/
def F.SES_TCP_MAXRETX : Fld := ⟨0xd00020, 56, 8⟩
/-- R296, RW. -/
def F.SES_TCP_DELACK : Fld := ⟨0xd00020, 48, 8⟩
/-- R296, RW. -/
def F.SES_TCP_RTO_INIT : Fld := ⟨0xd00020, 32, 16⟩
/-- R296, RW. -/
def F.SES_TCP_RTO_MAX : Fld := ⟨0xd00020, 16, 16⟩
/-- R296, RW. -/
def F.SES_TCP_RTO_MIN : Fld := ⟨0xd00020, 0, 16⟩
/-- R296, RO. -/
def F.SES_MISS_EVICT : Fld := ⟨0xd00028, 32, 32⟩
/-- R296, RO. -/
def F.SES_MISS_LOOKUP : Fld := ⟨0xd00028, 0, 32⟩
/-- R296, RW. -/
def F.SES_PRIVGRP_CODEPOINT (k : Nat) : Fld := ⟨0xd00040 + 0x8 * k, 16, 16⟩
/-- R296, RW. -/
def F.SES_PRIVGRP_V (k : Nat) : Fld := ⟨0xd00040 + 0x8 * k, 8, 1⟩
/-- R296, RW. -/
def F.SES_PRIVGRP_PSET (k : Nat) : Fld := ⟨0xd00040 + 0x8 * k, 0, 8⟩
/-- R296, RW. -/
def F.SES_LSN_A_V (k : Nat) : Fld := ⟨0xd01000 + 0x20 * k, 63, 1⟩
/-- R296, RW. -/
def F.SES_LSN_A_PROTO (k : Nat) : Fld := ⟨0xd01000 + 0x20 * k, 61, 2⟩
/-- R296, RW. -/
def F.SES_LSN_A_ADDR (k : Nat) : Fld := ⟨0xd01000 + 0x20 * k, 55, 6⟩
/-- R296, RW. -/
def F.SES_LSN_A_POLDER (k : Nat) : Fld := ⟨0xd01000 + 0x20 * k, 47, 8⟩
/-- R296, RW. -/
def F.SES_LSN_A_PROG (k : Nat) : Fld := ⟨0xd01000 + 0x20 * k, 35, 12⟩
/-- R296, RW. -/
def F.SES_LSN_A_ENTRY (k : Nat) : Fld := ⟨0xd01000 + 0x20 * k, 23, 12⟩
/-- R296, RW. -/
def F.SES_LSN_A_CID (k : Nat) : Fld := ⟨0xd01000 + 0x20 * k, 22, 1⟩
/-- R296, RW. -/
def F.SES_LSN_A_VEC (k : Nat) : Fld := ⟨0xd01000 + 0x20 * k, 21, 1⟩
/-- R296, RW. -/
def F.SES_LSN_A_L4PORT (k : Nat) : Fld := ⟨0xd01000 + 0x20 * k, 0, 16⟩
/-- R296, RW. -/
def F.SES_LSN_B_IDLE (k : Nat) : Fld := ⟨0xd01008 + 0x20 * k, 32, 32⟩
/-- R296, RW. -/
def F.SES_LSN_B_HS_LIMIT (k : Nat) : Fld := ⟨0xd01008 + 0x20 * k, 0, 32⟩
/-- R296, RW. -/
def F.SES_LSN_C_SUITES (k : Nat) : Fld := ⟨0xd01010 + 0x20 * k, 56, 8⟩
/-- R296, RW. -/
def F.SES_LSN_C_GROUPS (k : Nat) : Fld := ⟨0xd01010 + 0x20 * k, 48, 8⟩
/-- R296, RW. -/
def F.SES_LSN_C_PRIO_REC (k : Nat) : Fld := ⟨0xd01010 + 0x20 * k, 4, 3⟩
/-- R296, RW. -/
def F.SES_LSN_C_PRIO_NEW (k : Nat) : Fld := ⟨0xd01010 + 0x20 * k, 0, 3⟩
/-- R296, RW. -/
def F.SES_PLD_RSLOT_V (n : Nat) : Fld := ⟨0xd04000 + 0x40 * n, 63, 1⟩
/-- R296, RW. -/
def F.SES_PLD_RSLOT_COUNT (n : Nat) : Fld := ⟨0xd04000 + 0x40 * n, 16, 14⟩
/-- R296, RW. -/
def F.SES_PLD_RSLOT_BASE (n : Nat) : Fld := ⟨0xd04000 + 0x40 * n, 0, 14⟩
/-- R296, RW. -/
def F.SES_PLD_OVF_BASE (n : Nat) : Fld := ⟨0xd04008 + 0x40 * n, 12, 36⟩
/-- R296, RO. -/
def F.SES_PLD_OVFCFG_USED (n : Nat) : Fld := ⟨0xd04010 + 0x40 * n, 32, 24⟩
/-- R296, RW. -/
def F.SES_PLD_OVFCFG_CELLS (n : Nat) : Fld := ⟨0xd04010 + 0x40 * n, 0, 24⟩
/-- R296, RW. -/
def F.SES_PLD_HOST_BASE (n : Nat) : Fld := ⟨0xd04018 + 0x40 * n, 12, 52⟩
/-- R296, RW. -/
def F.SES_PLD_HOST_V (n : Nat) : Fld := ⟨0xd04018 + 0x40 * n, 4, 1⟩
/-- R296, RW. -/
def F.SES_PLD_HOST_SIZE (n : Nat) : Fld := ⟨0xd04018 + 0x40 * n, 0, 4⟩
/-- R345, RO. -/
def F.COL_STATUS_TABLES : Fld := ⟨0xe00000, 32, 13⟩
/-- R345, RO. -/
def F.COL_STATUS_GEN_PENDING : Fld := ⟨0xe00000, 3, 1⟩
/-- R345, RO. -/
def F.COL_STATUS_CXL_FULL : Fld := ⟨0xe00000, 2, 1⟩
/-- R345, RO. -/
def F.COL_STATUS_HBM_FULL : Fld := ⟨0xe00000, 1, 1⟩
/-- R345, W1C. -/
def F.COL_STATUS_CFG_ERR : Fld := ⟨0xe00000, 0, 1⟩
/-- R345, RW. -/
def F.COL_HBM_BASE_BASE : Fld := ⟨0xe00008, 21, 27⟩
/-- R345, RW. -/
def F.COL_HBM_LIMIT_LIMIT : Fld := ⟨0xe00010, 21, 27⟩
/-- R345, RO. -/
def F.COL_USE_CXL : Fld := ⟨0xe00018, 32, 32⟩
/-- R345, RO. -/
def F.COL_USE_HBM : Fld := ⟨0xe00018, 0, 32⟩
/-- R345, RW. -/
def F.COL_LOWWM_GRANULES : Fld := ⟨0xe00020, 0, 17⟩
/-- R345, RO. -/
def F.COL_ERRCNT_APPEND_FULL : Fld := ⟨0xe00028, 32, 32⟩
/-- R345, RO. -/
def F.COL_ERRCNT_LOST_BLOCKS : Fld := ⟨0xe00028, 0, 32⟩
/-- R345, RO. -/
def F.COL_QUOTA_T_USED (n : Nat) : Fld := ⟨0xe01000 + 0x20 * n, 32, 13⟩
/-- R345, RW. -/
def F.COL_QUOTA_T_LIMIT (n : Nat) : Fld := ⟨0xe01000 + 0x20 * n, 0, 13⟩
/-- R345, RO. -/
def F.COL_QUOTA_H_USED (n : Nat) : Fld := ⟨0xe01008 + 0x20 * n, 32, 17⟩
/-- R345, RW. -/
def F.COL_QUOTA_H_LIMIT (n : Nat) : Fld := ⟨0xe01008 + 0x20 * n, 0, 17⟩
/-- R345, RO. -/
def F.COL_QUOTA_X_USED (n : Nat) : Fld := ⟨0xe01010 + 0x20 * n, 32, 22⟩
/-- R345, RW. -/
def F.COL_QUOTA_X_LIMIT (n : Nat) : Fld := ⟨0xe01010 + 0x20 * n, 0, 22⟩
/-- R346, RO. -/
def F.CMP_STATUS_QUEUED : Fld := ⟨0x1000000, 32, 15⟩
/-- R346, RO. -/
def F.CMP_STATUS_BUSY : Fld := ⟨0x1000000, 0, 8⟩
/-- R346, RW. -/
def F.CMP_ONLINE_ONLINE : Fld := ⟨0x1000008, 0, 8⟩
/-- R346, W1C. -/
def F.CMP_FAULT_V : Fld := ⟨0x1000010, 63, 1⟩
/-- R346, RO. -/
def F.CMP_FAULT_CAUSE : Fld := ⟨0x1000010, 48, 8⟩
/-- R346, RO. -/
def F.CMP_FAULT_LANE : Fld := ⟨0x1000010, 40, 8⟩
/-- R346, RO. -/
def F.CMP_FAULT_ENTRY : Fld := ⟨0x1000010, 0, 14⟩
/-- R346, RO. -/
def F.CMP_COMPLETED_COUNT : Fld := ⟨0x1000018, 0, 64⟩
/-- R346, RO. -/
def F.CMP_ERR_FULL : Fld := ⟨0x1000020, 32, 32⟩
/-- R346, RO. -/
def F.CMP_ERR_MALFORMED : Fld := ⟨0x1000020, 0, 32⟩
/-- R346, RO. -/
def F.CMP_BYTES_COUNT : Fld := ⟨0x1000028, 0, 64⟩
/-- R373, RO. -/
def F.OPU_STATUS_RUNS : Fld := ⟨0xf00000, 32, 16⟩
/-- R373, W1C. -/
def F.OPU_STATUS_CFG_ERR : Fld := ⟨0xf00000, 0, 1⟩
/-- R373, RW. -/
def F.OPU_CIS_MODE_MODE : Fld := ⟨0xf00008, 0, 2⟩
/-- R373, RO. -/
def F.OPU_CIS_STATUS_GEN_PENDING : Fld := ⟨0xf00010, 3, 1⟩
/-- R373, RO. -/
def F.OPU_CIS_STATUS_CUR : Fld := ⟨0xf00010, 0, 2⟩
/-- R373, RO. -/
def F.OPU_CIS_USE_SESSION : Fld := ⟨0xf00018, 32, 12⟩
/-- R373, RO. -/
def F.OPU_CIS_USE_QUEUES : Fld := ⟨0xf00018, 16, 12⟩
/-- R373, RO. -/
def F.OPU_CIS_USE_TABLES : Fld := ⟨0xf00018, 0, 12⟩
/-- R373, W1C. -/
def F.OPU_FAULT_V : Fld := ⟨0xf00020, 63, 1⟩
/-- R373, RO. -/
def F.OPU_FAULT_CAUSE : Fld := ⟨0xf00020, 48, 8⟩
/-- R373, RO. -/
def F.OPU_FAULT_WORKER : Fld := ⟨0xf00020, 40, 8⟩
/-- R373, RO. -/
def F.OPU_FAULT_TASK : Fld := ⟨0xf00020, 0, 14⟩
/-- R373, RO. -/
def F.OPU_SKIPPED_SEGMENTS : Fld := ⟨0xf00028, 32, 32⟩
/-- R373, RO. -/
def F.OPU_SKIPPED_LOSTBLK : Fld := ⟨0xf00028, 0, 32⟩
/-- R373, RO. -/
def F.OPU_BYTES_COUNT : Fld := ⟨0xf00030, 0, 64⟩
/-- R373, RO. -/
def F.OPU_WAITS_QFULL : Fld := ⟨0xf00038, 32, 32⟩
/-- R373, RO. -/
def F.OPU_WAITS_ALLOCWAIT : Fld := ⟨0xf00038, 0, 32⟩
/-- R418, RO. -/
def F.DKE_STATUS_NOTICES : Fld := ⟨0x400000, 32, 11⟩
/-- R418, W1C. -/
def F.DKE_STATUS_BADRGN : Fld := ⟨0x400000, 1, 1⟩
/-- R418, W1C. -/
def F.DKE_STATUS_CFG_ERR : Fld := ⟨0x400000, 0, 1⟩
/-- R418, WO. -/
def F.DKE_GEN_CTRL_COMMIT : Fld := ⟨0x400008, 0, 1⟩
/-- R418, RO. -/
def F.DKE_GEN_STATUS_OLD_INFLIGHT : Fld := ⟨0x400010, 32, 16⟩
/-- R418, RO. -/
def F.DKE_GEN_STATUS_APPLIED : Fld := ⟨0x400010, 17, 1⟩
/-- R418, RO. -/
def F.DKE_GEN_STATUS_PENDING : Fld := ⟨0x400010, 16, 1⟩
/-- R418, RO. -/
def F.DKE_GEN_STATUS_CUR : Fld := ⟨0x400010, 0, 16⟩
/-- R418, WO. -/
def F.DKE_THAW_END : Fld := ⟨0x400018, 16, 1⟩
/-- R418, WO. -/
def F.DKE_THAW_MCLS : Fld := ⟨0x400018, 12, 4⟩
/-- R418, WO. -/
def F.DKE_THAW_UNIT : Fld := ⟨0x400018, 0, 8⟩
/-- R418, WO. -/
def F.DKE_NTC_POP_POP : Fld := ⟨0x400020, 0, 1⟩
/-- R418, RO. -/
def F.DKE_NTC_NOTICE (j : Nat) : Fld := ⟨0x400028 + 0x8 * j, 0, 64⟩
/-- R418, RO. -/
def F.DKE_REFUSED_COUNT : Fld := ⟨0x400048, 0, 64⟩
/-- R418, RW. -/
def F.DKE_GRGN_ADDR_V (i : Nat) : Fld := ⟨0x401000 + 0x10 * i, 63, 1⟩
/-- R418, RW. -/
def F.DKE_GRGN_ADDR_SIZE (i : Nat) : Fld := ⟨0x401000 + 0x10 * i, 48, 6⟩
/-- R418, RW. -/
def F.DKE_GRGN_ADDR_BASE (i : Nat) : Fld := ⟨0x401000 + 0x10 * i, 12, 36⟩
/-- R418, RW. -/
def F.DKE_GRGN_ATTR_EMASK (i : Nat) : Fld := ⟨0x401008 + 0x10 * i, 16, 8⟩
/-- R418, RW. -/
def F.DKE_GRGN_ATTR_SRD (i : Nat) : Fld := ⟨0x401008 + 0x10 * i, 8, 8⟩
/-- R418, RW. -/
def F.DKE_GRGN_ATTR_ATTR (i : Nat) : Fld := ⟨0x401008 + 0x10 * i, 0, 8⟩
/-- R418, RW. -/
def F.DKE_PRGN_ADDR_V (n i : Nat) : Fld := ⟨0x410000 + 0x400 * n + 0x10 * i, 63, 1⟩
/-- R418, RW. -/
def F.DKE_PRGN_ADDR_SIZE (n i : Nat) : Fld := ⟨0x410000 + 0x400 * n + 0x10 * i, 48, 6⟩
/-- R418, RW. -/
def F.DKE_PRGN_ADDR_BASE (n i : Nat) : Fld := ⟨0x410000 + 0x400 * n + 0x10 * i, 12, 36⟩
/-- R418, RW. -/
def F.DKE_PRGN_ATTR_EMASK (n i : Nat) : Fld := ⟨0x410008 + 0x400 * n + 0x10 * i, 16, 8⟩
/-- R418, RW. -/
def F.DKE_PRGN_ATTR_SRD (n i : Nat) : Fld := ⟨0x410008 + 0x400 * n + 0x10 * i, 8, 8⟩
/-- R418, RW. -/
def F.DKE_PRGN_ATTR_ATTR (n i : Nat) : Fld := ⟨0x410008 + 0x400 * n + 0x10 * i, 0, 8⟩
/-- R433, W1C. -/
def F.FCL_STATUS_FAULT : Fld := ⟨0x500000, 0, 37⟩
/-- R433, W1C. -/
def F.FCL_STICKY_FAULT : Fld := ⟨0x500008, 0, 37⟩
/-- R433, RW. -/
def F.FCL_REACT_REACT (j : Nat) : Fld := ⟨0x500010 + 0x8 * j, 0, 64⟩
/-- R433, RW. -/
def F.FCL_ERRN_EN_EN : Fld := ⟨0x500030, 0, 37⟩
/-- R433, W1C. -/
def F.FCL_ERRN_ASSERTED : Fld := ⟨0x500038, 0, 1⟩
/-- R433, RO. -/
def F.FCL_CTRL_STATUS_RECORDS : Fld := ⟨0x500040, 0, 9⟩
/-- R433, W1C. -/
def F.FCL_LOST_CFG_ERR : Fld := ⟨0x500048, 63, 1⟩
/-- R433, RO. -/
def F.FCL_LOST_COUNT : Fld := ⟨0x500048, 0, 32⟩
/-- R433, WO. -/
def F.FCL_REC_POP_POP : Fld := ⟨0x500050, 0, 1⟩
/-- R433, RO. -/
def F.FCL_REC_RECORD (j : Nat) : Fld := ⟨0x500058 + 0x8 * j, 0, 64⟩
/-- R433, RO. -/
def F.FCL_BLKRST_ACTIVE : Fld := ⟨0x500078, 0, 1⟩
/-- R434, RW. -/
def F.TST_CTRL_EN : Fld := ⟨0x600000, 0, 1⟩
/-- R434, RO. -/
def F.TST_OVERDUE_ITEM : Fld := ⟨0x600008, 0, 11⟩
/-- R434, W1C. -/
def F.TST_FAIL_V : Fld := ⟨0x600010, 63, 1⟩
/-- R434, RO. -/
def F.TST_FAIL_ITEM : Fld := ⟨0x600010, 16, 4⟩
/-- R434, RO. -/
def F.TST_FAIL_UNIT : Fld := ⟨0x600010, 0, 8⟩
/-- R434, RO. -/
def F.TST_ABANDON_COUNT : Fld := ⟨0x600018, 0, 32⟩
/-- R434, RW. -/
def F.TST_INTERVAL_TICKS (i : Nat) : Fld := ⟨0x600100 + 0x8 * i, 0, 32⟩
/-- R434, RO. -/
def F.TST_LAST_TICK (i : Nat) : Fld := ⟨0x600200 + 0x8 * i, 0, 64⟩
/-- R434, RO. -/
def F.TST_BANK_RETIRED (k : Nat) : Fld := ⟨0x600300 + 0x8 * k, 8, 1⟩
/-- R434, RO. -/
def F.TST_BANK_SPARE (k : Nat) : Fld := ⟨0x600300 + 0x8 * k, 0, 5⟩
/-- R459, RO. -/
def F.LCS_STATE_ROLLED : Fld := ⟨0x1100000, 16, 1⟩
/-- R459, RO. -/
def F.LCS_STATE_CODE : Fld := ⟨0x1100000, 8, 8⟩
/-- R459, RO. -/
def F.LCS_STATE_STATE : Fld := ⟨0x1100000, 0, 3⟩
/-- R459, RO. -/
def F.LCS_UNIT_ID_ID (j : Nat) : Fld := ⟨0x1100008 + 0x8 * j, 0, 64⟩
/-- R459, WO. -/
def F.LCS_CTRL_SUBMIT : Fld := ⟨0x1100018, 1, 1⟩
/-- R459, WO. -/
def F.LCS_CTRL_NONCE_GEN : Fld := ⟨0x1100018, 0, 1⟩
/-- R459, RO. -/
def F.LCS_NONCE_NONCE (j : Nat) : Fld := ⟨0x1100020 + 0x8 * j, 0, 64⟩
/-- R459, RW. -/
def F.LCS_REQ_ADDR_ADDR : Fld := ⟨0x1100040, 3, 45⟩
/-- R459, RW. -/
def F.LCS_REQ_LEN_LEN : Fld := ⟨0x1100048, 0, 16⟩
/-- R459, RO. -/
def F.LCS_STATUS_DETAIL : Fld := ⟨0x1100050, 16, 8⟩
/-- R459, RO. -/
def F.LCS_STATUS_RESULT : Fld := ⟨0x1100050, 8, 8⟩
/-- R459, W1C. -/
def F.LCS_STATUS_CFG_ERR : Fld := ⟨0x1100050, 3, 1⟩
/-- R459, RO. -/
def F.LCS_STATUS_NONCE_V : Fld := ⟨0x1100050, 2, 1⟩
/-- R459, RO. -/
def F.LCS_STATUS_BUSY : Fld := ⟨0x1100050, 1, 1⟩
/-- R459, W1C. -/
def F.LCS_STATUS_DONE : Fld := ⟨0x1100050, 0, 1⟩
/-- R459, RO. -/
def F.LCS_DBG_REFUSED : Fld := ⟨0x1100058, 48, 16⟩
/-- R459, RO. -/
def F.LCS_DBG_SCOPE : Fld := ⟨0x1100058, 8, 4⟩
/-- R459, RO. -/
def F.LCS_DBG_STANDING : Fld := ⟨0x1100058, 1, 1⟩
/-- R459, RO. -/
def F.LCS_DBG_AUTH : Fld := ⟨0x1100058, 0, 1⟩
/-- R459, RO. -/
def F.LCS_DBG_EXP_EXPIRY : Fld := ⟨0x1100060, 0, 64⟩
/-- R459, RO. -/
def F.LCS_DBG_SEQ_TSEQ : Fld := ⟨0x1100068, 0, 64⟩
/-- R459, RO. -/
def F.LCS_DBG_POLDER_MASK (j : Nat) : Fld := ⟨0x1100070 + 0x8 * j, 0, 64⟩
/-- R459, RO. -/
def F.LCS_IDGEN_COUNT : Fld := ⟨0x1100090, 0, 32⟩
/-- R460, W1C. -/
def F.TMP_STATUS_CFG_ERR : Fld := ⟨0x1200000, 19, 1⟩
/-- R460, RO. -/
def F.TMP_STATUS_ZEROISING : Fld := ⟨0x1200000, 18, 1⟩
/-- R460, RO. -/
def F.TMP_STATUS_LOCKED : Fld := ⟨0x1200000, 17, 1⟩
/-- R460, RO. -/
def F.TMP_STATUS_FROZEN : Fld := ⟨0x1200000, 16, 1⟩
/-- R460, W1C. -/
def F.TMP_STATUS_FIRED : Fld := ⟨0x1200000, 0, 10⟩
/-- R460, RW. -/
def F.TMP_RESP_RESP : Fld := ⟨0x1200008, 0, 40⟩
/-- R460, RW. -/
def F.TMP_CTRL_SRC : Fld := ⟨0x1200010, 8, 4⟩
/-- R460, WO. -/
def F.TMP_CTRL_SELFTEST : Fld := ⟨0x1200010, 1, 1⟩
/-- R460, WO. -/
def F.TMP_CTRL_RELEASE : Fld := ⟨0x1200010, 0, 1⟩
/-- R460, RO. -/
def F.TMP_SELF_DONE : Fld := ⟨0x1200018, 16, 10⟩
/-- R460, RO. -/
def F.TMP_SELF_FAIL : Fld := ⟨0x1200018, 0, 10⟩
/-- R461, RW. -/
def F.EMB_CFG_LOOP_EN : Fld := ⟨0x1300000, 2, 2⟩
/-- R461, RW. -/
def F.EMB_CFG_ERASE_ON_ALARM : Fld := ⟨0x1300000, 1, 1⟩
/-- R461, RW. -/
def F.EMB_CFG_MODE : Fld := ⟨0x1300000, 0, 1⟩
/-- R461, W1C. -/
def F.EMB_STATUS_CFG_ERR : Fld := ⟨0x1300008, 7, 1⟩
/-- R461, W1C. -/
def F.EMB_STATUS_OVF : Fld := ⟨0x1300008, 3, 1⟩
/-- R461, RO. -/
def F.EMB_STATUS_ON_BATTERY : Fld := ⟨0x1300008, 2, 1⟩
/-- R461, RO. -/
def F.EMB_STATUS_KEY_VALID : Fld := ⟨0x1300008, 1, 1⟩
/-- R461, W1C. -/
def F.EMB_STATUS_POR : Fld := ⟨0x1300008, 0, 1⟩
/-- R461, RO. -/
def F.EMB_TS_COUNT : Fld := ⟨0x1300010, 0, 48⟩
/-- R461, RO. -/
def F.EMB_LOGCNT_COUNT : Fld := ⟨0x1300018, 0, 4⟩
/-- R461, RO. -/
def F.EMB_LOG_ENTRY (j : Nat) : Fld := ⟨0x1300020 + 0x8 * j, 0, 64⟩
/-- R461, WO. -/
def F.EMB_LOG_CLR_CLR : Fld := ⟨0x1300060, 0, 1⟩
/-- R476, RO. -/
def F.CRD_STATUS_QUEUED : Fld := ⟨0x1400000, 16, 5⟩
/-- R476, W1C. -/
def F.CRD_STATUS_CFG_ERR : Fld := ⟨0x1400000, 15, 1⟩
/-- R476, W1C. -/
def F.CRD_STATUS_CPL : Fld := ⟨0x1400000, 14, 1⟩
/-- R476, RO. -/
def F.CRD_STATUS_BOUND : Fld := ⟨0x1400000, 13, 1⟩
/-- R476, RO. -/
def F.CRD_STATUS_JNL : Fld := ⟨0x1400000, 11, 2⟩
/-- R476, RO. -/
def F.CRD_STATUS_TYPE : Fld := ⟨0x1400000, 9, 2⟩
/-- R476, RO. -/
def F.CRD_STATUS_V18 : Fld := ⟨0x1400000, 8, 1⟩
/-- R476, RO. -/
def F.CRD_STATUS_MODE : Fld := ⟨0x1400000, 4, 4⟩
/-- R476, RO. -/
def F.CRD_STATUS_STATE : Fld := ⟨0x1400000, 0, 3⟩
/-- R476, RW. -/
def F.CRD_CTRL_MMC_MAX : Fld := ⟨0x1400008, 10, 2⟩
/-- R476, RW. -/
def F.CRD_CTRL_SD_MAX : Fld := ⟨0x1400008, 7, 3⟩
/-- R476, RW. -/
def F.CRD_CTRL_MMC18 : Fld := ⟨0x1400008, 3, 1⟩
/-- R476, RW. -/
def F.CRD_CTRL_IRQ_EN : Fld := ⟨0x1400008, 2, 1⟩
/-- R476, WO. -/
def F.CRD_CTRL_REINIT : Fld := ⟨0x1400008, 1, 1⟩
/-- R476, RW. -/
def F.CRD_CTRL_EN : Fld := ⟨0x1400008, 0, 1⟩
/-- R476, WO. -/
def F.CRD_SUBMIT_ADDR : Fld := ⟨0x1400010, 6, 42⟩
/-- R476, RW. -/
def F.CRD_JNL_BASE_LBA : Fld := ⟨0x1400018, 0, 32⟩
/-- R476, RW. -/
def F.CRD_JNL_LEN_BLOCKS : Fld := ⟨0x1400020, 0, 32⟩
/-- R476, RO. -/
def F.CRD_JNL_NEXT_OFFSET : Fld := ⟨0x1400028, 0, 32⟩
/-- R476, RO. -/
def F.CRD_JNL_SEQ_NEXT : Fld := ⟨0x1400030, 0, 64⟩
/-- R476, RW. -/
def F.CRD_RPA_BASE_LBA : Fld := ⟨0x1400038, 0, 32⟩
/-- R476, RW. -/
def F.CRD_TIMERS_IDLE : Fld := ⟨0x1400040, 32, 32⟩
/-- R476, RW. -/
def F.CRD_TIMERS_RETUNE : Fld := ⟨0x1400040, 0, 32⟩
/-- R476, RO. -/
def F.CRD_ERRCNT_CRC : Fld := ⟨0x1400048, 32, 32⟩
/-- R476, RO. -/
def F.CRD_ERRCNT_INDET : Fld := ⟨0x1400048, 0, 32⟩
/-- R476, RO. -/
def F.CRD_BIND_CID : Fld := ⟨0x1400050, 0, 64⟩
/-- R490, W1C. -/
def F.PER_STATUS_CFG_ERR : Fld := ⟨0x1500000, 16, 1⟩
/-- R490, RO. -/
def F.PER_STATUS_UP : Fld := ⟨0x1500000, 0, 16⟩
/-- R490, RW. -/
def F.PER_EPC_TOL : Fld := ⟨0x1500008, 32, 8⟩
/-- R490, RW. -/
def F.PER_EPC_INTERVAL : Fld := ⟨0x1500008, 0, 32⟩
/-- R490, RW. -/
def F.PER_CTRL_IRQ_EN : Fld := ⟨0x1500010, 0, 1⟩
/-- R490, RW. -/
def F.PER_CFG_HALF (l : Nat) : Fld := ⟨0x1501000 + 0x100 * l, 2, 1⟩
/-- R490, WO. -/
def F.PER_CFG_REKEY (l : Nat) : Fld := ⟨0x1501000 + 0x100 * l, 1, 1⟩
/-- R490, RW. -/
def F.PER_CFG_EN (l : Nat) : Fld := ⟨0x1501000 + 0x100 * l, 0, 1⟩
/-- R490, RO. -/
def F.PER_LSTAT_LANES (l : Nat) : Fld := ⟨0x1501008 + 0x100 * l, 4, 8⟩
/-- R490, W1C. -/
def F.PER_LSTAT_CPL (l : Nat) : Fld := ⟨0x1501008 + 0x100 * l, 3, 1⟩
/-- R490, RO. -/
def F.PER_LSTAT_STATE (l : Nat) : Fld := ⟨0x1501008 + 0x100 * l, 0, 3⟩
/-- R490, RW. -/
def F.PER_PEERKEY_HASH (l j : Nat) : Fld := ⟨0x1501010 + 0x100 * l + 0x8 * j, 0, 64⟩
/-- R490, RO. -/
def F.PER_PEERID_ID (l j : Nat) : Fld := ⟨0x1501030 + 0x100 * l + 0x8 * j, 0, 64⟩
/-- R490, RO. -/
def F.PER_ERR_TAG (l : Nat) : Fld := ⟨0x1501040 + 0x100 * l, 48, 16⟩
/-- R490, RO. -/
def F.PER_ERR_PROTO (l : Nat) : Fld := ⟨0x1501040 + 0x100 * l, 32, 16⟩
/-- R490, RO. -/
def F.PER_ERR_REPLAY (l : Nat) : Fld := ⟨0x1501040 + 0x100 * l, 0, 32⟩
/-- R490, RO. -/
def F.PER_CRC_COUNT (l : Nat) : Fld := ⟨0x1501048 + 0x100 * l, 0, 64⟩
/-- R490, W1C. -/
def F.PER_EPCDIFF_MISMATCH (l : Nat) : Fld := ⟨0x1501050 + 0x100 * l, 63, 1⟩
/-- R490, RO. -/
def F.PER_EPCDIFF_D (l : Nat) : Fld := ⟨0x1501050 + 0x100 * l, 0, 32⟩
/-- R490, WO. -/
def F.PER_TX_ADDR (l : Nat) : Fld := ⟨0x1501058 + 0x100 * l, 6, 42⟩
/-- R490, RW. -/
def F.PER_RX_BASE_BASE (l : Nat) : Fld := ⟨0x1501060 + 0x100 * l, 24, 24⟩
/-- R490, RW. -/
def F.PER_RX_BASE_SIZE (l : Nat) : Fld := ⟨0x1501060 + 0x100 * l, 0, 3⟩
/-- R490, RW. -/
def F.PER_RX_PTR_HEAD (l : Nat) : Fld := ⟨0x1501068 + 0x100 * l, 32, 7⟩
/-- R490, RO. -/
def F.PER_RX_PTR_TAIL (l : Nat) : Fld := ⟨0x1501068 + 0x100 * l, 0, 7⟩
/-- R503, RO. -/
def F.GLB_MODE_WATTS : Fld := ⟨0x18, 8, 10⟩
/-- R503, RO. -/
def F.GLB_MODE_PCAP : Fld := ⟨0x18, 7, 1⟩
/-- R503, RO. -/
def F.GLB_MODE_BACKUP : Fld := ⟨0x18, 6, 1⟩
/-- R503, RO. -/
def F.GLB_MODE_EPOCH : Fld := ⟨0x18, 4, 2⟩
/-- R503, RO. -/
def F.GLB_MODE_STRICT : Fld := ⟨0x18, 3, 1⟩
/-- R503, RO. -/
def F.GLB_MODE_SWIDE : Fld := ⟨0x18, 2, 1⟩
/-- R503, RO. -/
def F.GLB_MODE_CISTERN : Fld := ⟨0x18, 0, 2⟩
/-- R504, RW. -/
def F.PWR_CAP_MODE : Fld := ⟨0x1600000, 10, 1⟩
/-- R504, RW. -/
def F.PWR_CAP_WATTS : Fld := ⟨0x1600000, 0, 10⟩
/-- R504, RO. -/
def F.PWR_STATUS_CORE_CLK : Fld := ⟨0x1600008, 16, 8⟩
/-- R504, RO. -/
def F.PWR_STATUS_STAGE : Fld := ⟨0x1600008, 8, 2⟩
/-- R504, RO. -/
def F.PWR_STATUS_HOLDUP : Fld := ⟨0x1600008, 2, 1⟩
/-- R504, W1C. -/
def F.PWR_STATUS_CFG_ERR : Fld := ⟨0x1600008, 1, 1⟩
/-- R504, RO. -/
def F.PWR_EST_ENGINES : Fld := ⟨0x1600010, 48, 16⟩
/-- R504, RO. -/
def F.PWR_EST_SCAN : Fld := ⟨0x1600010, 32, 16⟩
/-- R504, RO. -/
def F.PWR_EST_CORES : Fld := ⟨0x1600010, 16, 16⟩
/-- R504, RO. -/
def F.PWR_EST_TOTAL : Fld := ⟨0x1600010, 0, 16⟩
/-- R504, RO. -/
def F.PWR_BOOT_VERSION : Fld := ⟨0x1600018, 32, 32⟩
/-- R504, RO. -/
def F.PWR_BOOT_RESULT : Fld := ⟨0x1600018, 16, 8⟩
/-- R504, RO. -/
def F.PWR_BOOT_STATE : Fld := ⟨0x1600018, 4, 3⟩
/-- R504, RO. -/
def F.PWR_BOOT_SRC : Fld := ⟨0x1600018, 0, 2⟩
/-- R504, RW. -/
def F.PWR_BOOT_ADDR_ADDR : Fld := ⟨0x1600020, 12, 52⟩
/-- R504, RW. -/
def F.PWR_BOOT_LEN_LEN : Fld := ⟨0x1600028, 0, 32⟩
/-- R504, WO. -/
def F.PWR_BOOT_GO_GO : Fld := ⟨0x1600030, 0, 1⟩
/-- R504, RO. -/
def F.PWR_BOOT_FLOOR_FLOOR : Fld := ⟨0x1600038, 0, 32⟩
/-- R505, RO. -/
def F.MEM_STATUS_CXL_UP : Fld := ⟨0x1700000, 4, 4⟩
/-- R505, RO. -/
def F.MEM_STATUS_HBM_OK : Fld := ⟨0x1700000, 0, 4⟩
/-- R505, RO. -/
def F.MEM_ECC_UNCORR : Fld := ⟨0x1700008, 32, 32⟩
/-- R505, RO. -/
def F.MEM_ECC_CORR : Fld := ⟨0x1700008, 0, 32⟩
/-- R505, RO. -/
def F.MEM_CXL_GIB (p : Nat) : Fld := ⟨0x1700010 + 0x8 * p, 0, 32⟩

/-- Register rows, part 0 (the tables named at the head of this file). -/
def regTable0 : List RegRow := [
  ⟨0x0, 0x0, 1, 0x0, 1, 0x1e6d725600010000, 0x0, 0x0, 0x0, 0x0, 0xffffffffffff0000⟩,  -- GLB_ID, R33
  ⟨0x8, 0x0, 1, 0x0, 1, 0x7, 0x0, 0x0, 0x0, 0x0, 0x7⟩,  -- GLB_TILES, R33
  ⟨0x10, 0x0, 1, 0x0, 1, 0x0, 0x0, 0x0, 0x0, 0x0, 0xffffffff⟩,  -- GLB_CXL_CAP, R33
  ⟨0x20, 0x0, 1, 0x0, 1, 0x0, 0xf7f7, 0x0, 0x0, 0x0, 0x0⟩,  -- GLB_PCIE_EXP, R33
  ⟨0x200000, 0x0, 1, 0x0, 1, 0x4000, 0x0, 0x0, 0x0, 0x0, 0x7fff7fff7fff⟩,  -- PMP_STATUS, R122
  ⟨0x200008, 0x0, 1, 0x0, 1, 0x1f40, 0xffffffff, 0x0, 0x0, 0x0, 0x0⟩,  -- PMP_AFFHOLD, R122
  ⟨0x200010, 0x0, 1, 0x0, 1, 0x1000, 0x3fff, 0x0, 0x0, 0x0, 0x0⟩,  -- PMP_HWRES, R122
  ⟨0x200018, 0x0, 1, 0x0, 1, 0x3e8, 0xffffffff, 0x0, 0x0, 0x0, 0x0⟩,  -- PMP_SLOTWAIT, R122
  ⟨0x200020, 0x0, 1, 0x0, 1, 0x0, 0xffffffff, 0x0, 0x0, 0x0, 0x0⟩,  -- PMP_LATE, R122
  ⟨0x200028, 0x0, 1, 0x0, 1, 0x0, 0x0, 0x0, 0x0, 0x0, 0x7fff⟩,  -- PMP_TIMERS, R122
  ⟨0x200030, 0x0, 1, 0x0, 1, 0x0, 0xff, 0x0, 0x0, 0x0, 0x0⟩,  -- PMP_WSEL, R122
  ⟨0x200038, 0x0, 1, 0x0, 1, 0x0, 0x0, 0x0, 0x0, 0x0, 0x7fff7fff0003⟩,  -- PMP_WINFO, R122
  ⟨0x200040, 0x8, 3, 0x0, 1, 0x0, 0xffffffffffffffff, 0x0, 0x0, 0x0, 0x0⟩,  -- PMP_WOFF0 to 2, R122
  ⟨0x200058, 0x0, 1, 0x0, 1, 0x0, 0xffffff, 0x0, 0x0, 0x0, 0x0⟩,  -- PMP_WOFF3, R122
  ⟨0x200060, 0x0, 1, 0x0, 1, 0x0, 0x3fff, 0x0, 0x0, 0x0, 0x0⟩,  -- PMP_SLOT_SEL, R122
  ⟨0x200068, 0x0, 1, 0x0, 1, 0xff000000000, 0x0, 0x0, 0x0, 0x0, 0xfffffffff0000007⟩,  -- PMP_SLOT_INFO, R122
  ⟨0x200070, 0x0, 1, 0x0, 1, 0x0, 0x0, 0x0, 0x0, 0x0, 0xffffffffffffffff⟩,  -- PMP_SLOT_FLAGS, R122
  ⟨0x200078, 0x0, 1, 0x0, 1, 0x0, 0x0, 0x0, 0x0, 0x0, 0xffffffffffffffff⟩,  -- PMP_SLOT_EXP, R122
  ⟨0x201000, 0x8, 256, 0x0, 1, 0x4000, 0x7fff, 0x0, 0x0, 0x0, 0x7fff0000⟩,  -- PMP_QUOTA, R122
  ⟨0x300000, 0x0, 1, 0x0, 1, 0x0, 0x0, 0x0, 0x1, 0x0, 0x0⟩,  -- EPC_CTRL, R122
  ⟨0x300008, 0x0, 1, 0x0, 1, 0x0, 0x7f, 0x0, 0x0, 0x0, 0x0⟩,  -- EPC_SRC, R122
  ⟨0x300010, 0x0, 1, 0x0, 1, 0x0, 0x1fff000007ff, 0x0, 0x0, 0x0, 0x0⟩,  -- EPC_PTP, R122
  ⟨0x300018, 0x0, 1, 0x0, 1, 0x3e8, 0xfffff, 0x0, 0x0, 0x0, 0x0⟩,  -- EPC_TICK, R122
  ⟨0x300020, 0x0, 1, 0x0, 1, 0x1388, 0xffffffff, 0x0, 0x0, 0x0, 0x0⟩  -- EPC_HOLDOVER, R122
]
/-- Register rows, part 1 (the tables named at the head of this file). -/
def regTable1 : List RegRow := [
  ⟨0x300028, 0x0, 1, 0x0, 1, 0x0, 0x0, 0x0, 0x0, 0x0, 0xffffffffffffffff⟩,  -- EPC_COUNT, R122
  ⟨0x300030, 0x0, 1, 0x0, 1, 0x0, 0x0, 0x80, 0x0, 0x0, 0x77⟩,  -- EPC_STATUS, R122
  ⟨0x300038, 0x0, 1, 0x0, 1, 0x0, 0x0, 0x0, 0x0, 0x0, 0xffffffffffffffff⟩,  -- EPC_OFFSET, R122
  ⟨0x300040, 0x0, 1, 0x0, 1, 0x0, 0xffff, 0x0, 0x0, 0x0, 0x0⟩,  -- EPC_UTC_OFFSET, R122
  ⟨0x300048, 0x0, 1, 0x0, 1, 0x0, 0xffff, 0x0, 0x0, 0x0, 0x0⟩,  -- EPC_YEAR, R122
  ⟨0x300050, 0x0, 1, 0x0, 1, 0x0, 0xffffffffffff, 0x0, 0x0, 0x0, 0x0⟩,  -- EPC_NEXT_SEC, R122
  ⟨0x300058, 0x0, 1, 0x0, 1, 0x3e8, 0xffffffff, 0x0, 0x0, 0x0, 0x0⟩,  -- EPC_LOCKTHR, R122
  ⟨0x300060, 0x0, 1, 0x0, 1, 0x0, 0x0, 0x0, 0x0, 0x0, 0xffffffff⟩,  -- EPC_STEPS, R122
  ⟨0x300068, 0x0, 1, 0x0, 1, 0x0, 0x0, 0x0, 0x0, 0x0, 0xffffffffffffffff⟩,  -- EPC_DROP, R122
  ⟨0x100000, 0x1000, 256, 0x0, 1, 0x0, 0x0, 0x0, 0x0, 0x0, 0xff⟩,  -- PLD_ID, R155
  ⟨0x100008, 0x1000, 256, 0x0, 1, 0x0, 0x0, 0x78, 0x0, 0x0, 0x7⟩,  -- PLD_STATUS, R155
  ⟨0x100040, 0x1000, 256, 0x10, 4, 0x0, 0xfffffffffffff000, 0x0, 0x0, 0x0, 0x0⟩,  -- PLD_SQ_BASE, R155
  ⟨0x100048, 0x1000, 256, 0x10, 4, 0x4, 0x10000001f, 0x0, 0x0, 0x0, 0xffff0000⟩,  -- PLD_SQ_CFG, R155
  ⟨0x100080, 0x1000, 256, 0x0, 1, 0x0, 0xfffffffffffff000, 0x0, 0x0, 0x0, 0x0⟩,  -- PLD_CQ_BASE, R155
  ⟨0x100088, 0x1000, 256, 0x0, 1, 0x200000004, 0x10000001f, 0x0, 0x0, 0x0, 0x2ffff0000⟩,  -- PLD_CQ_CFG, R155
  ⟨0x100090, 0x1000, 256, 0x0, 1, 0x64000000001, 0xffffffff0001ffff, 0x0, 0x0, 0x0, 0x0⟩,  -- PLD_IRQ, R155
  ⟨0x100098, 0x1000, 256, 0x0, 1, 0x0, 0xffffffff, 0x0, 0x0, 0x0, 0x0⟩,  -- PLD_RUNWAIT, R155
  ⟨0x1000a0, 0x1000, 256, 0x0, 1, 0x0, 0x0, 0x0, 0x0, 0x0, 0xffffffffffffffff⟩,  -- PLD_ERRCNT, R155
  ⟨0x100800, 0x1000, 256, 0x0, 1, 0x0, 0x9, 0x0, 0x0, 0x6, 0x0⟩,  -- PLD_CTRL, R155
  ⟨0x100808, 0x1000, 256, 0x0, 1, 0x0, 0x80000001001fffff, 0x0, 0x0, 0x0, 0x0⟩,  -- PLD_PASID, R155
  ⟨0x100810, 0x1000, 256, 0x0, 1, 0xf42400, 0xffffffff, 0x0, 0x0, 0x0, 0x0⟩,  -- PLD_DRAIN_LIMIT, R155
  ⟨0x100818, 0x1000, 256, 0x0, 1, 0x0, 0xfffffffff000, 0x0, 0x0, 0x0, 0x0⟩,  -- PLD_DPT_BASE, R155
  ⟨0x100820, 0x1000, 256, 0x0, 1, 0x0, 0x7fffff, 0x0, 0x0, 0x0, 0x0⟩,  -- PLD_DPT_CFG, R155
  ⟨0x100828, 0x1000, 256, 0x0, 1, 0x0, 0x0, 0x0, 0x0, 0x1, 0x2⟩  -- PLD_DPT_INV, R155
]
/-- Register rows, part 2 (the tables named at the head of this file). -/
def regTable2 : List RegRow := [
  ⟨0x100830, 0x1000, 256, 0x0, 1, 0x0, 0xfff, 0x0, 0x0, 0x0, 0xfff00000000⟩,  -- PLD_QUOTA_CIS, R155
  ⟨0x100838, 0x1000, 256, 0x0, 1, 0x0, 0x3fffff, 0x0, 0x0, 0x0, 0x3fffff00000000⟩,  -- PLD_QUOTA_SES, R155
  ⟨0x100840, 0x1000, 256, 0x0, 1, 0x1, 0x3, 0x0, 0x0, 0x0, 0x0⟩,  -- PLD_HARD, R155
  ⟨0x100848, 0x1000, 256, 0x0, 1, 0x64, 0xffffffff, 0x0, 0x0, 0x0, 0x0⟩,  -- PLD_ENTWAIT, R155
  ⟨0x100850, 0x1000, 256, 0x0, 1, 0x0, 0xfffffffffffff000, 0x0, 0x0, 0x0, 0x0⟩,  -- PLD_DIRTY_BASE, R155
  ⟨0x100858, 0x1000, 256, 0x0, 1, 0x0, 0xffffffffffff8000, 0x0, 0x0, 0x0, 0x0⟩,  -- PLD_DIRTY_LIMIT, R155
  ⟨0x100860, 0x1000, 256, 0x0, 1, 0x0, 0xfffffffffffff000, 0x0, 0x0, 0x0, 0x0⟩,  -- PLD_DIRTY_NEXT, R155
  ⟨0x100868, 0x1000, 256, 0x0, 1, 0x0, 0x1, 0xc, 0x0, 0x2, 0x0⟩,  -- PLD_DIRTY_CTRL, R155
  ⟨0xb00000, 0x0, 1, 0x0, 1, 0x0, 0x0, 0x0, 0x0, 0x0, 0x7fff⟩,  -- ENG_JOBS, R187
  ⟨0xb00008, 0x0, 1, 0x0, 1, 0x0, 0x0, 0x8000000000000000, 0x0, 0x0, 0xffffe000003fff⟩,  -- ENG_FAULT, R187
  ⟨0xb00010, 0x0, 1, 0x0, 1, 0x0, 0x0, 0x0, 0x0, 0x0, 0xffffffff⟩,  -- ENG_MALFORMED, R187
  ⟨0xb00018, 0x0, 1, 0x0, 1, 0x0, 0x0, 0x0, 0x0, 0x0, 0xffffffff⟩,  -- ENG_RNGWAIT, R187
  ⟨0xb00100, 0x0, 1, 0x0, 1, 0xffffffff, 0xffffffff, 0x0, 0x0, 0x0, 0x0⟩,  -- ENG_ONLINE[0], R187
  ⟨0xb00140, 0x0, 1, 0x0, 1, 0xf, 0xf, 0x0, 0x0, 0x0, 0x0⟩,  -- ENG_ONLINE[1], R187
  ⟨0xb00180, 0x0, 1, 0x0, 1, 0xffff, 0xffff, 0x0, 0x0, 0x0, 0x0⟩,  -- ENG_ONLINE[2], R187
  ⟨0xb00200, 0x0, 1, 0x0, 1, 0xffff, 0xffff, 0x0, 0x0, 0x0, 0x0⟩,  -- ENG_ONLINE[4], R187
  ⟨0xb00108, 0x40, 3, 0x0, 1, 0x0, 0x0, 0x0, 0x0, 0x0, 0xffffffff⟩,  -- ENG_BUSY[0] to [2], R187
  ⟨0xb00208, 0x0, 1, 0x0, 1, 0x0, 0x0, 0x0, 0x0, 0x0, 0xffffffff⟩,  -- ENG_BUSY[4], R187
  ⟨0xb00110, 0x40, 3, 0x0, 1, 0x0, 0x0, 0x0, 0x0, 0x0, 0x7fff⟩,  -- ENG_QUEUED[0] to [2], R187
  ⟨0xb00210, 0x0, 1, 0x0, 1, 0x0, 0x0, 0x0, 0x0, 0x0, 0x7fff⟩,  -- ENG_QUEUED[4], R187
  ⟨0xb00118, 0x40, 3, 0x0, 1, 0x0, 0x0, 0x0, 0x0, 0x0, 0xffffffffffffffff⟩,  -- ENG_COMPLETED[0] to [2], R187
  ⟨0xb00218, 0x0, 1, 0x0, 1, 0x0, 0x0, 0x0, 0x0, 0x0, 0xffffffffffffffff⟩,  -- ENG_COMPLETED[4], R187
  ⟨0xb00120, 0x40, 3, 0x0, 1, 0x0, 0x0, 0x0, 0x0, 0x0, 0xffffffffffffffff⟩,  -- ENG_HELD[0] to [2], R187
  ⟨0xb00220, 0x0, 1, 0x0, 1, 0x0, 0x0, 0x0, 0x0, 0x0, 0xffffffffffffffff⟩,  -- ENG_HELD[4], R187
  ⟨0xa00000, 0x0, 1, 0x0, 1, 0x0, 0x0, 0x0, 0x0, 0x0, 0x7fff003f01ff⟩,  -- DIG_STATUS, R217
  ⟨0xa00008, 0x0, 1, 0x0, 1, 0x10, 0x1ff, 0x0, 0x0, 0x0, 0x0⟩,  -- DIG_HWRES, R217
  ⟨0xa00010, 0x0, 1, 0x0, 1, 0x3e8, 0xffffffff, 0x0, 0x0, 0x0, 0x0⟩,  -- DIG_IDLE, R217
  ⟨0xa00018, 0x0, 1, 0x0, 1, 0x40, 0x7ff, 0x0, 0x0, 0x0, 0x0⟩,  -- DIG_LMS_RESERVE, R217
  ⟨0xa00020, 0x0, 1, 0x0, 1, 0x4000, 0xffffffff, 0x0, 0x0, 0x0, 0x0⟩,  -- DIG_LMS_LOW, R217
  ⟨0xa00028, 0x0, 1, 0x0, 1, 0x0, 0x0, 0x8000000000000000, 0x0, 0x0, 0x3fff⟩,  -- DIG_LOWSLOT, R217
  ⟨0xa00030, 0x0, 1, 0x0, 1, 0x0, 0x0, 0x1, 0x0, 0x0, 0x0⟩  -- DIG_ERR, R217
]
/-- Register rows, part 3 (the tables named at the head of this file). -/
def regTable3 : List RegRow := [
  ⟨0xa00038, 0x0, 1, 0x0, 1, 0x0, 0x0, 0x0, 0x0, 0x0, 0xffffffff⟩,  -- DIG_TRUNC, R217
  ⟨0xa00040, 0x0, 1, 0x0, 1, 0x0, 0x0, 0x0, 0x0, 0x0, 0xffffffff⟩,  -- DIG_SHORT, R217
  ⟨0xa00048, 0x0, 1, 0x0, 1, 0x0, 0x0, 0x8000000000000000, 0x0, 0x0, 0xffff00000000ff⟩,  -- DIG_FAULT, R217
  ⟨0xa00050, 0x0, 1, 0x0, 1, 0xffffffff, 0xffffffff, 0x0, 0x0, 0x0, 0x0⟩,  -- DIG_CORE_ONLINE, R217
  ⟨0xa00058, 0x0, 1, 0x0, 1, 0x0, 0x0, 0x0, 0x0, 0x0, 0xffffffffffffffff⟩,  -- DIG_COMPLETED, R217
  ⟨0xa01000, 0x8, 256, 0x0, 1, 0x20, 0x1ff, 0x0, 0x0, 0x0, 0x1ff00000000⟩,  -- DIG_QUOTA, R217
  ⟨0x800000, 0x0, 1, 0x0, 1, 0x0, 0x0, 0x700000, 0x0, 0x0, 0x7fff0181ffff⟩,  -- KST_STATUS, R239
  ⟨0x800008, 0x0, 1, 0x0, 1, 0x0, 0x0, 0x0, 0x0, 0x0, 0xffffffffffffffff⟩,  -- KST_ERR, R239
  ⟨0x800010, 0x0, 1, 0x0, 1, 0x0, 0x3fff, 0x0, 0x0, 0x0, 0x0⟩,  -- KST_SEL, R239
  ⟨0x800018, 0x0, 1, 0x0, 1, 0x0, 0x0, 0x0, 0x0, 0x0, 0xffffffffffffffff⟩,  -- KST_INFO, R239
  ⟨0x800020, 0x0, 1, 0x0, 1, 0x0, 0x0, 0x0, 0x0, 0x0, 0xffffffffffffffff⟩,  -- KST_EXPIRY, R239
  ⟨0x801000, 0x8, 256, 0x0, 1, 0x0, 0x7fff, 0x0, 0x0, 0x0, 0x7fff0000⟩,  -- KST_QUOTA, R239
  ⟨0x801800, 0x8, 256, 0x0, 1, 0x14000, 0x1ffff, 0x0, 0x0, 0x0, 0x1ffff00000000⟩,  -- KST_GQUOTA, R239
  ⟨0x802000, 0x8, 256, 0x0, 1, 0x0, 0x8000000000003fff, 0x0, 0x0, 0x0, 0x4000000000000000⟩,  -- KST_RCPT, R239
  ⟨0x700000, 0x0, 1, 0x0, 1, 0x0, 0xc, 0x0, 0x1, 0x2, 0x0⟩,  -- RNG_CTRL, R240
  ⟨0x700008, 0x0, 1, 0x0, 1, 0x0, 0x0, 0x20, 0x0, 0x0, 0xffff1f⟩,  -- RNG_STATUS, R240
  ⟨0x700010, 0x0, 1, 0x0, 1, 0x0, 0xff, 0x0, 0x0, 0x0, 0x0⟩,  -- RNG_SRC_CTRL, R240
  ⟨0x700018, 0x0, 1, 0x0, 1, 0x0, 0x0, 0x0, 0x0, 0x0, 0xffffffffffffffff⟩,  -- RNG_HEALTH, R240
  ⟨0x700020, 0x0, 1, 0x0, 1, 0x3e8, 0xffffffff, 0x0, 0x0, 0x0, 0x0⟩,  -- RNG_STALL_LIMIT, R240
  ⟨0x700028, 0x0, 1, 0x0, 1, 0x10000, 0x1fffff, 0x0, 0x0, 0x0, 0x0⟩,  -- RNG_INT_RESEED, R240
  ⟨0x700030, 0x0, 1, 0x0, 1, 0x10000, 0x1fffff, 0x0, 0x0, 0x0, 0x0⟩,  -- RNG_TEN_RESEED, R240
  ⟨0x700038, 0x0, 1, 0x0, 1, 0x0, 0x0, 0x0, 0x0, 0x0, 0x7fff000001ff⟩,  -- RNG_WAITING, R240
  ⟨0x700040, 0x0, 1, 0x0, 1, 0x0, 0x0, 0x0, 0x0, 0x0, 0xffffffffffffffff⟩,  -- RNG_DENIED, R240
  ⟨0x700048, 0x0, 1, 0x0, 1, 0x0, 0x0, 0x0, 0x0, 0x0, 0xffffffffffffffff⟩  -- RNG_OUTPUT, R240
]
/-- Register rows, part 4 (the tables named at the head of this file). -/
def regTable4 : List RegRow := [
  ⟨0x900000, 0x0, 1, 0x0, 1, 0x0, 0x1d, 0x0, 0x0, 0x300, 0x0⟩,  -- MCS_CTRL, R265
  ⟨0x900008, 0x0, 1, 0x0, 1, 0x0, 0xffffffffffc0, 0x0, 0x0, 0x0, 0x0⟩,  -- MCS_LOAD_ADDR, R265
  ⟨0x900010, 0x0, 1, 0x0, 1, 0x0, 0xffffffff, 0x0, 0x0, 0x0, 0x0⟩,  -- MCS_LOAD_LEN, R265
  ⟨0x900018, 0x0, 1, 0x0, 1, 0x0, 0x0, 0x12, 0x0, 0x0, 0xffffec⟩,  -- MCS_STATUS, R265
  ⟨0x900020, 0x0, 1, 0x0, 1, 0x10000, 0xffffffff, 0x0, 0x0, 0x0, 0x0⟩,  -- MCS_YIELD_LIMIT, R265
  ⟨0x901000, 0x400, 5, 0x0, 1, 0x0, 0x0, 0x0, 0x0, 0x0, 0xffffffff⟩,  -- MCS_PATCH_VERSION, R265
  ⟨0x901008, 0x400, 5, 0x0, 1, 0x0, 0x0, 0x0, 0x0, 0x0, 0xffffffff⟩,  -- MCS_CUST_VERSION, R265
  ⟨0x901010, 0x400, 5, 0x0, 1, 0x0, 0x0, 0x0, 0x0, 0x0, 0xffffffff⟩,  -- MCS_CUST_FLOOR, R265
  ⟨0x901018, 0x400, 5, 0x0, 1, 0x0, 0x0, 0x0, 0x0, 0x0, 0x3ffff⟩,  -- MCS_STATE, R265
  ⟨0x901020, 0x400, 5, 0x8, 4, 0x0, 0x0, 0x0, 0x0, 0x0, 0xffffffffffffffff⟩,  -- MCS_PATCH_DIGEST, R265
  ⟨0x901040, 0x400, 5, 0x8, 4, 0x0, 0x0, 0x0, 0x0, 0x0, 0xffffffffffffffff⟩,  -- MCS_CUST_DIGEST, R265
  ⟨0x901060, 0x400, 5, 0x8, 2, 0x0, 0x0, 0x0, 0x0, 0x0, 0xffffffffffffffff⟩,  -- MCS_PUBMAP, R265
  ⟨0x901070, 0x400, 5, 0x0, 1, 0x0, 0x0, 0x0, 0x0, 0x0, 0xffffffff⟩,  -- MCS_CERR, R265
  ⟨0x901100, 0x400, 5, 0x8, 32, 0x0, 0x0, 0x0, 0x0, 0x0, 0x8000ffff0000ffff⟩,  -- MCS_MATCH, R265
  ⟨0xc00000, 0x0, 1, 0x0, 1, 0x0, 0x0, 0x100000000, 0x0, 0x0, 0xffffffff⟩,  -- NET_STATUS, R295
  ⟨0xc00100, 0x8, 32, 0x0, 1, 0x5dc0080, 0x3fff03ff, 0x0, 0x0, 0x0, 0x0⟩,  -- NET_PORT_CFG, R295
  ⟨0xc00200, 0x8, 32, 0x0, 1, 0x0, 0x0, 0x0, 0x0, 0x0, 0xffffffffffffffff⟩,  -- NET_PORT_STAT, R295
  ⟨0xc01000, 0x20, 64, 0x0, 1, 0x0, 0xffffffffffffffff, 0x0, 0x0, 0x0, 0x0⟩,  -- NET_ADDR_HI, R295
  ⟨0xc01008, 0x20, 64, 0x0, 1, 0x0, 0xffffffffffffffff, 0x0, 0x0, 0x0, 0x0⟩,  -- NET_ADDR_LO, R295
  ⟨0xc01010, 0x20, 64, 0x0, 1, 0x0, 0xe000fff0ff000000, 0x0, 0x0, 0x0, 0x0⟩,  -- NET_ADDR_CFG, R295
  ⟨0xc01018, 0x20, 64, 0x0, 1, 0x0, 0xffffffff, 0x0, 0x0, 0x0, 0x0⟩,  -- NET_ADDR_PORTS, R295
  ⟨0xc02000, 0x0, 1, 0x0, 1, 0x0, 0xfff, 0x0, 0x0, 0x0, 0x0⟩,  -- NET_RL_SEL, R295
  ⟨0xc02008, 0x0, 1, 0x0, 1, 0x0, 0xffffffffffffffff, 0x0, 0x0, 0x0, 0x0⟩,  -- NET_RL_HI, R295
  ⟨0xc02010, 0x0, 1, 0x0, 1, 0x0, 0xffffffffffffffff, 0x0, 0x0, 0x0, 0x0⟩  -- NET_RL_LO, R295
]
/-- Register rows, part 5 (the tables named at the head of this file). -/
def regTable5 : List RegRow := [
  ⟨0xc02018, 0x0, 1, 0x0, 1, 0x0, 0xc07fffffffffffff, 0x0, 0x0, 0x0, 0x0⟩,  -- NET_RL_CFG, R295
  ⟨0xc03000, 0x8, 16, 0x0, 1, 0x0, 0x0, 0x0, 0x0, 0x0, 0xffffffffffffffff⟩,  -- NET_DROP, R295
  ⟨0xd00000, 0x0, 1, 0x0, 1, 0x0, 0x1, 0x0, 0x0, 0x0, 0x0⟩,  -- SES_CTRL, R296
  ⟨0xd00008, 0x0, 1, 0x0, 1, 0x0, 0x0, 0x0, 0x0, 0x0, 0x3fffff0003ffff⟩,  -- SES_STATUS, R296
  ⟨0xd00010, 0x0, 1, 0x0, 1, 0x0, 0x0, 0x1, 0x0, 0x0, 0xfffffffffffffffe⟩,  -- SES_ERR, R296
  ⟨0xd00018, 0x0, 1, 0x0, 1, 0x2710, 0xffffffff, 0x0, 0x0, 0x0, 0x0⟩,  -- SES_COOKIE, R296
  ⟨0xd00020, 0x0, 1, 0x0, 1, 0x82803e8ea6003e8, 0xffffffffffffffff, 0x0, 0x0, 0x0, 0x0⟩,  -- SES_TCP, R296
  ⟨0xd00028, 0x0, 1, 0x0, 1, 0x0, 0x0, 0x0, 0x0, 0x0, 0xffffffffffffffff⟩,  -- SES_MISS, R296
  ⟨0xd00040, 0x8, 4, 0x0, 1, 0x0, 0xffff01ff, 0x0, 0x0, 0x0, 0x0⟩,  -- SES_PRIVGRP, R296
  ⟨0xd01000, 0x20, 256, 0x0, 1, 0x0, 0xffffffffffe0ffff, 0x0, 0x0, 0x0, 0x0⟩,  -- SES_LSN_A, R296
  ⟨0xd01008, 0x20, 256, 0x0, 1, 0x927c000007530, 0xffffffffffffffff, 0x0, 0x0, 0x0, 0x0⟩,  -- SES_LSN_B, R296
  ⟨0xd01010, 0x20, 256, 0x0, 1, 0x70f000000000042, 0xffff000000000077, 0x0, 0x0, 0x0, 0x0⟩,  -- SES_LSN_C, R296
  ⟨0xd04000, 0x40, 256, 0x0, 1, 0x0, 0x800000003fff3fff, 0x0, 0x0, 0x0, 0x0⟩,  -- SES_PLD_RSLOT, R296
  ⟨0xd04008, 0x40, 256, 0x0, 1, 0x0, 0xfffffffff000, 0x0, 0x0, 0x0, 0x0⟩,  -- SES_PLD_OVF, R296
  ⟨0xd04010, 0x40, 256, 0x0, 1, 0x0, 0xffffff, 0x0, 0x0, 0x0, 0xffffff00000000⟩,  -- SES_PLD_OVFCFG, R296
  ⟨0xd04018, 0x40, 256, 0x0, 1, 0x0, 0xfffffffffffff01f, 0x0, 0x0, 0x0, 0x0⟩,  -- SES_PLD_HOST, R296
  ⟨0xe00000, 0x0, 1, 0x0, 1, 0x0, 0x0, 0x1, 0x0, 0x0, 0x1fff0000000e⟩,  -- COL_STATUS, R345
  ⟨0xe00008, 0x0, 1, 0x0, 1, 0x0, 0xffffffe00000, 0x0, 0x0, 0x0, 0x0⟩,  -- COL_HBM_BASE, R345
  ⟨0xe00010, 0x0, 1, 0x0, 1, 0x0, 0xffffffe00000, 0x0, 0x0, 0x0, 0x0⟩,  -- COL_HBM_LIMIT, R345
  ⟨0xe00018, 0x0, 1, 0x0, 1, 0x0, 0x0, 0x0, 0x0, 0x0, 0xffffffffffffffff⟩,  -- COL_USE, R345
  ⟨0xe00020, 0x0, 1, 0x0, 1, 0x200, 0x1ffff, 0x0, 0x0, 0x0, 0x0⟩,  -- COL_LOWWM, R345
  ⟨0xe00028, 0x0, 1, 0x0, 1, 0x0, 0x0, 0x0, 0x0, 0x0, 0xffffffffffffffff⟩,  -- COL_ERRCNT, R345
  ⟨0xe01000, 0x20, 256, 0x0, 1, 0x0, 0x1fff, 0x0, 0x0, 0x0, 0x1fff00000000⟩,  -- COL_QUOTA_T, R345
  ⟨0xe01008, 0x20, 256, 0x0, 1, 0x0, 0x1ffff, 0x0, 0x0, 0x0, 0x1ffff00000000⟩  -- COL_QUOTA_H, R345
]
/-- Register rows, part 6 (the tables named at the head of this file). -/
def regTable6 : List RegRow := [
  ⟨0xe01010, 0x20, 256, 0x0, 1, 0x0, 0x3fffff, 0x0, 0x0, 0x0, 0x3fffff00000000⟩,  -- COL_QUOTA_X, R345
  ⟨0x1000000, 0x0, 1, 0x0, 1, 0x0, 0x0, 0x0, 0x0, 0x0, 0x7fff000000ff⟩,  -- CMP_STATUS, R346
  ⟨0x1000008, 0x0, 1, 0x0, 1, 0xff, 0xff, 0x0, 0x0, 0x0, 0x0⟩,  -- CMP_ONLINE, R346
  ⟨0x1000010, 0x0, 1, 0x0, 1, 0x0, 0x0, 0x8000000000000000, 0x0, 0x0, 0xffff0000003fff⟩,  -- CMP_FAULT, R346
  ⟨0x1000018, 0x0, 1, 0x0, 1, 0x0, 0x0, 0x0, 0x0, 0x0, 0xffffffffffffffff⟩,  -- CMP_COMPLETED, R346
  ⟨0x1000020, 0x0, 1, 0x0, 1, 0x0, 0x0, 0x0, 0x0, 0x0, 0xffffffffffffffff⟩,  -- CMP_ERR, R346
  ⟨0x1000028, 0x0, 1, 0x0, 1, 0x0, 0x0, 0x0, 0x0, 0x0, 0xffffffffffffffff⟩,  -- CMP_BYTES, R346
  ⟨0xf00000, 0x0, 1, 0x0, 1, 0x0, 0x0, 0x1, 0x0, 0x0, 0xffff00000000⟩,  -- OPU_STATUS, R373
  ⟨0xf00008, 0x0, 1, 0x0, 1, 0x1, 0x3, 0x0, 0x0, 0x0, 0x0⟩,  -- OPU_CIS_MODE, R373
  ⟨0xf00010, 0x0, 1, 0x0, 1, 0x1, 0x0, 0x0, 0x0, 0x0, 0xb⟩,  -- OPU_CIS_STATUS, R373
  ⟨0xf00018, 0x0, 1, 0x0, 1, 0x0, 0x0, 0x0, 0x0, 0x0, 0xfff0fff0fff⟩,  -- OPU_CIS_USE, R373
  ⟨0xf00020, 0x0, 1, 0x0, 1, 0x0, 0x0, 0x8000000000000000, 0x0, 0x0, 0xffff0000003fff⟩,  -- OPU_FAULT, R373
  ⟨0xf00028, 0x0, 1, 0x0, 1, 0x0, 0x0, 0x0, 0x0, 0x0, 0xffffffffffffffff⟩,  -- OPU_SKIPPED, R373
  ⟨0xf00030, 0x0, 1, 0x0, 1, 0x0, 0x0, 0x0, 0x0, 0x0, 0xffffffffffffffff⟩,  -- OPU_BYTES, R373
  ⟨0xf00038, 0x0, 1, 0x0, 1, 0x0, 0x0, 0x0, 0x0, 0x0, 0xffffffffffffffff⟩,  -- OPU_WAITS, R373
  ⟨0x400000, 0x0, 1, 0x0, 1, 0x0, 0x0, 0x3, 0x0, 0x0, 0x7ff00000000⟩,  -- DKE_STATUS, R418
  ⟨0x400008, 0x0, 1, 0x0, 1, 0x0, 0x0, 0x0, 0x0, 0x1, 0x0⟩,  -- DKE_GEN_CTRL, R418
  ⟨0x400010, 0x0, 1, 0x0, 1, 0x20000, 0x0, 0x0, 0x0, 0x0, 0xffff0003ffff⟩,  -- DKE_GEN_STATUS, R418
  ⟨0x400018, 0x0, 1, 0x0, 1, 0x0, 0x0, 0x0, 0x0, 0x1f0ff, 0x0⟩,  -- DKE_THAW, R418
  ⟨0x400020, 0x0, 1, 0x0, 1, 0x0, 0x0, 0x0, 0x0, 0x1, 0x0⟩,  -- DKE_NTC_POP, R418
  ⟨0x400028, 0x8, 4, 0x0, 1, 0x0, 0x0, 0x0, 0x0, 0x0, 0xffffffffffffffff⟩,  -- DKE_NTC, R418
  ⟨0x400048, 0x0, 1, 0x0, 1, 0x0, 0x0, 0x0, 0x0, 0x0, 0xffffffffffffffff⟩,  -- DKE_REFUSED, R418
  ⟨0x401000, 0x10, 64, 0x0, 1, 0x0, 0x803ffffffffff000, 0x0, 0x0, 0x0, 0x0⟩,  -- DKE_GRGN_ADDR, R418
  ⟨0x401008, 0x10, 64, 0x0, 1, 0x0, 0xffffff, 0x0, 0x0, 0x0, 0x0⟩  -- DKE_GRGN_ATTR, R418
]
/-- Register rows, part 7 (the tables named at the head of this file). -/
def regTable7 : List RegRow := [
  ⟨0x410000, 0x400, 256, 0x10, 64, 0x0, 0x803ffffffffff000, 0x0, 0x0, 0x0, 0x0⟩,  -- DKE_PRGN_ADDR, R418
  ⟨0x410008, 0x400, 256, 0x10, 64, 0x0, 0xffffff, 0x0, 0x0, 0x0, 0x0⟩,  -- DKE_PRGN_ATTR, R418
  ⟨0x500000, 0x0, 1, 0x0, 1, 0x0, 0x0, 0x1fffffffff, 0x0, 0x0, 0x0⟩,  -- FCL_STATUS, R433
  ⟨0x500008, 0x0, 1, 0x0, 1, 0x0, 0x0, 0x1fffffffff, 0x0, 0x0, 0x0⟩,  -- FCL_STICKY, R433
  ⟨0x500010, 0x0, 1, 0x0, 1, 0x1111111111111111, 0x7777777777777777, 0x0, 0x0, 0x0, 0x0⟩,  -- FCL_REACT0, R433
  ⟨0x500018, 0x0, 1, 0x0, 1, 0x4111111111111111, 0x7777777777777777, 0x0, 0x0, 0x0, 0x0⟩,  -- FCL_REACT1, R433
  ⟨0x500020, 0x0, 1, 0x0, 1, 0x11411, 0x77777, 0x0, 0x0, 0x0, 0x0⟩,  -- FCL_REACT2, R433
  ⟨0x500028, 0x0, 1, 0x0, 1, 0x0, 0x0, 0x0, 0x0, 0x0, 0x0⟩,  -- FCL_REACT3, R433
  ⟨0x500030, 0x0, 1, 0x0, 1, 0x482000005, 0x1fffffffff, 0x0, 0x0, 0x0, 0x0⟩,  -- FCL_ERRN_EN, R433
  ⟨0x500038, 0x0, 1, 0x0, 1, 0x0, 0x0, 0x1, 0x0, 0x0, 0x0⟩,  -- FCL_ERRN, R433
  ⟨0x500040, 0x0, 1, 0x0, 1, 0x0, 0x0, 0x0, 0x0, 0x0, 0x1ff⟩,  -- FCL_CTRL_STATUS, R433
  ⟨0x500048, 0x0, 1, 0x0, 1, 0x0, 0x0, 0x8000000000000000, 0x0, 0x0, 0xffffffff⟩,  -- FCL_LOST, R433
  ⟨0x500050, 0x0, 1, 0x0, 1, 0x0, 0x0, 0x0, 0x0, 0x1, 0x0⟩,  -- FCL_REC_POP, R433
  ⟨0x500058, 0x8, 4, 0x0, 1, 0x0, 0x0, 0x0, 0x0, 0x0, 0xffffffffffffffff⟩,  -- FCL_REC, R433
  ⟨0x500078, 0x0, 1, 0x0, 1, 0x0, 0x0, 0x0, 0x0, 0x0, 0x1⟩,  -- FCL_BLKRST, R433
  ⟨0x600000, 0x0, 1, 0x0, 1, 0x1, 0x1, 0x0, 0x0, 0x0, 0x0⟩,  -- TST_CTRL, R434
  ⟨0x600008, 0x0, 1, 0x0, 1, 0x0, 0x0, 0x0, 0x0, 0x0, 0x7ff⟩,  -- TST_OVERDUE, R434
  ⟨0x600010, 0x0, 1, 0x0, 1, 0x0, 0x0, 0x8000000000000000, 0x0, 0x0, 0xf00ff⟩,  -- TST_FAIL, R434
  ⟨0x600018, 0x0, 1, 0x0, 1, 0x0, 0x0, 0x0, 0x0, 0x0, 0xffffffff⟩,  -- TST_ABANDON, R434
  ⟨0x600100, 0x8, 11, 0x0, 1, 0x36ee80, 0xffffffff, 0x0, 0x0, 0x0, 0x0⟩,  -- TST_INTERVAL, R434
  ⟨0x600200, 0x8, 11, 0x0, 1, 0x0, 0x0, 0x0, 0x0, 0x0, 0xffffffffffffffff⟩,  -- TST_LAST, R434
  ⟨0x600300, 0x8, 16, 0x0, 1, 0x10, 0x0, 0x0, 0x0, 0x0, 0x11f⟩,  -- TST_BANK, R434
  ⟨0x1100000, 0x0, 1, 0x0, 1, 0x0, 0x0, 0x0, 0x0, 0x0, 0x1ff07⟩,  -- LCS_STATE, R459
  ⟨0x1100008, 0x8, 2, 0x0, 1, 0x0, 0x0, 0x0, 0x0, 0x0, 0xffffffffffffffff⟩  -- LCS_UNIT_ID, R459
]
/-- Register rows, part 8 (the tables named at the head of this file). -/
def regTable8 : List RegRow := [
  ⟨0x1100018, 0x0, 1, 0x0, 1, 0x0, 0x0, 0x0, 0x0, 0x3, 0x0⟩,  -- LCS_CTRL, R459
  ⟨0x1100020, 0x8, 4, 0x0, 1, 0x0, 0x0, 0x0, 0x0, 0x0, 0xffffffffffffffff⟩,  -- LCS_NONCE, R459
  ⟨0x1100040, 0x0, 1, 0x0, 1, 0x0, 0xfffffffffff8, 0x0, 0x0, 0x0, 0x0⟩,  -- LCS_REQ_ADDR, R459
  ⟨0x1100048, 0x0, 1, 0x0, 1, 0x0, 0xffff, 0x0, 0x0, 0x0, 0x0⟩,  -- LCS_REQ_LEN, R459
  ⟨0x1100050, 0x0, 1, 0x0, 1, 0x0, 0x0, 0x9, 0x0, 0x0, 0xffff06⟩,  -- LCS_STATUS, R459
  ⟨0x1100058, 0x0, 1, 0x0, 1, 0x0, 0x0, 0x0, 0x0, 0x0, 0xffff000000000f03⟩,  -- LCS_DBG, R459
  ⟨0x1100060, 0x0, 1, 0x0, 1, 0x0, 0x0, 0x0, 0x0, 0x0, 0xffffffffffffffff⟩,  -- LCS_DBG_EXP, R459
  ⟨0x1100068, 0x0, 1, 0x0, 1, 0x0, 0x0, 0x0, 0x0, 0x0, 0xffffffffffffffff⟩,  -- LCS_DBG_SEQ, R459
  ⟨0x1100070, 0x8, 4, 0x0, 1, 0x0, 0x0, 0x0, 0x0, 0x0, 0xffffffffffffffff⟩,  -- LCS_DBG_POLDER, R459
  ⟨0x1100090, 0x0, 1, 0x0, 1, 0x0, 0x0, 0x0, 0x0, 0x0, 0xffffffff⟩,  -- LCS_IDGEN, R459
  ⟨0x1200000, 0x0, 1, 0x0, 1, 0x0, 0x0, 0x803ff, 0x0, 0x0, 0x70000⟩,  -- TMP_STATUS, R460
  ⟨0x1200008, 0x0, 1, 0x0, 1, 0x1331412222, 0xffffffffff, 0x0, 0x0, 0x0, 0x0⟩,  -- TMP_RESP, R460
  ⟨0x1200010, 0x0, 1, 0x0, 1, 0x0, 0xf00, 0x0, 0x0, 0x3, 0x0⟩,  -- TMP_CTRL, R460
  ⟨0x1200018, 0x0, 1, 0x0, 1, 0x0, 0x0, 0x0, 0x0, 0x0, 0x3ff03ff⟩,  -- TMP_SELF, R460
  ⟨0x1300000, 0x0, 1, 0x0, 1, 0xc, 0xf, 0x0, 0x0, 0x0, 0x0⟩,  -- EMB_CFG, R461
  ⟨0x1300008, 0x0, 1, 0x0, 1, 0x3, 0x0, 0x89, 0x0, 0x0, 0x6⟩,  -- EMB_STATUS, R461
  ⟨0x1300010, 0x0, 1, 0x0, 1, 0x0, 0x0, 0x0, 0x0, 0x0, 0xffffffffffff⟩,  -- EMB_TS, R461
  ⟨0x1300018, 0x0, 1, 0x0, 1, 0x0, 0x0, 0x0, 0x0, 0x0, 0xf⟩,  -- EMB_LOGCNT, R461
  ⟨0x1300020, 0x8, 8, 0x0, 1, 0x0, 0x0, 0x0, 0x0, 0x0, 0xffffffffffffffff⟩,  -- EMB_LOG, R461
  ⟨0x1300060, 0x0, 1, 0x0, 1, 0x0, 0x0, 0x0, 0x0, 0x1, 0x0⟩,  -- EMB_LOG_CLR, R461
  ⟨0x1400000, 0x0, 1, 0x0, 1, 0x0, 0x0, 0xc000, 0x0, 0x0, 0x1f3ff7⟩,  -- CRD_STATUS, R476
  ⟨0x1400008, 0x0, 1, 0x0, 1, 0xe08, 0xf8d, 0x0, 0x0, 0x2, 0x0⟩,  -- CRD_CTRL, R476
  ⟨0x1400010, 0x0, 1, 0x0, 1, 0x0, 0x0, 0x0, 0x0, 0xffffffffffc0, 0x0⟩,  -- CRD_SUBMIT, R476
  ⟨0x1400018, 0x0, 1, 0x0, 1, 0x0, 0xffffffff, 0x0, 0x0, 0x0, 0x0⟩  -- CRD_JNL_BASE, R476
]
/-- Register rows, part 9 (the tables named at the head of this file). -/
def regTable9 : List RegRow := [
  ⟨0x1400020, 0x0, 1, 0x0, 1, 0x0, 0xffffffff, 0x0, 0x0, 0x0, 0x0⟩,  -- CRD_JNL_LEN, R476
  ⟨0x1400028, 0x0, 1, 0x0, 1, 0x0, 0x0, 0x0, 0x0, 0x0, 0xffffffff⟩,  -- CRD_JNL_NEXT, R476
  ⟨0x1400030, 0x0, 1, 0x0, 1, 0x0, 0x0, 0x0, 0x0, 0x0, 0xffffffffffffffff⟩,  -- CRD_JNL_SEQ, R476
  ⟨0x1400038, 0x0, 1, 0x0, 1, 0x0, 0xffffffff, 0x0, 0x0, 0x0, 0x0⟩,  -- CRD_RPA_BASE, R476
  ⟨0x1400040, 0x0, 1, 0x0, 1, 0x64000927c0, 0xffffffffffffffff, 0x0, 0x0, 0x0, 0x0⟩,  -- CRD_TIMERS, R476
  ⟨0x1400048, 0x0, 1, 0x0, 1, 0x0, 0x0, 0x0, 0x0, 0x0, 0xffffffffffffffff⟩,  -- CRD_ERRCNT, R476
  ⟨0x1400050, 0x0, 1, 0x0, 1, 0x0, 0x0, 0x0, 0x0, 0x0, 0xffffffffffffffff⟩,  -- CRD_BIND, R476
  ⟨0x1500000, 0x0, 1, 0x0, 1, 0x0, 0x0, 0x10000, 0x0, 0x0, 0xffff⟩,  -- PER_STATUS, R490
  ⟨0x1500008, 0x0, 1, 0x0, 1, 0x1000003e8, 0xffffffffff, 0x0, 0x0, 0x0, 0x0⟩,  -- PER_EPC, R490
  ⟨0x1500010, 0x0, 1, 0x0, 1, 0x0, 0x1, 0x0, 0x0, 0x0, 0x0⟩,  -- PER_CTRL, R490
  ⟨0x1501000, 0x100, 16, 0x0, 1, 0x0, 0x5, 0x0, 0x0, 0x2, 0x0⟩,  -- PER_CFG, R490
  ⟨0x1501008, 0x100, 16, 0x0, 1, 0x0, 0x0, 0x8, 0x0, 0x0, 0xff7⟩,  -- PER_LSTAT, R490
  ⟨0x1501010, 0x100, 16, 0x8, 4, 0x0, 0xffffffffffffffff, 0x0, 0x0, 0x0, 0x0⟩,  -- PER_PEERKEY, R490
  ⟨0x1501030, 0x100, 16, 0x8, 2, 0x0, 0x0, 0x0, 0x0, 0x0, 0xffffffffffffffff⟩,  -- PER_PEERID, R490
  ⟨0x1501040, 0x100, 16, 0x0, 1, 0x0, 0x0, 0x0, 0x0, 0x0, 0xffffffffffffffff⟩,  -- PER_ERR, R490
  ⟨0x1501048, 0x100, 16, 0x0, 1, 0x0, 0x0, 0x0, 0x0, 0x0, 0xffffffffffffffff⟩,  -- PER_CRC, R490
  ⟨0x1501050, 0x100, 16, 0x0, 1, 0x0, 0x0, 0x8000000000000000, 0x0, 0x0, 0xffffffff⟩,  -- PER_EPCDIFF, R490
  ⟨0x1501058, 0x100, 16, 0x0, 1, 0x0, 0x0, 0x0, 0x0, 0xffffffffffc0, 0x0⟩,  -- PER_TX, R490
  ⟨0x1501060, 0x100, 16, 0x0, 1, 0x0, 0xffffff000007, 0x0, 0x0, 0x0, 0x0⟩,  -- PER_RX_BASE, R490
  ⟨0x1501068, 0x100, 16, 0x0, 1, 0x0, 0x7f00000000, 0x0, 0x0, 0x0, 0x7f⟩,  -- PER_RX_PTR, R490
  ⟨0x18, 0x0, 1, 0x0, 1, 0x1f401, 0x0, 0x0, 0x0, 0x0, 0x3ffff⟩,  -- GLB_MODE, R503
  ⟨0x1600000, 0x0, 1, 0x0, 1, 0x1f4, 0x7ff, 0x0, 0x0, 0x0, 0x0⟩,  -- PWR_CAP, R504
  ⟨0x1600008, 0x0, 1, 0x0, 1, 0x100000, 0x0, 0x2, 0x0, 0x0, 0xff0304⟩,  -- PWR_STATUS, R504
  ⟨0x1600010, 0x0, 1, 0x0, 1, 0x0, 0x0, 0x0, 0x0, 0x0, 0xffffffffffffffff⟩  -- PWR_EST, R504
]
/-- Register rows, part 10 (the tables named at the head of this file). -/
def regTable10 : List RegRow := [
  ⟨0x1600018, 0x0, 1, 0x0, 1, 0x0, 0x0, 0x0, 0x0, 0x0, 0xffffffff00ff0073⟩,  -- PWR_BOOT, R504
  ⟨0x1600020, 0x0, 1, 0x0, 1, 0x0, 0xfffffffffffff000, 0x0, 0x0, 0x0, 0x0⟩,  -- PWR_BOOT_ADDR, R504
  ⟨0x1600028, 0x0, 1, 0x0, 1, 0x0, 0xffffffff, 0x0, 0x0, 0x0, 0x0⟩,  -- PWR_BOOT_LEN, R504
  ⟨0x1600030, 0x0, 1, 0x0, 1, 0x0, 0x0, 0x0, 0x0, 0x1, 0x0⟩,  -- PWR_BOOT_GO, R504
  ⟨0x1600038, 0x0, 1, 0x0, 1, 0x0, 0x0, 0x0, 0x0, 0x0, 0xffffffff⟩,  -- PWR_BOOT_FLOOR, R504
  ⟨0x1700000, 0x0, 1, 0x0, 1, 0x0, 0x0, 0x0, 0x0, 0x0, 0xff⟩,  -- MEM_STATUS, R505
  ⟨0x1700008, 0x0, 1, 0x0, 1, 0x0, 0x0, 0x0, 0x0, 0x0, 0xffffffffffffffff⟩,  -- MEM_ECC, R505
  ⟨0x1700010, 0x8, 4, 0x0, 1, 0x0, 0x0, 0x0, 0x0, 0x0, 0xffffffff⟩  -- MEM_CXL, R505
]

/-- Every register of the map. -/
def regTable : List RegRow :=
  regTable0 ++ regTable1 ++ regTable2 ++ regTable3 ++ regTable4 ++ regTable5 ++ regTable6 ++ regTable7 ++ regTable8 ++ regTable9 ++ regTable10

/-- The offset `off` is one of the row's registers. -/
def RegRow.hits (r : RegRow) (off : Nat) : Bool :=
  let d := off - r.base
  let i := if r.stride1 = 0 then 0 else d / r.stride1
  let e := d - i * r.stride1
  let j := if r.stride2 = 0 then 0 else e / r.stride2
  decide (r.base ≤ off) && decide (i < r.count1) && decide (j < r.count2) && decide (e = j * r.stride2)

/-- The row of the register at offset `off`, if any register lies there (R32). -/
def rowAt (off : Nat) : Option RegRow := regTable.find? (fun r => r.hits off)

/-- The Reset word of the register at `off` (R8): its row's word, with the registers whose Reset value depends on their
index taken first, and the life-cycle state, which is MAKER before any transition (R435): PLD_ID (R155), KST_QUOTA[0] (R239), COL_QUOTA_T, _H and _X of polder 0 (R345), TST_INTERVAL of items
7, 9 and 10 (R434). An offset with no register reads as 0 (R32). -/
def resetNat (off : Nat) : Nat :=
  if off = 0x801000 then 16368
  else if off = 0xe01000 then 4096
  else if off = 0xe01008 then 0x1FFFF
  else if off = 0xe01010 then 0x3FFFFF
  else if off = 0x1100000 then 0x0100
  else if off = 0x600138 then 86400000
  else if off = 0x600148 then 600000
  else if off = 0x600150 then 600000
  else if 0x100000 ≤ off ∧ off < 0x200000 ∧ off % 0x1000 = 0 then (off - 0x100000) / 0x1000
  else match rowAt off with
    | some r => r.reset
    | none => 0

/-- The Reset word as a register word. -/
def resetWord (off : Nat) : Word := BitVec.ofNat 64 (resetNat off)

end Sys2Proof.Machine
end

