-- ==== Sys2Proof/Machine/Tbl.lean ====
section
/-!
DEFINITION. Sys2Proof/Machine/Tbl.lean: sparse tables in one canonical form, and the bit and byte helpers the
machine's layouts use (R3, R4). A table is a list of (key, value) pairs, keys strictly rising, with no entry equal to
what an unlisted key reads as.
-/

namespace Sys2Proof.Machine

/-- A sparse table. -/
abbrev Tbl (α : Type) := List (Nat × α)

/-- The value at key `k`; `d k` where the table lists none. -/
def tget {α : Type} (d : Nat → α) : Tbl α → Nat → α
  | [], k => d k
  | (a, v) :: t, k => if k = a then v else tget d t k

/-- The table without any entry for key `k`. -/
def tdel {α : Type} : Tbl α → Nat → Tbl α
  | [], _ => []
  | (a, v) :: t, k => if k = a then tdel t k else (a, v) :: tdel t k

/-- The table with `v` at key `k`, in key order. -/
def tput {α : Type} : Tbl α → Nat → α → Tbl α
  | [], k, v => [(k, v)]
  | (a, w) :: t, k, v => if k < a then (k, v) :: (a, w) :: t else if k = a then (k, v) :: t else (a, w) :: tput t k v

/-- The table with `v` at key `k`; writing what an unlisted key reads as removes the entry. -/
def tset {α : Type} [DecidableEq α] (d : Nat → α) (t : Tbl α) (k : Nat) (v : α) : Tbl α :=
  if v = d k then tdel t k else tput t k v

/-- Every key of the table is above `lo` where `lo` is given, and keys rise strictly. -/
def tsorted {α : Type} : Option Nat → Tbl α → Bool
  | _, [] => true
  | none, (a, _) :: t => tsorted (some a) t
  | some lo, (a, _) :: t => decide (lo < a) && tsorted (some a) t

/-- The canonical form: keys strictly rising, and no entry equal to what an unlisted key reads as. -/
def twf {α : Type} [DecidableEq α] (d : Nat → α) (t : Tbl α) : Bool :=
  tsorted none t && t.all (fun e => decide (e.2 ≠ d e.1))

/-- Bits `[hi:lo]` of a word, as a number (R3). -/
def bits (x hi lo : Nat) : Nat := x / 2 ^ lo % 2 ^ (hi + 1 - lo)

/-- Bit `k` of a number. -/
def bit (x k : Nat) : Bool := Nat.testBit x k

/-- A flag as a number. -/
def b2n (b : Bool) : Nat := if b then 1 else 0

/-- The number with its `w`-bit field at `lo` replaced by `v` (R3). -/
def putBits (x lo w v : Nat) : Nat := x / 2 ^ (lo + w) * 2 ^ (lo + w) + v % 2 ^ w * 2 ^ lo + x % 2 ^ lo

/-- The `n` bytes of a number, least significant first (R4). -/
def leBytes : Nat → Nat → List Byte
  | 0, _ => []
  | n + 1, x => BitVec.ofNat 8 x :: leBytes n (x / 256)

/-- The number a little-endian byte string holds (R4). -/
def leNat : List Byte → Nat
  | [] => 0
  | b :: t => b.toNat + 256 * leNat t

/-- `n` bytes of `l` from byte `o`, read as 0 beyond the end of `l`. -/
def bytesAt (l : List Byte) (o n : Nat) : List Byte :=
  ((l.drop o) ++ List.replicate n 0).take n

/-- The little-endian number in `n` bytes of `l` from byte `o` (R4). -/
def leAt (l : List Byte) (o n : Nat) : Nat := leNat (bytesAt l o n)

/-- The byte string cut or zero-filled to `n` bytes. -/
def fitLen (n : Nat) (l : List Byte) : List Byte := (l ++ List.replicate (n - l.length) 0).take n

/-- `x` rounded up to a multiple of `m`. -/
def alignUp (x m : Nat) : Nat := (x + m - 1) / m * m

/-- Ceiling division. -/
def cdiv (x m : Nat) : Nat := (x + m - 1) / m

/-- The list with element `i` replaced. -/
def setAt {α : Type} (l : List α) (i : Nat) (v : α) : List α := l.set i v

/-- The first index below `n` that satisfies `p`, counting up from `k` (`fuel` indexes are tried). -/
def findFrom (p : Nat → Bool) : Nat → Nat → Option Nat
  | 0, _ => none
  | f + 1, k => if p k then some k else findFrom p f (k + 1)

/-- Sign-extend the low `w` bits of a number to an integer. -/
def sx (w x : Nat) : Int :=
  let y := x % 2 ^ w
  if 2 * y ≥ 2 ^ w then (y : Int) - (2 ^ w : Nat) else (y : Int)

/-- An integer modulo `2 ^ w`, as a number. -/
def wrap (w : Nat) (x : Int) : Nat := (x % (2 ^ w : Nat)).toNat

end Sys2Proof.Machine
end

