-- ==== Sys2Proof/Machine/State.lean ====
section
/-!
DEFINITION. Sys2Proof/Machine/State.lean: the state of the PY7256 as plain data. Registers are one table keyed by BAR0
offset (R32); what else the spec gives the machine stands in the records below, one group for each chapter.
-/

namespace Sys2Proof.Machine

/-! ## Cores, tasks and the Pump (R34 to R38, R97 to R111) -/

/-- A stream register (R80). -/
structure Stream where
  base : BitVec 48 := 0
  stride : BitVec 32 := 0
  ew : BitVec 2 := 0
  count : BitVec 16 := 0
  deriving DecidableEq, Repr

/-- The architectural state a task owns (R34); a lean frame leaves `s` and `t` at zero. `p` holds p7 to p0. `appended` is the
number of elements a stopped LVCOMP has appended below EIX (R86, R94). -/
structure Frame where
  g : Vector Word 32 := Vector.replicate 32 0
  p : BitVec 8 := 0
  s : Vector Vec 32 := Vector.replicate 32 0
  t : Vector Stream 8 := Vector.replicate 8 {}
  pc : Word := 0
  xpc : Word := 0
  xcause : Word := 0
  xaddr : Word := 0
  xhnd : Word := 0
  eix : Word := 0
  appended : Nat := 0
  deriving DecidableEq, Repr

/-- The states of a task slot, in code order (R97). -/
inductive TState where
  | free | ready | running | waiting | parked | ending
  deriving DecidableEq, Repr

/-- What a task works on (R17): a program task, a session item's task, or an operator task on one block or batch: the run,
the operator's index, the block or input entry, and the output entry reserved for it, 255 for none (R355). -/
inductive TKind where
  | program
  | session (sid : Nat)
  | operator (run op item out : Nat)
  deriving DecidableEq, Repr

/-- One task slot (R97 to R104, R122). `coord` is its data coordinate (R17, R23); `marked` is FREE's mark (R58);
`readyAt` is the core cycle at which it joined an affinity list (R104); `held` is a slot held out of use (R99); `dueAt` the core cycle at
which its timer became due (R109). -/
structure Task where
  state : TState := .free
  polder : Nat := 0
  program : Nat := 0
  pipeline : Nat := 0
  operator : Nat := 0xFF
  kind : TKind := .program
  coord : Word := 0
  cls : Nat := 0
  aff : Option Nat := none
  prio : Nat := 0
  all : Bool := false
  vec : Bool := false
  flags : BitVec 32 := 0
  mask : BitVec 32 := 0
  timer : Option Nat := none
  marked : Bool := false
  readyAt : Nat := 0
  started : Bool := false
  resumeRd : Option Nat := none
  frameAddr : Nat := 0
  frame : Frame := {}
  retried : Bool := false
  held : Bool := false
  dueAt : Option Nat := none
  deriving DecidableEq, Repr

/-- A privilege level (R37). -/
inductive Mode where
  | U | P
  deriving DecidableEq, Repr

/-- A core: its privilege level, the firmware context it keeps for P, whether WAITWORK blocks it and into which register,
whether it is halted (R48), runs one instruction for a debugger (R445) or is stopped by an exception in P (R72), and the polder of the task it last ran (R38). -/
structure Core where
  mode : Mode := .P
  waiting : Option Nat := none
  wrd : Nat := 0
  halted : Bool := false
  stepping : Bool := false
  stopped : Bool := false
  pframe : Frame := {}
  lastPolder : Option Nat := none
  deriving DecidableEq, Repr

/-- A worker: the task it holds, and whether it has asked for work and waits (R102, R105). -/
structure Worker where
  task : Option Nat := none
  asking : Bool := false
  deriving DecidableEq, Repr

/-- A hardware request for a task slot that waits (R99): what the task will be, the tick at which the wait began, and
whether bit 14 has latched for it. -/
structure SlotReq where
  task : Task
  since : Nat
  latched : Bool := false
  deriving DecidableEq, Repr

/-- The Pump and the cores. `prioq` is keyed by 8 × class + priority (R102). `parity` are the slots whose table entry has a parity error
that the Pump has not met yet (R99). -/
structure Sched where
  cores : Tbl Core := []
  workers : Tbl Worker := []
  aff : Tbl (List Nat) := []
  prioq : Tbl (List Nat) := []
  tasks : Tbl Task := []
  hwWait : List SlotReq := []
  parity : List Nat := []
  deriving DecidableEq, Repr

/-! ## Key slots (R218 to R222) and floor records (R209) -/

/-- A floor record of a stateful slot: a sequence, floor and limit, the check over them, and the commit word, written last (R209). -/
structure FloorRec where
  seq : Nat := 0
  floor : Nat := 0
  limit : Nat := 0
  check : List Byte := []
  committed : Bool := false
  deriving DecidableEq, Repr

/-- One key slot. The attribute word's fields stand apart (R219); `allocated` is a slot KALLOC gave out or the device
range holds; `expiry` is the expiry tick of a finite lifetime (R220, R221); `damaged` that its record or granules fail their GCM check, a fault
of the memory that no command makes (R224). -/
structure KeySlot where
  allocated : Bool := false
  ty : Nat := 0
  alg : Nat := 0
  owner : Nat := 0
  usage : Nat := 0
  exportP : Nat := 0
  hmin : Nat := 0
  transient : Bool := false
  stateful : Bool := false
  device : Bool := false
  expiry : Option Nat := none
  secret : List Byte := []
  pub : List Byte := []
  granules : Nat := 0
  p1 : Nat := 0
  p2 : Nat := 0
  levels : Nat := 0
  cursor : Nat := 0
  floor : Nat := 0
  limit : Nat := 0
  recA : FloorRec := {}
  recB : FloorRec := {}
  pendFloor : Option Nat := none
  lowLatched : Bool := false
  keyB : Bool := false
  damaged : Bool := false
  deriving DecidableEq, Repr

/-! ## Jobs (R59 to R64, R156, R531) -/

/-- Where a job stands: waiting in its class queue, running on an engine, frozen by Dike (R410), or finished and about to
write its completion (R61). -/
inductive JState where
  | free | queued | running | frozen | finished
  deriving DecidableEq, Repr

/-- One job-table entry. `cls` is the CLS of R59; the model numbers the asynchronous KEY functions 8 and OP RUN 9 (R60).
`desc` is the descriptor's address and `bytes` the descriptor as first read, `granted` that the one check of its accesses has been
granted, `gen` the Dike generation that was under (R531). `writes` are the output writes still to be made, in order, and `scrub` the ranges written with zeros whatever the
status (R170). `fill` is the output-slot write still to be made: the slot, its contents, whether it is stateful (R179); `slotBegun` marks a
write to a store that has begun (R535); `ctx` is the digest context the job keeps BUSY (R192);
`leaf` the slot and leaf of a stateful signature (R208); `wait` the
table and segment a TBL_SEAL or TBL_DROP waits for (R310, R323); `stop` the status and DETAIL of a stop that is pending for
microcode (R253); `inner` a job that an operator task issued, which has no descriptor (R370). -/
structure Job where
  st : JState := .free
  seq : Nat := 0
  cls : Nat := 0
  opc : Nat := 0
  polder : Nat := 0
  program : Nat := 0
  task : Nat := 0
  worker : Nat := 0
  pipeline : Nat := 0
  operator : Nat := 0xFF
  coord : Word := 0
  ev : Nat := 0
  desc : Nat := 0
  bytes : List Byte := []
  granted : Bool := false
  gen : Nat := 0
  engine : Option Nat := none
  retried : Bool := false
  fill : Option (Nat × KeySlot × Bool) := none
  slotBegun : Bool := false
  held : Bool := false
  since : Nat := 0
  subject : Nat := 0
  status : Nat := 0
  detail : Nat := 0
  outlen : Nat := 0
  writes : List (Nat × List Byte) := []
  scrub : List (Nat × Nat) := []
  ctx : Option Nat := none
  leaf : Option (Nat × Nat) := none
  wait : Option (Nat × Nat) := none
  stop : Option (Nat × Nat) := none
  inner : Bool := false
  deriving DecidableEq, Repr

/-- The job table, the issue sequence and the class queues, in issue order (R59, R62, R156). `lastKey` is the key a
lattice or code engine holds in prepared form (R182), keyed by 32 × class + engine. -/
structure Jobs where
  tab : Tbl Job := []
  seq : Nat := 0
  queues : Tbl (List Nat) := []
  lastKey : Tbl (List (Nat × Nat)) := []
  deriving DecidableEq, Repr

/-! ## Programs (R74 to R77, R139, R140) -/

/-- An operator as OP DEF defined it (R348): its code, index, inputs and parameters. -/
structure OpDef where
  code : Nat := 0
  index : Nat := 0
  bytes : List Byte := []
  params : List Byte := []
  deriving DecidableEq, Repr

/-- A pipeline of a program: the operators in force, the staged DEFs, the RUN jobs queued behind the running one (R68,
R348, R349). -/
structure Pipeline where
  ops : List OpDef := []
  staged : List OpDef := []
  running : Option Nat := none
  queued : List Nat := []
  deriving DecidableEq, Repr

/-- A loaded program (R74, R77, R139). `code` is where its code lies, in order, as internal address and length of each piece: one for each
2 MiB page of polder addresses that it covers (R139, R143). -/
structure Program where
  loaded : Bool := false
  service : Bool := false
  code : List (Nat × Nat) := []
  pdb : Nat := 0
  entries : List (Nat × Nat) := []
  pipeCount : Nat := 0
  digest : List Byte := []
  pipes : Tbl Pipeline := []
  unloading : Bool := false
  deriving DecidableEq, Repr

/-! ## Polders and the host (R123 to R155) -/

/-- An SQ entry fetched and not yet completed (R131 to R134). `since` is the tick at which a RUN began to wait (R138);
`flying` marks a DMA whose transfer was in flight when the drain began (R149). -/
structure SqEntry where
  sq : Nat
  cid : Nat
  opc : Nat
  bytes : List Byte
  head : Nat
  started : Bool := false
  waiting : Bool := false
  frozen : Bool := false
  flying : Bool := false
  since : Nat := 0
  deriving DecidableEq, Repr

/-- A CQ entry that waits in the device: bytes 0 to 63 but for PHASE; `reserved` when it holds a reserved slot (R131). -/
structure CqRec where
  bytes : List Byte
  reserved : Bool
  deriving DecidableEq, Repr

/-- The host side of one polder: tails and entries held of its four SQs, unread CQ entries and for each the host-ring buffer it
names, if any (R274), reserved CQ slots, entries in flight, records that wait (R136), the drain's start and operation (R149), the dirty-log swap (R147), the interrupt's
pending entries (R136), Invalidation Requests not yet completed (R142). -/
structure PolderQ where
  tails : Vector Nat 4 := Vector.replicate 4 0
  held : Vector Nat 4 := Vector.replicate 4 0
  cqHead : Nat := 0
  cqUsed : Nat := 0
  cqHost : List (Option Nat) := []
  reserved : Nat := 0
  inflight : List SqEntry := []
  waiting : List CqRec := []
  irqPending : Nat := 0
  irqSince : Nat := 0
  drainOp : Nat := 0
  drainStart : Nat := 0
  drainLimit : Nat := 0
  flr : Bool := false
  swapTo : Option Nat := none
  invPending : Nat := 0
  deriving DecidableEq, Repr

/-- One PCIe endpoint: link, D-state, width and rate codes of R33, Function Level Reset in progress, an
Unsupported Request recorded in the AER status, and the header of the last one in the header log (R123, R125, R126). -/
structure Endpoint where
  up : Bool := true
  d3 : Bool := false
  width : Nat := 4
  rate : Nat := 5
  flr : Bool := false
  ur : Bool := false
  hdrLog : BitVec 128 := 0
  deriving DecidableEq, Repr

/-- A cached translation: the polder and endpoint it is tagged with, and the page (R142). -/
structure Ats where
  polder : Nat
  ep : Nat
  page : Nat
  deriving DecidableEq, Repr

/-- The host interface. `ats` holds the cached translations, oldest first (R142), `lib` the service library of the accepted boot
image (R139). -/
structure HostIf where
  polders : Tbl PolderQ := []
  eps : Tbl Endpoint := []
  ats : List Ats := []
  progs : Tbl Program := []
  lib : List (List Byte) := []
  nextHandle : Tbl Nat := []
  deriving DecidableEq, Repr

/-! ## The epoch unit (R112 to R122) -/

/-- A source selection (R113, R122). -/
structure EpcSource where
  src : Nat := 0
  port : Nat := 0
  vlanEn : Bool := false
  vid : Nat := 0
  delay : Bool := false
  transport : Nat := 0
  domain : Nat := 0
  deriving DecidableEq, Repr

/-- A PTP transmitter that announces itself: its data, and when its last Announce and the one before it came (R113). -/
structure Foreign where
  sender : Nat
  clock : PtpClock
  interval : Nat
  last : Nat
  prev : Option Nat := none
  deriving DecidableEq, Repr

/-- What the unit keeps of PTP for one selection: the transmitters heard, those whose timescale flag is clear (R114), the selected one;
the receipt of its last valid Sync and the announced interval, in nanoseconds (R118); a two-step Sync that waits for its Follow_Up, as
sequence number and receipt; the time that the last Sync gave and its receipt; the delay request outstanding, as sequence number and
moment, and a two-step Pdelay_Resp that waits, as time and receipt; the path delay; the Pdelay_Req not yet answered. -/
structure PtpRx where
  foreign : List Foreign := []
  arb : List Nat := []
  sender : Option Nat := none
  syncAt : Option Nat := none
  interval : Nat := 1000000000
  pend : Option (Nat × Nat) := none
  lastSync : Option (Nat × Nat) := none
  req : Option (Nat × Nat) := none
  resp : Option (Nat × Nat) := none
  delay : Nat := 0
  owed : List Nat := []
  deriving DecidableEq, Repr

/-- The epoch unit beside its registers: the source in force, the staged one, what PTP keeps for each; consecutive measurements within the
threshold, the tick HOLDOVER began; the local oscillator in nanoseconds, and the sequence number of the next delay request; the second of
the last accepted 1PPS edge, whether EPC_NEXT_SEC was written since, and the moments of that edge and of the last accepted IRIG-B frame;
bad IRIG-B frames in a row, the ticks until BEHIND ends, whether NOREF was ever left. -/
structure Epoch where
  cur : EpcSource := {}
  staged : Option EpcSource := none
  rx : PtpRx := {}
  stagedRx : PtpRx := {}
  good : Nat := 0
  holdStart : Nat := 0
  clock : Nat := 0
  seq : Nat := 0
  ppsSec : Nat := 0
  ppsWritten : Bool := false
  ppsAt : Option Nat := none
  irigAt : Option Nat := none
  irigBad : Nat := 0
  behindTo : Nat := 0
  leftNoref : Bool := false
  deriving DecidableEq, Repr

/-! ## Digest contexts (R192 to R198) -/

/-- The states of a digest context (R192). -/
inductive CState where
  | free | open | busy | expired
  deriving DecidableEq, Repr

/-- One digest context. The running state is held as the bytes absorbed, with the keyed state as the key (R188, R200). -/
structure Ctx where
  st : CState := .free
  seq : Nat := 0
  polder : Nat := 0
  alg : Nat := 0
  dl : Bool := false
  decl : Nat := 0
  trunc : Bool := false
  mac : Option (List Byte) := none
  macSlot : Option Nat := none
  custN : List Byte := []
  custS : List Byte := []
  data : List Byte := []
  total : Nat := 0
  idleSince : Nat := 0
  temp : Bool := false
  deriving DecidableEq, Repr

/-! ## Key store (R218 to R230) and stateful keys (R207 to R213) -/

/-- The key store: slots, a count that names the store salt in force (R225), whether the running scrub spares slots above the
polder slots (R442), the designations staged for the receipts and those in force (R239), whether the store check record is wrapped under a key
with the Embankment key in it, and whether that Embankment key is gone (R226, R456, R457). -/
structure KeyStore where
  slots : Tbl KeySlot := []
  saltGen : Nat := 0
  scrubKeepDevice : Bool := false
  rcptStaged : Tbl (Option (Bool × Nat)) := []
  rcptInForce : Tbl (Option Nat) := []
  checkB : Bool := false
  embGone : Bool := false
  deriving DecidableEq, Repr

/-- One DRBG instance: whether it is seeded, generate calls since its last reseed, blocks drawn in all, and the
personalisation of a tenant instance (R235, R236). -/
structure Drbg where
  inst : Bool := false
  seeded : Bool := false
  calls : Nat := 0
  drawn : Nat := 0
  pers : List Byte := []
  deriving DecidableEq, Repr

/-- The entropy unit beside its registers: internal instances 0 to 31, and the tenant instance of polder n at 32 + n;
tenant requests waiting, as job entries in arrival order; the polder served last (R235 to R237); the conditioned output in the buffer, in
half blocks of 128 bits; the sources that failed the start-up test and those excluded in READY, and whether the conditioner's known answer
failed (R232, R233). -/
structure Entropy where
  drbg : Tbl Drbg := []
  tenants : List Nat := []
  lastServed : Nat := 0
  halfBlock : Bool := false
  buf : Nat := 0
  startBad : Nat := 0
  readyBad : Nat := 0
  katBad : Bool := false
  deriving DecidableEq, Repr

/-! ## Dike (R403 to R417) -/

/-- A queued notice (R413). -/
structure Notice where
  ctrl : Word
  data : Word
  endA : Nat
  mcls : Nat
  unit : Nat
  precise : Bool
  write : Bool
  fetch : Bool
  frozen : Bool
  reason : Nat
  count : Nat
  gen : Nat
  region : Nat
  deriving DecidableEq, Repr

/-- Dike beside its registers: the region words in force, keyed by register offset; the set a commit has pended; the
notice queue, head first; the frozen masters as (MCLS, UNIT, polder they acted for). -/
structure Dike where
  force : Tbl Word := []
  committed : Option (Tbl Word) := none
  notices : List Notice := []
  frozen : List (Nat × Nat × Nat) := []
  deriving DecidableEq, Repr

/-! ## Fault collector and in-service test (R419 to R434) -/

/-- A fault record (R427). EXEC and GROUP are filled when the record's group resolves; `queued` says that it found room in the queue. `unit`
is the unit whose error line fired, by which a block reset finds its block (R419); it is no part of the record. -/
structure FRec where
  ctrl : Word
  data : Word
  bit : Nat
  react : Nat
  exec : Nat
  group : Nat
  epoch : Nat
  open_ : Bool
  unit : Nat := 0
  queued : Bool := true
  deriving DecidableEq, Repr

/-- The fault collector beside its registers: the record queue, head first; the sources of the open resolution group
with their reactions; the blocks in a block reset, by source, with the units still to return (R422, R423, R427). -/
structure Fcl where
  recs : List FRec := []
  group : List (Nat × Nat) := []
  groupRecs : List FRec := []
  resets : Tbl (List Nat) := []
  deriving DecidableEq, Repr

/-- The in-service test: units tested in the pass of each item (R428), test jobs running as (class, unit), the spare bank
and the rotation's retirement per slice stand in TST_BANK (R430). -/
structure Test where
  passDone : Tbl (List Nat) := []
  running : List (Nat × Nat) := []
  deriving DecidableEq, Repr

/-! ## Start-up, power and pins (R491 to R505, R514, R515, R519) -/

/-- Pins and supplies: PORST_N high, main power present, PWR_FAIL_N low, THERMTRIP_N driven, the junction temperature in 1/16 °C and
whether it is past the warning and the critical threshold (R514), what waits for PWR_FAIL_N: FCL_STICKY and FCL_ERRN updates, writes of
MRAM-held registers, a tamper response of 3 or 4 (R500); the boot straps, what the NOR device holds and the capacities of the CXL
devices in GiB as the board has them, whether boot step 4 has ended, the boot sources tried, the power cap in force (R501, R503), the part of a period of the Embankment
counter that has passed, and the XTS key pair of each CXL port, never readable (R320). -/
structure Power where
  porst : Bool := true
  main : Bool := true
  pwrFail : Bool := false
  thermtrip : Bool := false
  temp : Int := 400
  warm : Bool := false
  hot : Bool := false
  heldSticky : Nat := 0
  heldErrn : Bool := false
  held : List (Nat × Word) := []
  heldTamper : Nat := 0
  straps : Nat := 0
  nor : List Byte := []
  cxl : List Nat := []
  step4 : Bool := false
  tried : List Nat := []
  embFrac : Nat := 0
  cxlKeys : List (List Byte) := []
  capMode : Nat := 0
  capWatts : Nat := 500
  deriving DecidableEq, Repr

/-! ## Life cycle, debug and tamper (R435 to R461) -/

/-- The life-cycle area of MRAM and the debug port: the two copies of the state code (R435), the intent record as its 36
bytes (R442), whether a debugger is attached to the cores. -/
structure Dbg where
  copyA : Nat := 0x01
  copyB : Nat := 0x01
  intent : List Byte := []
  attached : Bool := false
  firing : List Nat := []
  group : List Nat := []
  instr : Nat := 0
  bsr : List Bool := []
  deriving DecidableEq, Repr

/-! ## Engine microcode (R241 to R264) -/

/-- The sequencer of one unit (R241, R251): the job-table entry, or the task slot of an operator; the customer function, or with `rom` the OPC
or operator code; the microaddress, the loop counters, the call stack newest first, the address generators, the datapath places written, keyed
by 2^14 × space + index, the shares of each share register, the last result's condition bits, and whether LOAD and STORE have been performed. -/
structure Sqr where
  work : Nat := 0
  fn : Nat := 0
  pc : Nat := 0
  lc : Vector Nat 4 := Vector.replicate 4 0
  stack : List Nat := []
  genA : Nat := 0
  genB : Nat := 0
  dp : Tbl Nat := []
  conds : Nat := 0
  loaded : Bool := false
  stored : Bool := false
  rom : Bool := false
  shares : Tbl (List Nat) := []
  deriving DecidableEq, Repr

/-- A staged load or clear of a control-store region (R261): KIND 1 patch, 2 customer, 3 clear of the customer region; `edge`
that the staging edge has passed. -/
structure McsLoad where
  m : Nat
  kind : Nat
  version : Nat := 0
  floor : Bool := false
  words : List Nat := []
  nanos : List Nat := []
  matches_ : List (Nat × Nat) := []
  pubmap : Nat := 0
  usage : List Byte := []
  digest : List Byte := []
  edge : Bool := false
  deriving DecidableEq, Repr

/-- The control stores beside their registers: microwords and nanowords of the RAM regions, keyed by 2^16 × m + address and
2^12 × m + index, USAGE in force, the sequencers, keyed by 256 × m + unit, the staged load, a staged clear of CUST_EN, and the
classes that start no job for want of their patch (R264); the customer functions that a hash core has written back at a YIELD, oldest first
(R247); that the comparison unit is offline (R264); and an image with its length, read for a load whose signature waits for an engine (R260). -/
structure Mcs where
  micro : Tbl Nat := []
  nano : Tbl Nat := []
  usage : Tbl (List Byte) := []
  seqs : Tbl Sqr := []
  staged : Option McsLoad := none
  enOff : Bool := false
  noPatch : List Nat := []
  parked : List Sqr := []
  cmpOff : Bool := false
  verifying : Option (List Byte × Nat) := none
  deriving DecidableEq, Repr

/-! ## The network and sessions (R266 to R294) -/

/-- A flow key and the peer's MAC address (R270, R281). `vlan` is none for an untagged flow. -/
structure Flow where
  port : Nat := 0
  vlan : Option Nat := none
  v6 : Bool := false
  src : Nat := 0
  dst : Nat := 0
  proto : Nat := 0
  sport : Nat := 0
  dport : Nat := 0
  mac : Nat := 0
  deriving DecidableEq, Repr

/-- TCP state of a session (R281, R292): next byte expected, bytes received out of order as (sequence, data), the TLS bytes not yet
delivered; oldest unacknowledged and next sequence numbers, the peer's window, the bytes sent and not acknowledged and those
queued; MSS, window scale, SACK and timestamps in use; congestion window, threshold and duplicate acknowledgements; SRTT,
RTTVAR and RTO in ticks, the segment being timed, the RTO and persist expiries, retransmissions so far; full segments and the
expiry of a delayed ACK; whether a FIN is queued or was sent; stream reading stopped (R290); ranges the peer has SACKed; the highest sequence number
retransmitted in a recovery; whether the FIN has been acknowledged, and whether a reset has ended the
connection. SRTT is held times 8 and RTTVAR times 4. -/
structure Tcp where
  rcvNxt : Nat := 0
  ooo : List (Nat × List Byte) := []
  stream : List Byte := []
  sndUna : Nat := 0
  sndNxt : Nat := 0
  sndWnd : Nat := 0
  unacked : List Byte := []
  queued : List Byte := []
  mss : Nat := 536
  wscale : Nat := 15
  sack : Bool := false
  ts : Bool := false
  tsRecent : Nat := 0
  cwnd : Nat := 0
  ssthresh : Nat := 0xFFFFFFFF
  dup : Nat := 0
  recover : Option Nat := none
  srtt : Nat := 0
  rttvar : Nat := 0
  rto : Nat := 0
  timed : Option (Nat × Nat) := none
  rtoAt : Option Nat := none
  persistAt : Option Nat := none
  persistN : Nat := 0
  retx : Nat := 0
  ackSegs : Nat := 0
  ackAt : Option Nat := none
  finQueued : Bool := false
  finSent : Bool := false
  stopped : Bool := false
  sacked : List (Nat × Nat) := []
  highRxt : Nat := 0
  finAcked : Bool := false
  dead : Bool := false
  deriving DecidableEq, Repr

/-- A session item (R282, R285): its KIND, the program handle and entry it was created with (R269), the record and its number, the flow
it came from, its arrival tick, bytes of record header, the cells it occupies as address and count, and its cells of the overflow ring
where it lies there (R284). -/
structure SesItem where
  kind : Nat := 0
  prog : Nat := 0
  entry : Nat := 0
  first : Bool := false
  moved : Bool := false
  flow : Flow := {}
  rseq : Nat := 0
  data : List Byte := []
  hdrLen : Nat := 0
  arrival : Nat := 0
  cells : Option (Nat × Nat) := none
  ovf : Nat := 0
  deriving DecidableEq, Repr

/-- The item in flight of a session (R283 to R288): the item, the address and number of its cells, and the pool slots filled with the read and the write key. -/
structure SesRun where
  item : SesItem := {}
  cells : Nat × Nat := (0, 0)
  rslot : Option Nat := none
  wslot : Option Nat := none
  deriving DecidableEq, Repr

/-- What the supplied IEC parser keeps of its connection (R333 to R337): whether it has sent STARTDT act, whether data transfer is started, the next
N(S) it sends and expects, the ticks at which its I-frames not yet acknowledged were sent, oldest first, and at which a STARTDT act or TESTFR act
was sent that waits for its confirmation, the received I-frames not yet acknowledged and the arrival of the first, the tick of the last traffic, the part
of an APDU that its record left open, and the interrogations still to send. -/
structure Iec where
  begun : Bool := false
  started : Bool := false
  vs : Nat := 0
  vr : Nat := 0
  sent : List Nat := []
  uSent : Option Nat := none
  rxCount : Nat := 0
  rxSince : Nat := 0
  last : Nat := 0
  part : List Byte := []
  due : Nat := 0
  deriving DecidableEq, Repr

/-- One session context (R281). The keys are held here as the session unit unwraps them (R280). `replayTop` and `replayMask` are
the REPLAY window: the highest number accepted and the 64 below it. `hsAt` and `idleAt` are the ticks of the limits. `tries`, `flight` and `iec` are
what the supplied service program keeps of its session: the times it has repeated its flight (R293), the flight, and its IEC connection (log entry 84). -/
structure Session where
  st : Nat := 0
  proto : Nat := 0
  polder : Nat := 0
  listener : Nat := 0
  home : Nat := 0xFF
  suite : Nat := 0
  flow : Flow := {}
  expiry : Option Nat := none
  hsAt : Option Nat := none
  idleAt : Option Nat := none
  last : Nat := 0
  rseq : Nat := 0
  tseq : Nat := 0
  replayTop : Option Nat := none
  replayMask : Nat := 0
  chain : List SesItem := []
  cur : Option SesRun := none
  rkey : List Byte := []
  wkey : List Byte := []
  rsn : List Byte := []
  wsn : List Byte := []
  ivs : List Byte := []
  keyed : Bool := false
  tcp : Tcp := {}
  prog : List Byte := []
  fresh : Bool := true
  tries : Nat := 0
  flight : List Byte := []
  iec : Iec := {}
  deriving DecidableEq, Repr

/-- The network endpoint beside its registers: sessions by Session ID, each context's generation, the hot sessions, least recently
used first (R281), prefix-limiter entries as their
three register words, their tokens, the cookie keys in force and before with the window of the first, the CID key, cells taken
as (address, count, polder), the next cell of each polder's overflow ring, the buffer each host ring fills next and those in use. -/
structure Net where
  ses : Tbl Session := []
  gens : Tbl Nat := []
  rl : Tbl (Nat × Nat × Nat) := []
  tokens : Tbl Nat := []
  cookieKey : List Byte := []
  cookieOld : List Byte := []
  cookieWin : Nat := 0
  cidKey : List Byte := []
  cells : List (Nat × Nat × Nat) := []
  hot : List Nat := []
  ovfNext : Tbl Nat := []
  hostNext : Tbl Nat := []
  hostUsed : Tbl (List Nat) := []
  deriving DecidableEq, Repr

/-! ## The column store (R297 to R326) -/

/-- The states of a segment, in code order (R309, R324). -/
inductive SegState where
  | opened | closedS | archived | dropped
  deriving DecidableEq, Repr

/-- A segment (R309 to R319). `win` is the window it opened in, none in NOREF; `hidden` the rows of APPENDs not yet completed, as
(job, first row, count) (R307); `plain` the granules of each column's PLAIN form; `enc` those and the length of each column segment;
`copy` the CXL granules of a migration under way; `granted` that a seal that waited has its granules (R311). -/
structure Seg where
  num : Nat := 0
  st : SegState := .opened
  rows : Nat := 0
  hidden : List (Nat × Nat × Nat) := []
  closing : Bool := false
  win : Option Nat := none
  openedAt : Nat := 0
  sealedAt : Nat := 0
  plain : List (List Nat) := []
  enc : List (List Nat × Nat) := []
  copy : List (List Nat) := []
  moving : Bool := false
  sealWait : Bool := false
  granted : Bool := false
  emin : Nat := 0
  emax : Nat := 0
  digests : List (List Byte) := []
  digest : List Byte := []
  deriving DecidableEq, Repr

/-- A table (R297, R299, R323): its owner, its descriptor, its segments in order, the next segment number, the chain anchors of its
columns, whether it is FULL, the job that drops it and whether the drop's edge has passed; the tick and the issue number of the TBL_DROP, and
whether it was accepted in NOREF, where its acceptance is the edge. -/
structure Table where
  polder : Nat := 0
  desc : List Byte := []
  segs : List Seg := []
  next : Nat := 0
  anchors : List (List Byte) := []
  full : Bool := false
  dropJob : Option Nat := none
  dropping : Bool := false
  staged : Bool := false
  stagedAt : Nat := 0
  dropSeq : Nat := 0
  noref : Bool := false
  deriving DecidableEq, Repr

/-- The column store: tables by Table ID, the polder a granule is charged to, plus 1, by granule address, and the granules freed
while runs still read them, with those runs (R311, R319, R322, R362). -/
structure ColStore where
  tables : Tbl Table := []
  gran : Tbl Nat := []
  deferred : List (Nat × List Nat) := []
  deriving DecidableEq, Repr

/-! ## Pipelines (R347 to R401) -/

/-- One entry of an operator's output queue (R354, R355): its address, and 0 free, 1 reserved, 2 holding a batch, 3 being consumed. -/
structure QEnt where
  addr : Nat
  st : Nat := 0
  deriving DecidableEq, Repr

/-- A block of a SCAN's set (R361, R363). -/
structure ScanBlk where
  op : Nat
  table : Nat
  seg : Nat
  blk : Nat
  deriving DecidableEq, Repr

/-- A group, profile or build key with what is kept for it (R380, R383, R384, R389): key columns, window, hash, words. -/
structure Grp where
  key : List Nat
  win : Nat := 0
  hash : Nat := 0
  accs : List (List Nat) := []
  row : List Nat := []
  deriving DecidableEq, Repr

/-- One operator in a run: its output queue and the batches in it in order, blocks and batches not yet given to a task, live tasks, the
types its inputs carry, its stored rows and groups, spilled partitions, rows in AREA, table granules, results to emit, and its counts
(R355, R374, R378 to R394). -/
structure OpRun where
  q : List QEnt := []
  ready : List Nat := []
  live : Nat := 0
  types : Option (List Nat) := none
  types1 : Option (List Nat) := none
  ended : Bool := false
  emitted : Bool := false
  rows : List (List Nat) := []
  groups : List Grp := []
  area : List (List Nat) := []
  ext : List Grp := []
  spilled : Nat := 0
  split : List Nat := []
  gran : List Nat := []
  out : List (List (List Nat)) := []
  outTypes : List Nat := []
  closedTo : Nat := 0
  rowsIn : Nat := 0
  rowsOut : Nat := 0
  nSpilled : Nat := 0
  dropped : Nat := 0
  areaUsed : Nat := 0
  inEndedAt : Option Nat := none
  peersEnded : List Nat := []
  endSent : Bool := false
  unsent : Nat := 0
  full : Bool := false
  taskRun : Bool := false
  deriving DecidableEq, Repr

/-- A leaf of a receipt: Table ID, segment, digest, least and greatest epoch (R398, R400). -/
structure Leaf where
  table : Nat
  seg : Nat
  digest : List Byte
  emin : Nat
  emax : Nat
  deriving DecidableEq, Repr

/-- A run of a pipeline, keyed by its job-table entry (R350, R351, R354): the graph it runs, its operators' states, the blocks not yet
given to tasks, the segments it reads, whether it waits for queue space, its failure, blocks skipped and SINK bytes written, the
receipt slot in force when it started, and the segments as they stood when the tasks of their blocks were dispatched, keyed by
256 × item + operator (R362). -/
structure Run where
  polder : Nat := 0
  program : Nat := 0
  pipe : Nat := 0
  ops : List OpDef := []
  st : Tbl OpRun := []
  blocks : List ScanBlk := []
  pins : List (Nat × Nat) := []
  leaves : List Leaf := []
  waiting : Bool := false
  fail : Option (Nat × Nat) := none
  skipped : Nat := 0
  emin : Nat := 0
  emax : Nat := 0
  sinkAddr : Nat := 0
  sinkCap : Nat := 0
  sinkUsed : Nat := 0
  receipt : Bool := false
  rslot : Option Nat := none
  snaps : Tbl Seg := []
  deriving DecidableEq, Repr

/-- A granule of the Cistern: 0 tables, 1 queues, 2 sessions; the polder it is charged to; the run it serves (R371, R379). -/
structure CisGr where
  part : Nat
  polder : Nat
  run : Nat
  deriving DecidableEq, Repr

/-- The operator units beside their registers: runs by job-table entry, Cistern granules by address, and whether the staged mode's
limits are in force, with the mode they are those of (R372). -/
structure Opu where
  runs : Tbl Run := []
  cis : Tbl CisGr := []
  limits : Option Nat := none
  deriving DecidableEq, Repr

/-! ## The removable card (R462 to R475) -/

/-- The card port beside its registers: the medium, the queued jobs' descriptor addresses, the tick of the last job's end and of the last
tuning; the journal's identifier and its records as (offset, sequence, length, kind); MRAM: the RP salt's count, unit counters, the
pending record as (unit, counter), the module's counter E, units whose next write skips a count, and a reconciliation that failed. -/
structure Card where
  medium : Option CardMedium := none
  jobs : List Nat := []
  idleFrom : Nat := 0
  tunedAt : Nat := 0
  jid : Nat := 0
  log : List (Nat × Nat × Nat × Nat) := []
  rpSalt : Nat := 0
  counters : Tbl Nat := []
  pend : Option (Nat × Nat) := none
  mmcE : Nat := 0
  skip : List Nat := []
  rpBad : Bool := false
  deriving DecidableEq, Repr

/-! ## Peer links (R477 to R489) -/

/-- A key of one direction with its generation and the flits first sent under it (R480, R484). -/
structure LinkKey where
  key : List Byte := []
  gen : Nat := 0
  count : Nat := 0
  deriving DecidableEq, Repr

/-- A keying handshake (R483): whether this device is the initiator, its ephemeral key pair's randomness, the payloads of KEYX1 and KEYX2
as sent or received, the shared secret, the bytes of the payload being received, and what has been sent and verified. -/
structure Keying where
  init : Option Bool := none
  rnd : List Byte := []
  kx1 : List Byte := []
  kx2 : List Byte := []
  ss : List Byte := []
  rx : List Byte := []
  sigSent : Bool := false
  rekey : Bool := false
  deriving DecidableEq, Repr

/-- A bulk send queued on a link: its descriptor, and the sequence number of its last flit once that is sent (R487). -/
structure BulkSend where
  desc : Nat
  sent : Option Nat := none
  deriving DecidableEq, Repr

/-- One peer link beside its registers. `retry` holds unacknowledged flits as (SEQ, replays, bytes), oldest first; `txq` what
each channel has still to send, each message behind its flit TYPE; `rx` the message being received on each channel; `credits` those held
for sending; `owed` those to return; `grants` the peer's queue entries granted by EXID, plus 1, and its bulk buffers under 0; `granted`
the bulk buffers granted to the peer. -/
structure Peer where
  txSeq : Nat := 0
  rxSeq : Nat := 4095
  nak : Bool := false
  retry : List (Nat × Nat × List Byte) := []
  txq : Vector (List (List Byte)) 3 := Vector.replicate 3 []
  rx : Vector (List Byte) 3 := Vector.replicate 3 []
  credits : Vector Nat 3 := Vector.replicate 3 0
  owed : Vector Nat 3 := Vector.replicate 3 0
  tx : LinkKey := {}
  rxk : LinkKey := {}
  rxNew : Option LinkKey := none
  keying : Keying := {}
  sends : List BulkSend := []
  grants : Tbl Nat := []
  granted : Nat := 0
  deriving DecidableEq, Repr

/-! ## Output pins (R425, R426, R463, R515, R519) -/

/-- The levels of the output pins that show state: the open-drain pins while the device drives them low, and the card switch's controls
while high. -/
structure Pins where
  errorLow : Bool := false
  alertLow : Bool := false
  thermtripLow : Bool := false
  crdVsel : Bool := false
  crdPwrEn : Bool := false
  deriving DecidableEq, Repr


/-! ## The whole machine -/

/-- How a request of a polder goes out: the endpoint, and the PASID it carries, if any (R127). -/
structure Via where
  ep : Nat
  pasid : Option Nat
  deriving DecidableEq, Repr

/-- The PTP messages that the unit transmits (R114). -/
inductive PtpOut where
  | delayReq | pdelayReq | pdelayResp
  deriving DecidableEq, Repr

/-- What the device sends out. -/
inductive OutMsg where
  | hostRead (via : Via) (addr len : Nat)
  | hostWrite (via : Via) (addr : Nat) (data : List Byte)
  | hostOr (via : Via) (addr bit : Nat)
  | cqEntry (via : Via) (index : Nat) (data : List Byte)
  | msix (via : Via) (vector : Nat)
  | mgmtInterrupt (source : Nat)
  | mgmtTrap (source : Nat)
  | mgmtRestart
  | atsRequest (via : Via) (page : Nat)
  | atsInvalidationDone (via : Via)
  | pcieUr (ep : Nat)
  | aer (ep : Nat)
  | atomicOld (polder : Nat) (v : Word)
  | flrDone (ep : Nat)
  | ptp (kind : PtpOut) (sel : EpcSource) (seq : Nat)
  | serial (port : Nat) (tag : Nat) (data : List Byte)
  | flit (link : Nat) (data : List Byte)
  | frame (port : Nat) (data : List Byte)
  | configReply (ep : Nat) (retry : Bool)
  | smbData (data : List Byte)
  | smbNack
  | tdo (bits : List Bool)
  | pins (bits : List Bool)
  | dapData (data : List Byte)
  | dapRefused
  deriving DecidableEq, Repr

/-- The state of the PY7256. `now` counts core cycles since chip reset (CYCLE, R36); `out` is what the device has sent,
newest first; `free` counts the free values taken and is the model's own field; `pending` is the queue of commands that
wait, first in first out. -/
structure State where
  regs : Tbl Word := []
  mem : Tbl Byte := []
  poison : List Nat := []
  now : Nat := 0
  sched : Sched := {}
  jobs : Jobs := {}
  host : HostIf := {}
  epoch : Epoch := {}
  ctxs : Tbl Ctx := []
  keys : KeyStore := {}
  ent : Entropy := {}
  dike : Dike := {}
  fcl : Fcl := {}
  test : Test := {}
  power : Power := {}
  dbg : Dbg := {}
  mcs : Mcs := {}
  net : Net := {}
  col : ColStore := {}
  opu : Opu := {}
  card : Card := {}
  peers : Tbl Peer := []
  pins : Pins := {}
  out : List OutMsg := []
  free : Nat := 0
  pending : List Instr := []
  deriving DecidableEq, Repr

/-- No command of this model ends in a fault: the spec gives every command of its table an effect. -/
inductive Fault where
  deriving DecidableEq, Repr

/-- Reasons a command has no meaning in the model. -/
inductive Refusal where
  /-- The command named has no meaning in the model yet: its arm of `exec` raises this. Safe: the model stops. -/
  | notModelled (mnemonic : String)
  deriving DecidableEq, Repr

/-- The outcome of a command. -/
abbrev Out := Host.Outcome State Fault Refusal

/-- The machine right after reset. -/
def State.reset : State := {}

end Sys2Proof.Machine
end

