-- ==== Sys2Proof/Machine/Ops.lean ====
section
/-!
DEFINITION. Sys2Proof/Machine/Ops.lean: the named operations over registers, memory, the fault collector, Dike, the Pump's
tables, the completion queues and the cores, the taking of an exception among them. Every family's meanings are written
over these.
-/

namespace Sys2Proof.Machine

/-! ## Registers -/

/-- The word a register holds (R8, R32). -/
def State.reg (s : State) (off : Nat) : Word := tget resetWord s.regs off

/-- The state with a register's word replaced. -/
def State.setReg (s : State) (off : Nat) (v : Word) : State := { s with regs := tset resetWord s.regs off v }

/-- A field of a register (R3). -/
def State.fld (s : State) (f : Fld) : Nat := (s.reg f.off).toNat / 2 ^ f.lo % 2 ^ f.w

/-- The state with a field replaced; the value is taken modulo the field's width. -/
def State.setFld (s : State) (f : Fld) (v : Nat) : State :=
  s.setReg f.off (BitVec.ofNat 64 (putBits (s.reg f.off).toNat f.lo f.w v))

/-- A counter field stepped by `n`; it wraps at its width. -/
def State.addFld (s : State) (f : Fld) (n : Nat) : State := s.setFld f (s.fld f + n)

/-- A counter field stepped by one. -/
def State.incFld (s : State) (f : Fld) : State := s.addFld f 1

/-- EPC_COUNT (R112). -/
def State.tick (s : State) : Nat := s.fld F.EPC_COUNT_COUNT

/-- The life-cycle state, coded as the LCS field of R22. -/
def State.lcs (s : State) : Nat := s.fld F.LCS_STATE_STATE

/-- The device is tamper-locked (R451). -/
def State.locked (s : State) : Bool := s.fld F.TMP_STATUS_LOCKED = 1

/-- The state with a message sent. -/
def State.send (s : State) (m : OutMsg) : State := { s with out := m :: s.out }

/-- The state with one free value taken. -/
def State.bump (s : State) : State := { s with free := s.free + 1 }

/-! ## Coordinate pairs (R21 to R23) -/

/-- A control word (R22). -/
def ctrlWord (polder program pipeline operator worker lcs source : Nat) (task : Option Nat) : Word :=
  BitVec.ofNat 64 (polder % 256 * 2 ^ 56 + program % 4096 * 2 ^ 44 + pipeline % 16 * 2 ^ 40 + operator % 256 * 2 ^ 32 +
    worker % 256 * 2 ^ 24 + lcs % 8 * 2 ^ 21 + source % 64 * 2 ^ 15 +
    (match task with | some t => 2 ^ 14 + t % 2 ^ 14 | none => 0))

/-- A control word with its SOURCE replaced. -/
def withSource (w : Word) (k : Nat) : Word := BitVec.ofNat 64 (putBits w.toNat 15 6 k)

/-- The data word of KIND none (R23). -/
def dataNone : Word := 0

/-- The data word of KIND segment (R23). -/
def dataSegment (table column segment : Nat) : Word :=
  BitVec.ofNat 64 (2 ^ 61 + table % 4096 * 2 ^ 49 + column % 256 * 2 ^ 41 + segment % 2 ^ 25 * 2 ^ 16)

/-- The data word of KIND block (R23). -/
def dataBlock (table column segment block : Nat) : Word :=
  BitVec.ofNat 64 (2 * 2 ^ 61 + table % 4096 * 2 ^ 49 + column % 256 * 2 ^ 41 + segment % 2 ^ 25 * 2 ^ 16 + block % 16 * 2 ^ 12)

/-- The data word of KIND element (R23). -/
def dataElement (table column segment row : Nat) : Word :=
  BitVec.ofNat 64 (3 * 2 ^ 61 + table % 4096 * 2 ^ 49 + column % 256 * 2 ^ 41 + segment % 2 ^ 25 * 2 ^ 16 + row % 2 ^ 16)

/-- The data word of KIND session (R23). -/
def dataSession (session port record : Nat) : Word :=
  BitVec.ofNat 64 (4 * 2 ^ 61 + session % 2 ^ 21 * 2 ^ 40 + port % 256 * 2 ^ 32 + record % 2 ^ 32)

/-- The data word of KIND address (R23). -/
def dataAddress (a : Nat) : Word := BitVec.ofNat 64 (5 * 2 ^ 61 + a % 2 ^ 48)

/-- The 16 bytes of a coordinate pair, little-endian (R21). -/
def pairBytes (ctrl data : Word) : List Byte := leBytes 8 ctrl.toNat ++ leBytes 8 data.toNat

/-- The control word of a hardware unit acting alone (R22). -/
def hwCtrl (s : State) (polder source : Nat) : Word := ctrlWord polder 0 0 0xFF 0xFF s.lcs source none

/-! ## Tables of tasks, workers, cores and jobs -/

/-- A task slot. -/
def State.task (s : State) (t : Nat) : Task := tget (fun _ => {}) s.sched.tasks t

/-- The state with a task slot replaced. -/
def State.setTask (s : State) (t : Nat) (x : Task) : State :=
  { s with sched := { s.sched with tasks := tset (fun _ => {}) s.sched.tasks t x } }

/-- A core after reset: in P, at the first word of the firmware part of its own local memory (R38; log entry 6). -/
def coreReset (c : Nat) : Core := { pframe := { pc := BitVec.ofNat 64 (0x200100000000 + c * 0x40000) } }

/-- A core. -/
def State.core (s : State) (c : Nat) : Core := tget coreReset s.sched.cores c

/-- The state with a core replaced. -/
def State.setCore (s : State) (c : Nat) (x : Core) : State :=
  { s with sched := { s.sched with cores := tset coreReset s.sched.cores c x } }

/-- A worker. -/
def State.worker (s : State) (w : Nat) : Worker := tget (fun _ => {}) s.sched.workers w

/-- The state with a worker replaced. -/
def State.setWorker (s : State) (w : Nat) (x : Worker) : State :=
  { s with sched := { s.sched with workers := tset (fun _ => {}) s.sched.workers w x } }

/-- A worker's affinity list, oldest first (R102). -/
def State.affList (s : State) (w : Nat) : List Nat := tget (fun _ => []) s.sched.aff w

/-- The state with an affinity list replaced. -/
def State.setAff (s : State) (w : Nat) (l : List Nat) : State :=
  { s with sched := { s.sched with aff := tset (fun _ => []) s.sched.aff w l } }

/-- The priority queue of a class and level (R102). -/
def State.prioq (s : State) (cls prio : Nat) : List Nat := tget (fun _ => []) s.sched.prioq (8 * cls + prio)

/-- The state with a priority queue replaced. -/
def State.setPrioq (s : State) (cls prio : Nat) (l : List Nat) : State :=
  { s with sched := { s.sched with prioq := tset (fun _ => []) s.sched.prioq (8 * cls + prio) l } }

/-- A job-table entry. -/
def State.job (s : State) (e : Nat) : Job := tget (fun _ => {}) s.jobs.tab e

/-- The state with a job-table entry replaced. -/
def State.setJob (s : State) (e : Nat) (j : Job) : State :=
  { s with jobs := { s.jobs with tab := tset (fun _ => {}) s.jobs.tab e j } }

/-- A class's job queue (R156). -/
def State.jobQueue (s : State) (cls : Nat) : List Nat := tget (fun _ => []) s.jobs.queues cls

/-- The state with a class's job queue replaced. -/
def State.setJobQueue (s : State) (cls : Nat) (l : List Nat) : State :=
  { s with jobs := { s.jobs with queues := tset (fun _ => []) s.jobs.queues cls l } }

/-- A key slot. -/
def State.key (s : State) (k : Nat) : KeySlot := tget (fun _ => {}) s.keys.slots k

/-- The state with a key slot replaced. -/
def State.setKey (s : State) (k : Nat) (x : KeySlot) : State :=
  { s with keys := { s.keys with slots := tset (fun _ => {}) s.keys.slots k x } }

/-- A digest context. -/
def State.ctx (s : State) (x : Nat) : Ctx := tget (fun _ => {}) s.ctxs x

/-- The state with a digest context replaced. -/
def State.setCtx (s : State) (x : Nat) (c : Ctx) : State := { s with ctxs := tset (fun _ => {}) s.ctxs x c }

/-- The host side of a polder. -/
def State.pq (s : State) (n : Nat) : PolderQ := tget (fun _ => {}) s.host.polders n

/-- The state with the host side of a polder replaced. -/
def State.setPq (s : State) (n : Nat) (x : PolderQ) : State :=
  { s with host := { s.host with polders := tset (fun _ => {}) s.host.polders n x } }

/-- A PCIe endpoint. -/
def State.ep (s : State) (e : Nat) : Endpoint := tget (fun _ => {}) s.host.eps e

/-- The state with an endpoint replaced. -/
def State.setEp (s : State) (e : Nat) (x : Endpoint) : State :=
  { s with host := { s.host with eps := tset (fun _ => {}) s.host.eps e x } }

/-- Where a program stands in the program table. -/
def progKey (n h : Nat) : Nat := 4096 * n + h

/-- A loaded program of polder `n` (R20). -/
def State.prog (s : State) (n h : Nat) : Program := tget (fun _ => {}) s.host.progs (progKey n h)

/-- The state with a program replaced. -/
def State.setProg (s : State) (n h : Nat) (p : Program) : State :=
  { s with host := { s.host with progs := tset (fun _ => {}) s.host.progs (progKey n h) p } }

/-- The control word of a task's work (R22). -/
def ctrlOfTask (s : State) (t worker source : Nat) : Word :=
  let x := s.task t
  ctrlWord x.polder x.program x.pipeline x.operator worker s.lcs source (some t)

/-- The control word of a job, which names the task that issued it (R22). -/
def ctrlOfJob (s : State) (j : Job) (source : Nat) : Word :=
  ctrlWord j.polder j.program j.pipeline j.operator j.worker s.lcs source (some j.task)

/-! ## The address space (R28 to R31) -/

/-- What lies at an internal address. -/
inductive Space where
  | hbm | arena | cxl | cistern | scratch (core : Nat) | firmware (core : Nat) | regs | host | unmapped
  deriving DecidableEq, Repr

/-- The range an address lies in; CXL beyond a port's installed capacity is unmapped (R28, R31, R38). -/
def spaceOf (s : State) (a : Nat) : Space :=
  if a < 0x23C0000000 then .hbm
  else if a < 0x2400000000 then .arena
  else if a < 0x100000000000 then .unmapped
  else if a < 0x140000000000 then
    let p := (a - 0x100000000000) / 0x10000000000
    if a - 0x100000000000 - p * 0x10000000000 < s.fld (F.MEM_CXL_GIB p) * 2 ^ 30 then .cxl else .unmapped
  else if a < 0x200000000000 then .unmapped
  else if a < 0x200008000000 then .cistern
  else if a < 0x200100000000 then .unmapped
  else if a < 0x200101000000 then
    let c := (a - 0x200100000000) / 0x40000
    if a - 0x200100000000 - c * 0x40000 < 0x30000 then .firmware c else .scratch c
  else if a < 0x300000000000 then .unmapped
  else if a < 0x300004000000 then .regs
  else if a < 0x400000000000 then .unmapped
  else if a < 0x800000000000 then .host
  else .unmapped

/-- The data unit of a CXL address: the tweak of its encryption (R320). -/
def cxlUnit (a : Nat) : Nat := (a - 0x100000000000) / 4096

/-- The port of a CXL address (R28). -/
def cxlPort (a : Nat) : Nat := (a - 0x100000000000) / 0x10000000000

/-- What a byte nothing has written reads as: 0 after the boot's clear (R527); in the CXL tier what its device holds, decrypted under the
port's key pair with the data unit as tweak (R320). A byte written since then reads as written: one key pair encrypts and decrypts it. -/
def memDefault (pairs : List (List Byte)) (a : Nat) : Byte :=
  if 0x100000000000 ≤ a ∧ a < 0x140000000000 then Config.xtsPlain (pairs.getD (cxlPort a) []) (cxlUnit a) (a % 4096) else 0

/-- One byte of internal memory; a byte of the host window is what the host gives (R142). -/
def State.byte (s : State) (a : Nat) : Byte :=
  if 0x400000000000 ≤ a ∧ a < 0x800000000000 then Config.hostByte s.free a else tget (memDefault s.power.cxlKeys) s.mem a

/-- `n` bytes from address `a`. -/
def State.bytes (s : State) (a : Nat) : Nat → List Byte
  | 0 => []
  | n + 1 => s.byte a :: s.bytes (a + 1) n

/-- The little-endian number of `n` bytes from `a` (R4). -/
def State.load (s : State) (a n : Nat) : Nat := leNat (s.bytes a n)

/-- Bytes of the ECC word that holds address `a` (R528). -/
def eccSize (a : Nat) : Nat := if a < 0x2400000000 then 32 else if a < 0x140000000000 then 32 else 8

/-- The ECC word that holds an address. -/
def eccWord (a : Nat) : Nat := a / eccSize a * eccSize a

/-- The first poisoned word that `n` bytes from `a` touch (R528). -/
def State.poisoned (s : State) (a n : Nat) : Option Nat :=
  s.poison.find? (fun w => decide (w < a + n) && decide (a < w + eccSize w))

/-- The FCL source of an uncorrectable error at an address (R533, R538). -/
def eccSource (a : Nat) : Nat :=
  if a < 0x2400000000 then 0 else if a < 0x140000000000 then 1 else if a < 0x200100000000 then 2 else 4

/-- The bytes written to internal memory from `a` upward. -/
def memPut (pairs : List (List Byte)) : Tbl Byte → Nat → List Byte → Tbl Byte
  | m, _, [] => m
  | m, a, b :: t => memPut pairs (tset (memDefault pairs) m a b) (a + 1) t

/-- A write of bytes to internal memory; a write that covers a poisoned word clears it (R528). -/
def State.put (s : State) (a : Nat) (l : List Byte) : State :=
  { s with
    mem := memPut s.power.cxlKeys s.mem a l
    poison := s.poison.filter (fun w => !(decide (a ≤ w) && decide (w + eccSize w ≤ a + l.length))) }

/-! ## The fault collector (R419 to R427, R529) -/

/-- A source's reaction as FCL_REACT has it (R421, R433). -/
def State.react (s : State) (k : Nat) : Nat := (s.reg (F.FCL_REACT_REACT (k / 16)).off).toNat / 2 ^ (4 * (k % 16)) % 8

/-- Sources whose block R419 names, on which a reaction of 3 acts. -/
def hasBlock (k : Nat) : Bool :=
  decide (k ∈ [1, 4, 5, 6, 7, 8, 9, 10, 11, 12, 13, 18, 19, 22, 24, 26, 28, 29, 34])

/-- The reaction a source takes part with: 3 acts as 2 where the source has no block (R419), and above 1 acts as 1 for
bit 32 (R420). -/
def effReact (k r : Nat) : Nat :=
  if k = 32 then min r 1 else if r = 3 ∧ !hasBlock k then 2 else r

/-- Bit `k` of a mask set. -/
def setBit (m k : Nat) : Nat := if bit m k then m else m + 2 ^ k

/-- FCL_STICKY takes a source's bit; while PWR_FAIL_N is low the MRAM write is held (R425, R500). -/
def State.stick (s : State) (k : Nat) : State :=
  if s.power.pwrFail then { s with power := { s.power with heldSticky := setBit s.power.heldSticky k } }
  else s.setFld F.FCL_STICKY_FAULT (setBit (s.fld F.FCL_STICKY_FAULT) k)

/-- FCL_ERRN.ASSERTED is set; held in the same way (R425, R500). -/
def State.assertErrn (s : State) : State :=
  if s.power.pwrFail then { s with power := { s.power with heldErrn := true } } else s.setFld F.FCL_ERRN_ASSERTED 1

/-- A write of a register held in MRAM waits while PWR_FAIL_N is low (R500). -/
def State.holdReg (s : State) (off v : Nat) : State :=
  { s with power := { s.power with held := s.power.held ++ [(off, BitVec.ofNat 64 v)] } }

/-- Source `k` fires with the coordinate pair of its work (R427). A source whose bit is still 1 makes no transition (R529); source 0
counts its errors (R505).
The record is queued open; FAULT_GROUP_RESOLVE fills EXEC and GROUP (R422). `unit` is the unit whose line fired. -/
def State.latchAt (s : State) (k unit : Nat) (ctrl data : Word) : State :=
  let s := if k = 0 then s.incFld F.MEM_ECC_UNCORR else s
  let st := s.fld F.FCL_STATUS_FAULT
  if bit st k then s else
  let r := s.react k
  let room := decide (s.fcl.recs.length < 256)
  let rec_ : FRec := { ctrl := withSource ctrl k, data := data, bit := k, react := r, exec := 0, group := 0,
                       epoch := s.tick, open_ := true, unit := unit, queued := room }
  let s1 := (s.setFld F.FCL_STATUS_FAULT (st + 2 ^ k)).stick k
  let s2 := if bit (s.fld F.FCL_ERRN_EN_EN) k then s1.assertErrn else s1
  let s3 := if room then s2 else s2.incFld F.FCL_LOST_COUNT
  { s3 with fcl := { s2.fcl with recs := if room then s2.fcl.recs ++ [rec_] else s2.fcl.recs, group := s2.fcl.group ++ [(k, r)],
                                 groupRecs := s2.fcl.groupRecs ++ [rec_] } }

/-- Source `k` fires with the coordinate pair of its work, from a source whose record alone tells its block. -/
def State.latch (s : State) (k : Nat) (ctrl data : Word) : State := s.latchAt k 0 ctrl data

/-- Source `k` fires from unit `u` of its block, with no task, polder or place involved (R22, R419). -/
def State.latchUnit (s : State) (k u : Nat) : State := s.latchAt k u (hwCtrl s 0 k) dataNone

/-- Source `k` fires with no task, polder or place involved (R22). DESIGN CHOICE: POLDER is then 0, which R22 does not state (log entry 33). -/
def State.latchHw (s : State) (k : Nat) : State := s.latch k (hwCtrl s 0 k) dataNone

/-- The latching of source `k` now brings a block or chip reset: its reaction is one, and its bit is not 1 already, so that it makes a
transition (R421, R529). -/
def State.bringsReset (s : State) (k : Nat) : Bool := decide (effReact k (s.react k) ≥ 3) && !bit (s.fld F.FCL_STATUS_FAULT) k

/-! ## The Pump: flags, readiness, ends of tasks (R97 to R106) -/

/-- The class of a worker (R102). -/
def workerClass (w : Nat) : Nat := if w < 64 then 0 else if w < 192 then 1 else if w < 208 then 2 else 3

/-- The Dike master of a worker's work: a core in U, or an operator unit (R403). -/
def workerMaster (w : Nat) : Nat × Nat := if w < 64 then (0, w) else (8, w - 64)

/-- A master is frozen by Dike (R410). -/
def State.frozen (s : State) (mcls unit : Nat) : Bool := s.dike.frozen.any (fun x => decide (x.1 = mcls) && decide (x.2.1 = unit))

/-- A worker is frozen by Dike (R106). -/
def State.workerFrozen (s : State) (w : Nat) : Bool := s.frozen (workerMaster w).1 (workerMaster w).2

/-- The manager has set the worker's bit in PMP_WOFF (R106). -/
def State.workerOff (s : State) (w : Nat) : Bool := bit (s.fld (F.PMP_WOFF_OFF (w / 64))) (w % 64)

/-- A wait condition (R101). -/
def waitHolds (x : Task) : Bool :=
  if x.all then x.flags &&& x.mask == x.mask else x.flags &&& x.mask != 0#32

/-- A READY task takes its place: on its affine worker's list, or at the tail of its class's priority queue (R103, R104).
The timer is disarmed in the same step (R101, R108). -/
def State.makeReady (s : State) (t : Nat) : State :=
  let x := s.task t
  let y := { x with state := .ready, timer := none, dueAt := none, readyAt := s.now }
  match x.aff with
  | some w =>
    if s.fld F.PMP_AFFHOLD_HOLD ≠ 0 ∧ !s.workerFrozen w ∧ !s.workerOff w then
      (s.setTask t y).setAff w (s.affList w ++ [t])
    else (s.setTask t y).setPrioq x.cls x.prio (s.prioq x.cls x.prio ++ [t])
  | none => (s.setTask t y).setPrioq x.cls x.prio (s.prioq x.cls x.prio ++ [t])

/-- Flags set for a task (R100, R101). A task whose expiry edge has passed without its condition also gets TIMEOUT, in
the same step (R110). -/
def State.setFlags (s : State) (t : Nat) (m : BitVec 32) : State :=
  let x := s.task t
  match x.state with
  | .free => s
  | .ending => s
  | .waiting =>
    let y := { x with flags := x.flags ||| m }
    if waitHolds y then
      let late := match x.timer with | some e => decide (e ≤ s.tick) | none => false
      (s.setTask t { y with flags := if late then y.flags ||| 0x80000000#32 else y.flags }).makeReady t
    else s.setTask t y
  | _ => s.setTask t { x with flags := x.flags ||| m }

/-- Job-table entries issued under a task and not completed (R58). -/
def State.taskJobs (s : State) (t : Nat) : List Nat :=
  (s.jobs.tab.filter (fun e => decide (e.2.st ≠ .free) && decide (e.2.task = t))).map (·.1)

/-- A slot leaves every list of the Pump (R104, R106). -/
def State.unlist (s : State) (t : Nat) : State :=
  let x := s.task t
  let s1 := match x.aff with
    | some w => s.setAff w ((s.affList w).filter (· ≠ t))
    | none => s
  s1.setPrioq x.cls x.prio ((s1.prioq x.cls x.prio).filter (· ≠ t))

/-- A freed slot: in the free pool, every field at its free value; a slot held out of use stays so (R99, R122). -/
def freeSlot (x : Task) : Task := { held := x.held }

/-- A staged or missing load holds back the work of a class: a customer image its customer entries, a patch everything (R261, R264). -/
def State.mcsHeld (s : State) (cls opc : Nat) : Bool :=
  s.mcs.noPatch.contains cls ||
    (match s.mcs.staged with
     | some l => l.edge && decide (l.m = cls) && (decide (l.kind = 1) || decide (opc ≥ 0x80))
     | none => false)

/-- A unit's sequencer runs a customer function (R251). -/
def State.unitCustom (s : State) (m k : Nat) : Bool := s.mcs.seqs.any (fun x => decide (x.1 = 256 * m + k) && !x.2.rom)

/-- Customer functions that a class runs, those written back included (R247, R261, R265). -/
def State.custInflight (s : State) (m : Nat) : Nat :=
  (s.mcs.seqs.filter (fun x => decide (x.1 / 256 = m) && !x.2.rom)).length + (if m = 3 then s.mcs.parked.length else 0)

/-- The sequencer of an operator unit leaves its ROM routine with the task (R241, R251). -/
def State.dropRom (s : State) (w : Nat) : State :=
  if w < 64 then s
  else { s with mcs := { s.mcs with seqs := s.mcs.seqs.filter (fun x => !(decide (x.1 = 1024 + (w - 64)) && x.2.rom)) } }

/-- A worker gives its task up: a core goes back to WAITWORK in P, an operator unit asks again (R52, R105). -/
def State.dropWorker (s : State) (w : Nat) : State :=
  let s1 := (s.dropRom w).setWorker w { task := none, asking := true }
  if w < 64 then s1.setCore w { s1.core w with mode := .P, waiting := some ((s1.core w).wrd) } else s1

/-- The worker that holds a task, if any. -/
def State.holder (s : State) (t : Nat) : Option Nat :=
  (s.sched.workers.find? (fun e => e.2.task == some t)).map (·.1)

/-- A task ends: its slot becomes FREE, or ENDING while jobs issued under it are outstanding (R58). -/
def State.endSlot (s : State) (t : Nat) : State :=
  let x := s.task t
  let s1 := s.unlist t
  if (s.taskJobs t).isEmpty then s1.setTask t (freeSlot x)
  else s1.setTask t { x with state := .ending, timer := none, aff := none, marked := false, flags := 0 }

/-- A task ends and its worker, if one holds it, goes back for work. -/
def State.endTask (s : State) (t : Nat) : State :=
  let s1 := s.endSlot t
  match s.holder t with
  | some w => s1.dropWorker w
  | none => s1

/-- A slot in ENDING returns to FREE when the last of its jobs has completed (R58, R97). -/
def State.settleSlot (s : State) (t : Nat) : State :=
  if (s.task t).state = .ending ∧ (s.taskJobs t).isEmpty then s.setTask t (freeSlot (s.task t)) else s

/-- A polder drains or squashes: nothing new of it starts (R149). -/
def State.halted (s : State) (n : Nat) : Bool := decide (3 ≤ s.fld (F.PLD_STATUS_STATE n)) && decide (s.fld (F.PLD_STATUS_STATE n) ≤ 4)

/-- Every task on a worker's affinity list moves to its priority queue (R106). -/
def State.drainAff (s : State) (w : Nat) : State :=
  (s.affList w).foldl
    (fun s t => let x := s.task t; s.setPrioq x.cls x.prio (s.prioq x.cls x.prio ++ [t]))
    (s.setAff w [])

/-- Slots in a state other than FREE that a polder holds (R98). -/
def State.slotsUsed (s : State) (n : Nat) : Nat :=
  (s.sched.tasks.filter (fun e => decide (e.2.state ≠ .free) && decide (e.2.polder = n))).length

/-- Slots out of the free pool: not FREE, or held out of use (R97, R99). -/
def State.slotsTaken (s : State) : Nat :=
  (s.sched.tasks.filter (fun e => decide (e.2.state ≠ .free) || e.2.held)).length

/-- The Pump takes free slots whose table entry has a parity error out of use: bit 14 latches with the slot named (R99). -/
def State.checkSlots (s : State) : State :=
  (s.sched.parity.filter (fun t => decide ((s.task t).state = .free))).foldl
    (fun s t =>
      ({ s with sched := { s.sched with parity := s.sched.parity.filter (· ≠ t) } }.setTask t { held := true }).latch 14
        (ctrlWord 0 0 0 0xFF 0xFF s.lcs 14 (some t)) dataNone) s

/-- A waiting request's limit is due (R99, R530); a TICKS of 0 disables it. -/
def State.slotDue (s : State) (r : SlotReq) : Bool :=
  let n := s.fld F.PMP_SLOTWAIT_TICKS
  decide (n ≠ 0) && !r.latched && decide (r.since + n ≤ s.tick)

/-- Bit 14 latches for requests still waiting at their limit (R99). Nothing that serves or ends a request after its edge prevents it (R530). -/
def State.latchSlotWaits (s : State) : State :=
  match s.sched.hwWait.filter s.slotDue with
  | [] => s
  | r :: _ =>
    let marked := s.sched.hwWait.map (fun r => if s.slotDue r then { r with latched := true } else r)
    { s with sched := { s.sched with hwWait := marked } }.latch 14 (hwCtrl s r.task.polder 14) r.task.coord

/-- A free slot for a creation of polder `n`: none at the polder's limit, nor, for SPAWN and RUN, once only the slots kept
for the hardware requesters remain (R98). The lowest-numbered free slot is taken. -/
def State.freeSlotFor (s : State) (n : Nat) (hw : Bool) : Option Nat :=
  let lim := min (s.fld (F.PMP_QUOTA_LIMIT n)) 16384
  if s.slotsUsed n ≥ lim then none
  else if !hw ∧ 16384 - s.slotsTaken ≤ s.fld F.PMP_HWRES_RESERVE then none
  else findFrom (fun t => decide ((s.task t).state = .free) && !(s.task t).held) 16384 0

/-- A session item's task finds its slot in g3 (R51). -/
def Task.withSlot (x : Task) (t : Nat) : Task :=
  match x.kind with
  | .session _ => { x with frame := { x.frame with g := x.frame.g.set 3 (BitVec.ofNat 64 t) } }
  | _ => x

/-- A task is created in a slot (R97, R100, R101): flags 0; READY when its wait mask is 0, else WAITING. -/
def State.createTask (s : State) (t : Nat) (x : Task) : State :=
  let x := x.withSlot t
  if x.mask = 0 then (s.setTask t { x with state := .ready, flags := 0 }).makeReady t
  else s.setTask t { x with state := .waiting, flags := 0 }

/-- A hardware requester asks for a slot: the task is created, or the request waits (R99). -/
def State.hwCreate (s : State) (x : Task) : State :=
  let s := s.checkSlots
  if s.sched.hwWait.isEmpty then
    match s.freeSlotFor x.polder true with
    | some t => s.createTask t x
    | none => { s with sched := { s.sched with hwWait := s.sched.hwWait ++ [{ task := x, since := s.tick }] } }
  else { s with sched := { s.sched with hwWait := s.sched.hwWait ++ [{ task := x, since := s.tick }] } }

/-! ## Completion queues (R131, R135, R136, R145) -/

/-- CQ entries the ring holds (R155). -/
def State.cqSize (s : State) (n : Nat) : Nat := 2 ^ s.fld (F.PLD_CQ_CFG_SIZE n)

/-- The endpoint of a polder's requests (R127). -/
def State.epOf (s : State) (n : Nat) : Nat := s.fld (F.PLD_PASID_EP n)

/-- How the device's requests for polder `n` go out (R127). -/
def State.via (s : State) (n : Nat) : Via :=
  { ep := s.epOf n, pasid := if s.fld (F.PLD_PASID_PASID_EN n) = 1 then some (s.fld (F.PLD_PASID_PASID n)) else none }

/-- A page of a polder's host addresses is translated: from the cache, whose entries name polder and endpoint, or by a request the host
grants or refuses; a grant is cached, oldest entries leaving at 16,384 (R142). The answer and the state after. -/
def State.translate (s : State) (n page : Nat) : Bool × State :=
  let x : Ats := { polder := n, ep := s.epOf n, page := page }
  if s.host.ats.contains x then (true, s)
  else
    let ok := Config.hostGrants s.free n page
    let s1 := (s.bump).send (.atsRequest (s.via n) page)
    if ok then (true, { s1 with host := { s1.host with ats := (s1.host.ats ++ [x]).drop (s1.host.ats.length + 1 - 16384) } })
    else (false, s1)

/-- The page of a queue or bitmap access at host address `h` is translated. DESIGN CHOICE: no rule says what a refusal does there; the
access is then made all the same (log entry 63). -/
def State.ringPage (s : State) (n h : Nat) : State := (s.translate n (h / 4096)).2

/-- The bit that a device write of polder `n` to host address `h` sets in the active bitmap (R145). -/
def State.dirty (s : State) (n h len : Nat) : State :=
  if s.fld (F.PLD_DIRTY_CTRL_EN n) = 0 ∨ len = 0 then s else
  let lim := s.fld (F.PLD_DIRTY_LIMIT_LIMIT n) * 32768
  let base := match (s.pq n).swapTo with | some b => b | none => s.fld (F.PLD_DIRTY_BASE_BASE n) * 4096
  let pages := (h + len - 1) / 4096 - h / 4096 + 1
  (List.range pages).foldl
    (fun s i =>
      let p := h / 4096 + i
      if p * 4096 < lim then (s.ringPage n (base + p / 8)).send (.hostOr (s.via n) (base + p / 8) (p % 8)) else s.setFld (F.PLD_DIRTY_CTRL_OVERRANGE n) 1) s

/-- A device write to host memory under the polder's PASID, logged where logging is on (R127, R145). -/
def State.hostPut (s : State) (n h : Nat) (l : List Byte) : State :=
  (s.send (.hostWrite (s.via n) h l)).dirty n h l.length

/-- A device read of host memory under the polder's PASID (R127). -/
def State.hostGet (s : State) (n h len : Nat) : State := s.send (.hostRead (s.via n) h len)

/-- MSI-X vector `n` fires unless masked (R136, R155). -/
def State.fireMsix (s : State) (n : Nat) : State :=
  let s1 := s.setPq n { s.pq n with irqPending := 0 }
  if s.fld (F.PLD_IRQ_MASK n) = 1 then s1 else s1.send (.msix (s.via n) n)

/-- An entry is written to the CQ at TAIL with the phase being written; PHASE inverts on each wrap; the vector fires once
COUNT entries are pending (R135, R136). -/
def State.writeCq (s : State) (n : Nat) (l : List Byte) : State :=
  let tail := s.fld (F.PLD_CQ_CFG_TAIL n)
  let ph := s.fld (F.PLD_CQ_CFG_PHASE n)
  let e := setAt (fitLen 64 l) 5 (BitVec.ofNat 8 ph)
  let addr := s.fld (F.PLD_CQ_BASE_BASE n) * 4096 + 64 * tail
  let s1 := ((s.ringPage n addr).send (.cqEntry (s.via n) tail e)).dirty n addr 64
  let wrapd := tail + 1 = s.cqSize n
  let s2 := (s1.setFld (F.PLD_CQ_CFG_TAIL n) (if wrapd then 0 else tail + 1)).setFld (F.PLD_CQ_CFG_PHASE n)
              (if wrapd then 1 - ph else ph)
  let q := s2.pq n
  let names := if leAt l 4 1 = 2 then some (leAt l 32 4) else none
  let s3 := s2.setPq n { q with cqUsed := q.cqUsed + 1, cqHost := q.cqHost ++ [names], irqPending := q.irqPending + 1,
                                irqSince := if q.irqPending = 0 then s2.now else q.irqSince }
  if (s3.pq n).irqPending ≥ max 1 (s.fld (F.PLD_IRQ_COUNT n)) then s3.fireMsix n else s3

/-- The polder's CQ can be written now: enabled, and its endpoint's link is up (R125, R131). -/
def State.cqOpen (s : State) (n : Nat) : Bool :=
  decide (s.fld (F.PLD_CQ_CFG_EN n) = 1) && (s.ep (s.epOf n)).up

/-- CQ slots neither holding an unread entry nor reserved (R131, R136). -/
def State.cqFree (s : State) (n : Nat) : Nat := s.cqSize n - ((s.pq n).cqUsed + (s.pq n).reserved)

/-- The control word and data of an unsolicited record's polder (R136). -/
def queueCtrl (s : State) (n : Nat) : Word := hwCtrl s n 17

/-- A command completion takes the slot reserved for it; while the link is down it waits (R125, R131). -/
def State.complete (s : State) (n : Nat) (l : List Byte) : State :=
  let q := s.pq n
  if s.cqOpen n then (s.setPq n { q with reserved := q.reserved - 1 }).writeCq n l
  else s.setPq n { q with waiting := q.waiting ++ [{ bytes := l, reserved := true }] }

/-- An unsolicited record is written, waits, or is discarded with bit 17 (R136). -/
def State.postRecord (s : State) (n : Nat) (l : List Byte) : State :=
  let q := s.pq n
  if s.cqOpen n ∧ s.cqFree n > 0 ∧ (q.waiting.all (·.reserved)) then s.writeCq n l
  else if (q.waiting.filter (fun r => !r.reserved)).length < 64 then
    s.setPq n { q with waiting := q.waiting ++ [{ bytes := l, reserved := false }] }
  else (s.incFld (F.PLD_ERRCNT_LOST n)).latch 17 (queueCtrl s n) dataNone

/-- One waiting entry or record is posted if any can be: the first that holds a reserved slot or finds a free one (R125, R131, R136). -/
def State.postOne (s : State) (n : Nat) : State :=
  if !s.cqOpen n then s
  else
    match (s.pq n).waiting.find? (fun r => r.reserved || decide (s.cqFree n > 0)) with
    | none => s
    | some r =>
      (s.setPq n { s.pq n with waiting := (s.pq n).waiting.erase r, reserved := (s.pq n).reserved - b2n r.reserved }).writeCq n r.bytes

/-- Waiting entries are posted in order as far as the CQ allows. -/
def State.postWaiting (s : State) (n : Nat) : State :=
  (List.range ((s.pq n).waiting.length)).foldl (fun s _ => s.postOne n) s

/-- Bytes 0 to 63 of a CQ entry, PHASE left 0 (R135). -/
def cqBytes (cid sqid status kind sqhead result : Nat) (payload : List Byte) : List Byte :=
  leBytes 2 cid ++ leBytes 1 sqid ++ leBytes 1 status ++ leBytes 1 kind ++ [0] ++ leBytes 2 sqhead ++ leBytes 8 result ++
    fitLen 48 payload

/-! ## Exceptions (R69 to R72) -/

/-- The status of a task that an exception ends (R69). `len` says that an illegal operand is a length or a count. -/
def excStatus (cause : Nat) (len : Bool) : Nat :=
  match cause with
  | 1 => 0x13
  | 2 => 0x0D
  | 3 => 0x0D
  | 4 => if len then 0x17 else 0x13
  | 5 => 0x0E
  | 6 => 0x0D
  | 7 => 0x16
  | 8 => 0x16
  | 9 => 0x16
  | _ => 0x0D

/-- The 48-byte payload of a task fault record (R71). -/
def faultRecord (ctrl data : Word) (status cause : Nat) (xpc xaddr eix : Word) : List Byte :=
  pairBytes ctrl data ++ leBytes 1 status ++ leBytes 1 cause ++ List.replicate 6 0 ++ leBytes 8 xpc.toNat ++
    leBytes 8 xaddr.toNat ++ leBytes 8 (if cause = 5 then eix.toNat else 0)

/-- The data word of a task fault record: the task's own coordinate, else KIND address for the causes that have an
address, else KIND none (R71). -/
def faultData (x : Task) (cause : Nat) (xaddr : Word) : Word :=
  if x.coord ≠ 0 then x.coord
  else if cause = 3 ∨ cause = 5 ∨ cause = 6 ∨ cause = 9 then dataAddress xaddr.toNat else dataNone

/-- A task is ended with a fault record to its polder's CQ (R71). -/
def State.killTask (s : State) (t worker status cause : Nat) (xaddr : Word) : State :=
  let x := s.task t
  let rec_ := faultRecord (ctrlOfTask s t worker 63) (faultData x cause xaddr) status cause x.frame.pc xaddr x.frame.eix
  (s.endTask t).postRecord x.polder (cqBytes 0 0xFF status 1 0 0 rec_)

/-! ## The context a core executes in (R34, R37, R105) -/

/-- A tamper freeze stops every core between instructions (R450). -/
def State.tamperFrozen (s : State) : Bool := s.fld F.TMP_STATUS_FROZEN = 1

/-- A core executes: not halted, not stopped in P, not blocked in WAITWORK, not frozen by Dike or by tamper, not in a block reset
(R423). -/
def State.executes (s : State) (c : Nat) : Bool :=
  let k := s.core c
  !k.halted && !k.stopped && k.waiting.isNone && !s.frozen 0 c && !s.tamperFrozen && !(tget (fun _ => []) s.fcl.resets 4).contains c

/-- The task a core runs in U. -/
def State.curTask (s : State) (c : Nat) : Option Nat :=
  match (s.core c).mode with
  | .U => (s.worker c).task
  | .P => none

/-- The frame an instruction of core `c` reads: the current task's in U, the firmware context in P. -/
def State.frame (s : State) (c : Nat) : Option Frame :=
  if s.executes c then
    match (s.core c).mode with
    | .P => some (s.core c).pframe
    | .U => ((s.worker c).task).map (fun t => (s.task t).frame)
  else none

/-- The state with the frame of core `c` replaced. -/
def State.setFrame (s : State) (c : Nat) (f : Frame) : State :=
  match (s.core c).mode with
  | .P => s.setCore c { s.core c with pframe := f }
  | .U =>
    match (s.worker c).task with
    | some t => s.setTask t { s.task t with frame := f }
    | none => s

/-- A general register; g0 reads zero (R34). -/
def Frame.gr (f : Frame) (r : Reg) : Word := if r = 0 then 0 else f.g[r]

/-- A write to a general register; a write to g0 is discarded (R34). -/
def Frame.setG (f : Frame) (r : Reg) (v : Word) : Frame := if r = 0 then f else { f with g := f.g.set r v }

/-- A predicate (R34). -/
def Frame.pr (f : Frame) (i : Prd) : Bool := f.p.getLsbD i

/-- A write to a predicate. -/
def Frame.setP (f : Frame) (i : Prd) (v : Bool) : Frame :=
  { f with p := BitVec.ofNat 8 (putBits f.p.toNat i 1 (b2n v)) }

/-- The program counter moves past the instruction (R39). -/
def Frame.next (f : Frame) : Frame := { f with pc := f.pc + 4 }

/-- XACT, bit 16 of XCAUSE (R36). -/
def Frame.xact (f : Frame) : Bool := f.xcause.getLsbD 16

/-- XCAUSE as an exception leaves it: the cause code, the TRAP number, XACT set (R36, R70). -/
def xcauseWord (cause trap : Nat) : Word := BitVec.ofNat 64 (cause % 256 + trap % 256 * 256 + 65536)

/-- The frame in the handler of the same task (R70). -/
def Frame.enter (f : Frame) (cause trap : Nat) (xaddr : Word) : Frame :=
  { f with xpc := f.pc, xcause := xcauseWord cause trap, xaddr := xaddr, pc := f.xhnd }

/-- TAKING AN EXCEPTION. In U with a handler and XACT clear, the task goes on at XHND with XPC, XCAUSE and XADDR written
(R70); otherwise the task ends with a task fault record (R71). In P the core stops and bit 4 latches (R72). -/
def State.raise (s : State) (c : Nat) (f : Frame) (cause trap : Nat) (xaddr : Word) (len : Bool) : State :=
  match (s.core c).mode with
  | .P =>
    (s.setCore c { s.core c with stopped := true }).latchAt 4 c (hwCtrl s 0 4) dataNone
  | .U =>
    match (s.worker c).task with
    | none => s
    | some t =>
      if f.xhnd ≠ 0 ∧ !f.xact then s.setFrame c (f.enter cause trap xaddr)
      else s.killTask t c (excStatus cause len) cause xaddr

/-- The return from a handler: to XPC, XACT cleared (R48, R70). -/
def Frame.leave (f : Frame) : Frame := { f with pc := f.xpc, xcause := f.xcause &&& ~~~(0x10000#64) }

/-- A short-vector register (R78). -/
def Frame.vr (f : Frame) (r : Reg) : Vec := f.s[r]

/-- A write to a short-vector register. -/
def Frame.setV (f : Frame) (r : Reg) (v : Vec) : Frame := { f with s := f.s.set r v }

/-- A stream register (R80). -/
def Frame.st (f : Frame) (r : StreamId) : Stream := f.t[r]

/-- A write to a stream register. -/
def Frame.setS (f : Frame) (r : StreamId) (v : Stream) : Frame := { f with t := f.t.set r v }

/-- A debugger is attached with authority to halt cores (R69, R445): the scope in force has HALT. -/
def State.debugAttached (s : State) : Bool := s.dbg.attached && bit (s.fld F.LCS_DBG_SCOPE) 0

/-- A core in P (R37). -/
def State.privileged (s : State) (c : Nat) : Bool := (s.core c).mode = .P

/-! ## Output pins (R425, R426, R463, R515, R519) -/

/-- ALERT_N: a bit of FCL_STATUS whose reaction is 1 or higher (R426). -/
def State.alertDue (s : State) : Bool :=
  (List.range 37).any (fun k => bit (s.fld F.FCL_STATUS_FAULT) k && decide (effReact k (s.react k) ≥ 1))

/-- The card switch selects 1.8 V: the level in force, or from the start of initialisation for a module under MMC18 (R463). -/
def State.vselDue (s : State) : Bool :=
  match s.fld F.CRD_STATUS_STATE, s.card.medium with
  | 1, some m => !m.sd && decide (s.fld F.CRD_CTRL_MMC18 = 1)
  | 2, _ => decide (s.fld F.CRD_STATUS_V18 = 1)
  | 3, _ => decide (s.fld F.CRD_STATUS_V18 = 1)
  | 4, _ => decide (s.fld F.CRD_STATUS_V18 = 1)
  | _, _ => false

/-- What the output pins show of the state. ERROR_N and ALERT_N are released until boot step 4 (R519). -/
def State.pinLevels (s : State) : Pins :=
  { errorLow := s.power.step4 && decide (s.fld F.FCL_ERRN_ASSERTED = 1)
    alertLow := s.power.step4 && s.alertDue
    thermtripLow := s.power.thermtrip
    crdVsel := s.power.step4 && s.vselDue
    crdPwrEn := s.power.step4 && decide (1 ≤ s.fld F.CRD_STATUS_STATE) && decide (s.fld F.CRD_STATUS_STATE ≤ 4) }

/-- The pins follow the state. -/
def State.repin (s : State) : State := { s with pins := s.pinLevels }

/-! ## Time -/

/-- Ticks that HOLDOVER lasts (R120). -/
def State.holdTicks (s : State) : Nat := min (s.fld F.EPC_HOLDOVER_TICKS) (10000000 / s.fld F.EPC_TICK_US)

/-- HOLDOVER has lasted its limit (R120). -/
def State.holdoverDue (s : State) : Bool :=
  decide (s.fld F.EPC_STATUS_STATE = 3) && decide (s.epoch.holdStart + s.holdTicks ≤ s.tick)

/-- The epoch counter runs: ACQUIRING, LOCKED or HOLDOVER within its limit, and not held under BEHIND (R117, R119, R120). -/
def State.counting (s : State) : Bool :=
  let st := s.fld F.EPC_STATUS_STATE
  decide (1 ≤ st ∧ st ≤ 3) && decide (s.fld F.EPC_STATUS_BEHIND = 0) && !s.holdoverDue

/-- EPC_COUNT takes a value: one tick edge, at which the timers up to it become due (R108, R121). -/
def State.setTick (s : State) (v : Nat) : State :=
  let s1 := s.setFld F.EPC_COUNT_COUNT v
  let due := fun (x : Task) => decide (x.state = .waiting) && x.dueAt.isNone && (match x.timer with | some d => decide (d ≤ s1.tick) | none => false)
  (s1.sched.tasks.filter (fun e => due e.2)).foldl (fun s e => s.setTask e.1 { e.2 with dueAt := some s.now }) s1

/-- The Embankment's time stamp counts 32,768 times a second, over the `us` microseconds that pass (R461). -/
def State.embTime (s : State) (us : Nat) : State :=
  let n := s.power.embFrac + us * 32768
  ({ s with power := { s.power with embFrac := n % 1000000 } }).addFld F.EMB_TS_COUNT (n / 1000000)

/-- Sources that deliver (R233). -/
def State.sources (s : State) : Nat := ((List.range 8).filter (fun k => bit (s.fld F.RNG_STATUS_HEALTHY) k)).length

/-- Conditioned output of `us` microseconds enters the buffer of 4,096 bits: 128 bits each with all eight sources, in proportion with fewer
(R232, R235, R237). -/
def State.wellRuns (s : State) (us : Nat) : State :=
  let n := min 32 (s.ent.buf + us * s.sources / 8)
  if s.fld F.RNG_STATUS_STATE = 2 then { s with ent := { s.ent with buf := n } } else s

/-- The local oscillator and CYCLE advance by `us` microseconds (R27, R36). -/
def State.oscRuns (s : State) (us : Nat) : State :=
  { s with now := s.now + us * 100 * s.fld F.PWR_STATUS_CORE_CLK, epoch := { s.epoch with clock := s.epoch.clock + us * 1000 } }

/-- A counter held under BEHIND comes one tick nearer to its release (R119). -/
def State.behindRuns (s : State) : State :=
  let n := s.epoch.behindTo - 1
  let t := { s with epoch := { s.epoch with behindTo := n } }
  if n = 0 then t.setFld F.EPC_STATUS_BEHIND 0 else t

/-- One tick period passes: the local oscillator and CYCLE advance, and EPC_COUNT by one where it runs
(R112); a counter held under BEHIND comes one tick nearer to its release (R119). In reset the Embankment alone counts. -/
def State.idle (s : State) : State :=
  let us := s.fld F.EPC_TICK_US
  let s0 := s.embTime us
  let s1 := (s0.oscRuns us).wellRuns us
  if !s.power.porst ∨ s.power.thermtrip then s0
  else if s.counting then s1.setTick (s.tick + 1)
  else if s.fld F.EPC_STATUS_BEHIND = 1 then s1.behindRuns
  else s1

end Sys2Proof.Machine
end

