-- ==== Sys2Proof/Machine/DikeOps.lean ====
section
/-!
DEFINITION. Sys2Proof/Machine/DikeOps.lean: Dike's decision on one access (R403 to R409), its refusals with freeze and
notice (R410 to R413, R532, R536), and the checked accesses of the masters, host translation and uncorrectable errors
included (R142, R528, R533, R538).
-/

namespace Sys2Proof.Machine

/-- The direction of an access. -/
inductive Dir where
  | read | write | fetch
  deriving DecidableEq, Repr

/-- A master (R403): its class and unit, the polders it acts for, and, for a core in U, the code range of its task's own
program, piece by piece as base and length. -/
structure Master where
  mcls : Nat
  unit : Nat
  acts : List Nat := []
  code : List (Nat × Nat) := []
  deriving DecidableEq, Repr

/-- A master that acts for no polder (R403). -/
def Master.priv (m : Master) : Bool := decide (m.mcls = 1) || decide (m.mcls = 10) || decide (m.mcls = 12)

/-- A region (R405), with its index in a notice. -/
structure Rgn where
  idx : Nat
  base : Nat
  size : Nat
  attr : Nat
  srd : Nat
  emask : Nat
  deriving DecidableEq, Repr

/-- The region at a pair of region registers of a set, if valid (R405, R418). -/
def rgnAt (set : Tbl Word) (off idx : Nat) : Option Rgn :=
  let a := (tget (fun _ => 0) set off).toNat
  let b := (tget (fun _ => 0) set (off + 8)).toNat
  if bit a 63 then
    some { idx := idx, base := bits a 47 12 * 4096, size := bits a 53 48, attr := bits b 7 0, srd := bits b 15 8,
           emask := bits b 23 16 }
  else none

/-- The valid global regions of a set (R404). -/
def globalRgns (set : Tbl Word) : List Rgn := (List.range 64).filterMap (fun i => rgnAt set (0x401000 + 16 * i) i)

/-- The valid polder regions of polder `n` (R404); bit 15 of the index marks them (R413). -/
def polderRgns (set : Tbl Word) (n : Nat) : List Rgn :=
  (List.range 64).filterMap (fun i => rgnAt set (0x410000 + 0x400 * n + 16 * i) (2 ^ 15 + i))

/-- The regions that apply to a master (R404). -/
def rgnsFor (set : Tbl Word) (m : Master) : List Rgn :=
  if m.mcls = 10 then [] else globalRgns set ++ m.acts.flatMap (polderRgns set)

/-- An address lies in one of a region's enabled sub-regions (R404, R405). -/
def Rgn.holds (r : Rgn) (a : Nat) : Bool :=
  decide (r.base ≤ a) && decide (a < r.base + 2 ^ r.size) && !(bit r.srd ((a - r.base) / 2 ^ (r.size - 3)))

/-- The EMASK bit of a class (R405). -/
def emaskBit (mcls : Nat) : Nat := mcls - 2

/-- A region's attributes allow a master a direction (R405). -/
def Rgn.allows (r : Rgn) (m : Master) (d : Dir) : Bool :=
  let u := match d with | .read => 0 | .write => 1 | .fetch => 2
  if m.mcls = 0 then bit r.attr u
  else if m.mcls = 1 ∨ m.mcls = 12 then bit r.attr (u + 3)
  else if m.mcls = 11 then d != .fetch && bit r.attr 7 && bit r.attr (u + 3)
  else if m.mcls = 10 then false
  else d != .fetch && bit r.attr 6 && bit r.emask (emaskBit m.mcls) && bit r.attr u

/-- Dike's decision on one part of an access. -/
inductive Verdict where
  | grant
  | refuse (reason region : Nat)
  deriving DecidableEq, Repr

/-- An address lies in one of the pieces of a range. -/
def inPieces (l : List (Nat × Nat)) (a : Nat) : Bool := l.any (fun p => decide (p.1 ≤ a) && decide (a < p.1 + p.2))

/-- An address lies in the code of a loaded program of polder `n` (R407). -/
def State.inCode (s : State) (n a : Nat) : Bool :=
  s.host.progs.any (fun e => decide (e.1 / 4096 = n) && e.2.loaded && inPieces e.2.code a)

/-- Steps 3 to 6 of R406: the applicable regions, then the default map of R408. -/
def State.byRegions (s : State) (m : Master) (a : Nat) (d : Dir) : Verdict :=
  match (rgnsFor s.dike.force m).filter (fun r => r.holds a) with
  | [r] => if r.allows m d then .grant else .refuse 2 r.idx
  | [] =>
    if !m.priv then .refuse 0 0xFFFF
    else
      match spaceOf s a with
      | .hbm => if d = .fetch then .refuse 2 0xFFFF else .grant
      | .cxl => if d = .fetch then .refuse 2 0xFFFF else .grant
      | .cistern => if d = .fetch then .refuse 2 0xFFFF else .grant
      | .scratch _ => if m.mcls = 10 ∨ d = .fetch then .refuse 2 0xFFFF else .grant
      | .firmware _ => if m.mcls = 10 then .refuse 2 0xFFFF else .grant
      | .regs => if m.mcls = 10 ∨ d = .fetch then .refuse 2 0xFFFF else .grant
      | _ => .refuse 2 0xFFFF
  | r :: _ :: _ => .refuse 1 r.idx

/-- Only the default map decides for a privileged master in a range a fixed rule gives it (R407, R408). -/
def defaultOnly (m : Master) (d : Dir) (fetchOk : Bool) : Verdict :=
  if d = .fetch ∧ !fetchOk then .refuse 2 0xFFFF else if m.mcls = 10 then .refuse 3 0xFFFF else .grant

/-- Dike's decision on an access that lies in one sub-region (R406, R407). `loader` marks the writes of LOAD_PROGRAM. -/
def State.dike1 (s : State) (m : Master) (a : Nat) (d : Dir) (loader : Bool) : Verdict :=
  let sp := spaceOf s a
  let pw := decide (d = .write) && !loader && m.acts.any (fun n => s.inCode n a)
  let dbg := decide (m.mcls = 11) && (List.range 256).any (fun n => !m.acts.contains n &&
    (polderRgns s.dike.force n).any (fun r => r.holds a))
  match sp with
  | .unmapped => .refuse 4 0xFFFF
  | .arena => if m.mcls = 10 then .grant else .refuse 3 0xFFFF
  | .regs =>
    if m.mcls = 1 ∨ m.mcls = 12 then defaultOnly m d false
    else if m.mcls = 11 then (if dbg then .refuse 3 0xFFFF else s.byRegions m a d)
    else .refuse 3 0xFFFF
  | .firmware _ =>
    if m.mcls = 1 ∨ m.mcls = 12 then defaultOnly m d true
    else if m.mcls = 11 then (if dbg then .refuse 3 0xFFFF else s.byRegions m a d)
    else .refuse 3 0xFFFF
  | .scratch c =>
    if m.mcls = 1 ∨ m.mcls = 12 then defaultOnly m d false
    else if m.mcls = 11 then (if dbg then .refuse 3 0xFFFF else s.byRegions m a d)
    else if m.mcls = 0 ∧ d = .fetch then .refuse 5 0xFFFF
    else if m.mcls = 0 ∧ m.unit = c then .grant
    else .refuse 3 0xFFFF
  | _ =>
    if m.mcls = 0 ∧ d = .fetch ∧ !inPieces m.code a then .refuse 5 0xFFFF
    else if pw then .refuse 5 0xFFFF
    else if dbg then .refuse 3 0xFFFF
    else s.byRegions m a d

/-- Bytes from `a` to the end of its 512-byte sub-region, the smallest there is (R405, R409). -/
def toBoundary (a : Nat) : Nat := 512 - a % 512

/-- The first refused part of an access of `len` bytes, with its last byte (R409): adjacent sub-regions refused for one
reason are one part. -/
def State.dikeScan (s : State) (m : Master) (d : Dir) (loader : Bool) :
    Nat → Nat → Nat → Option (Nat × Nat × Nat × Nat) → Option (Nat × Nat × Nat × Nat)
  | 0, _, _, acc => acc
  | fuel + 1, a, len, acc =>
    if len = 0 then acc else
    let n := min len (toBoundary a)
    match s.dike1 m a d loader, acc with
    | .grant, none => s.dikeScan m d loader fuel (a + n) (len - n) none
    | .grant, some x => some x
    | .refuse r g, none => s.dikeScan m d loader fuel (a + n) (len - n) (some (a, a + n - 1, r, g))
    | .refuse r g, some (lo, hi, r0, g0) =>
      if r = r0 ∧ g = g0 then s.dikeScan m d loader fuel (a + n) (len - n) (some (lo, a + n - 1, r0, g0))
      else some (lo, hi, r0, g0)

/-- Dike's check of `len` bytes from `a`: none when every part is granted, else the first refused part as first byte, last
byte, REASON and region. -/
def State.dikeCheck (s : State) (m : Master) (a len : Nat) (d : Dir) (loader : Bool) : Option (Nat × Nat × Nat × Nat) :=
  s.dikeScan m d loader (len / 512 + 2) a len none

/-- A notice is queued, unless its master has one outstanding, whose COUNT then steps (R413). -/
def State.notice (s : State) (x : Notice) : State :=
  if s.dike.notices.any (fun y => decide (y.mcls = x.mcls) && decide (y.unit = x.unit)) then
    { s with dike := { s.dike with notices := s.dike.notices.map (fun y =>
        if y.mcls = x.mcls ∧ y.unit = x.unit then { y with count := min 255 (y.count + 1) } else y) } }
  else { s with dike := { s.dike with notices := s.dike.notices ++ [x] } }

/-- A master is frozen; a worker's affinity list drains (R106, R410). -/
def State.freeze (s : State) (mcls unit n : Nat) : State :=
  if s.frozen mcls unit then s else
  let s1 := { s with dike := { s.dike with frozen := s.dike.frozen ++ [(mcls, unit, n)] } }
  if mcls = 0 then s1.drainAff unit else if mcls = 8 then s1.drainAff (unit + 64) else s1

/-- A refusal (R410 to R413): counted, bit 15 latched, the master frozen where `frz` and it is not privileged, and a
notice queued for the refused part. -/
def State.refuse (s : State) (m : Master) (ctrl : Word) (d : Dir) (p : Nat × Nat × Nat × Nat) (precise frz : Bool) : State :=
  let fz := frz && !m.priv
  let s1 := (s.incFld F.DKE_REFUSED_COUNT).latch 15 ctrl (dataAddress p.1)
  let s2 := s1.notice { ctrl := withSource ctrl 15, data := dataAddress p.1, endA := p.2.1, mcls := m.mcls, unit := m.unit,
                        precise := precise, write := decide (d = .write), fetch := decide (d = .fetch), frozen := fz,
                        reason := p.2.2.1, count := 0, gen := s.fld F.DKE_GEN_STATUS_CUR, region := p.2.2.2 }
  if fz then s2.freeze m.mcls m.unit (m.acts.headD 0) else s2

/-- The refusal of a request for a table of another polder: no access, no freeze (R536). -/
def State.refuseOwner (s : State) (mcls unit : Nat) (ctrl : Word) (table : Nat) (write : Bool) : State :=
  let s1 := (s.incFld F.DKE_REFUSED_COUNT).latch 15 ctrl (dataSegment table 0 0)
  s1.notice { ctrl := withSource ctrl 15, data := dataSegment table 0 0, endA := 0, mcls := mcls, unit := unit, precise := true,
              write := write, fetch := false, frozen := false, reason := 6, count := 0,
              gen := s.fld F.DKE_GEN_STATUS_CUR, region := 0xFFFF }

/-! ## Masters of the device -/

/-- The master of core `c`: in U it acts for its task's polder (R403). -/
def State.coreMaster (s : State) (c : Nat) : Master :=
  match (s.core c).mode with
  | .P => { mcls := 1, unit := c }
  | .U =>
    match (s.worker c).task with
    | some t =>
      let x := s.task t
      let p := s.prog x.polder x.program
      { mcls := 0, unit := c, acts := [x.polder], code := p.code }
    | none => { mcls := 0, unit := c }

/-- The management core, which acts for no polder (R403). -/
def mgmtMaster : Master := { mcls := 12, unit := 0 }

/-- The control word of what core `c` runs; with no task involved, WORKER is 0xFF (R22). -/
def State.coreCtrl (s : State) (c source : Nat) : Word :=
  match s.curTask c with
  | some t => ctrlOfTask s t c source
  | none => hwCtrl s 0 source

/-- The master of an engine class: LE, CE, BE, DE and AE are 2 to 6, lanes and the store controller 7 (R403). -/
def clsMaster (cls : Nat) : Nat :=
  match cls with
  | 0 => 2
  | 1 => 3
  | 2 => 4
  | 3 => 5
  | 4 => 6
  | _ => 7

/-! ## Host translation (R142) -/

/-- The host address of an internal host-window address. -/
def hostAddr (a : Nat) : Nat := a - 0x400000000000

/-- Every page that `len` bytes of host addresses from `h` touch is translated; false at the first refusal. -/
def State.translateAll (s : State) (n h : Nat) : Nat → Bool × State
  | 0 => (true, s)
  | k + 1 =>
    let r := s.translate n h
    if r.1 then r.2.translateAll n (h + 1) k else r

/-- Pages that `len` bytes from `h` touch. -/
def pagesOf (h len : Nat) : Nat := if len = 0 then 0 else (h + len - 1) / 4096 - h / 4096 + 1

/-! ## Checked accesses of engines, units and jobs -/

/-- What a checked access of a unit met (R160, R410, R533). -/
inductive Acc where
  | ok
  | refused
  | poison
  | noTranslation
  deriving DecidableEq, Repr

/-- A unit reads `len` bytes from `a` (R409, R410, R533). -/
def State.unitRead (s : State) (m : Master) (ctrl : Word) (a len : Nat) : Acc × List Byte × State :=
  if len = 0 then (.ok, [], s) else
  match s.dikeCheck m a len .read false with
  | some p => (.refused, [], s.refuse m ctrl .read p true true)
  | none =>
    match s.poisoned a len with
    | some w => (.poison, [], s.latch (eccSource w) ctrl (dataAddress w))
    | none =>
      if spaceOf s a = .host then
        let r := s.translateAll (m.acts.headD 0) (hostAddr a / 4096) (pagesOf (hostAddr a) len)
        if r.1 then (.ok, r.2.bytes a len, (r.2.hostGet (m.acts.headD 0) (hostAddr a) len).bump)
        else (.noTranslation, [], r.2.latch 16 ctrl (dataAddress a))
      else (.ok, s.bytes a len, s)

/-- A unit's write of `len` bytes from `a` is checked, without being performed. -/
def State.unitCheckW (s : State) (m : Master) (ctrl : Word) (a len : Nat) (loader : Bool) : Acc × State :=
  if len = 0 then (.ok, s) else
  match s.dikeCheck m a len .write loader with
  | some p => (.refused, s.refuse m ctrl .write p true true)
  | none =>
    if spaceOf s a = .host then
      let r := s.translateAll (m.acts.headD 0) (hostAddr a / 4096) (pagesOf (hostAddr a) len)
      if r.1 then (.ok, r.2) else (.noTranslation, r.2.latch 16 ctrl (dataAddress a))
    else (.ok, s)

/-- A write whose check has been passed: to internal memory, or to the host's through the window. -/
def State.store (s : State) (n a : Nat) (l : List Byte) : State :=
  if 0x400000000000 ≤ a ∧ a < 0x800000000000 then s.hostPut n (hostAddr a) l else s.put a l

end Sys2Proof.Machine
end

