-- ==== Sys2Proof/Machine/View.lean ====
section
/-!
DEFINITION. Sys2Proof/Machine/View.lean: what a read of a register returns (R7, R32). Most registers return their word; the
counts, selected entries and queue heads of the register tables are computed here from the state that holds them.
-/

namespace Sys2Proof.Machine

/-- The code of a task state (R97). -/
def TState.code : TState → Nat
  | .free => 0
  | .ready => 1
  | .running => 2
  | .waiting => 3
  | .parked => 4
  | .ending => 5

/-- Slots whose state satisfies `p`. -/
def State.countSlots (s : State) (p : TState → Bool) : Nat := (s.sched.tasks.filter (fun e => p e.2.state)).length

/-- PMP_WINFO of the selected worker (R122). -/
def State.winfo (s : State) : Nat :=
  let w := s.fld F.PMP_WSEL_WORKER
  if w > 215 then 0 else
  let k := s.worker w
  let st := if s.workerFrozen w then 2 else if k.task.isSome then 1 else if s.workerOff w then 3 else 0
  (s.affList w).length * 2 ^ 32 + (match k.task with | some t => 2 ^ 30 + t * 2 ^ 16 | none => 0) + st

/-- PMP_SLOT_INFO of the selected slot (R122). -/
def State.slotInfo (s : State) : Nat :=
  let x := s.task (s.fld F.PMP_SLOT_SEL_SLOT)
  if x.state = .free then 0xFF * 2 ^ 36 else
  x.polder * 2 ^ 56 + x.program * 2 ^ 44 + (match x.aff with | some w => w | none => 0xFF) * 2 ^ 36 + x.prio * 2 ^ 33 +
    b2n x.all * 2 ^ 32 + x.cls * 2 ^ 30 + b2n x.vec * 2 ^ 29 + b2n x.timer.isSome * 2 ^ 28 + x.state.code

/-- Heap granules that key slots hold, and those that the output-slot writes to come have reserved (R222, R223). -/
def State.heapUsed (s : State) : Nat :=
  (s.keys.slots.map (fun e => e.2.granules)).sum + (s.jobs.tab.map (fun e => match e.2.fill with | some f => f.2.1.granules | none => 0)).sum

/-- Granules a polder holds (R223, R239). -/
def State.heapOf (s : State) (n : Nat) : Nat :=
  (s.keys.slots.map (fun e => if e.2.owner = n ∧ !e.2.device then e.2.granules else 0)).sum +
    (s.jobs.tab.map (fun e => match e.2.fill with | some f => if e.2.polder = n then f.2.1.granules else 0 | none => 0)).sum

/-- Polder slots a polder holds (R239). -/
def State.keysOf (s : State) (n : Nat) : Nat :=
  (s.keys.slots.filter (fun e => e.2.allocated && !e.2.device && decide (e.2.owner = n))).length

/-- The lifetime field of an attribute word for `r` remaining ticks: the smallest exponent whose mantissa fits (R219). -/
def lifeField (r : Nat) : Nat :=
  let e := (findFrom (fun e => decide (r / 2 ^ e < 2 ^ 24)) 32 0).getD 31
  e * 2 ^ 24 + r / 2 ^ e % 2 ^ 24

/-- The attribute word of a slot at a tick (R219); an empty slot reads 0. -/
def KeySlot.attrWord (k : KeySlot) (tick : Nat) : Word :=
  if k.ty = 0 then 0 else
  BitVec.ofNat 64 (k.ty % 16 * 2 ^ 60 + k.alg % 256 * 2 ^ 52 + k.owner % 256 * 2 ^ 44 + k.usage % 256 * 2 ^ 36 +
    k.exportP % 4 * 2 ^ 34 + k.hmin % 4 * 2 ^ 32 + b2n k.transient * 2 ^ 31 + b2n k.stateful * 2 ^ 30 + b2n k.device * 2 ^ 29 +
    (match k.expiry with | some e => lifeField (e - tick) | none => 0x1FFFFFFF))

/-- The 32 bytes of a notice (R413). -/
def Notice.bytes (x : Notice) : List Byte :=
  pairBytes x.ctrl x.data ++ leBytes 8 x.endA ++ leBytes 1 x.mcls ++ leBytes 1 x.unit ++
    leBytes 1 (b2n x.precise + 2 * b2n x.write + 4 * b2n x.fetch + 8 * b2n x.frozen + 16 * x.reason) ++ leBytes 1 x.count ++
    leBytes 2 x.gen ++ leBytes 2 x.region

/-- The 32 bytes of a fault record (R427). -/
def FRec.bytes (x : FRec) : List Byte :=
  pairBytes x.ctrl x.data ++ leBytes 1 x.bit ++ leBytes 1 x.react ++ leBytes 1 x.exec ++ leBytes 1 x.group ++ [0, 0, 0, 0] ++
    leBytes 8 x.epoch

/-- Accesses of an older generation not yet completed: outstanding jobs whose descriptor was read under one (R417, R531). -/
def State.oldInflight (s : State) : Nat :=
  (s.jobs.tab.filter (fun e => decide (e.2.st ≠ .free) && e.2.granted && decide (e.2.gen ≠ s.fld F.DKE_GEN_STATUS_CUR))).length

/-- APPLIED: no commit pends and no access of an older generation is in flight (R417). -/
def State.applied (s : State) : Bool := decide (s.fld F.DKE_GEN_STATUS_PENDING = 0) && decide (s.oldInflight = 0)

/-- Contexts a polder holds, OPEN or BUSY (R193, R217). -/
def State.ctxsOf (s : State) (n : Nat) : Nat :=
  (s.ctxs.filter (fun e => (decide (e.2.st = .open) || decide (e.2.st = .busy)) && decide (e.2.polder = n))).length

/-- Contexts OPEN or BUSY (R217). -/
def State.ctxUsed (s : State) : Nat :=
  (s.ctxs.filter (fun e => decide (e.2.st = .open) || decide (e.2.st = .busy))).length

/-- A context may be taken for a job of polder `n` (R193): one is FREE or EXPIRED, more than the hardware reserve remain, and
the polder is below its limit. -/
def State.ctxRoom (s : State) (n : Nat) : Bool :=
  decide (256 - s.ctxUsed > min (s.fld F.DIG_HWRES_RESERVE) 128) && decide (s.ctxsOf n < min (s.fld (F.DIG_QUOTA_LIMIT n)) 256)

/-- Operations that need a new context: DG_OPEN, and those that hold one for the job (R190). -/
def takesCtx (opc : Nat) : Bool := decide (opc ∈ [0x01, 0x05, 0x08, 0x09, 0x10, 0x11, 0x12, 0x18, 0x19, 0x1A])

/-- Digest jobs that wait for a context (R193, R217). -/
def State.ctxWaiting (s : State) : Nat :=
  (s.jobs.tab.filter (fun e => decide (e.2.st = .queued) && decide (e.2.cls = 3) && takesCtx e.2.opc && !s.ctxRoom e.2.polder)).length

/-- Hash cores that process blocks (R194, R217): one for each digest job begun and not completed, up to 8 for a hash-based signature or its
key, and no more than are online. -/
def State.coresBusy (s : State) : Nat :=
  let l := s.jobs.tab.filter (fun e => decide (e.2.cls = 3) && (decide (e.2.st = .running) || decide (e.2.st = .finished)) &&
    e.2.engine.any (fun u => decide (u < 32)))
  min ((l.map (fun e => if 0x10 ≤ e.2.opc ∧ e.2.opc ≤ 0x1A then 8 else 1)).sum)
    ((List.range 32).filter (fun k => bit (s.fld F.DIG_CORE_ONLINE_ONLINE) k)).length

/-- Jobs of a class that wait in its queue (R187). -/
def State.queuedOf (s : State) (c : Nat) : Nat := (s.jobQueue c).length

/-- Engines of a class that run a job, by number (R187). -/
def State.busyMask (s : State) (c : Nat) : Nat :=
  (List.range 32).foldl (fun m k =>
    if s.jobs.tab.any (fun e => decide (e.2.cls = c) && decide (e.2.engine = some k) &&
      (decide (e.2.st = .running) || decide (e.2.st = .frozen) || decide (e.2.st = .finished))) then m + 2 ^ k else m) 0

/-- The word of a queue entry's bytes `8j` to `8j + 7`. -/
def wordOf (l : List Byte) (j : Nat) : Nat := leAt l (8 * j) 8

/-- The computed part of a register's value: the word with its computed fields put in, or the stored word. -/
def State.viewReg1 (s : State) (off w : Nat) : Nat :=
  if off = 0x200000 then
    s.countSlots (fun t => t = .waiting ∨ t = .parked) * 2 ^ 32 + s.countSlots (fun t => t = .ready) * 2 ^ 16 + (16384 - s.slotsTaken)
  else if off = 0x200028 then (s.sched.tasks.filter (fun e => e.2.timer.isSome)).length
  else if off = 0x200038 then s.winfo
  else if off = 0x200068 then s.slotInfo
  else if off = 0x200070 then
    let x := s.task (s.fld F.PMP_SLOT_SEL_SLOT)
    if x.state = .free then 0 else x.mask.toNat * 2 ^ 32 + x.flags.toNat
  else if off = 0x200078 then ((s.task (s.fld F.PMP_SLOT_SEL_SLOT)).timer).getD 0
  else if 0x201000 ≤ off ∧ off < 0x201800 then putBits w 16 15 (s.slotsUsed ((off - 0x201000) / 8))
  else if off = 0x400000 then putBits w 32 11 s.dike.notices.length
  else if off = 0x400010 then putBits (putBits w 32 16 s.oldInflight) 17 1 (b2n s.applied)
  else if 0x400028 ≤ off ∧ off ≤ 0x400040 then
    match s.dike.notices with
    | x :: _ => wordOf x.bytes ((off - 0x400028) / 8)
    | [] => 0
  else if off = 0x500040 then s.fcl.recs.length
  else if 0x500058 ≤ off ∧ off ≤ 0x500070 then
    match s.fcl.recs with
    | x :: _ => wordOf x.bytes ((off - 0x500058) / 8)
    | [] => 0
  else if off = 0x500078 then b2n (!s.fcl.resets.isEmpty)
  else w

/-- The computed registers of the key store, the entropy unit, the engines and the digest engine; the ENG block's class offsets for the
digest engine and the compression lanes name no register (R187). -/
def State.viewReg2 (s : State) (off w : Nat) : Nat :=
  if off = 0x800000 then
    putBits (putBits w 32 15 ((s.keys.slots.filter (fun e => e.2.allocated)).length)) 0 17 (81920 - s.heapUsed)
  else if off = 0x800018 then ((s.key (s.fld F.KST_SEL_SLOT)).attrWord s.tick).toNat
  else if off = 0x800020 then
    (let k := s.key (s.fld F.KST_SEL_SLOT); if k.ty = 0 then 0 else match k.expiry with | some e => e | none => 2 ^ 64 - 1)
  else if 0x801000 ≤ off ∧ off < 0x801800 then putBits w 16 15 (s.keysOf ((off - 0x801000) / 8))
  else if 0x801800 ≤ off ∧ off < 0x802000 then putBits w 32 17 (s.heapOf ((off - 0x801800) / 8))
  else if off = 0x700038 then
    (s.jobs.tab.filter (fun e => e.2.held && decide (e.2.st = .queued))).length * 2 ^ 32 + s.ent.tenants.length
  else if off = 0xA00000 then
    s.ctxWaiting * 2 ^ 32 + s.coresBusy * 2 ^ 16 + s.ctxUsed
  else if 0xA01000 ≤ off ∧ off < 0xA01800 then putBits w 32 9 (s.ctxsOf ((off - 0xA01000) / 8))
  else if off = 0xB00000 then (s.jobs.tab.filter (fun e => decide (e.2.st ≠ .free))).length
  else if 0xB00100 ≤ off ∧ off < 0xB00280 then
    let c := (off - 0xB00100) / 64
    if c = 3 ∨ c = 5 then w
    else if (off - 0xB00100) % 64 = 8 then s.busyMask c
    else if (off - 0xB00100) % 64 = 16 then s.queuedOf c
    else w
  else w

/-- Granules of the store region of HBM. -/
def State.hbmGranules (s : State) : Nat := s.fld F.COL_HBM_LIMIT_LIMIT - s.fld F.COL_HBM_BASE_BASE

/-- HBM granules a polder holds (R345). -/
def State.granHbm (s : State) (n : Nat) : Nat :=
  (s.col.gran.filter (fun e => decide (e.2 = n + 1) && decide (e.1 < 0x2400000000))).length

/-- CXL granules a polder holds (R345). -/
def State.granCxl (s : State) (n : Nat) : Nat :=
  (s.col.gran.filter (fun e => decide (e.2 = n + 1) && decide (0x2400000000 ≤ e.1))).length

/-- HBM granules in use. -/
def State.hbmUsed (s : State) : Nat := (s.col.gran.filter (fun e => decide (e.1 < 0x2400000000))).length
/-- CXL granules in use. -/
def State.cxlUsed (s : State) : Nat := (s.col.gran.filter (fun e => decide (0x2400000000 ≤ e.1))).length
/-- Free granules of the store region. -/
def State.hbmFree (s : State) : Nat := s.hbmGranules - s.hbmUsed

/-- Cells of a polder's overflow ring in use (R284, R296). -/
def State.ovfUsed (s : State) (n : Nat) : Nat :=
  (s.net.ses.map (fun x => if x.2.polder = n then (x.2.chain.map (·.ovf)).sum else 0)).sum

/-- The column store's registers (R345), and the operator units' (R373). -/
def State.viewReg3 (s : State) (off w : Nat) : Nat :=
  let tabs := s.col.tables.filter (fun e => !e.2.desc.isEmpty)
  let cis := fun (p : Nat) => (s.opu.cis.filter (fun g => decide (g.2.part = p))).length
  if off = 0xE00000 then
    putBits (putBits (putBits w 32 13 tabs.length) 3 1 (b2n (tabs.any (fun e => e.2.staged)))) 1 1 (b2n (decide (s.hbmFree = 0)))
  else if off = 0xE00018 then s.cxlUsed * 2 ^ 32 + s.hbmUsed
  else if 0xE01000 ≤ off ∧ off < 0xE03000 then
    let n := (off - 0xE01000) / 32
    if off % 32 = 0 then putBits w 32 13 (tabs.filter (fun e => decide (e.2.polder = n))).length
    else if off % 32 = 8 then putBits w 32 17 (s.granHbm n)
    else if off % 32 = 16 then putBits w 32 22 (s.granCxl n)
    else w
  else if off = 0x1000000 then
    ((s.jobQueue 5).filter (fun e => decide ((s.job e).opc ≤ 2))).length * 2 ^ 32 + s.busyMask 5 % 256
  else if off = 0xF00000 then putBits w 32 16 s.opu.runs.length
  else if off = 0xF00018 then cis 2 * 2 ^ 32 + cis 1 * 2 ^ 16 + cis 0
  else w

/-- The registers of polders, sessions, limiters, control stores and the card port (R155, R265, R295, R296, R476). -/
def State.viewReg4 (s : State) (off w : Nat) : Nat :=
  if 0x100000 ≤ off ∧ off < 0x200000 ∧ off % 4096 = 0x830 then
    putBits w 32 12 (s.opu.cis.filter (fun g => decide (g.2.polder = (off - 0x100000) / 4096))).length
  else if 0x100000 ≤ off ∧ off < 0x200000 ∧ off % 4096 = 0x838 then
    putBits w 32 22 (s.net.ses.filter (fun x => decide (x.2.st ≠ 0) && decide (x.2.polder = (off - 0x100000) / 4096))).length
  else if off = 0xD00008 then (s.net.ses.filter (fun x => decide (x.2.st ≠ 0))).length * 2 ^ 32 + s.net.hot.length
  else if 0xD04000 ≤ off ∧ off < 0xD08000 ∧ off % 64 = 16 then putBits w 32 24 (s.ovfUsed ((off - 0xD04000) / 64))
  else if off = 0xC02008 then (tget (fun _ => (0, 0, 0)) s.net.rl (s.fld F.NET_RL_SEL_ENTRY)).1
  else if off = 0xC02010 then (tget (fun _ => (0, 0, 0)) s.net.rl (s.fld F.NET_RL_SEL_ENTRY)).2.1
  else if off = 0xC02018 then (tget (fun _ => (0, 0, 0)) s.net.rl (s.fld F.NET_RL_SEL_ENTRY)).2.2
  else if 0x901018 ≤ off ∧ off < 0x901018 + 5 * 0x400 ∧ (off - 0x901018) % 0x400 = 0 then
    putBits w 0 16 (s.custInflight ((off - 0x901018) / 0x400))
  else if off = 0x1400000 then putBits w 16 5 s.card.jobs.length
  else w

/-- GLB_MODE, the modes in force (R503). -/
def State.glbMode (s : State) : Nat :=
  s.power.capWatts * 2 ^ 8 + s.power.capMode * 2 ^ 7 + s.fld F.EMB_CFG_MODE * 2 ^ 6 + s.epoch.cur.src * 2 ^ 4 +
    s.fld F.RNG_CTRL_STRICT * 2 ^ 3 + s.fld F.SES_CTRL_MODE * 2 ^ 2 + s.fld F.OPU_CIS_STATUS_CUR

/-- A 64-bit read of the register at an 8-byte-aligned offset (R6, R7, R32). -/
def State.readReg (s : State) (off : Nat) : Word :=
  let w := (s.reg off).toNat
  BitVec.ofNat 64 (if off = 0x18 then s.glbMode else s.viewReg4 off (s.viewReg3 off (s.viewReg2 off (s.viewReg1 off w))))

/-- A read by address within the register space: 64 bits, or an aligned 32-bit half; any other reads 0 (R6). -/
def State.busRead (s : State) (off len : Nat) : Nat :=
  if len = 8 ∧ off % 8 = 0 then (s.readReg off).toNat
  else if len = 4 ∧ off % 8 = 0 then (s.readReg off).toNat % 2 ^ 32
  else if len = 4 ∧ off % 8 = 4 then (s.readReg (off - 4)).toNat / 2 ^ 32
  else 0

end Sys2Proof.Machine
end

