-- ==== Sys2Proof/Machine/CoreMem.lean ====
section
/-!
DEFINITION. Sys2Proof/Machine/CoreMem.lean: the memory accesses that a core makes for an instruction (R45, R49, R73, R142,
R528, R538).
-/

namespace Sys2Proof.Machine

/-- What a core's read met: the bytes with the state after, or the state after an exception or a freeze. -/
inductive Rd where
  | ok (l : List Byte) (s : State)
  | stop (s : State)
  deriving DecidableEq, Repr

/-- The polder whose translations a core's accesses use (R142). -/
def State.corePolder (s : State) (c : Nat) : Nat :=
  match s.curTask c with
  | some t => (s.task t).polder
  | none => 0

/-- The source of an uncorrectable error that core `c` meets latches with the word's address; for local memory, source 4, the record
names the core (R538). -/
def State.latchEcc (s : State) (c w : Nat) : State :=
  let k := eccSource w
  let ctrl := if k = 4 ∧ (s.curTask c).isNone then ctrlWord 0 0 0 0xFF c s.lcs 4 none else s.coreCtrl c k
  s.latchAt k c ctrl (dataAddress w)

/-- An uncorrectable error met by a core's read (R538): the source latches; unless a block or chip reset takes precedence, DATA_ERROR is
raised. -/
def State.coreEcc (s : State) (c : Nat) (f : Frame) (w : Nat) (xaddr : Word) : State :=
  let k := eccSource w
  let s1 := s.latchEcc c w
  if s.bringsReset k then s1 else s1.raise c f 9 0 xaddr false

/-- The fetch of the instruction at the program counter, where it fails (R38, R39, R47, R73, R407, R538): refused, it freezes the core in U
at the instruction with a precise notice, and is an exception in P; a word with an uncorrectable error raises DATA_ERROR with the
instruction's own address; a word that is no instruction raises ILLEGAL_INSTR. None where an instruction is fetched (log entry 5). -/
def State.fetchStop (s : State) (c : Nat) (f : Frame) : Option State :=
  let m := s.coreMaster c
  match s.dikeCheck m f.pc.toNat 4 .fetch false with
  | some p =>
    let s1 := s.refuse m (s.coreCtrl c 15) .fetch p true true
    some (if m.priv then s1.raise c f 0 0 f.pc false else s1)
  | none =>
    match s.poisoned f.pc.toNat 4 with
    | some w => some (s.coreEcc c f w f.pc)
    | none =>
      if (decodeCore (Fin.ofNat 64 c) (BitVec.ofNat 32 (s.load f.pc.toNat 4))).isNone then some (s.raise c f 1 0 0 false) else none

/-- An instruction of core `c` is fetched and runs on the frame it finds; a core that does not execute changes nothing. A core that a
debugger steps halts again after it (R445). -/
def State.withFrame (s : State) (c : Nat) (k : Frame → State) : State :=
  match s.frame c with
  | some f =>
    let t := match s.fetchStop c f with
      | some u => u
      | none => k f
    if (s.core c).stepping then t.setCore c { t.core c with stepping := false, halted := true } else t
  | none => s

/-- A task of a polder that drains or squashes makes no new host transfer: it waits at the instruction (R149). -/
def State.hostHeld (s : State) (c a : Nat) : Bool :=
  decide (spaceOf s a = .host) && (s.curTask c).isSome && s.halted (s.corePolder c)

/-- A core reads `len` bytes from `a` for the instruction whose frame is `f`: translation first where the address lies in
the host window, then Dike, then the word's error (R73, R142, R538). A refusal freezes the core in U at the instruction,
with a precise notice, and is an exception in P (R411). -/
def State.coreRead (s : State) (c : Nat) (f : Frame) (a len : Nat) : Rd :=
  if s.hostHeld c a then .stop s else
  let host := decide (spaceOf s a = .host)
  let r := if host then s.translateAll (s.corePolder c) (hostAddr a / 4096) (pagesOf (hostAddr a) len) else (true, s)
  if !r.1 then .stop (r.2.raise c f 6 0 (BitVec.ofNat 64 a) false) else
  let s := r.2
  let m := s.coreMaster c
  match s.dikeCheck m a len .read false with
  | some p =>
    let s1 := s.refuse m (s.coreCtrl c 15) .read p true true
    .stop (if m.priv then s1.raise c f 0 0 (BitVec.ofNat 64 a) false else s1)
  | none =>
    match s.poisoned a len with
    | some w => .stop (s.coreEcc c f w (BitVec.ofNat 64 w))
    | none =>
      if spaceOf s a = .regs then .ok (leBytes len (s.busRead (a - 0x300000000000) len)) s
      else .ok (s.bytes a len) (if host then (s.hostGet (s.corePolder c) (hostAddr a) len).bump else s)

/-- A store is posted: to HBM, CXL, the Cistern or the host window (R49). DESIGN CHOICE: R49 leaves out an address that names nothing, CXL
beyond the installed capacity among them; a store there is posted too, and its refusal imprecise (log entry 65). -/
def posted (sp : Space) : Bool :=
  match sp with
  | .hbm => true
  | .arena => true
  | .cxl => true
  | .cistern => true
  | .host => true
  | .unmapped => true
  | _ => false

/-- What a core's store met: accepted, an exception or freeze at the instruction, or a posted store refused after it left
the core. -/
inductive Wr where
  | ok (s : State)
  | stop (s : State)
  | late (s : State)
  deriving DecidableEq, Repr

/-- A write to the registers by a core in P; the write itself is the caller's, given by `bus` (R6). -/
abbrev BusWrite := Nat → Nat → Nat → State → State

/-- A core stores bytes at `a`. A refused posted store is not performed; its notice is imprecise and the core freezes at the
instruction it has reached (R73, R412). `precise` marks the element stores of a long vector (R89). -/
def State.coreWrite (s : State) (c : Nat) (f : Frame) (a : Nat) (l : List Byte) (precise : Bool) (bus : BusWrite) : Wr :=
  if s.hostHeld c a then .stop s else
  let host := decide (spaceOf s a = .host)
  let r := if host then s.translateAll (s.corePolder c) (hostAddr a / 4096) (pagesOf (hostAddr a) l.length) else (true, s)
  if !r.1 then .stop (r.2.raise c f 6 0 (BitVec.ofNat 64 a) false) else
  let s := r.2
  let m := s.coreMaster c
  let pp := posted (spaceOf s a) && !precise
  match s.dikeCheck m a l.length .write false with
  | some p =>
    let s1 := s.refuse m (s.coreCtrl c 15) .write p (!pp) true
    if m.priv then .stop (s1.raise c f 0 0 (BitVec.ofNat 64 a) false) else if pp then .late s1 else .stop s1
  | none =>
    if spaceOf s a = .regs then .ok (bus (a - 0x300000000000) l.length (leNat l) s)
    else .ok (s.store (s.corePolder c) a l)

/-- No register write: for instructions that reach memory only. -/
def noBus : BusWrite := fun _ _ _ s => s

/-- An instruction ends after its store: the frame moves on, and a posted store refused late freezes the core there. -/
def Wr.finish (w : Wr) (c : Nat) (f : Frame) : State :=
  match w with
  | .ok s => s.setFrame c f
  | .stop s => s
  | .late s => s.setFrame c f

end Sys2Proof.Machine
end

