-- ==== Sys2Proof/Machine/Operands.lean ====
section
/-!
DEFINITION. Sys2Proof/Machine/Operands.lean: the operand formats that instructions and units read: the spawn descriptor (R53),
the job header and the descriptors of engine, digest, compression, key and run jobs (R60, R159, R189, R227, R303, R350).
-/

namespace Sys2Proof.Machine

/-- A spawn descriptor (R53). -/
structure Spawn where
  entry : Nat
  mode : Nat
  rsv : Nat
  wait : Nat
  arg : Word
  frame : Nat
  stack : Word
  deriving DecidableEq, Repr

/-- The descriptor in 32 bytes (R53). -/
def parseSpawn (l : List Byte) : Spawn :=
  { entry := leAt l 0 2, mode := leAt l 2 1, rsv := leAt l 3 1, wait := leAt l 4 4, arg := BitVec.ofNat 64 (leAt l 8 8),
    frame := leAt l 16 8, stack := BitVec.ofNat 64 (leAt l 24 8) }

/-- V of MODE (R53). -/
def Spawn.vec (d : Spawn) : Bool := bit d.mode 1

/-- Bytes of the task frame (R34). -/
def frameSize (v : Bool) : Nat := if v then 2048 else 512

/-- The checks of R54 on the fields: the entry index, must-be-zero fields, FRAME's alignment and its place in HBM or the
Cistern. DESIGN CHOICE: R54 does not say what a FRAME elsewhere raises; it fails this check as a misaligned one does (log entry 67). -/
def Spawn.okFor (d : Spawn) (s : State) (p : Program) : Bool :=
  decide (d.entry < p.entries.length) && decide (d.mode / 32 = 0) && decide (d.rsv = 0) && !(bit d.wait 31) &&
    decide (d.frame % frameSize d.vec = 0) && (decide (spaceOf s d.frame = .hbm) || decide (spaceOf s d.frame = .cistern))

/-- The internal address of an offset in a program's code, which may lie in several pieces (R139). -/
def codeAt : List (Nat × Nat) → Nat → Nat
  | [], o => o
  | (a, k) :: t, o => if o < k ∨ t.isEmpty then a + o else codeAt t (o - k)

/-- The first frame of a task (R51): zero but for g1 ARG, g2 PDB, g3 the slot, g30 STACK, and PC at the entry. -/
def firstFrame (slot : Nat) (p : Program) (entry : Nat) (arg stack : Word) : Frame :=
  { g := (((((Vector.replicate 32 (0 : Word)).set 1 arg).set 2 (BitVec.ofNat 64 p.pdb)).set 3 (BitVec.ofNat 64 slot)).set 30 stack)
    pc := BitVec.ofNat 64 (codeAt p.code (p.entries.getD entry (0, 0)).1) }

/-- The task that a spawn descriptor describes, for a program of a polder (R51, R53). -/
def Spawn.toTask (d : Spawn) (slot n h : Nat) (p : Program) : Task :=
  { polder := n, program := h, prio := bits d.mode 4 2, all := bit d.mode 0, vec := d.vec, mask := BitVec.ofNat 32 d.wait,
    frameAddr := d.frame, frame := firstFrame slot p d.entry d.arg d.stack }

/-! ## Job descriptors -/

/-- SLOT of the header (R60). -/
def hdrSlot (l : List Byte) : Nat := leAt l 8 2 % 2 ^ 14
/-- SV of the header (R60). -/
def hdrSv (l : List Byte) : Bool := bit (leAt l 8 2) 15
/-- HREQ of the header (R60). -/
def hdrHreq (l : List Byte) : Nat := leAt l 10 1
/-- The header's must-be-zero bits are 0 (R60). -/
def hdrOk (l : List Byte) : Bool := !(bit (leAt l 8 2) 14) && decide (leAt l 11 1 = 0)

/-- Bytes `lo` to `hi` of a descriptor are 0. -/
def zeroAt (l : List Byte) (lo hi : Nat) : Bool := (bytesAt l lo (hi + 1 - lo)).all (· = 0)

/-- An engine job's descriptor (R159). -/
structure EngDesc where
  aAddr : Nat
  aLen : Nat
  bLen : Nat
  bAddr : Nat
  cAddr : Nat
  cLen : Nat
  kLen : Nat
  kAddr : Nat
  out : Nat
  cap : Nat
  oslot : Nat
  ov : Bool
  pset : Nat
  mode : Nat
  iv : List Byte
  deriving DecidableEq, Repr

/-- The descriptor in 128 bytes (R159). -/
def parseEng (l : List Byte) : EngDesc :=
  { aAddr := leAt l 16 8, aLen := leAt l 24 4, bLen := leAt l 28 4, bAddr := leAt l 32 8, cAddr := leAt l 40 8,
    cLen := leAt l 48 4, kLen := leAt l 52 4, kAddr := leAt l 56 8, out := leAt l 64 8, cap := leAt l 72 4,
    oslot := leAt l 76 2 % 2 ^ 14, ov := bit (leAt l 76 2) 15, pset := leAt l 78 1, mode := leAt l 79 1, iv := bytesAt l 80 12 }

/-- DET of MODE (R159). -/
def EngDesc.det (d : EngDesc) : Bool := bit d.mode 0
/-- HASH of MODE (R159). -/
def EngDesc.hash (d : EngDesc) : Nat := bits d.mode 3 1

/-- The addresses' upper bits, OSLOT's bit 14, MODE's upper bits and bytes 92 to 127 are 0 (R159). -/
def EngDesc.mbz (d : EngDesc) (l : List Byte) : Bool :=
  hdrOk l && decide (d.aAddr < 2 ^ 48) && decide (d.bAddr < 2 ^ 48) && decide (d.cAddr < 2 ^ 48) && decide (d.kAddr < 2 ^ 48) &&
    decide (d.out < 2 ^ 48) && !(bit (leAt l 76 2) 14) && decide (d.mode / 16 = 0) && zeroAt l 92 127

/-- A digest job's descriptor (R189). -/
structure DigDesc where
  aAddr : Nat
  aLen : Nat
  ctx : Nat
  decl : Nat
  bAddr : Nat
  bLen : Nat
  cLen : Nat
  cAddr : Nat
  out : Nat
  cap : Nat
  oslot : Nat
  ov : Bool
  alg : Nat
  flags : Nat
  outLen : Nat
  islot2 : Nat
  i2v : Bool
  otype : Nat
  levels : Nat
  p1 : Nat
  p2 : Nat
  kAddr : Nat
  kLen : Nat
  deriving DecidableEq, Repr

/-- The descriptor in 128 bytes (R189). -/
def parseDig (l : List Byte) : DigDesc :=
  { aAddr := leAt l 16 8, aLen := leAt l 24 4, ctx := leAt l 28 4, decl := leAt l 32 8, bAddr := leAt l 40 8, bLen := leAt l 48 4,
    cLen := leAt l 52 4, cAddr := leAt l 56 8, out := leAt l 64 8, cap := leAt l 72 4, oslot := leAt l 76 2 % 2 ^ 14,
    ov := bit (leAt l 76 2) 15, alg := leAt l 78 1, flags := leAt l 79 1, outLen := leAt l 80 4, islot2 := leAt l 84 2 % 2 ^ 14,
    i2v := bit (leAt l 84 2) 15, otype := leAt l 86 1, levels := leAt l 87 1, p1 := leAt l 88 4, p2 := leAt l 92 4,
    kAddr := leAt l 96 8, kLen := leAt l 104 4 }

/-- DL of FLAGS (R189). -/
def DigDesc.dl (d : DigDesc) : Bool := bit d.flags 0
/-- MAC of FLAGS (R189). -/
def DigDesc.mac (d : DigDesc) : Bool := bit d.flags 1
/-- CMP of FLAGS (R189). -/
def DigDesc.cmp (d : DigDesc) : Bool := bit d.flags 2
/-- DET of FLAGS (R189). -/
def DigDesc.det (d : DigDesc) : Bool := bit d.flags 3
/-- PH of FLAGS (R189). -/
def DigDesc.ph (d : DigDesc) : Nat := bits d.flags 6 4
/-- XW of FLAGS (R189). -/
def DigDesc.xw (d : DigDesc) : Bool := bit d.flags 7

/-- The must-be-zero bits every digest job shares (R189). -/
def DigDesc.mbz (d : DigDesc) (l : List Byte) : Bool :=
  hdrOk l && decide (d.aAddr < 2 ^ 48) && decide (d.bAddr < 2 ^ 48) && decide (d.cAddr < 2 ^ 48) && decide (d.kAddr < 2 ^ 48) &&
    decide (d.out < 2 ^ 48) && !(bit (leAt l 76 2) 14) && !(bit (leAt l 84 2) 14) && zeroAt l 108 127

/-- An asynchronous KEY job's descriptor (R227). -/
structure KeyDesc where
  addr : Nat
  cap : Nat
  flags : Nat
  nonce : List Byte
  deriving DecidableEq, Repr

/-- The descriptor in 128 bytes (R227). -/
def parseKey (l : List Byte) : KeyDesc :=
  { addr := leAt l 16 8, cap := leAt l 24 4, flags := leAt l 28 1, nonce := bytesAt l 32 32 }

/-- The must-be-zero bits every KEY job shares (R227). -/
def KeyDesc.mbz (d : KeyDesc) (l : List Byte) : Bool :=
  hdrOk l && decide (d.addr < 2 ^ 48) && decide (d.flags / 8 = 0) && zeroAt l 29 31 && zeroAt l 64 127

end Sys2Proof.Machine
end

