-- ==== Sys2Proof/Machine/Rand.lean ====
section
/-!
DEFINITION. Sys2Proof/Machine/Rand.lean: the DRBG instances as their consumers draw from them (R157, R235 to R238). What an
instance gives is an uninterpreted function of the instance and its count of draws.
-/

namespace Sys2Proof.Machine

/-- A DRBG instance: 0 to 31 internal, 32 + n the tenant instance of polder n. -/
def State.drbg (s : State) (i : Nat) : Drbg := tget (fun _ => {}) s.ent.drbg i

/-- The state with a DRBG instance replaced. -/
def State.setDrbg (s : State) (i : Nat) (d : Drbg) : State :=
  { s with ent := { s.ent with drbg := tset (fun _ => {}) s.ent.drbg i d } }

/-- The Well is in READY (R233). -/
def State.wellUp (s : State) : Bool := s.fld F.RNG_STATUS_STATE = 2

/-- The Well can supply a seed now: it is in READY with 384 bits in its buffer (R233, R235). -/
def State.wellReady (s : State) : Bool := s.wellUp && decide (3 ≤ s.ent.buf)

/-- The Well is in FAILED (R233). -/
def State.wellFailed (s : State) : Bool := s.fld F.RNG_STATUS_STATE = 3

/-- 384 bits of conditioned output leave the Well: three half blocks of RNG_OUTPUT (R235, R240). -/
def State.takeSeed (s : State) : State :=
  let s1 := s.addFld F.RNG_OUTPUT_BLOCKS (if s.ent.halfBlock then 2 else 1)
  { s1 with ent := { s1.ent with halfBlock := !s.ent.halfBlock, buf := s.ent.buf - 3 } }

/-- An instance is seeded, or seeded again, from the Well (R235). -/
def State.reseed (s : State) (i : Nat) : State :=
  let d := s.drbg i
  s.takeSeed.setDrbg i { d with seeded := true, calls := 0, inst := true }

/-- Generate calls between reseeds of an instance (R235, R236). -/
def State.reseedAt (s : State) (i : Nat) : Nat :=
  if i < 32 then s.fld F.RNG_INT_RESEED_CALLS else s.fld F.RNG_TEN_RESEED_CALLS

/-- An instance is due for a seed. -/
def State.seedDue (s : State) (i : Nat) : Bool := !(s.drbg i).seeded || decide ((s.drbg i).calls ≥ s.reseedAt i)

/-- The first internal instance that is due: it goes before every tenant (R237). -/
def State.internalDue (s : State) : Option Nat := findFrom s.seedDue 32 0

/-- An internal instance can deliver (R157, R235, R238): it is seeded and below 2^20 calls, or the Well can seed it. -/
def State.drbgReady (s : State) (i : Nat) : Bool :=
  let d := s.drbg i
  s.wellReady || (d.seeded && decide (d.calls < 2 ^ 20))

/-- An internal instance is brought to where it may generate: seeded, and reseeded at its interval if the Well can (R235). -/
def State.prepare (s : State) (i : Nat) : State :=
  let d := s.drbg i
  if s.wellReady ∧ (!d.seeded ∨ d.calls ≥ s.fld F.RNG_INT_RESEED_CALLS) then s.reseed i else s

/-- One generate call of an instance, cut to `len` bytes. -/
def State.generate (s : State) (i len : Nat) (extra : List Byte) : List Byte × State :=
  let d := s.drbg i
  (fitLen len (Config.drbg i d.drawn (d.pers ++ extra) len), s.setDrbg i { d with calls := d.calls + 1, drawn := d.drawn + 1 })

/-- A draw by a consumer of an internal instance that can deliver. -/
def State.draw (s : State) (i len : Nat) : List Byte × State := (s.prepare i).generate i len []

/-- The instance that serves engine `k` of a class, or a digest context (R235). -/
def instFor (cls k : Nat) : Nat :=
  match cls with
  | 0 => k / 2
  | 1 => 24 + k / 2
  | 2 => 16 + k / 2
  | 3 => 28 + k % 2
  | 4 => 26 + k / 8
  | _ => 30

end Sys2Proof.Machine
end

