-- ==== Sys2Proof/Machine/JobOps.lean ====
section
/-!
DEFINITION. Sys2Proof/Machine/JobOps.lean: jobs from issue to completion (R59 to R64, R156, R157, R160, R531, R533, R535), and
the steps that every engine's operations share.
-/

namespace Sys2Proof.Machine

/-! ## Issue -/

/-- The lowest-numbered free entry of the job table. -/
def State.freeEntry (s : State) : Option Nat := findFrom (fun e => decide ((s.job e).st = .free)) 16384 0

/-- A job of task `t` on core `c` (R59, R22). -/
def State.newJob (s : State) (c t cls opc ev desc subject : Nat) : Job :=
  let x := s.task t
  { st := .queued, seq := s.jobs.seq, cls := cls, opc := opc, polder := x.polder, program := x.program, task := t, worker := c,
    pipeline := x.pipeline, operator := x.operator, coord := x.coord, ev := ev, desc := desc,
    since := s.tick, subject := subject }

/-- The handle of entry `e` with sequence `q` (R59). -/
def jobHandle (e q : Nat) : Word := BitVec.ofNat 64 (e % 2 ^ 14 + q % 2 ^ 18 * 2 ^ 14)

/-- A job enters the table and its class queue. -/
def State.enqueue (s : State) (e : Nat) (j : Job) : State :=
  let s1 := (s.setJob e j).setJobQueue j.cls (s.jobQueue j.cls ++ [e])
  { s1 with jobs := { s1.jobs with seq := (s.jobs.seq + 1) % 2 ^ 18 } }

/-! ## Ends -/

/-- A job leaves its class queue. -/
def State.dequeue (s : State) (e : Nat) : State :=
  s.setJobQueue (s.job e).cls ((s.jobQueue (s.job e).cls).filter (· ≠ e))

/-- The sequencer that ran a job, on its unit or written back, is zeroised (R256). -/
def State.dropSeqs (s : State) (e : Nat) : State :=
  { s with mcs := { s.mcs with seqs := s.mcs.seqs.filter (fun x => !(decide (x.1 < 1024) && decide (x.2.work = e)))
                               parked := s.mcs.parked.filter (fun q => decide (q.work ≠ e)) } }

/-- A job is finished: its completion is due (R61). Every status but OK and OK_TRUNCATED has no output (R60). -/
def State.finish (s : State) (e st detail outlen : Nat) (writes : List (Nat × List Byte)) : State :=
  let s1 := (s.dequeue e).dropSeqs e
  s1.setJob e { s1.job e with st := .finished, held := false, status := st, detail := detail,
                              outlen := if st ≤ 1 then outlen else 0, writes := writes,
                              fill := if st ≤ 1 then (s1.job e).fill else none }

/-- A job that a refused access stops: it waits for the thaw of its master, the last one frozen, whose unit is kept as its engine (R160,
R410). -/
def State.stopFrozen (s : State) (e : Nat) : State :=
  let s1 := (s.dequeue e).dropSeqs e
  let u := (s.dike.frozen.getLast?).map (fun x => x.2.1)
  s1.setJob e { s1.job e with st := .frozen, engine := u }

/-- The completion writes of a job, in order: scrubbed ranges, outputs, STATUS, DETAIL, OUTLEN, DONE (R61, R170). The header of
a descriptor that was never granted is not written (R531). -/
def State.writeOut (s : State) (j : Job) : State :=
  let s1 := j.scrub.foldl (fun s r => s.store j.polder r.1 (List.replicate r.2 0)) s
  let s2 := j.writes.foldl (fun s w => s.store j.polder w.1 w.2) s1
  if !j.granted then s2 else
  let s3 := s2.store j.polder j.desc (leBytes 1 j.status)
  let s4 := s3.store j.polder (j.desc + 2) (leBytes 2 j.detail)
  let s5 := s4.store j.polder (j.desc + 4) (leBytes 4 j.outlen)
  s5.store j.polder (j.desc + 1) [1]

/-- The counters a completion steps (R160, R187, R217, R239, R240). -/
def State.countJob (s : State) (j : Job) : State :=
  let s1 :=
    if j.cls = 0 ∨ j.cls = 1 ∨ j.cls = 2 ∨ j.cls = 4 then s.incFld (F.ENG_COMPLETED_COUNT j.cls)
    else if j.cls = 3 then s.incFld F.DIG_COMPLETED_COUNT
    else s
  if j.status = 0x0A then s1.incFld F.RNG_DENIED_UNAVAIL
  else if j.status = 0x0B then s1.incFld F.RNG_DENIED_FAILED
  else if j.status = 0x12 then
    if j.cls ≤ 5 then s1.incFld F.ENG_MALFORMED_COUNT else if j.cls = 8 then s1.incFld F.KST_ERR_MALFORMED else s1
  else s1

/-- The context a job kept BUSY is OPEN again (R192); its idle time starts (R195). -/
def State.freeCtx (s : State) (j : Job) : State :=
  match j.ctx with
  | some x =>
    let k := s.ctx x
    if k.st = .busy then
      if k.temp ∨ (j.cls = 3 ∧ j.opc = 1 ∧ j.status > 1) then s.setCtx x { seq := k.seq } else s.setCtx x { k with st := .open, idleSince := s.tick }
    else s
  | none => s

/-- A context is zeroised and freed, and the job that kept it keeps none (R190, R215, R216). -/
def State.dropCtx (s : State) (x : Nat) : State :=
  let s1 := s.setCtx x { seq := (s.ctx x).seq }
  { s1 with jobs := { s1.jobs with tab := s1.jobs.tab.map (fun e => (e.1, if e.2.ctx = some x then { e.2 with ctx := none } else e.2)) } }

/-- An entry becomes free without a completion's writes; its task's slot settles (R58). -/
def State.dropJob (s : State) (e : Nat) : State :=
  let j := s.job e
  (((s.dequeue e).freeCtx j).setJob e {}).settleSlot j.task

/-- A job completes: outputs and header, the event flag, the entry, the task's slot (R58, R61). -/
def State.completeJob (s : State) (e : Nat) : State :=
  let j := s.job e
  let s1 := (s.writeOut j).countJob j
  let s2 := ((s1.freeCtx j).dropSeqs e).setJob e {}
  (s2.setFlags j.task (BitVec.ofNat 32 (2 ^ j.ev))).settleSlot j.task

/-! ## Starting a job on an engine -/

/-- How a job's work ends before its completion: with a status; refused, until a thaw; not begun, for want of what it needs, of
randomness (R157), or of entropy for a tenant (R237). -/
inductive Stop where
  | status (st detail : Nat)
  | frozen
  | wait
  | rnd
  | entropy
  deriving DecidableEq, Repr

/-- The work of a job: it may stop, and keeps the state it has reached. -/
abbrev JobM (α : Type) := ExceptT Stop (StateM State) α

/-- A check of R160. -/
def need (p : Bool) (st : Nat) : JobM Unit := if p then pure () else throw (.status st 0)

/-- A change of the state. -/
def act (k : State → State) : JobM Unit := modify k

/-- What a job's work came to. -/
structure JobOut where
  status : Nat := 0
  detail : Nat := 0
  outlen : Nat := 0
  writes : List (Nat × List Byte) := []
  deriving DecidableEq, Repr

/-- A checked access's result as a job takes it (R160, R410, R533). -/
def accStop : Acc → JobM Unit
  | .ok => pure ()
  | .refused => throw .frozen
  | .poison => throw (.status 0x16 0xFFFD)
  | .noTranslation => throw (.status 0x0D 0)

/-- An operand is read (R160). -/
def readOp (m : Master) (ctrl : Word) (a len : Nat) : JobM (List Byte) := do
  let s ← get
  let r := s.unitRead m ctrl a len
  set r.2.2
  accStop r.1
  pure r.2.1

/-- An output area is checked before the work is released. -/
def checkOut (m : Master) (ctrl : Word) (a len : Nat) : JobM Unit := do
  let s ← get
  let r := s.unitCheckW m ctrl a len false
  set r.2
  accStop r.1

/-- A draw from an internal DRBG. -/
def drawM (i len : Nat) : JobM (List Byte) := do
  let s ← get
  let r := s.draw i len
  set r.2
  pure r.1

/-- What masks and shuffles a secret operation comes from the internal DRBG of its engine: a fresh permutation, and one mask for each share
beyond the first (R163, R164). No rule states how many bytes or calls these take: one generate call each (DESIGN CHOICE, log entry 72). -/
def drawMasks (inst level : Nat) : JobM Unit := do
  let _ ← drawM inst 32
  let _ ← drawM inst (32 * level)
  pure ()

/-- The output-slot write of a job, made when it completes (R165, R179). -/
def setFill (e k : Nat) (x : KeySlot) (stateful : Bool) : JobM Unit :=
  act (fun s => s.setJob e { s.job e with fill := some (k, x, stateful) })

/-- A job is held back for randomness: counted once (R157, R187). -/
def State.holdJob (s : State) (e : Nat) : State :=
  let j := s.job e
  if j.held then s else (s.setJob e { j with held := true, since := s.tick }).incFld F.ENG_RNGWAIT_COUNT

/-- The result of a job's work is entered for its completion. -/
def State.conclude (s : State) (e : Nat) (r : Except Stop JobOut) : State :=
  match r with
  | .ok o => s.finish e o.status o.detail o.outlen o.writes
  | .error (.status st detail) => s.finish e st detail 0 []
  | .error .frozen => s.stopFrozen e
  | .error .wait => s
  | .error .entropy => s
  | .error .rnd => s.holdJob e

/-- A job's work is done and its result entered. -/
def State.doJob (s : State) (e : Nat) (work : JobM JobOut) : State :=
  let r := work.run.run s
  r.2.conclude e r.1

/-- A job's descriptor has been read and its accesses granted, under the generation in force (R531). -/
def State.grant (s : State) (e : Nat) (l : List Byte) : State :=
  s.setJob e { s.job e with bytes := l, granted := true, gen := s.fld F.DKE_GEN_STATUS_CUR }

/-- Bytes of a descriptor that the completion writes: of the header, and for DG_OPEN as far as CTX (R531). -/
def Job.writesTo (j : Job) : Nat := if j.cls = 3 ∧ j.opc = 1 then 32 else 8

/-- The descriptor is read once by the master that takes the job, and its completion writes are checked with that read
(R531); bytes already read stay. A read that is granted and meets an uncorrectable error ends the job, whose completion is written. -/
def fetchDesc (m : Master) (ctrl : Word) (e : Nat) : JobM (List Byte) := do
  let s ← get
  let j := s.job e
  if j.granted then pure j.bytes
  else
    let r := s.unitRead m ctrl j.desc 128
    set r.2.2
    if r.1 ≠ .poison then accStop r.1
    checkOut m ctrl j.desc j.writesTo
    act (fun s => s.grant e r.2.1)
    accStop r.1
    pure r.2.1

/-! ## Engines -/

/-- Engines of a class (R156, R188). -/
def engineCount (cls : Nat) : Nat :=
  match cls with
  | 0 => 32
  | 1 => 4
  | 2 => 16
  | 3 => 32
  | 4 => 16
  | _ => 8

/-- Engine `k` of a class runs a job. -/
def State.engineBusy (s : State) (cls k : Nat) : Bool :=
  s.jobs.tab.any (fun e => decide (e.2.cls = cls) && decide (e.2.engine = some k) && decide (e.2.st ≠ .free) &&
    decide (e.2.st ≠ .queued))

/-- A block of the fault collector's source is in a block reset and unit `k` has not returned (R423). -/
def State.inReset (s : State) (src k : Nat) : Bool := (tget (fun _ => []) s.fcl.resets src).contains k

/-- The fault source of an engine class (R180). -/
def clsSource (cls : Nat) : Nat :=
  match cls with
  | 0 => 5
  | 1 => 6
  | 2 => 7
  | 3 => 8
  | 4 => 9
  | _ => 10

/-- The online bits of a class (R156, R217, R343): class 3 has the hash cores' and, as bit 32, the comparison unit's; class 5 the compression lanes'. -/
def State.onlineMask (s : State) (cls : Nat) : Nat :=
  if cls = 5 then s.fld F.CMP_ONLINE_ONLINE
  else if cls = 3 then s.fld F.DIG_CORE_ONLINE_ONLINE + 2 ^ 32 * b2n (!s.mcs.cmpOff)
  else s.fld (F.ENG_ONLINE_ONLINE cls)

/-- Engine `k` of a class may take a job: online, idle, not frozen by Dike or tamper, not in a block reset (R156, R410, R450). -/
def State.engineFree (s : State) (cls k : Nat) : Bool :=
  bit (s.onlineMask cls) k && !s.engineBusy cls k && !s.frozen (clsMaster cls) k && !s.tamperFrozen &&
    !s.inReset (clsSource cls) k && !s.test.running.contains (cls, k)

/-- The lowest-numbered engine that may take a job (R156). -/
def State.engineFor (s : State) (cls : Nat) : Option Nat := findFrom (s.engineFree cls) (engineCount cls) 0

/-- The lowest-numbered hash core that takes blocks (R194, R215). -/
def State.hashCore (s : State) : Option Nat :=
  findFrom (fun k => bit (s.fld F.DIG_CORE_ONLINE_ONLINE) k && !s.frozen 5 k && !s.inReset 8 k && !s.test.running.contains (3, k) && !s.unitCustom 3 k) 32 0

/-- A context for a hardware unit's digest work on behalf of polder `n`: any that is FREE or EXPIRED, the reserve included, within the
polder's limit (R193). -/
def State.hwCtxRoom (s : State) (n : Nat) : Bool :=
  decide (s.ctxUsed < 256) && decide (s.ctxsOf n < min (s.fld (F.DIG_QUOTA_LIMIT n)) 256)

/-- Digest work of a hardware unit can be done now: it has a context and a hash core is online; until then it waits (R193, R534). -/
def State.hwDigest (s : State) (n : Nat) : Bool := s.hashCore.isSome && s.hwCtxRoom n

/-- The hardware's own engine work, of the classes named, can be done now: each has an engine or hash core free for it, and digest jobs a
context (R76, R227, R231, R260). Until then it waits as a queued job does (R156). -/
def State.hwCan (s : State) (n : Nat) (l : List Nat) : Bool :=
  l.all (fun c => if c = 3 then s.hwDigest n else (s.engineFor c).isSome)

/-- The hardware's own engine work has been done: its jobs count as completed (R187, R217). -/
def State.hwDid (s : State) (l : List Nat) : State :=
  l.foldl (fun s c => if c = 3 then s.incFld F.DIG_COMPLETED_COUNT else s.incFld (F.ENG_COMPLETED_COUNT c)) s

/-- Operations of LE, CE and BE that need no randomness (R157). -/
def noRandom (cls opc : Nat) : Bool :=
  (decide (cls = 0) && decide (opc = 0x0A)) ||
    (decide (cls = 2) && decide (opc ∈ [0x05, 0x07, 0x09, 0x0A]))

/-- The first job of a class queue that is not held back, by a load or for randomness an engine's DRBG cannot give (R156, R157, R261). -/
def State.headOf (s : State) (cls k : Nat) : Option Nat :=
  (s.jobQueue cls).find? (fun e => !s.mcsHeld cls (s.job e).opc && !s.halted (s.job e).polder && (noRandom cls (s.job e).opc || s.drbgReady (instFor cls k)))

/-- Job `e` of a class and operation starts on an engine, if it is its turn (R156, R157). -/
def State.startJob (s : State) (e cls : Nat) (opOk : Nat → Bool) (work : Nat → JobM JobOut) : State :=
  let j := s.job e
  if j.st = .queued ∧ j.cls = cls ∧ opOk j.opc ∧ !s.mcsHeld cls j.opc then
    match s.engineFor cls with
    | none => s
    | some k =>
      if s.headOf cls k = some e then
        let s1 := (s.dequeue e).setJob e { j with st := .running, engine := some k, held := false }
        s1.doJob e (work k)
      else if noRandom cls j.opc ∨ s.drbgReady (instFor cls k) then s
      else s.holdJob e
  else s

/-! ## Key slots as operands (R160, R165, R221 to R223) -/

/-- A finite lifetime has run out, or cannot be told while the epoch unit is in NOREF (R221). -/
def KeySlot.expired (k : KeySlot) (s : State) : Bool :=
  match k.expiry with
  | none => false
  | some t => decide (s.fld F.EPC_STATUS_STATE = 0) || decide (t ≤ s.tick)

/-- Usage bit numbers of the attribute word (R219). -/
def useSign : Nat := 0
/-- verify (R219). -/
def useVerify : Nat := 1
/-- kem-dec (R219). -/
def useKemDec : Nat := 2
/-- kem-enc (R219). -/
def useKemEnc : Nat := 3
/-- hmac (R219). -/
def useHmac : Nat := 4
/-- derive (R219). -/
def useDerive : Nat := 5
/-- wrap (R219). -/
def useWrap : Nat := 6
/-- aead (R219). -/
def useAead : Nat := 7

/-- A slot that polder `n` may name as an input: a filled polder slot of its own (R160, R218). -/
def State.ownsKey (s : State) (n k : Nat) : Bool :=
  let x := s.key k
  x.allocated && !x.device && decide (x.owner = n) && decide (x.ty ≠ 0) && decide (k < 16368)

/-- Check 4 of R160 for an input slot. -/
def inSlot (n k : Nat) (sv : Bool) (kindOk : KeySlot → Bool) : JobM KeySlot := do
  let s ← get
  need (sv && s.ownsKey n k && kindOk (s.key k)) 0x08
  pure (s.key k)

/-- Check 5 of R160: the usage and the lifetime. -/
def useSlot (x : KeySlot) (u : Nat) : JobM Unit := do
  let s ← get
  need (bit x.usage u && !x.expired s) 0x09

/-- A slot that polder `n` may fill: allocated to it and empty. -/
def State.canFill (s : State) (n k : Nat) : Bool :=
  let x := s.key k
  x.allocated && !x.device && decide (x.owner = n) && decide (x.ty = 0) && decide (k < 16368)

/-- Check 6 of R160 for an output slot. -/
def outSlot (n k : Nat) (ov : Bool) : JobM Unit := do
  let s ← get
  need (ov && s.canFill n k) 0x08

/-- Heap granules of a slot's material (R222). -/
def granulesFor (secLen pubLen : Nat) (stateful : Bool) : Nat := cdiv (secLen + pubLen + 16) 64 + if stateful then 2 else 0

/-- The heap and the polder's quota have room for `g` granules (R223, R239). -/
def State.heapRoom (s : State) (n g : Nat) : Bool :=
  decide (s.heapUsed + g ≤ 81920) && decide (s.heapOf n + g ≤ s.fld (F.KST_GQUOTA_LIMIT n))

/-- A slot is filled by a job (R165, R234): the attributes chosen at allocation stay. -/
def State.fillSlot (s : State) (k : Nat) (x : KeySlot) : State :=
  let o := s.key k
  s.setKey k { x with allocated := true, owner := o.owner, transient := o.transient || decide (s.fld F.RNG_CTRL_TESTSRC = 1),
                       keyB := decide (s.fld F.EMB_CFG_MODE = 1) }

/-- The hardening default of a polder, as a level: 1 H1, 2 H2 (R155, R163). -/
def State.hardDefault (s : State) (n : Nat) : Nat := s.fld (F.PLD_HARD_DEFAULT n)

/-- The effective level of a secret operation (R163). -/
def State.effLevel (s : State) (n hmin hreq : Nat) : Nat := max (max hmin (s.hardDefault n)) (max hreq 1)

/-- The engine's held keys after a job that uses `(slot, level)`, or no key; a held key skips its setup and is counted
(R182, R187). -/
def State.noteKey (s : State) (cls k : Nat) (key : Option (Nat × Nat)) : State :=
  let l := tget (fun _ => []) s.jobs.lastKey (32 * cls + k)
  match key with
  | some p =>
    let s1 := if l.contains p then s.incFld (F.ENG_HELD_COUNT cls) else s
    let l1 := (p :: l.filter (· ≠ p)).take (if cls = 0 then 1 else 16)
    { s1 with jobs := { s1.jobs with lastKey := tset (fun _ => []) s1.jobs.lastKey (32 * cls + k) l1 } }
  | none =>
    if cls = 0 then { s with jobs := { s.jobs with lastKey := tset (fun _ => []) s.jobs.lastKey (32 * cls + k) [] } } else s

/-- Every engine copy of a slot's key is zeroised (R178). -/
def State.forgetKey (s : State) (slot : Nat) : State :=
  { s with jobs := { s.jobs with lastKey :=
    (s.jobs.lastKey.map (fun e => (e.1, e.2.filter (fun p => p.1 ≠ slot)))).filter (fun e => !e.2.isEmpty) } }

/-! ## Stops of jobs (R64, R151, R178, R535) -/

/-- A table. -/
def State.table (s : State) (t : Nat) : Table := tget (fun _ => {}) s.col.tables t

/-- The state with a table replaced. -/
def State.setTable (s : State) (t : Nat) (x : Table) : State :=
  { s with col := { s.col with tables := tset (fun _ => {}) s.col.tables t x } }

/-- A run of a pipeline. -/
def State.run (s : State) (e : Nat) : Run := tget (fun _ => {}) s.opu.runs e

/-- The state with a run replaced. -/
def State.setRun (s : State) (e : Nat) (r : Run) : State :=
  { s with opu := { s.opu with runs := tset (fun _ => {}) s.opu.runs e r } }

/-- Task slots that work for a run. -/
def State.runTasks (s : State) (e : Nat) : List Nat :=
  (s.sched.tasks.filter (fun x => decide (x.2.state ≠ .free) &&
    (match x.2.kind with | .operator r _ _ _ => decide (r = e) | _ => false))).map (·.1)

/-- A UDO's function runs for a task (R253, R395). -/
def State.inUdo (s : State) (t : Nat) : Bool := s.mcs.seqs.any (fun x => decide (1024 ≤ x.1) && !x.2.rom && decide (x.2.work = t))

/-- A run meets a failure: the first one decides its status; no further task is created, requests for task slots lapse, and its tasks
end (R351), a UDO's when its function honours the stop (R253). -/
def State.failRun (s : State) (e st detail : Nat) : State :=
  let r := s.run e
  if r.ops = [] ∨ r.fail.isSome then s else
  let s := s.latchSlotWaits
  let s1 := s.setRun e { r with fail := some (st, detail), blocks := [] }
  let s2 := { s1 with sched := { s1.sched with hwWait := s1.sched.hwWait.filter (fun q =>
      match q.task.kind with | .operator x _ _ _ => decide (x ≠ e) | _ => true) } }
  ((s2.runTasks e).filter (fun t => !s2.inUdo t)).foldl (fun s t => s.endTask t) s2

/-- A stop of a TBL_DROP job before its staging edge cancels the drop (R323). -/
def State.cancelDrop (s : State) (e : Nat) : State :=
  match s.col.tables.find? (fun x => x.2.dropJob == some e) with
  | some (t, x) => s.setTable t { x with dropJob := none, staged := x.staged && (x.dropping || (!x.noref && decide (s.tick > x.stagedAt))) }
  | none => s

/-- A customer function runs for a job, on a unit (R253). One that a hash core has written back stands at its YIELD. -/
def State.inMicro (s : State) (e : Nat) : Bool :=
  s.mcs.seqs.any (fun x => decide (x.1 < 4 * 256) && !x.2.rom && decide (x.2.work = e))

/-- The master that would read a job's descriptor (R403, R532). -/
def State.descMaster (s : State) (j : Job) : Master :=
  match j.cls with
  | 3 => { mcls := 5, unit := 33, acts := [j.polder] }
  | 5 => { mcls := 7, unit := if j.opc ≤ 2 then (s.engineFor 5).getD 0 else 8, acts := [j.polder] }
  | 8 => { mcls := 0, unit := j.worker, acts := [j.polder] }
  | c => { mcls := clsMaster c, unit := (s.engineFor c).getD 0, acts := [j.polder] }

/-- A job ended before its descriptor was read still writes its completion: the writes are checked now, once (R61, R64, R531). Where they are
refused they are not made; the refusal is reported and freezes nothing, for no work is left to stop (log entry 26). -/
def State.grantEnd (s : State) (e : Nat) : State :=
  let j := s.job e
  if j.granted ∨ j.inner ∨ j.st = .frozen then s
  else
    let m := s.descMaster j
    match s.dikeCheck m j.desc 8 .write false with
    | some p => s.refuse m (ctrlOfJob s j 15) .write p true false
    | none =>
      let r := s.unitCheckW m (ctrlOfJob s j 15) j.desc 8 false
      if r.1 = .ok then r.2.grant e j.bytes else r.2

/-- A job that has not completed is ended with a status; nothing of its outputs is written (R64, R178). A stop of a customer function
waits for its next YIELD (R253), and a stop of a run stops its tasks (R351). -/
def State.stopJob (s : State) (e st detail : Nat) : State :=
  let j := s.job e
  if j.st = .free ∨ j.slotBegun then s
  else if j.cls = 9 ∧ (s.run e).ops ≠ [] then s.failRun e st detail
  else if j.st = .running ∧ s.inMicro e then s.setJob e { j with stop := some (st, detail) }
  else (((s.cancelDrop e).grantEnd e).dropSeqs e).finish e st detail 0 []

/-- The key slots a job names: SLOT and OSLOT of its descriptor, and ISLOT2 for digest jobs (R159, R178, R189). -/
def State.jobSlots (s : State) (e : Nat) : List Nat :=
  let j := s.job e
  let l := if j.granted then j.bytes else s.bytes j.desc 128
  let a := if hdrSv l then [hdrSlot l] else []
  let o := if j.cls ≤ 4 ∧ bit (leAt l 76 2) 15 then [leAt l 76 2 % 2 ^ 14] else []
  let i := if j.cls = 3 ∧ bit (leAt l 84 2) 15 then [leAt l 84 2 % 2 ^ 14] else []
  let k := if j.cls = 8 then [j.subject] else []
  a ++ o ++ i ++ k

/-- Outstanding jobs, lowest entry first. -/
def State.liveJobs (s : State) : List Nat := (s.jobs.tab.filter (fun e => decide (e.2.st ≠ .free))).map (·.1)

/-! ## Zeroisation of slots (R65, R178, R216) -/

/-- Contexts keyed by a slot are zeroised and freed (R178, R216). -/
def State.dropMac (s : State) (k : Nat) : State :=
  s.ctxs.foldl (fun s e => if e.2.macSlot = some k then s.dropCtx e.1 else s) s

/-- Every job that names a slot and has not completed ends with KEY_SLOT_INVALID (R178). -/
def State.endKeyJobs (s : State) (k : Nat) : State :=
  s.liveJobs.foldl (fun s e => if (s.jobSlots e).contains k then s.stopJob e 0x08 0 else s) s

/-- A slot is zeroised and freed: its jobs end, every engine copy goes (R65, R178). -/
def State.zeroSlot (s : State) (k : Nat) : State := (((s.endKeyJobs k).dropMac k).forgetKey k).setKey k {}

end Sys2Proof.Machine
end

