-- ==== Sys2Proof/Machine/SesOps.lean ====
section
/-!
DEFINITION. Sys2Proof/Machine/SesOps.lean: Cistern granules (R148, R354, R371, R379), session contexts, items and their cells
(R281 to R285, R287, R288), and what follows every command: sessions whose item's task has ended, or whose next item can start, go on.
-/

namespace Sys2Proof.Machine

/-! ## Cistern granules -/

/-- Granules of a slice in a partition of a mode: tables, queues, sessions (R371). -/
def cisSize (mode part : Nat) : Nat :=
  match mode, part with
  | 0, 0 => 96
  | 0, 1 => 24
  | 0, _ => 8
  | 1, 0 => 64
  | 1, 1 => 48
  | 1, _ => 16
  | 2, 0 => 32
  | 2, 1 => 80
  | 2, _ => 16
  | _, 0 => 32
  | _, 1 => 32
  | _, _ => 64

/-- Where a partition begins in a slice, in granules (R371). -/
def cisOff (mode part : Nat) : Nat := ((List.range part).map (cisSize mode)).sum

/-- The partition mode in force (R373). -/
def State.cisMode (s : State) : Nat := s.fld F.OPU_CIS_STATUS_CUR

/-- Granules a partition grants in a slice: while a change is under way the smaller of both sizes (R372). -/
def State.cisCap (s : State) (part : Nat) : Nat :=
  match s.opu.limits with
  | none => cisSize s.cisMode part
  | some m => min (cisSize s.cisMode part) (cisSize m part)

/-- Bytes of a Cistern granule. -/
def cisGran : Nat := 65536

/-- The first address of a slice. -/
def cisBase (slice : Nat) : Nat := 0x200000000000 + slice * 0x800000

/-- The slice of a Cistern address. -/
def cisSliceOf (a : Nat) : Nat := (a - 0x200000000000) / 0x800000

/-- Granules of a partition in use in a slice. -/
def State.cisUsed (s : State) (part slice : Nat) : Nat :=
  (s.opu.cis.filter (fun g => decide (g.2.part = part) && decide (cisSliceOf g.1 = slice))).length

/-- Granules a polder holds (R148). -/
def State.cisOf (s : State) (n : Nat) : Nat := (s.opu.cis.filter (fun g => decide (g.2.polder = n))).length

/-- A granule address is free. -/
def State.cisFree (s : State) (a : Nat) : Bool := (s.opu.cis.find? (fun g => decide (g.1 = a))).isNone

/-- `k` consecutive free granules of a slice: the lowest in the partition's own range, or else the lowest. -/
def State.cisFind (s : State) (part slice k : Nat) : Option Nat :=
  let ok := fun i => decide (i + k ≤ 128) && (List.range k).all (fun j => s.cisFree (cisBase slice + (i + j) * cisGran))
  (match findFrom ok 128 (cisOff s.cisMode part) with
   | some i => some i
   | none => findFrom ok 128 0).map (fun i => cisBase slice + i * cisGran)

/-- `k` consecutive granules are taken in a slice, within the partition and the polder's quota (R148, R371). -/
def State.cisAlloc (s : State) (part n run slice k : Nat) : Option (List Nat × State) :=
  if s.cisUsed part slice + k ≤ s.cisCap part ∧ s.cisOf n + k ≤ s.fld (F.PLD_QUOTA_CIS_LIMIT n) then
    (s.cisFind part slice k).map (fun a =>
      let l := (List.range k).map (fun i => a + i * cisGran)
      (l, { s with opu := { s.opu with cis := l.foldl (fun t a => tput t a { part := part, polder := n, run := run }) s.opu.cis } }))
  else none

/-- Granules are returned. -/
def State.cisDrop (s : State) (l : List Nat) : State :=
  { s with opu := { s.opu with cis := s.opu.cis.filter (fun g => !l.contains g.1) } }

/-- The granules a run holds in the table and queue partitions. -/
def State.cisDropRun (s : State) (e : Nat) : State :=
  { s with opu := { s.opu with cis := s.opu.cis.filter (fun g => !(decide (g.2.run = e) && decide (g.2.part < 2))) } }

/-! ## Contexts (R280, R281) -/

/-- The context of a session. -/
def State.ses (s : State) (k : Nat) : Session := tget (fun _ => {}) s.net.ses k

/-- The state with a context replaced. -/
def State.setSes (s : State) (k : Nat) (x : Session) : State := { s with net := { s.net with ses := tset (fun _ => {}) s.net.ses k x } }

/-- A context's generation (R272). -/
def State.sesGen (s : State) (k : Nat) : Nat := tget (fun _ => 0) s.net.gens k

/-- Sessions of a polder (R148). -/
def State.sesOf (s : State) (n : Nat) : Nat := (s.net.ses.filter (fun x => decide (x.2.st ≠ 0) && decide (x.2.polder = n))).length

/-- Contexts the arena holds in the mode in force (R280). -/
def State.sesMax (s : State) : Nat := if s.fld F.SES_CTRL_MODE = 1 then 1048576 else 2097152

/-- Bytes of the program area (R281). -/
def State.progLen (s : State) : Nat := if s.fld F.SES_CTRL_MODE = 1 then 640 else 128

/-- The data word of a session's work (R23). -/
def State.sesData (s : State) (k rec : Nat) : Word := dataSession k (s.ses k).flow.port rec

/-! ## Cells (R284) -/

/-- Bytes of a cell. -/
def cellSize : Nat := 256

/-- A cell lies in a run of cells that is taken. -/
def State.cellTaken (s : State) (a : Nat) : Bool :=
  s.net.cells.any (fun c => decide (c.1 ≤ a) && decide (a < c.1 + c.2.1 * cellSize))

/-- `k` free cells in a row within one granule. -/
def State.cellFind (s : State) (g k : Nat) : Option Nat :=
  (findFrom (fun i => decide (i + k ≤ 256) && (List.range k).all (fun j => !s.cellTaken (g + (i + j) * cellSize))) 256 0).map
    (fun i => g + i * cellSize)

/-- The polder's session granules. -/
def State.sesGranules (s : State) (n : Nat) : List Nat :=
  (s.opu.cis.filter (fun g => decide (g.2.part = 2) && decide (g.2.polder = n))).map (·.1)

/-- A further granule of the session partition for a polder, in the lowest slice that has one. -/
def State.sesGranule (s : State) (n : Nat) : Nat → Nat → Option (Nat × State)
  | 0, _ => none
  | f + 1, i =>
    match s.cisAlloc 2 n 0 i 1 with
    | some r => some (r.1.headD 0, r.2)
    | none => s.sesGranule n f (i + 1)

/-- `k` cells in a row for a polder: in a granule it has, or in a further one (R284). -/
def State.cellAlloc (s : State) (n k : Nat) : Option (Nat × State) :=
  let take := fun (s : State) (a : Nat) => (a, { s with net := { s.net with cells := s.net.cells ++ [(a, k, n)] } })
  match (s.sesGranules n).findSome? (fun g => s.cellFind g k) with
  | some a => some (take s a)
  | none => (s.sesGranule n 16 0).map (fun r => take r.2 r.1)

/-- Cells are freed; a granule goes back with its last (R284). -/
def State.cellFree (s : State) (a : Nat) : State :=
  let cells := s.net.cells.filter (fun c => decide (c.1 ≠ a))
  let g := a / cisGran * cisGran
  let s1 := { s with net := { s.net with cells := cells } }
  if cells.any (fun c => decide (c.1 / cisGran * cisGran = g)) then s1 else s1.cisDrop [g]

/-- Cells a chained item needs: its descriptor and its data. -/
def SesItem.need (i : SesItem) : Nat := 1 + cdiv i.data.length cellSize

/-- A chained item gives its cells up. -/
def State.dropItem (s : State) (i : SesItem) : State :=
  match i.cells with
  | some c => s.cellFree c.1
  | none => s

/-- A drop reason is counted (R271, R295). -/
def State.netDrop (s : State) (r : Nat) : State := s.incFld (F.NET_DROP_COUNT r)

/-- The bytes of an item that lies in the overflow ring, cell by cell from `c` (R284). -/
def State.ovfPut (s : State) (n : Nat) : Nat → Nat → List Byte → State
  | 0, _, _ => s
  | k + 1, c, l =>
    let a := s.fld (F.SES_PLD_OVF_BASE n) * 4096 + c % max 1 (s.fld (F.SES_PLD_OVFCFG_CELLS n)) * cellSize
    (s.put a (l.take cellSize)).ovfPut n k (c + 1) (l.drop cellSize)

/-- An event or record becomes an item on its session's chain: in cells, or else in the overflow ring, or else it is dropped; an item for
a program that is not loaded is dropped (R269, R282 to R284). -/
def State.addItem (s : State) (k : Nat) (i : SesItem) : State :=
  let x := s.ses k
  let h := s.fld (F.SES_LSN_A_PROG x.listener)
  if x.st = 0 then s
  else if !(s.prog x.polder h).loaded then s.incFld F.SES_ERR_NOPROG
  else
    let i := { i with prog := h, entry := s.fld (F.SES_LSN_A_ENTRY x.listener), arrival := s.tick, first := x.fresh }
    let add := fun (s : State) (i : SesItem) => s.setSes k { s.ses k with chain := (s.ses k).chain ++ [i], fresh := false }
    match s.cellAlloc x.polder i.need with
    | some r =>
      let s1 := r.2.put (r.1 + cellSize) i.data
      add s1 { i with cells := some (r.1, i.need) }
    | none =>
      if s.ovfUsed x.polder + i.need ≤ s.fld (F.SES_PLD_OVFCFG_CELLS x.polder) then
        let c := tget (fun _ => 0) s.net.ovfNext x.polder
        let s1 := s.ovfPut x.polder i.need c (List.replicate cellSize 0 ++ i.data)
        let c1 := (c + i.need) % max 1 (s.fld (F.SES_PLD_OVFCFG_CELLS x.polder))
        let s2 := { s1 with net := { s1.net with ovfNext := tset (fun _ => 0) s1.net.ovfNext x.polder c1 } }
        add s2 { i with ovf := i.need }
      else s.netDrop 13

/-! ## Limits that fall due (R293, R294) -/

/-- A time has fallen due while the epoch counter runs (R294). -/
def State.dueAt (s : State) (d : Option Nat) : Bool :=
  match d with
  | some t => s.counting && decide (t ≤ s.tick)
  | none => false

/-- The handshake limit falls due: an item, if the session is still in HANDSHAKE (R293). -/
def State.hsDue (s : State) (k : Nat) : State :=
  let x := s.ses k
  if x.st = 1 ∧ s.dueAt x.hsAt then (s.setSes k { x with hsAt := none }).addItem k { kind := 4, flow := x.flow } else s

/-- The idle limit falls due (R293). -/
def State.idleDue (s : State) (k : Nat) : State :=
  let x := s.ses k
  if x.st ≠ 0 ∧ s.dueAt x.idleAt then (s.setSes k { x with idleAt := none }).addItem k { kind := 5, flow := x.flow } else s

/-- The session timer falls due (R293). -/
def State.timerDue (s : State) (k : Nat) : State :=
  let x := s.ses k
  if x.st ≠ 0 ∧ s.dueAt x.expiry then (s.setSes k { x with expiry := none }).addItem k { kind := 3, flow := x.flow } else s

/-- What comes to a session after an edge comes behind the items of the limits that fell due at it (R111, R294). -/
def State.limitsDue (s : State) (k : Nat) : State := ((s.hsDue k).idleDue k).timerDue k

/-! ## Record slots (R288) -/

/-- The AEAD algorithm of a cipher suite (R161, R289). -/
def suiteAlg (suite : Nat) : Nat := if suite = 0x1301 then 0x61 else if suite = 0x1302 then 0x62 else 0x63

/-- The cipher suite that a key's algorithm belongs to. -/
def algSuite (alg : Nat) : Nat := if alg = 0x61 then 0x1301 else if alg = 0x62 then 0x1302 else 0x1303

/-- A pool slot as it must be handed over: allocated to the polder, empty, TRANSIENT (R288). -/
def State.poolSlotOk (s : State) (n k : Nat) : Bool :=
  let x := s.key k
  x.allocated && decide (x.owner = n) && decide (x.ty = 0) && x.transient && !x.device && decide (k < 16368)

/-- The pool's pairs that no item of the polder uses (R288). -/
def State.poolFree (s : State) (n : Nat) : Option Nat :=
  let base := s.fld (F.SES_PLD_RSLOT_BASE n)
  let used := s.net.ses.filterMap (fun x => if x.2.polder = n then x.2.cur.bind (·.rslot) else none)
  findFrom (fun i => !used.contains (base + 2 * i)) (s.fld (F.SES_PLD_RSLOT_COUNT n) / 2) 0

/-- A pool slot is filled with a traffic key (R288). -/
def State.fillPool (s : State) (k suite : Nat) (key : List Byte) : State :=
  s.setKey k { s.key k with ty := 5, alg := suiteAlg suite, usage := 2 ^ useAead, exportP := 0, hmin := 1, transient := true, secret := key,
                            granules := granulesFor key.length 0 false }

/-- A pool slot is zeroised at the end of its item; it stays the polder's and TRANSIENT (R288). -/
def State.clearPool (s : State) (k : Nat) : State :=
  let n := (s.key k).owner
  (((s.endKeyJobs k).dropMac k).forgetKey k).setKey k { allocated := true, owner := n, transient := true }

/-- What a session with keys gets for an item: wait, no slots, or a pair of slots. -/
inductive Pool where
  | wait
  | none
  | pair (k : Nat)
  deriving DecidableEq, Repr

/-- The pair of slots an item of a session gets (R288). -/
def State.poolFor (s : State) (x : Session) : Pool :=
  if !x.keyed then .none
  else if s.fld (F.SES_PLD_RSLOT_V x.polder) = 0 ∨ s.fld (F.SES_PLD_RSLOT_COUNT x.polder) < 2 then .none
  else
    match s.poolFree x.polder with
    | Option.none => .wait
    | some i =>
      let k := s.fld (F.SES_PLD_RSLOT_BASE x.polder) + 2 * i
      if s.poolSlotOk x.polder k ∧ s.poolSlotOk x.polder (k + 1) ∧ s.heapRoom x.polder (2 * granulesFor x.rkey.length 0 false) then .pair k
      else .none

/-! ## The start and end of items (R283 to R285, R287) -/

/-- An item's descriptor (R285), 192 bytes with its empty action list. -/
def itemDesc (s : State) (k : Nat) (x : Session) (i : SesItem) (data prog out : Nat) (rs ws : Option Nat) : List Byte :=
  let slot := fun (o : Option Nat) => match o with | some k => leBytes 2 (k + 2 ^ 15) | none => leBytes 2 0
  leBytes 1 i.kind ++ leBytes 1 (b2n i.moved + 2 * b2n i.first) ++ leBytes 2 x.chain.length ++ leBytes 4 (k + i.flow.port * 2 ^ 24) ++
    leBytes 8 i.rseq ++ leBytes 8 x.tseq ++ leBytes 8 (if i.data.isEmpty then 0 else data) ++ leBytes 4 i.data.length ++
    leBytes 2 i.hdrLen ++ leBytes 2 x.suite ++ slot rs ++ slot ws ++ fitLen 24 x.ivs ++ leBytes 4 s.progLen ++ leBytes 8 i.arrival ++
    leBytes 8 prog ++ leBytes 8 out ++ List.replicate 96 0

/-- The task of session `k` that is in flight, in a slot or waiting for one. -/
def State.sesTask (s : State) (k : Nat) : Bool :=
  s.sched.tasks.any (fun t => decide (t.2.state ≠ .free) && decide (t.2.state ≠ .ending) && decide (t.2.kind = .session k)) ||
    s.sched.hwWait.any (fun q => decide (q.task.kind = .session k))

/-- The head of a session's chain becomes the item in flight: its cells, its working copy and descriptor, its task (R283 to R285). -/
def State.launch (s : State) (k : Nat) (i : SesItem) (rest : List SesItem) (pair : Option Nat) (pool : Bool) : State :=
  let x := s.ses k
  let p := s.prog x.polder i.prog
  let vec := decide (s.fld (F.SES_LSN_A_VEC x.listener) = 1)
  let dcells := cdiv i.data.length cellSize
  let pcells := cdiv s.progLen cellSize
  let fcells := frameSize vec / cellSize
  let need := 1 + dcells + pcells + 64 + 16 + 2 * fcells - 1
  let s1 := s.dropItem i
  match s1.cellAlloc x.polder need with
  | none => s
  | some (a, s2) =>
    let data := a + cellSize
    let prog := data + dcells * cellSize
    let out := prog + pcells * cellSize
    let stack := out + 64 * cellSize
    let fr := alignUp (stack + 16 * cellSize) (frameSize vec)
    let i := if x.proto = 1 ∧ !i.data.isEmpty then { i with rseq := x.rseq } else i
    let x := { x with chain := rest }
    let s3 := match pair with
      | some r => (s2.fillPool r x.suite x.rkey).fillPool (r + 1) x.suite x.wkey
      | none => if pool then s2.incFld F.SES_ERR_POOL else s2
    let s4 := ((s3.put data i.data).put prog (fitLen s.progLen x.prog)).put a
                (itemDesc s k x i data prog out pair (pair.map (· + 1)))
    let run : SesRun := { item := i, cells := (a, need), rslot := pair, wslot := pair.map (· + 1) }
    let s5 := s4.setSes k { x with cur := some run }
    s5.hwCreate { polder := x.polder, program := i.prog, kind := .session k, coord := s.sesData k i.rseq,
                  prio := if i.kind = 1 then s.fld (F.SES_LSN_C_PRIO_NEW x.listener) else s.fld (F.SES_LSN_C_PRIO_REC x.listener),
                  aff := if x.home = 0xFF then none else some x.home, vec := vec, frameAddr := fr,
                  frame := firstFrame 0 p i.entry (BitVec.ofNat 64 a) (BitVec.ofNat 64 (stack + 16 * cellSize)) }

/-- The next item of a session starts, if none is in flight and what it needs is there (R283, R288); none of a polder that drains (R149). -/
def State.startItem (s : State) (k : Nat) : State :=
  let x := s.ses k
  match x.cur, x.chain with
  | none, i :: rest =>
    if s.halted x.polder then s
    else if !(s.prog x.polder i.prog).loaded then
      ((s.dropItem i).setSes k { x with chain := rest }).incFld F.SES_ERR_NOPROG
    else
      match s.poolFor x with
      | .wait => s
      | .none => s.launch k i rest none x.keyed
      | .pair r => s.launch k i rest (some r) false
  | _, _ => s

/-- The item in flight ends: its slots are zeroised, its cells freed (R284, R288). -/
def State.endItem (s : State) (k : Nat) : State :=
  match (s.ses k).cur with
  | none => s
  | some r =>
    let s1 := match r.rslot with | some a => s.clearPool a | none => s
    let s2 := match r.wslot with | some a => s1.clearPool a | none => s1
    (s2.cellFree r.cells.1).setSes k { s2.ses k with cur := none }

/-- A context is freed: its chain goes, its generation moves on (R272, R286). -/
def State.freeSes (s : State) (k : Nat) : State :=
  let s1 := (s.ses k).chain.foldl (fun s i => s.dropItem i) (s.endItem k)
  { s1 with net := { s1.net with ses := tdel s1.net.ses k, gens := tset (fun _ => 0) s1.net.gens k ((s1.sesGen k + 1) % 256),
                                 hot := s1.net.hot.filter (· ≠ k) } }

/-- A session goes on: an item whose task ended without DONE is counted (R287), a closed TCP session whose FIN is acknowledged is freed
(R286, R292), and the next item starts (R283). -/
def State.settleSes (s : State) (k : Nat) : State :=
  let x := s.ses k
  let s1 := if x.cur.isSome ∧ !s.sesTask k then (s.endItem k).incFld F.SES_ERR_ITEMFAULT else s
  let y := s1.ses k
  if y.st = 3 ∧ y.tcp.finAcked ∧ y.cur.isNone then s1.freeSes k else s1.startItem k

/-- Every session goes on as far as it can. -/
def State.settle (s : State) : State := (s.net.ses.map (·.1)).foldl (fun s k => s.settleSes k) s

/-! ## Held in reset -/

/-- PORST_N is high and no THERMTRIP_N hold is in force (R491, R515): the blocks outside the Embankment run. -/
def State.running (s : State) : Bool := s.power.porst && !s.power.thermtrip

/-- A command of a block outside the Embankment: held in reset it does nothing; after it the sessions go on, and the pins follow. -/
def State.live (s : State) (k : State → State) : State := if s.running then (k s).settle.repin else s

/-- A command that ends no task and frees nothing that a session waits for. -/
def State.unreset (s : State) (k : State → State) : State := if s.running then (k s).repin else s

/-- The task that core `c` ran has ended. -/
def State.endedOn (s t : State) (c : Nat) : Bool :=
  match s.curTask c with
  | some k => decide ((t.task k).state = .free) || decide ((t.task k).state = .ending)
  | none => false

/-- The core finds no instruction at its program counter. -/
def State.fetchFails (s : State) (c : Nat) : Bool :=
  match s.frame c with
  | some f => (s.fetchStop c f).isSome
  | none => false

/-- An instruction of core `c` that ends its task only where it cannot be fetched. -/
def State.onPlain (s : State) (c : Nat) (k : State → State) : State :=
  s.unreset fun s =>
    let t := k s
    if s.fetchFails c && s.endedOn t c then t.settle else t

/-- An instruction of core `c`: the sessions go on where it ended the core's task (R69, R287). -/
def State.onCore (s : State) (c : Nat) (k : State → State) : State :=
  s.unreset fun s =>
    let t := k s
    if s.endedOn t c then t.settle else t

end Sys2Proof.Machine
end

