-- ==== Sys2Proof/Machine/Flags.lean ====
section
/-!
DEFINITION. Sys2Proof/Machine/Flags.lean: the conditions that instructions compute into predicates (R41, R43), and the
results of the scalar functions (R41, R42).
-/

namespace Sys2Proof.Machine

/-- Signed less-than (R41). -/
def sltW (a b : Word) : Bool := a.slt b

/-- Signed minimum and maximum, unsigned minimum and maximum (R41). -/
def minW (a b : Word) : Word := if a.slt b then a else b
/-- Signed maximum (R41). -/
def maxW (a b : Word) : Word := if a.slt b then b else a
/-- Unsigned minimum (R41). -/
def minuW (a b : Word) : Word := if a.ult b then a else b
/-- Unsigned maximum (R41). -/
def maxuW (a b : Word) : Word := if a.ult b then b else a

/-- Unsigned quotient; all ones on division by zero (R42). -/
def divuW (a b : Word) : Word := if b = 0 then BitVec.allOnes 64 else a / b
/-- Unsigned remainder; `a` on division by zero (R42). -/
def remuW (a b : Word) : Word := if b = 0 then a else a % b
/-- Signed quotient truncated towards zero; all ones on division by zero; −2^63 by −1 gives −2^63 (R42). -/
def divW (a b : Word) : Word := if b = 0 then BitVec.allOnes 64 else a.sdiv b
/-- Signed remainder, `a` minus the quotient times `b`; `a` on division by zero (R42). -/
def remW (a b : Word) : Word := if b = 0 then a else a - divW a b * b

/-- The high 64 bits of the unsigned product (R41). -/
def mulhuW (a b : Word) : Word := BitVec.ofNat 64 (a.toNat * b.toNat / 2 ^ 64)
/-- The high 64 bits of the signed product (R41). -/
def mulhW (a b : Word) : Word := BitVec.ofInt 64 (a.toInt * b.toInt / (2 ^ 64 : Int))

/-- Leading zeros among the low `n` bits. -/
def clzN : Nat → Nat → Nat
  | 0, _ => 0
  | n + 1, x => if Nat.testBit x n then 0 else 1 + clzN n x

/-- Trailing zeros among `n` bits from bit `k`. -/
def ctzN : Nat → Nat → Nat → Nat
  | 0, _, _ => 0
  | n + 1, k, x => if Nat.testBit x k then 0 else 1 + ctzN n (k + 1) x

/-- One bits among the low `n` bits. -/
def popN : Nat → Nat → Nat
  | 0, _ => 0
  | n + 1, x => b2n (Nat.testBit x n) + popN n x

/-- Count leading zeros, 64 for 0 (R41). -/
def clzW (a : Word) : Word := BitVec.ofNat 64 (clzN 64 a.toNat)
/-- Count trailing zeros, 64 for 0 (R41). -/
def ctzW (a : Word) : Word := BitVec.ofNat 64 (ctzN 64 0 a.toNat)
/-- Count one bits (R41). -/
def popcW (a : Word) : Word := BitVec.ofNat 64 (popN 64 a.toNat)
/-- Byte reverse (R41). -/
def bswapW (a : Word) : Word := BitVec.ofNat 64 (leNat (leBytes 8 a.toNat).reverse)

/-- A quarter of a register replaced (R44). -/
def limmW (old : Word) (q : Nat) (keep : Bool) (imm : BitVec 16) : Word :=
  if keep then BitVec.ofNat 64 (putBits old.toNat (16 * q) 16 imm.toNat) else BitVec.ofNat 64 (imm.toNat * 2 ^ (16 * q))

end Sys2Proof.Machine
end

