-- ==== Sys2Proof/Machine/Alu.lean ====
section
/-!
DEFINITION. Sys2Proof/Machine/Alu.lean: the scalar instructions of the ALU, ALUI and LIMM classes (R41 to R44). Each
writes its result to the frame the core runs on and moves the program counter past the instruction.
-/

namespace Sys2Proof.Machine

/-- A result to a general register (R41). -/
def aluG (c : CoreId) (rd : Reg) (v : Frame → Word) (s : State) : Out :=
  .next (s.onPlain c fun s => s.withFrame c fun f => s.setFrame c (f.setG rd (v f)).next)

/-- A result to a predicate (R41). -/
def aluP (c : CoreId) (px : Prd) (v : Frame → Bool) (s : State) : Out :=
  .next (s.onPlain c fun s => s.withFrame c fun f => s.setFrame c (f.setP px (v f)).next)

/-- ADD (R41). -/
def execAdd (c : CoreId) (rd ra rb : Reg) (s : State) : Out :=
  aluG c rd (fun f => f.gr ra + f.gr rb) s

/-- SUB (R41). -/
def execSub (c : CoreId) (rd ra rb : Reg) (s : State) : Out :=
  aluG c rd (fun f => f.gr ra - f.gr rb) s

/-- AND (R41). -/
def execAnd (c : CoreId) (rd ra rb : Reg) (s : State) : Out :=
  aluG c rd (fun f => f.gr ra &&& f.gr rb) s

/-- OR (R41). -/
def execOr (c : CoreId) (rd ra rb : Reg) (s : State) : Out :=
  aluG c rd (fun f => f.gr ra ||| f.gr rb) s

/-- XOR (R41). -/
def execXor (c : CoreId) (rd ra rb : Reg) (s : State) : Out :=
  aluG c rd (fun f => f.gr ra ^^^ f.gr rb) s

/-- SLL by rb[5:0] (R41). -/
def execSll (c : CoreId) (rd ra rb : Reg) (s : State) : Out :=
  aluG c rd (fun f => f.gr ra <<< ((f.gr rb).toNat % 64)) s

/-- SRL by rb[5:0] (R41). -/
def execSrl (c : CoreId) (rd ra rb : Reg) (s : State) : Out :=
  aluG c rd (fun f => f.gr ra >>> ((f.gr rb).toNat % 64)) s

/-- SRA by rb[5:0] (R41). -/
def execSra (c : CoreId) (rd ra rb : Reg) (s : State) : Out :=
  aluG c rd (fun f => (f.gr ra).sshiftRight ((f.gr rb).toNat % 64)) s

/-- ROTR by rb[5:0] (R41). -/
def execRotr (c : CoreId) (rd ra rb : Reg) (s : State) : Out :=
  aluG c rd (fun f => (f.gr ra).rotateRight ((f.gr rb).toNat % 64)) s

/-- MUL, the low 64 bits (R41). -/
def execMul (c : CoreId) (rd ra rb : Reg) (s : State) : Out :=
  aluG c rd (fun f => f.gr ra * f.gr rb) s

/-- MULHU (R41, R42). -/
def execMulhu (c : CoreId) (rd ra rb : Reg) (s : State) : Out :=
  aluG c rd (fun f => mulhuW (f.gr ra) (f.gr rb)) s

/-- MULH (R41, R42). -/
def execMulh (c : CoreId) (rd ra rb : Reg) (s : State) : Out :=
  aluG c rd (fun f => mulhW (f.gr ra) (f.gr rb)) s

/-- DIVU (R41, R42). -/
def execDivu (c : CoreId) (rd ra rb : Reg) (s : State) : Out :=
  aluG c rd (fun f => divuW (f.gr ra) (f.gr rb)) s

/-- DIV (R41, R42). -/
def execDiv (c : CoreId) (rd ra rb : Reg) (s : State) : Out :=
  aluG c rd (fun f => divW (f.gr ra) (f.gr rb)) s

/-- REMU (R41, R42). -/
def execRemu (c : CoreId) (rd ra rb : Reg) (s : State) : Out :=
  aluG c rd (fun f => remuW (f.gr ra) (f.gr rb)) s

/-- REM (R41, R42). -/
def execRem (c : CoreId) (rd ra rb : Reg) (s : State) : Out :=
  aluG c rd (fun f => remW (f.gr ra) (f.gr rb)) s

/-- MINU (R41, R42). -/
def execMinu (c : CoreId) (rd ra rb : Reg) (s : State) : Out :=
  aluG c rd (fun f => minuW (f.gr ra) (f.gr rb)) s

/-- MIN (R41, R42). -/
def execMin (c : CoreId) (rd ra rb : Reg) (s : State) : Out :=
  aluG c rd (fun f => minW (f.gr ra) (f.gr rb)) s

/-- MAXU (R41, R42). -/
def execMaxu (c : CoreId) (rd ra rb : Reg) (s : State) : Out :=
  aluG c rd (fun f => maxuW (f.gr ra) (f.gr rb)) s

/-- MAX (R41, R42). -/
def execMax (c : CoreId) (rd ra rb : Reg) (s : State) : Out :=
  aluG c rd (fun f => maxW (f.gr ra) (f.gr rb)) s

/-- CLZ (R41). -/
def execClz (c : CoreId) (rd ra : Reg) (s : State) : Out :=
  aluG c rd (fun f => clzW (f.gr ra)) s

/-- CTZ (R41). -/
def execCtz (c : CoreId) (rd ra : Reg) (s : State) : Out :=
  aluG c rd (fun f => ctzW (f.gr ra)) s

/-- POPC (R41). -/
def execPopc (c : CoreId) (rd ra : Reg) (s : State) : Out :=
  aluG c rd (fun f => popcW (f.gr ra)) s

/-- BSWAP (R41). -/
def execBswap (c : CoreId) (rd ra : Reg) (s : State) : Out :=
  aluG c rd (fun f => bswapW (f.gr ra)) s

/-- SEL (R41). -/
def execSel (c : CoreId) (rd ra rb : Reg) (px : Prd) (s : State) : Out :=
  aluG c rd (fun f => if f.pr px then f.gr ra else f.gr rb) s

/-- CMPEQ (R41). -/
def execCmpeq (c : CoreId) (px : Prd) (ra rb : Reg) (s : State) : Out :=
  aluP c px (fun f => f.gr ra == f.gr rb) s

/-- CMPNE (R41). -/
def execCmpne (c : CoreId) (px : Prd) (ra rb : Reg) (s : State) : Out :=
  aluP c px (fun f => f.gr ra != f.gr rb) s

/-- CMPLT (R41). -/
def execCmplt (c : CoreId) (px : Prd) (ra rb : Reg) (s : State) : Out :=
  aluP c px (fun f => sltW (f.gr ra) (f.gr rb)) s

/-- CMPLTU (R41). -/
def execCmpltu (c : CoreId) (px : Prd) (ra rb : Reg) (s : State) : Out :=
  aluP c px (fun f => (f.gr ra).ult (f.gr rb)) s

/-- CMPGE (R41). -/
def execCmpge (c : CoreId) (px : Prd) (ra rb : Reg) (s : State) : Out :=
  aluP c px (fun f => !sltW (f.gr ra) (f.gr rb)) s

/-- CMPGEU (R41). -/
def execCmpgeu (c : CoreId) (px : Prd) (ra rb : Reg) (s : State) : Out :=
  aluP c px (fun f => !(f.gr ra).ult (f.gr rb)) s

/-- PAND (R41). -/
def execPand (c : CoreId) (pd pa pb : Prd) (s : State) : Out :=
  aluP c pd (fun f => f.pr pa && f.pr pb) s

/-- POR (R41). -/
def execPor (c : CoreId) (pd pa pb : Prd) (s : State) : Out :=
  aluP c pd (fun f => f.pr pa || f.pr pb) s

/-- PXOR (R41). -/
def execPxor (c : CoreId) (pd pa pb : Prd) (s : State) : Out :=
  aluP c pd (fun f => f.pr pa != f.pr pb) s

/-- PNOT (R41). -/
def execPnot (c : CoreId) (pd pa : Prd) (s : State) : Out :=
  aluP c pd (fun f => !f.pr pa) s

/-- MFP (R41). -/
def execMfp (c : CoreId) (rd : Reg) (s : State) : Out :=
  aluG c rd (fun f => f.p.setWidth 64) s

/-- MTP (R41). -/
def execMtp (c : CoreId) (ra : Reg) (s : State) : Out :=
  .next (s.onPlain c fun s => s.withFrame c fun f => s.setFrame c ({ f with p := (f.gr ra).setWidth 8 } : Frame).next)

/-- ADDI (R43). -/
def execAddi (c : CoreId) (rd ra : Reg) (imm : BitVec 12) (s : State) : Out :=
  aluG c rd (fun f => f.gr ra + imm.signExtend 64) s

/-- ANDI (R43). -/
def execAndi (c : CoreId) (rd ra : Reg) (imm : BitVec 12) (s : State) : Out :=
  aluG c rd (fun f => f.gr ra &&& imm.signExtend 64) s

/-- ORI (R43). -/
def execOri (c : CoreId) (rd ra : Reg) (imm : BitVec 12) (s : State) : Out :=
  aluG c rd (fun f => f.gr ra ||| imm.signExtend 64) s

/-- XORI (R43). -/
def execXori (c : CoreId) (rd ra : Reg) (imm : BitVec 12) (s : State) : Out :=
  aluG c rd (fun f => f.gr ra ^^^ imm.signExtend 64) s

/-- SLLI (R43). -/
def execSlli (c : CoreId) (rd ra : Reg) (sh : BitVec 6) (s : State) : Out :=
  aluG c rd (fun f => f.gr ra <<< sh.toNat) s

/-- SRLI (R43). -/
def execSrli (c : CoreId) (rd ra : Reg) (sh : BitVec 6) (s : State) : Out :=
  aluG c rd (fun f => f.gr ra >>> sh.toNat) s

/-- SRAI (R43). -/
def execSrai (c : CoreId) (rd ra : Reg) (sh : BitVec 6) (s : State) : Out :=
  aluG c rd (fun f => (f.gr ra).sshiftRight sh.toNat) s

/-- CMPEQI (R43). -/
def execCmpeqi (c : CoreId) (px : Prd) (ra : Reg) (imm : BitVec 12) (s : State) : Out :=
  aluP c px (fun f => f.gr ra == imm.signExtend 64) s

/-- CMPLTI (R43). -/
def execCmplti (c : CoreId) (px : Prd) (ra : Reg) (imm : BitVec 12) (s : State) : Out :=
  aluP c px (fun f => sltW (f.gr ra) (imm.signExtend 64)) s

/-- CMPLTUI (R43). -/
def execCmpltui (c : CoreId) (px : Prd) (ra : Reg) (imm : BitVec 12) (s : State) : Out :=
  aluP c px (fun f => (f.gr ra).ult (imm.signExtend 64)) s

/-- LIMM (R44). -/
def execLimm (c : CoreId) (rd : Reg) (q : Fin 4) (k : Bool) (imm : BitVec 16) (s : State) : Out :=
  aluG c rd (fun f => limmW (f.gr rd) q k imm) s

end Sys2Proof.Machine
end

