-- ==== Sys2Proof/Machine/Engines.lean ====
section
/-!
DEFINITION. Sys2Proof/Machine/Engines.lean: the lattice, code, big-integer and AEAD operations (R158 to R177), engine faults
(R180). The published algorithms are uninterpreted functions of their inputs.
-/

namespace Sys2Proof.Machine

/-! ## Parameter sets (R161) -/

/-- Public key bytes of a parameter set. -/
def pkLen (p : Nat) : Nat :=
  match p with
  | 0x01 => 800 | 0x02 => 1184 | 0x03 => 1568
  | 0x11 => 1312 | 0x12 => 1952 | 0x13 => 2592
  | 0x21 => 261120 | 0x22 => 261120 | 0x23 => 524160 | 0x24 => 524160
  | 0x31 => 2249 | 0x32 => 4522 | 0x33 => 7245
  | 0x41 => 65 | 0x42 => 97 | 0x43 => 133 | 0x44 => 32 | 0x45 => 56 | 0x46 => 32 | 0x47 => 57
  | 0x51 => 260 | 0x52 => 388 | 0x53 => 516
  | _ => 0

/-- Ciphertext or signature bytes of a parameter set. -/
def sigLen (p : Nat) : Nat :=
  match p with
  | 0x01 => 768 | 0x02 => 1088 | 0x03 => 1568
  | 0x11 => 2420 | 0x12 => 3309 | 0x13 => 4627
  | 0x21 => 96 | 0x22 => 96 | 0x23 => 156 | 0x24 => 156
  | 0x31 => 4433 | 0x32 => 8978 | 0x33 => 14421
  | 0x41 => 64 | 0x42 => 96 | 0x43 => 132 | 0x46 => 64 | 0x47 => 114
  | 0x51 => 256 | 0x52 => 384 | 0x53 => 512
  | _ => 0

/-- Shared secret bytes of a parameter set. -/
def ssLen (p : Nat) : Nat :=
  match p with
  | 0x31 => 64 | 0x32 => 64 | 0x33 => 64
  | 0x41 => 32 | 0x42 => 48 | 0x43 => 66 | 0x44 => 32 | 0x45 => 56
  | _ => 32

/-- Stored secret bytes of a key pair of a parameter set (R222). -/
def secLenOf (p : Nat) : Nat :=
  match p with
  | 0x01 => 64 | 0x02 => 64 | 0x03 => 64
  | 0x11 => 32 | 0x12 => 32 | 0x13 => 32
  | 0x21 => 6492 | 0x22 => 6492 | 0x23 => 13608 | 0x24 => 13608
  | 0x31 => 56 | 0x32 => 64 | 0x33 => 72
  | 0x41 => 32 | 0x42 => 48 | 0x43 => 66 | 0x44 => 32 | 0x45 => 56 | 0x46 => 32 | 0x47 => 57
  | 0x51 => 640 | 0x52 => 960 | 0x53 => 1280
  | _ => 0

/-- Stored public bytes of a key pair of a parameter set: 0 where the part is regenerated (R222). -/
def pubLenOf (p : Nat) : Nat :=
  if 0x21 ≤ p ∧ p ≤ 0x24 then 32 else if p < 0x40 then 0 else pkLen p

/-- The slot a generated pair fills (R165, R222). -/
def pairSlot (p usage level : Nat) (rnd pk : List Byte) : KeySlot :=
  let pub := if 0x21 ≤ p ∧ p ≤ 0x24 then fitLen 32 (Config.hash 0x12 32 [] [] pk) else if pubLenOf p = 0 then [] else pk
  { ty := 1, alg := p, usage := usage, hmin := level, secret := fitLen (secLenOf p) (Config.keygenSec p 0 rnd), pub := pub,
    granules := granulesFor (secLenOf p) (pubLenOf p) false }

/-- The slot a shared secret fills (R165). -/
def secretSlot (level : Nat) (ss : List Byte) : KeySlot :=
  { ty := 3, usage := 2 ^ useHmac + 2 ^ useDerive, hmin := level, secret := ss, granules := granulesFor ss.length 0 false }

/-- The public part of a slot; a regenerated part is computed from the stored seed (R222). -/
def KeySlot.pubPart (k : KeySlot) : List Byte :=
  if k.ty = 1 ∧ pubLenOf k.alg = 0 then fitLen (pkLen k.alg) (Config.pubOfSec k.alg k.secret) else k.pub

/-- Both parameter sets of a Classic McEliece pair, else the one (R161). -/
def samePset (a p : Nat) : Bool :=
  decide (a = p) || (decide (0x21 ≤ p ∧ p ≤ 0x24) && decide ((a + 1) / 2 = (p + 1) / 2))

/-- Bytes of a pre-hash by HASH (R159, R168). -/
def hashLen (h : Nat) : Nat :=
  match h with
  | 1 => 32 | 2 => 48 | 3 => 64 | 4 => 32 | 5 => 64
  | _ => 0

/-- A big-endian number (R161). -/
def beNat (l : List Byte) : Nat := leNat l.reverse

/-! ## The common checks -/

/-- How an operation's input slot is named: not at all, always, or where SV is 1 (R166). -/
inductive SlotUse where
  | none | needed | optional
  deriving DecidableEq, Repr

/-- One operation of the four classes: what its descriptor uses and allows (R166, R169, R172, R174). -/
structure EngOp where
  pset : Nat → Bool
  hash : Nat → Bool := fun h => decide (h = 0)
  useA : Bool := false
  useB : Bool := false
  useC : Bool := false
  useK : Bool := false
  useOut : Bool := true
  slot : SlotUse := .none
  slotTy : KeySlot → Nat → Bool := fun _ _ => true
  usage : Nat := 0
  useOslot : Bool := false
  fill : Nat → Nat × Nat := fun _ => (0, 0)
  lens : EngDesc → Bool → Bool := fun _ _ => true
  outSize : EngDesc → Nat := fun _ => 0
  secret : Bool := true

/-- The operation names its input slot in descriptor `l`. -/
def EngOp.named (o : EngOp) (l : List Byte) : Bool := decide (o.slot = .needed) || (decide (o.slot = .optional) && hdrSv l)

/-- Operand B lies whole in HBM or the Cistern (R170). -/
def State.workArea (s : State) (d : EngDesc) : Bool :=
  let sp := spaceOf s d.bAddr
  (decide (sp = .hbm) || decide (sp = .cistern)) && decide (spaceOf s (d.bAddr + d.bLen - 1) = sp)

/-- What an operation works with once its checks have passed. -/
structure EngEnv where
  d : EngDesc
  slot : Nat
  key : KeySlot
  sv : Bool
  level : Nat
  a : List Byte
  b : List Byte
  c : List Byte
  k : List Byte
  inst : Nat

/-- What an operation yields: output bytes, DETAIL, and the contents of the output slot. -/
structure EngOut where
  out : List Byte := []
  detail : Nat := 0
  fill : Option KeySlot := none
  status : Nat := 0

/-- The bytes of operands that the job does not use are 0 (R159). -/
def EngOp.unusedZero (o : EngOp) (ae : Bool) (l : List Byte) : Bool :=
  let sv := hdrSv l
  (o.useA || zeroAt l 16 27) && (o.useB || zeroAt l 28 39) && (o.useC || zeroAt l 40 51) &&
    ((o.useK && (decide (o.slot ≠ .optional) || !sv)) || zeroAt l 52 63) && (o.useOut || zeroAt l 64 75) &&
    (o.useOslot || zeroAt l 76 77) && (ae || zeroAt l 80 91) && (decide (o.slot ≠ .none) || zeroAt l 8 9)

/-- Checks 1 to 8 of R160 in order, for a descriptor `l`: the input key, and the level (R163). -/
def engChecks (cls : Nat) (o : EngOp) (extra : State → EngDesc → Bool) (extra1 : EngDesc → Bool) (n : Nat) (l : List Byte) :
    JobM (KeySlot × Nat) := do
  let d := parseEng l
  let sv := hdrSv l
  need (d.mbz l && o.unusedZero (cls = 4) l && extra1 d) 0x12
  let s ← get
  need (decide (hdrHreq l < 3) && !(decide (cls = 4) && decide (hdrHreq l = 2)) && o.pset d.pset && decide (d.hash < 6) &&
    o.hash d.hash && extra s d) 0x13
  need (!s.locked) 0x15
  need (decide (s.lcs ≠ 4)) 0x14
  let key ← if o.named l then inSlot n (hdrSlot l) sv (fun x => o.slotTy x d.pset) else pure {}
  if o.named l then useSlot key o.usage
  need (!(decide (cls = 4) && decide (key.hmin = 2))) 0x09
  if o.useOslot then outSlot n d.oslot d.ov
  need (o.lens d sv) 0x17
  need (decide (o.outSize d ≤ d.cap)) 0x04
  if o.useOslot then need (s.heapRoom n (granulesFor (o.fill d.pset).1 (o.fill d.pset).2 false)) 0x04
  pure (key, if cls = 4 then 1 else if o.secret then s.effLevel n key.hmin (hdrHreq l) else max 1 (s.hardDefault n))

/-- A job of classes LE, CE, BE and AE: the checks of R160, the operands, the work, the output. The work area of a job that has one is
written with zeros whatever the status, wherever it lies in HBM or the Cistern (R170). -/
def engRun (cls : Nat) (o : EngOp) (extra : State → EngDesc → Bool) (extra1 : EngDesc → Bool)
    (body : EngEnv → JobM EngOut) (e k : Nat) : JobM JobOut := do
  let s0 ← get
  let j := s0.job e
  let m : Master := { mcls := clsMaster cls, unit := k, acts := [j.polder] }
  let ctrl := ctrlOfJob s0 j 15
  let l ← fetchDesc m ctrl e
  let d := parseEng l
  let work := o.useB && decide (cls = 1)
  let scrub : JobM Unit :=
    if work && s0.workArea d then do
      checkOut m ctrl d.bAddr d.bLen
      act (fun s => s.setJob e { s.job e with scrub := [(d.bAddr, d.bLen)] })
    else pure ()
  let (key, level) ← tryCatch (engChecks cls o extra extra1 j.polder l) (fun x => do scrub; throw x)
  if cls ≤ 1 then act (fun s => s.noteKey cls k (if o.secret && o.named l then some (hdrSlot l, level) else none))
  let a ← if o.useA then readOp m ctrl d.aAddr d.aLen else pure []
  let b ← if o.useB && !work then readOp m ctrl d.bAddr d.bLen else pure []
  let c ← if o.useC then readOp m ctrl d.cAddr d.cLen else pure []
  let kk ← if o.useK && !o.named l then readOp m ctrl d.kAddr d.kLen else pure []
  scrub
  if o.secret then drawMasks (instFor cls k) level
  let r ← body { d := d, slot := hdrSlot l, key := key, sv := hdrSv l, level := level, a := a, b := b, c := c, k := kk,
                 inst := instFor cls k }
  let out := fitLen (o.outSize d) r.out
  checkOut m ctrl d.out out.length
  match r.fill with
  | some x => setFill e d.oslot x false
  | none => pure ()
  pure { status := r.status, detail := r.detail % 65536, outlen := out.length,
         writes := if out.isEmpty then [] else [(d.out, out)] }

/-- A job row of one operation. -/
def engJob (cls opc : Nat) (o : EngOp) (extra : State → EngDesc → Bool) (extra1 : EngDesc → Bool)
    (body : EngEnv → JobM EngOut) (e : SlotId) (s : State) : Out :=
  .next (s.unreset fun s => s.startJob e cls (fun x => decide (x = opc)) (engRun cls o extra extra1 body e))

/-- No condition beside those every operation has. -/
def noExtra (_ : State) (_ : EngDesc) : Bool := true
/-- No must-be-zero condition beside those every operation has. -/
def noExtra1 (_ : EngDesc) : Bool := true

/-! ## Bodies shared by the operations -/

/-- A parameter set in a range. -/
def psetIn (lo hi : Nat) (p : Nat) : Bool := decide (lo ≤ p ∧ p ≤ hi)

/-- A key pair of the job's parameter set, or its public key alone, in the slot (R160, R219). -/
def pairTy (x : KeySlot) (p : Nat) : Bool := decide (x.ty = 1) && samePset x.alg p
/-- A key pair or a public key of the job's parameter set (R166, R172). -/
def verifyTy (x : KeySlot) (p : Nat) : Bool := (decide (x.ty = 1) || decide (x.ty = 8)) && decide (x.alg = p)

/-- The public key of a generated pair: for a set whose public part is regenerated, what the stored seed gives (R165, R222). -/
def pairPk (p : Nat) (rnd : List Byte) : List Byte :=
  if pubLenOf p = 0 then fitLen (pkLen p) (Config.pubOfSec p (fitLen (secLenOf p) (Config.keygenSec p 0 rnd)))
  else fitLen (pkLen p) (Config.keygenPub p 0 rnd)

/-- Key generation: public key out, private key into the slot (R165, R166, R169, R172). -/
def keygenBody (usage : Nat) (env : EngEnv) : JobM EngOut := do
  let rnd ← drawM env.inst 64
  let p := env.d.pset
  let pk := pairPk p rnd
  let att := if 0x21 ≤ p ∧ p ≤ 0x24 then Config.mceAttempts p rnd else 0
  pure { out := pk, fill := some (pairSlot p usage env.level rnd pk), detail := att }

/-- Encapsulation: ciphertext out, shared secret into the slot (R166, R167, R169, R171). -/
def encapsBody (checkKey : Bool) (env : EngEnv) : JobM EngOut := do
  let p := env.d.pset
  need (!checkKey || Config.kemKeyOk p env.k) 0x12
  let rnd ← drawM env.inst 32
  pure { out := fitLen (sigLen p) (Config.kemCt p env.k rnd),
         fill := some (secretSlot env.level (fitLen (ssLen p) (Config.kemSs p env.k rnd))) }

/-- Decapsulation with implicit rejection (R167, R171). -/
def decapsBody (env : EngEnv) : JobM EngOut := do
  let p := env.d.pset
  pure { fill := some (secretSlot env.level (fitLen (ssLen p) (Config.kemDec p env.key.secret env.a))) }

/-- The public key a verification uses: the slot's, or operand K (R168). -/
def EngEnv.pk (env : EngEnv) : List Byte := if env.sv then env.key.pubPart else env.k

/-- A verification: VERIFY_FAIL where the signature does not verify (R160, R168, R173). -/
def verifyBody (keyOk sigOk : Nat → List Byte → Bool) (alg : Nat → Nat) (env : EngEnv) : JobM EngOut := do
  need (keyOk env.d.pset env.pk) 0x12
  need (sigOk env.d.pset env.b) 0x07
  need (Config.verify (alg env.d.pset) env.d.mode env.pk env.a env.c env.b) 0x07
  pure {}

/-- A signature (R168, R173). `rndLen` bytes are drawn; the rounds are reported where `rounds`. -/
def signBody (rndLen : EngEnv → Nat) (alg : Nat → Nat) (rounds : Bool) (env : EngEnv) : JobM EngOut := do
  let rnd ← if rndLen env = 0 then pure [] else drawM env.inst (rndLen env)
  let p := env.d.pset
  pure { out := fitLen (sigLen p) (Config.sign (alg p) env.d.mode env.key.secret env.a env.c rnd),
         detail := if rounds then Config.signRounds (alg p) env.d.mode env.key.secret env.a env.c rnd else 0 }

/-- No check of an encoding. -/
def anyKey (_ : Nat) (_ : List Byte) : Bool := true

/-- The field prime of a P curve (FIPS 186, which R161 and R172 name by the curve: PRESUMED, log entry 73). -/
def curveP (p : Nat) : Nat :=
  match p with
  | 0x41 => 2 ^ 256 - 2 ^ 224 + 2 ^ 192 + 2 ^ 96 - 1
  | 0x42 => 2 ^ 384 - 2 ^ 128 - 2 ^ 96 + 2 ^ 32 - 1
  | _ => 2 ^ 521 - 1

/-- The coefficient b of a P curve; its a is -3. -/
def curveB (p : Nat) : Nat :=
  match p with
  | 0x41 => 0x5ac635d8aa3a93e7b3ebbd55769886bc651d06b0cc53b0f63bce3c3e27d2604b
  | 0x42 => 0xb3312fa7e23ee7e4988e056be3f82d19181d9c6efe8141120314088f5013875ac656398d8a2ed19d2a85c8edd3ec2aef
  | _ => 0x51953eb9618e1c9a1f929a21a0b68540eea2da725b99b315f3b8b489918ef109e156193951ec7e937b1652c0bd3bb1bf073573df883d2c34f1ef451fd46b503f00

/-- The order n of a P curve's group. -/
def curveN (p : Nat) : Nat :=
  match p with
  | 0x41 => 0xffffffff00000000ffffffffffffffffbce6faada7179e84f3b9cac2fc632551
  | 0x42 => 2 ^ 384 - 2 ^ 192 + 0xc7634d81f4372ddf581a0db248b0a77aecec196accc52973
  | _ => 2 ^ 521 - 2 ^ 260 + 0xa51868783bf2f966b7fcc0148f709a5d03bb5c9b8899c47aebb6fb71e91386409

/-- An uncompressed point on its curve: 0x04, then two coordinates below the field prime that satisfy the curve's equation (R161, R173). A
compressed point and the point at infinity have no such form. -/
def pointOk (p : Nat) (pt : List Byte) : Bool :=
  let n := (pkLen p - 1) / 2
  let q := curveP p
  let x := beNat (bytesAt pt 1 n)
  let y := beNat (bytesAt pt (1 + n) n)
  decide (pt.length = pkLen p) && decide (leAt pt 0 1 = 4) && decide (x < q) && decide (y < q) &&
    decide ((y * y + 3 * x) % q = (x * x * x + curveB p) % q)

/-- A point of a P curve (R173). -/
def ecKeyOk (p : Nat) (pk : List Byte) : Bool := !(psetIn 0x41 0x43 p) || pointOk p pk

/-- Both numbers of an ECDSA signature lie in [1, n − 1] (R173). -/
def ecSigOk (p : Nat) (sig : List Byte) : Bool :=
  let h := sigLen p / 2
  let ok := fun (v : Nat) => decide (1 ≤ v ∧ v < curveN p)
  ok (beNat (sig.take h)) && ok (beNat (sig.drop h))

/-- An RSA public exponent that is odd, at least 3 and below the modulus (R173). -/
def rsaKeyOk (p : Nat) (pk : List Byte) : Bool :=
  let n := beNat (pk.take (pkLen p - 4))
  let e := beNat (pk.drop (pkLen p - 4))
  decide (e % 2 = 1) && decide (3 ≤ e) && decide (e < n)

/-! ## Lattice engines (R166 to R168) -/

/-- MLKEM_KEYGEN (R166). -/
def execMlkemKeygen (e : SlotId) (s : State) : Out :=
  engJob 0 0x01 { pset := psetIn 1 3, useOslot := true, fill := fun p => (secLenOf p, pubLenOf p), outSize := fun d => pkLen d.pset }
    noExtra noExtra1 (keygenBody (2 ^ useKemDec)) e s

/-- MLKEM_ENCAPS (R166, R167). -/
def execMlkemEncaps (e : SlotId) (s : State) : Out :=
  engJob 0 0x02 { pset := psetIn 1 3, useK := true, useOslot := true, fill := fun p => (ssLen p, 0), secret := false,
                  lens := fun d _ => decide (d.kLen = pkLen d.pset), outSize := fun d => sigLen d.pset }
    noExtra noExtra1 (encapsBody true) e s

/-- MLKEM_DECAPS (R166, R167). -/
def execMlkemDecaps (e : SlotId) (s : State) : Out :=
  engJob 0 0x03 { pset := psetIn 1 3, useA := true, useOut := false, slot := .needed, slotTy := pairTy, usage := useKemDec,
                  useOslot := true, fill := fun p => (ssLen p, 0), lens := fun d _ => decide (d.aLen = sigLen d.pset) }
    noExtra noExtra1 decapsBody e s

/-- MLDSA_KEYGEN (R166). -/
def execMldsaKeygen (e : SlotId) (s : State) : Out :=
  engJob 0 0x08 { pset := psetIn 0x11 0x13, useOslot := true, fill := fun p => (secLenOf p, pubLenOf p),
                  outSize := fun d => pkLen d.pset } noExtra noExtra1 (keygenBody (2 ^ useSign)) e s

/-- Lengths of a message or pre-hash and a context (R168). -/
def dsaLens (d : EngDesc) : Bool := (decide (d.hash = 0) || decide (d.aLen = hashLen d.hash)) && decide (d.cLen ≤ 255)

/-- MLDSA_SIGN (R168). -/
def execMldsaSign (e : SlotId) (s : State) : Out :=
  engJob 0 0x09 { pset := psetIn 0x11 0x13, hash := fun _ => true, useA := true, useC := true, slot := .needed, slotTy := pairTy,
                  usage := useSign, lens := fun d _ => dsaLens d, outSize := fun d => sigLen d.pset }
    noExtra noExtra1 (signBody (fun env => if env.d.det then 0 else 32) id true) e s

/-- MLDSA_VERIFY (R168). -/
def execMldsaVerify (e : SlotId) (s : State) : Out :=
  engJob 0 0x0A { pset := psetIn 0x11 0x13, hash := fun _ => true, useA := true, useB := true, useC := true, useK := true,
                  useOut := false, slot := .optional, slotTy := verifyTy, usage := useVerify, secret := false,
                  lens := fun d sv => dsaLens d && decide (d.bLen = sigLen d.pset) && (sv || decide (d.kLen = pkLen d.pset)) }
    noExtra noExtra1 (verifyBody anyKey anyKey id) e s

/-! ## Code engines (R169 to R171) -/

/-- MCE_KEYGEN: the work area must lie in HBM or the Cistern (R170). -/
def execMceKeygen (e : SlotId) (s : State) : Out :=
  engJob 1 0x01 { pset := psetIn 0x21 0x24, useB := true, useOslot := true, fill := fun p => (secLenOf p, pubLenOf p),
                  lens := fun d _ => decide (1048576 ≤ d.bLen), outSize := fun d => pkLen d.pset }
    State.workArea noExtra1
    (keygenBody (2 ^ useKemDec)) e s

/-- MCE_ENCAPS (R169, R171). -/
def execMceEncaps (e : SlotId) (s : State) : Out :=
  engJob 1 0x02 { pset := psetIn 0x21 0x24, useK := true, useOslot := true, fill := fun p => (ssLen p, 0), secret := false,
                  lens := fun d _ => decide (d.kLen = pkLen d.pset), outSize := fun d => sigLen d.pset }
    noExtra noExtra1 (encapsBody false) e s

/-- MCE_DECAPS (R169, R171). -/
def execMceDecaps (e : SlotId) (s : State) : Out :=
  engJob 1 0x03 { pset := psetIn 0x21 0x24, useA := true, useOut := false, slot := .needed, slotTy := pairTy, usage := useKemDec,
                  useOslot := true, fill := fun p => (ssLen p, 0), lens := fun d _ => decide (d.aLen = sigLen d.pset) }
    noExtra noExtra1 decapsBody e s

/-- HQC_KEYGEN (R169). -/
def execHqcKeygen (e : SlotId) (s : State) : Out :=
  engJob 1 0x08 { pset := psetIn 0x31 0x33, useOslot := true, fill := fun p => (secLenOf p, pubLenOf p),
                  outSize := fun d => pkLen d.pset } noExtra noExtra1 (keygenBody (2 ^ useKemDec)) e s

/-- HQC_ENCAPS (R169, R171). -/
def execHqcEncaps (e : SlotId) (s : State) : Out :=
  engJob 1 0x09 { pset := psetIn 0x31 0x33, useK := true, useOslot := true, fill := fun p => (ssLen p, 0), secret := false,
                  lens := fun d _ => decide (d.kLen = pkLen d.pset), outSize := fun d => sigLen d.pset }
    noExtra noExtra1 (encapsBody false) e s

/-- HQC_DECAPS (R169, R171). -/
def execHqcDecaps (e : SlotId) (s : State) : Out :=
  engJob 1 0x0A { pset := psetIn 0x31 0x33, useA := true, useOut := false, slot := .needed, slotTy := pairTy, usage := useKemDec,
                  useOslot := true, fill := fun p => (ssLen p, 0), lens := fun d _ => decide (d.aLen = sigLen d.pset) }
    noExtra noExtra1 decapsBody e s

/-! ## Big-integer engines (R172, R173) -/

/-- The usage of a generated elliptic-curve key (R165). -/
def ecUsage (p : Nat) : Nat :=
  if p ≤ 0x43 then 2 ^ useSign + 2 ^ useDerive else if p ≤ 0x45 then 2 ^ useDerive else 2 ^ useSign

/-- EC_KEYGEN (R172). -/
def execEcKeygen (e : SlotId) (s : State) : Out :=
  engJob 2 0x01 { pset := psetIn 0x41 0x47, useOslot := true, fill := fun p => (secLenOf p, pubLenOf p),
                  outSize := fun d => pkLen d.pset } noExtra noExtra1 (fun env => keygenBody (ecUsage env.d.pset) env) e s

/-- The shared secret of a private key and a peer's point; an all-zero secret of X25519 or X448 is MALFORMED (R173). -/
def ecdhSecret (p : Nat) (sk peer : List Byte) : JobM (List Byte) := do
  need (ecKeyOk p peer) 0x12
  let ss := fitLen (ssLen p) (Config.ecdh p sk peer)
  need (!(psetIn 0x44 0x45 p && ss.all (· = 0))) 0x12
  pure ss

/-- ECDH_EPH (R172). -/
def execEcdhEph (e : SlotId) (s : State) : Out :=
  engJob 2 0x02 { pset := psetIn 0x41 0x45, useA := true, useOslot := true, fill := fun p => (ssLen p, 0),
                  lens := fun d _ => decide (d.aLen = pkLen d.pset), outSize := fun d => pkLen d.pset }
    noExtra noExtra1 (fun env => do
      let rnd ← drawM env.inst 64
      let p := env.d.pset
      let ss ← ecdhSecret p (fitLen (secLenOf p) (Config.keygenSec p 0 rnd)) env.a
      pure { out := pairPk p rnd, fill := some (secretSlot env.level ss) }) e s

/-- ECDH (R172). -/
def execEcdh (e : SlotId) (s : State) : Out :=
  engJob 2 0x03 { pset := psetIn 0x41 0x45, useA := true, useOut := false, slot := .needed, slotTy := pairTy, usage := useDerive,
                  useOslot := true, fill := fun p => (ssLen p, 0), lens := fun d _ => decide (d.aLen = pkLen d.pset) }
    noExtra noExtra1 (fun env => do
      let ss ← ecdhSecret env.d.pset env.key.secret env.a
      pure { fill := some (secretSlot env.level ss) }) e s

/-- HASH values of the digests that ECDSA and RSA take (R173). -/
def hash123 (h : Nat) : Bool := decide (1 ≤ h ∧ h ≤ 3)

/-- ECDSA_SIGN (R172, R173). -/
def execEcdsaSign (e : SlotId) (s : State) : Out :=
  engJob 2 0x04 { pset := psetIn 0x41 0x43, hash := hash123, useA := true, slot := .needed, slotTy := pairTy, usage := useSign,
                  lens := fun d _ => decide (d.aLen = hashLen d.hash), outSize := fun d => sigLen d.pset }
    noExtra noExtra1 (signBody (fun env => if env.d.det then 0 else sigLen env.d.pset / 2) id false) e s

/-- ECDSA_VERIFY (R172, R173). -/
def execEcdsaVerify (e : SlotId) (s : State) : Out :=
  engJob 2 0x05 { pset := psetIn 0x41 0x43, hash := hash123, useA := true, useB := true, useK := true, useOut := false,
                  slot := .optional, slotTy := verifyTy, usage := useVerify, secret := false,
                  lens := fun d sv => decide (d.aLen = hashLen d.hash) && decide (d.bLen = sigLen d.pset) &&
                    (sv || decide (d.kLen = pkLen d.pset)) } noExtra noExtra1 (verifyBody ecKeyOk ecSigOk id) e s

/-- EDDSA_SIGN (R172, R173). -/
def execEddsaSign (e : SlotId) (s : State) : Out :=
  engJob 2 0x06 { pset := psetIn 0x46 0x47, useA := true, slot := .needed, slotTy := pairTy, usage := useSign,
                  lens := fun d _ => decide (d.aLen ≤ 16384), outSize := fun d => sigLen d.pset }
    noExtra noExtra1 (signBody (fun _ => 0) id false) e s

/-- EDDSA_VERIFY (R172, R173). -/
def execEddsaVerify (e : SlotId) (s : State) : Out :=
  engJob 2 0x07 { pset := psetIn 0x46 0x47, useA := true, useB := true, useK := true, useOut := false, slot := .optional,
                  slotTy := verifyTy, usage := useVerify, secret := false,
                  lens := fun d sv => decide (d.aLen ≤ 16384) && decide (d.bLen = sigLen d.pset) &&
                    (sv || decide (d.kLen = pkLen d.pset)) } noExtra noExtra1 (verifyBody anyKey anyKey id) e s

/-- RSA_PSS_SIGN: the salt is as long as the hash (R173). -/
def execRsaPssSign (e : SlotId) (s : State) : Out :=
  engJob 2 0x08 { pset := psetIn 0x51 0x53, hash := hash123, useA := true, slot := .needed, slotTy := pairTy, usage := useSign,
                  lens := fun d _ => decide (d.aLen = hashLen d.hash), outSize := fun d => sigLen d.pset }
    noExtra noExtra1 (signBody (fun env => hashLen env.d.hash) id false) e s

/-- The lengths of an RSA verification (R173). -/
def rsaLens (d : EngDesc) (sv : Bool) : Bool :=
  decide (d.aLen = hashLen d.hash) && decide (d.bLen = sigLen d.pset) && (sv || decide (d.kLen = pkLen d.pset))

/-- RSA_PSS_VERIFY (R172, R173). -/
def execRsaPssVerify (e : SlotId) (s : State) : Out :=
  engJob 2 0x09 { pset := psetIn 0x51 0x53, hash := hash123, useA := true, useB := true, useK := true, useOut := false,
                  slot := .optional, slotTy := verifyTy, usage := useVerify, secret := false, lens := rsaLens }
    noExtra noExtra1 (verifyBody rsaKeyOk anyKey id) e s

/-- RSA_PKCS1_VERIFY (R172, R173); its algorithm is told apart from PSS by the code 0x100 added. -/
def execRsaPkcs1Verify (e : SlotId) (s : State) : Out :=
  engJob 2 0x0A { pset := psetIn 0x51 0x53, hash := hash123, useA := true, useB := true, useK := true, useOut := false,
                  slot := .optional, slotTy := verifyTy, usage := useVerify, secret := false, lens := rsaLens }
    noExtra noExtra1 (verifyBody rsaKeyOk anyKey (fun p => p + 0x100)) e s

/-! ## AEAD engines (R174 to R177) -/

/-- An AEAD key of the job's parameter set (R174, R219). -/
def aeadTy (x : KeySlot) (p : Nat) : Bool := decide (x.ty = 5) && decide (x.alg = p)

/-- The output area does not start above operand A and overlap it (R175). -/
def aeOverlapOk (d : EngDesc) : Bool := !(decide (d.aAddr < d.out) && decide (d.out < d.aAddr + d.aLen))

/-- SEAL (R174). -/
def execAeadSeal (e : SlotId) (s : State) : Out :=
  engJob 4 0x01 { pset := psetIn 0x61 0x63, useA := true, useB := true, slot := .needed, slotTy := aeadTy, usage := useAead,
                  lens := fun d _ => decide (d.aLen ≤ 2 ^ 32 - 17), outSize := fun d => d.aLen + 16 }
    noExtra aeOverlapOk (fun env => pure
      { out := fitLen (env.a.length + 16) (Config.aeadSeal env.d.pset env.key.secret env.d.iv env.b env.a) }) e s

/-- OPEN: on a tag that fails, zeros stand where plaintext was streamed (R174, R175). -/
def execAeadOpen (e : SlotId) (s : State) : Out :=
  engJob 4 0x02 { pset := psetIn 0x61 0x63, useA := true, useB := true, slot := .needed, slotTy := aeadTy, usage := useAead,
                  lens := fun d _ => decide (16 ≤ d.aLen), outSize := fun d => d.aLen - 16 }
    noExtra aeOverlapOk (fun env =>
      if Config.aeadOk env.d.pset env.key.secret env.d.iv env.b env.a then
        pure { out := fitLen (env.a.length - 16) (Config.aeadPlain env.d.pset env.key.secret env.d.iv env.b env.a) }
      else pure { out := List.replicate (env.a.length - 16) 0, status := 0x07 }) e s

/-! ## Engine faults (R180) -/

/-- The job on engine `k` of a class. -/
def State.jobOn (s : State) (cls k : Nat) : Option Nat :=
  (s.jobs.tab.find? (fun e => decide (e.2.cls = cls) && decide (e.2.engine = some k) && decide (e.2.st ≠ .free) &&
    decide (e.2.st ≠ .queued))).map (·.1)

/-- A job goes back to the head of its class queue, to run again from the start (R180). -/
def State.requeue (s : State) (e : Nat) : State :=
  let j := s.job e
  ((s.dropSeqs e).setJob e { j with st := .queued, engine := none, retried := true, held := false, writes := [], fill := none, scrub := [] }).setJobQueue
    j.cls (e :: s.jobQueue j.cls)

/-- A job on a faulted unit whose block or chip reset is due stays on it, with nothing written, until the reset ends it (R180, R423). -/
def State.awaitReset (s : State) (e : Nat) : State := s.setJob e { s.job e with st := .running, writes := [], fill := none, scrub := [] }

/-- ENGINE_FAULT (R180). A reset that the source's reaction brings takes precedence over the re-run. -/
def execEngineFault (cls : Fin 8) (k : Fin 32) (cause : BitVec 8) (s : State) : Out :=
  .next (s.unreset fun s =>
    if cls.val ∈ [0, 1, 2, 4] then
      match s.jobOn cls k with
      | none => s
      | some e =>
        let j := s.job e
        let src := clsSource cls
        let s1 := s.latch src (ctrlOfJob s j src) dataNone
        let s2 := if s.fld F.ENG_FAULT_V = 0 then
            ((((s1.setFld F.ENG_FAULT_V 1).setFld F.ENG_FAULT_CAUSE cause.toNat).setFld F.ENG_FAULT_ENGINE k).setFld
              F.ENG_FAULT_CLS cls).setFld F.ENG_FAULT_ENTRY e
          else s1
        let on := s2.fld (F.ENG_ONLINE_ONLINE cls)
        let s3 := s2.setFld (F.ENG_ONLINE_ONLINE cls) (if bit on k then on - 2 ^ k.val else on)
        let s4 := { s3 with jobs := { s3.jobs with lastKey := tset (fun _ => []) s3.jobs.lastKey (32 * cls + k) [] } }
        if j.slotBegun then s4
        else if s.bringsReset src then s4.awaitReset e
        else if j.retried then s4.finish e 0x16 0xFFFF 0 []
        else s4.requeue e
    else s)

end Sys2Proof.Machine
end

