-- ==== Sys2Proof/Machine/KeyOps.lean ====
section
/-!
DEFINITION. Sys2Proof/Machine/KeyOps.lean: key slots, attribute words and blobs (R218 to R230, R206, R209, R213), over which
the KEY instructions and HBS_SPLIT are written.
-/

namespace Sys2Proof.Machine

/-! ## Hash-based parameter choices (R188, R205, R206) -/

/-- SLH-DSA's n by ALG. -/
def slhN (alg : Nat) : Nat :=
  let k := if alg ≥ 0x79 then alg - 0x79 else alg - 0x71
  if k < 2 then 16 else if k < 4 then 24 else 32

/-- An SLH-DSA ALG (R188). -/
def isSlh (alg : Nat) : Bool := decide (0x71 ≤ alg ∧ alg ≤ 0x76) || decide (0x79 ≤ alg ∧ alg ≤ 0x7E)

/-- SLH-DSA signature bytes (R205). -/
def slhSig (alg : Nat) : Nat :=
  match (if alg ≥ 0x79 then alg - 0x79 else alg - 0x71) with
  | 0 => 7856 | 1 => 17088 | 2 => 16224 | 3 => 35664 | 4 => 29792 | _ => 49856

/-- A stateful ALG (R188). -/
def isHbs (alg : Nat) : Bool := decide (alg = 0x80) || decide (alg = 0x88) || decide (alg = 0x89)

/-- Hash bytes and height of an LMS typecode of SP 800-208 (R206): typecodes 0x05 to 0x09, 0x0A to 0x0E, 0x0F to 0x13 and
0x14 to 0x18 are heights 5, 10, 15, 20 and 25 of SHA-256/M32, SHA-256/M24, SHAKE256/M32 and SHAKE256/M24. -/
def lmsParam (p1 : Nat) : Option (Nat × Nat) :=
  if 0x05 ≤ p1 ∧ p1 ≤ 0x18 then
    some (if (p1 - 5) / 5 % 2 = 0 then 32 else 24, 5 + 5 * ((p1 - 5) % 5))
  else none

/-- The LM-OTS typecodes 0x01 to 0x10 go with the LMS hash in groups of four: W1, W2, W4, W8 (R206). -/
def lmotsOk (p1 p2 : Nat) : Bool := decide (1 ≤ p2 ∧ p2 ≤ 16) && decide ((p2 - 1) / 4 = (p1 - 5) / 5)

/-- Hash chains of an LM-OTS signature (RFC 8554): by hash bytes and Winternitz code 0 to 3. -/
def lmotsP (n w : Nat) : Nat :=
  match w with
  | 0 => if n = 32 then 265 else 200
  | 1 => if n = 32 then 133 else 101
  | 2 => if n = 32 then 67 else 51
  | _ => if n = 32 then 34 else 26

/-- Hash bytes and height of an XMSS OID of SP 800-208 (R206): SHA-256/256 0x01 to 0x03, SHA-256/192 0x0D to 0x0F,
SHAKE256/256 0x10 to 0x12, SHAKE256/192 0x13 to 0x15, heights 10, 16 and 20. -/
def xmssParam (p1 : Nat) : Option (Nat × Nat) :=
  let h (k : Nat) : Nat := match k with | 0 => 10 | 1 => 16 | _ => 20
  if 0x01 ≤ p1 ∧ p1 ≤ 0x03 then some (32, h (p1 - 1))
  else if 0x0D ≤ p1 ∧ p1 ≤ 0x0F then some (24, h (p1 - 0x0D))
  else if 0x10 ≤ p1 ∧ p1 ≤ 0x12 then some (32, h (p1 - 0x10))
  else if 0x13 ≤ p1 ∧ p1 ≤ 0x15 then some (24, h (p1 - 0x13))
  else none

/-- Hash bytes, total height and layers of an XMSS^MT OID of SP 800-208 with total height 20 or 40 (R206): in each hash
family 20/2, 20/4, 40/2, 40/4, 40/8. -/
def xmssmtParam (p1 : Nat) : Option (Nat × Nat × Nat) :=
  let hd (k : Nat) : Nat × Nat := match k with | 0 => (20, 2) | 1 => (20, 4) | 2 => (40, 2) | 3 => (40, 4) | _ => (40, 8)
  if 0x01 ≤ p1 ∧ p1 ≤ 0x05 then some (32, hd (p1 - 1))
  else if 0x21 ≤ p1 ∧ p1 ≤ 0x25 then some (24, hd (p1 - 0x21))
  else if 0x29 ≤ p1 ∧ p1 ≤ 0x2D then some (32, hd (p1 - 0x29))
  else if 0x31 ≤ p1 ∧ p1 ≤ 0x35 then some (24, hd (p1 - 0x31))
  else none

/-- A parameter choice of a stateful ALG: hash bytes, total leaves as a power of two (R206, R207). -/
def hbsParam (alg p1 p2 levels : Nat) : Option (Nat × Nat) :=
  if alg = 0x80 then
    match lmsParam p1 with
    | some (n, h) => if lmotsOk p1 p2 ∧ 1 ≤ levels ∧ levels ≤ 8 then some (n, h * levels) else none
    | none => none
  else if levels ≠ 0 ∨ p2 ≠ 0 then none
  else if alg = 0x88 then xmssParam p1
  else if alg = 0x89 then (xmssmtParam p1).map (fun x => (x.1, x.2.1))
  else none

/-- Bytes of a stateful public key (RFC 8554, RFC 8391). -/
def hbsPubLen (alg p1 : Nat) : Nat :=
  if alg = 0x80 then 28 + (match lmsParam p1 with | some (n, _) => n | none => 32)
  else if alg = 0x88 then 4 + 2 * (match xmssParam p1 with | some (n, _) => n | none => 32)
  else 4 + 2 * (match xmssmtParam p1 with | some (n, _) => n | none => 32)

/-- Bytes of a stateful signature in the formats of RFC 8554 and RFC 8391. -/
def hbsSigLen (alg p1 p2 levels : Nat) : Nat :=
  if alg = 0x80 then
    match lmsParam p1 with
    | some (n, h) =>
      let lms := 4 + (4 + n + lmotsP n ((p2 - 1) % 4) * n) + 4 + h * n
      4 + levels * lms + (levels - 1) * (24 + n)
    | none => 0
  else if alg = 0x88 then
    match xmssParam p1 with
    | some (n, h) => 4 + n + (if n = 32 then 67 else 51) * n + h * n
    | none => 0
  else
    match xmssmtParam p1 with
    | some (n, h, d) => (h + 7) / 8 + n + d * ((if n = 32 then 67 else 51) * n) + h * n
    | none => 0

/-- P1, P2 and levels as a public key names them. -/
def hbsOfPub (alg : Nat) (pub : List Byte) : Nat × Nat × Nat :=
  if alg = 0x80 then (beNat (bytesAt pub 4 4), beNat (bytesAt pub 8 4), beNat (bytesAt pub 0 4))
  else (beNat (bytesAt pub 0 4), 0, 0)

/-! ## Stored lengths and identifiers (R222, R228) -/

/-- SECLEN and PUBLEN that a type, algorithm, secret and public part may have (R222). -/
def keyLensOk (ty alg : Nat) (secLen : Nat) (pub : List Byte) : Bool :=
  match ty with
  | 1 => decide (secLenOf alg ≠ 0) && decide (secLen = secLenOf alg) && decide (pub.length = pubLenOf alg)
  | 2 =>
    if isSlh alg then decide (secLen = 2 * slhN alg) && decide (pub.length = 2 * slhN alg)
    else
      let p := hbsOfPub alg pub
      isHbs alg && decide (secLen = 64) && (hbsParam alg p.1 p.2.1 p.2.2).isSome && decide (pub.length = hbsPubLen alg p.1)
  | 3 => decide (alg = 0) && decide (16 ≤ secLen ∧ secLen ≤ 66) && pub.isEmpty
  | 4 => decide (alg = 0) && decide (16 ≤ secLen ∧ secLen ≤ 66) && pub.isEmpty
  | 5 => decide (secLen = if alg = 0x61 then 16 else 32) && psetIn 0x61 0x63 alg && pub.isEmpty
  | 6 => decide (alg = 0) && decide (16 ≤ secLen ∧ secLen ≤ 66) && pub.isEmpty
  | 7 => decide (alg = 0) && decide (secLen = 32) && pub.isEmpty
  | 8 =>
    decide (secLen = 0) &&
      (if isSlh alg then decide (pub.length = 2 * slhN alg)
       else if isHbs alg then
        (let p := hbsOfPub alg pub
         (hbsParam alg p.1 p.2.1 p.2.2).isSome && decide (pub.length = hbsPubLen alg p.1))
       else decide (pkLen alg ≠ 0) && decide (pub.length = pkLen alg))
  | _ => false

/-- KEYID of a public part (R228). -/
def keyId (alg : Nat) (pub : List Byte) : List Byte :=
  if alg = 0x80 then bytesAt pub 12 16 else fitLen 16 (Config.hash 0x12 32 [] [] pub)

/-- The lifetime a LIFE field gives, in ticks; none is unlimited (R219). -/
def lifeTicks (life : Nat) : Option Nat :=
  if life % 2 ^ 29 = 0x1FFFFFFF then none else some (life % 2 ^ 24 * 2 ^ (life / 2 ^ 24 % 32))

/-- A slot from an attribute word, for a fill by KIMP (R219, R229). -/
def slotOfAttr (attr n tick hard : Nat) (secret pub : List Byte) (g : Nat) : KeySlot :=
  let ty := bits attr 63 60
  { ty := ty, alg := bits attr 59 52, owner := n, usage := bits attr 43 36, exportP := bits attr 35 34,
    hmin := if ty = 8 then bits attr 33 32 else max (bits attr 33 32) hard, stateful := bit attr 30,
    expiry := (lifeTicks (bits attr 28 0)).map (· + tick), secret := secret, pub := pub, granules := g }

/-! ## Blobs (R228) -/

/-- The wrapping method of a wrapping slot for an export (R228). -/
def exportMethod (k : KeySlot) : Option Nat :=
  if k.ty = 7 then some 1 else if k.ty = 8 ∧ (k.alg = 2 ∨ k.alg = 3) then some k.alg else none

/-- The wrapping method of an unwrapping slot for an import (R228). -/
def importMethod (k : KeySlot) : Option Nat :=
  if k.ty = 7 then some 1 else if k.ty = 1 ∧ (k.alg = 2 ∨ k.alg = 3) then some k.alg else none

/-- ENCLEN of a method (R228). -/
def encLen (method : Nat) : Nat := if method = 2 then 1088 else if method = 3 then 1568 else 0

/-- The total length of a blob (R228). -/
def blobLen (method secLen pubLen : Nat) : Nat := 80 + encLen method + secLen + pubLen + if method = 0 then 0 else 16

/-- Bytes 0 to 79 of a blob (R228). -/
def blobHead (method : Nat) (attr : Word) (kid : List Byte) (floor limit secLen pubLen : Nat) (iv : List Byte) : List Byte :=
  [0x4B, 0x42, 0x4C, 0x42, 1] ++ leBytes 1 method ++ [0, 0] ++ leBytes 8 attr.toNat ++ fitLen 16 kid ++ leBytes 8 floor ++
    leBytes 8 limit ++ leBytes 4 secLen ++ leBytes 4 pubLen ++ leBytes 4 (encLen method) ++ [0, 0, 0, 0] ++ fitLen 12 iv ++
    [0, 0, 0, 0]

/-- HKDF-Expand of RFC 5869: blocks T(i) = HMAC(PRK, T(i−1) ‖ info ‖ i). -/
def hkdfBlocks (alg hl : Nat) (prk info : List Byte) : Nat → Nat → List Byte → List Byte
  | 0, _, _ => []
  | fuel + 1, i, t =>
    let u := fitLen hl (Config.hmac alg prk (t ++ info ++ leBytes 1 i))
    u ++ hkdfBlocks alg hl prk info fuel (i + 1) u

/-- The AES key of a blob whose wrapping slot gives a shared secret: HKDF-SHA-256 with a zero salt and the info string "PYRUDRIC-KBLB-1" with
blob bytes 0 to 15 (R228). -/
def blobKey (ss head : List Byte) : List Byte :=
  let prk := fitLen 32 (Config.hmac 0x02 (List.replicate 32 0) ss)
  let info := [0x50, 0x59, 0x52, 0x55, 0x44, 0x52, 0x49, 0x43, 0x2D, 0x4B, 0x42, 0x4C, 0x42, 0x2D, 0x31] ++ head.take 16
  fitLen 32 (hkdfBlocks 0x02 32 prk info 1 1 [])

/-- A blob of a slot under a wrapping slot, with randomness for the IV or the encapsulation: AES-256-GCM over the stored secret (R228). -/
def makeBlob (k : KeySlot) (attr : Word) (floor limit : Nat) (method : Nat) (wrap : KeySlot) (rnd : List Byte) : List Byte :=
  let iv := fitLen 12 (if method = 1 then rnd else [])
  let head := blobHead method attr (keyId k.alg k.pubPart) floor limit k.secret.length k.pub.length iv
  let ct := if method = 1 then [] else fitLen (encLen method) (Config.kemCt wrap.alg wrap.pub rnd)
  let key := if method = 1 then wrap.secret else blobKey (fitLen 32 (Config.kemSs wrap.alg wrap.pub rnd)) head
  let sealed := fitLen (k.secret.length + 16) (Config.aeadSeal 0x62 key iv (head ++ ct ++ k.pub) k.secret)
  head ++ ct ++ sealed.take k.secret.length ++ k.pub ++ sealed.drop k.secret.length

/-- A blob taken apart (R228). -/
structure Blob where
  method : Nat
  attr : Nat
  kid : List Byte
  floor : Nat
  limit : Nat
  secLen : Nat
  pubLen : Nat
  head : List Byte
  ct : List Byte
  body : List Byte
  pub : List Byte
  tag : List Byte
  iv : List Byte

/-- The fields of a blob (R228). -/
def parseBlob (l : List Byte) : Blob :=
  let m := leAt l 5 1
  let sl := leAt l 48 4
  let pl := leAt l 52 4
  let o := 80 + encLen m
  { method := m, attr := leAt l 8 8, kid := bytesAt l 16 16, floor := leAt l 32 8, limit := leAt l 40 8, secLen := sl, pubLen := pl,
    head := l.take 80, ct := (l.drop 80).take (encLen m), body := (l.drop o).take sl, pub := (l.drop (o + sl)).take pl,
    tag := if m = 0 then [] else (l.drop (o + sl + pl)).take 16, iv := bytesAt l 64 12 }

/-- The header of a blob is well formed, for the method its wrapping slot gives (R228, R229, check 6 of R230). -/
def Blob.headerOk (b : Blob) (l : List Byte) (method : Nat) : Bool :=
  let ty := bits b.attr 63 60
  let alg := bits b.attr 59 52
  let st := bit b.attr 30
  decide (bytesAt l 0 5 = [0x4B, 0x42, 0x4C, 0x42, 1]) && decide (b.method = method) && zeroAt l 6 7 && zeroAt l 60 63 &&
    zeroAt l 76 79 && (decide (method = 1) || zeroAt l 64 75) && decide (leAt l 56 4 = encLen method) &&
    decide (l.length = blobLen method b.secLen b.pubLen) && !(bit b.attr 29) && decide (1 ≤ ty ∧ ty ≤ 8) &&
    (decide (method ≠ 0) || decide (ty = 8)) && decide (bits b.attr 35 34 ≤ 1) && decide (bits b.attr 33 32 ≤ 2) &&
    keyLensOk ty alg b.secLen b.pub && decide (st = (decide (ty = 2) && isHbs alg)) &&
    (if st then decide (b.floor ≤ b.limit) else decide (b.floor = 0) && decide (b.limit = 0)) &&
    (decide (b.pubLen = 0 ∧ ty = 1) || decide (b.kid = keyId alg b.pub))

/-- The secret that a blob opens to, if its tag verifies (R228, check 8 of R230). -/
def Blob.open (b : Blob) (wrap : KeySlot) : Option (List Byte) :=
  if b.method = 0 then some [] else
  let key := if b.method = 1 then wrap.secret else blobKey (fitLen 32 (Config.kemDec wrap.alg wrap.secret b.ct)) b.head
  let aad := b.head ++ b.ct ++ b.pub
  if Config.aeadOk 0x62 key b.iv aad (b.body ++ b.tag) then
    some (fitLen b.secLen (Config.aeadPlain 0x62 key b.iv aad (b.body ++ b.tag)))
  else none

/-- Some slot holds the same stateful key with an overlapping range (R213). -/
def State.rangeHeld (s : State) (kid : List Byte) (floor limit : Nat) : Bool :=
  s.keys.slots.any (fun e => e.2.stateful && decide (keyId e.2.alg e.2.pub = kid) && decide (e.2.floor ≤ limit) &&
    decide (floor ≤ e.2.limit))

/-! ## Zeroisation and floors (R178, R207 to R211) -/

/-- The check of a floor record: the first 8 bytes of SHA3-256 over its fields, each as 8 little-endian bytes in the order R209 names them
(DESIGN CHOICE, log entry 75: R209 gives the sequence 64 bits, and neither widths nor an order to the rest). -/
def floorCheck (seq floor limit : Nat) : List Byte :=
  fitLen 8 (Config.hash 0x12 32 [] [] (leBytes 8 seq ++ leBytes 8 floor ++ leBytes 8 limit))

/-- A record as a commit leaves it. -/
def floorRec (seq floor limit : Nat) : FloorRec :=
  { seq := seq, floor := floor, limit := limit, check := floorCheck seq floor limit, committed := true }

/-- A record's commit word and check are valid (R209). -/
def FloorRec.valid (r : FloorRec) : Bool := r.committed && decide (r.check = floorCheck r.seq r.floor r.limit)

/-- The second record is in force: it alone is valid, or its sequence is the higher (R209). -/
def KeySlot.useB (x : KeySlot) : Bool := x.recB.valid && (!x.recA.valid || decide (x.recB.seq > x.recA.seq))

/-- The record in force. -/
def KeySlot.inForce (x : KeySlot) : FloorRec := if x.useB then x.recB else x.recA

/-- The record that is not in force is replaced. -/
def KeySlot.setOther (x : KeySlot) (r : FloorRec) : KeySlot := if x.useB then { x with recA := r } else { x with recB := r }

/-- A commit that power loss interrupts: the record it was writing has no commit word (R209). -/
def KeySlot.tear (x : KeySlot) : KeySlot :=
  match x.pendFloor with
  | some p => x.setOther { floorRec (x.inForce.seq + 1) p x.limit with committed := false }
  | none => x

/-- A floor commit writes the record that does not hold the highest valid sequence (R209). -/
def KeySlot.commit (x : KeySlot) (floor limit : Nat) : KeySlot :=
  let y := { x with floor := floor, limit := limit, pendFloor := none }
  y.setOther (floorRec (x.inForce.seq + 1) floor limit)

/-- Remaining leaves of a slot (R211). -/
def KeySlot.left (x : KeySlot) : Nat := x.limit + 1 - x.cursor

/-- The low-leaves check after a slot's leaves changed (R211). -/
def State.checkLow (s : State) (k : Nat) : State :=
  let x := s.key k
  let th := s.fld F.DIG_LMS_LOW_LEAVES
  if x.stateful ∧ x.left < th ∧ !x.lowLatched then
    (((s.setKey k { x with lowLatched := true }).setFld F.DIG_LOWSLOT_SLOT k).setFld F.DIG_LOWSLOT_V 1).latch 35
      (hwCtrl s x.owner 35) dataNone
  else s

/-- Every stateful slot is checked, after the threshold or the cursors moved (R211). -/
def State.checkLows (s : State) : State := s.keys.slots.foldl (fun s e => s.checkLow e.1) s

/-! ## Engine work inside KEY functions (R231) -/

/-- Engine work of a class inside a KEY function or HBS_SPLIT: on the lowest-numbered free engine, for which it waits like any job; with the key
it sets up, and the level at which it is masked (R164, R182, R227, R231). -/
def engineWork (cls : Nat) (key : Option (Nat × Nat)) (level : Option Nat) : JobM Unit := do
  let s ← get
  match s.engineFor cls with
  | none => throw .wait
  | some k =>
    if !s.drbgReady (instFor cls k) then throw .rnd
    act (fun s => (s.noteKey cls k key).hwDid [cls])
    match level with
    | some v => drawMasks (instFor cls k) v
    | none => pure ()

/-! ## Accesses of the key-store controller (R532) -/

/-- The master of the key-store controller's accesses for a job of polder `n` issued on core `c`. -/
def keyMaster (c n : Nat) : Master := { mcls := 0, unit := c, acts := [n] }

/-- The check of an access by the key-store controller: a refusal freezes nothing and ends the job with ACCESS_VIOLATION (R532). -/
def keyGranted (m : Master) (ctrl : Word) (d : Dir) (a len : Nat) : JobM Unit := do
  let s ← get
  match if len = 0 then none else s.dikeCheck m a len d false with
  | some p =>
    set (s.refuse m ctrl d p true false)
    throw (.status 0x0D 0)
  | none => pure ()

/-- A read by the key-store controller (R532). -/
def keyRead (m : Master) (ctrl : Word) (a len : Nat) : JobM (List Byte) := do
  keyGranted m ctrl .read a len
  readOp m ctrl a len

/-- The check of a write by the key-store controller (R532). -/
def keyCheckW (m : Master) (ctrl : Word) (a len : Nat) : JobM Unit := do
  keyGranted m ctrl .write a len
  checkOut m ctrl a len

end Sys2Proof.Machine
end

