-- ==== Sys2Proof/Machine/Digest.lean ====
section
/-!
DEFINITION. Sys2Proof/Machine/Digest.lean: the digest engine (R188 to R216). A context's running state is held as the bytes it
has absorbed; the hash functions are uninterpreted.
-/

namespace Sys2Proof.Machine

/-! ## Algorithms (R188) -/

/-- Output bytes of a fixed-length hash; 0 for the extendable-output functions. -/
def hashOut (alg : Nat) : Nat :=
  match alg with
  | 0x01 => 28 | 0x02 => 32 | 0x03 => 48 | 0x04 => 64 | 0x05 => 28 | 0x06 => 32
  | 0x11 => 28 | 0x12 => 32 | 0x13 => 48 | 0x14 => 64
  | _ => 0

/-- An extendable-output function. -/
def isXof (alg : Nat) : Bool := decide (0x18 ≤ alg ∧ alg ≤ 0x1B)
/-- cSHAKE. -/
def isCshake (alg : Nat) : Bool := decide (alg = 0x1A) || decide (alg = 0x1B)
/-- A hash of the table. -/
def isHash (alg : Nat) : Bool := decide (hashOut alg ≠ 0) || isXof alg

/-! ## Descriptor fields in use (R189) -/

/-- Byte ranges that are must-be-zero for a job: those of operands its operation, flags and slots leave unused. -/
def digUnused (opc : Nat) (d : DigDesc) (sv : Bool) : List (Nat × Nat) :=
  let cs := isCshake d.alg && decide (opc = 1 ∨ opc = 5)
  let a := [(16, 27)]
  let ctx := [(28, 31)]
  let decl := [(32, 39)]
  let b := [(40, 51)]
  let c := [(52, 63)]
  let out := [(64, 75)]
  let oslot := [(76, 77)]
  let alg := [(78, 78)]
  let olen := [(80, 83)]
  let is2 := [(84, 85)]
  let oty := [(86, 86)]
  let par := [(87, 95)]
  let k := [(96, 107)]
  let cIf (p : Bool) (l : List (Nat × Nat)) : List (Nat × Nat) := if p then l else []
  match opc with
  | 0x01 => cIf (!d.dl) decl ++ cIf (!cs) b ++ cIf (!cs) c ++ out ++ oslot ++ olen ++ is2 ++ oty ++ par ++ k
  | 0x02 => decl ++ b ++ c ++ out ++ oslot ++ alg ++ olen ++ is2 ++ oty ++ par ++ k
  | 0x03 => decl ++ cIf (!d.cmp) b ++ c ++ cIf d.cmp out ++ oslot ++ alg ++ is2 ++ oty ++ par ++ k
  | 0x04 => a ++ decl ++ b ++ c ++ oslot ++ alg ++ is2 ++ oty ++ par ++ k
  | 0x05 => ctx ++ cIf (!d.dl) decl ++ cIf (!d.cmp && !cs) b ++ cIf (!cs) c ++ cIf d.cmp out ++ oslot ++
      cIf (!isXof d.alg) olen ++ is2 ++ oty ++ par ++ k
  | 0x06 => a ++ decl ++ b ++ c ++ out ++ oslot ++ alg ++ olen ++ is2 ++ oty ++ par ++ k
  | 0x08 => cIf d.i2v a ++ ctx ++ decl ++ cIf sv b ++ c ++ out ++ olen ++ par ++ k
  | 0x09 => a ++ ctx ++ decl ++ c ++ cIf d.ov out ++ is2 ++ par ++ k
  | 0x0B => ctx ++ decl ++ c ++ out ++ oslot ++ alg ++ olen ++ is2 ++ oty ++ par ++ k
  | 0x10 => a ++ ctx ++ decl ++ b ++ c ++ olen ++ is2 ++ oty ++ par ++ k
  | 0x11 => ctx ++ decl ++ b ++ oslot ++ olen ++ is2 ++ oty ++ par ++ k
  | 0x12 => ctx ++ decl ++ out ++ oslot ++ olen ++ is2 ++ oty ++ par ++ cIf sv k
  | 0x18 => a ++ ctx ++ decl ++ b ++ c ++ olen ++ is2 ++ oty ++ k ++ cIf (decide (d.alg ≠ 0x80)) [(87, 87), (92, 95)]
  | 0x19 => ctx ++ decl ++ b ++ c ++ oslot ++ olen ++ is2 ++ oty ++ par ++ k
  | 0x1A => ctx ++ decl ++ c ++ out ++ oslot ++ olen ++ is2 ++ oty ++ par ++ cIf sv k
  | _ => a ++ ctx ++ decl ++ b ++ c ++ oslot ++ oty ++ par ++ k

/-- FLAGS bits that an operation reads (R189). -/
def digFlags (opc : Nat) : Nat :=
  match opc with
  | 0x01 => 0x03
  | 0x03 => 0x04
  | 0x05 => 0x07
  | 0x11 => 0x78
  | 0x12 => 0x70
  | 0x18 => 0x80
  | _ => 0

/-- An operation reads SLOT (R190). -/
def digSlot (opc : Nat) (d : DigDesc) : Bool :=
  (decide (opc = 1 ∨ opc = 5) && d.mac) || decide (opc ∈ [0x08, 0x09, 0x11, 0x12, 0x19, 0x1A, 0x1B])

/-- Check 1 of R160 for a digest job, without the context handle. -/
def digMbz (opc : Nat) (d : DigDesc) (l : List Byte) : Bool :=
  d.mbz l && (digUnused opc d (hdrSv l)).all (fun r => zeroAt l r.1 r.2) && decide (d.flags &&& digFlags opc = d.flags) &&
    (digSlot opc d || zeroAt l 8 9) && (hdrSv l || zeroAt l 8 9) && (d.ov || zeroAt l 76 77) && (d.i2v || zeroAt l 84 85)

/-! ## The common course of a digest job -/

/-- What a digest job works with. -/
structure DigEnv where
  e : Nat
  j : Job
  l : List Byte
  d : DigDesc
  sv : Bool
  slot : Nat
  core : Nat
  ctrl : Word

/-- The master of unit `u` of the digest engine, for a job's polder (R189, R403). -/
def DigEnv.master (v : DigEnv) (u : Nat) : Master := { mcls := 5, unit := u, acts := [v.j.polder] }

/-- A unit of the digest engine makes the job's next accesses. -/
def DigEnv.unit (v : DigEnv) (u : Nat) : JobM Unit := act (fun s => s.setJob v.e { s.job v.e with engine := some u })

/-- A read by a unit. -/
def DigEnv.read (v : DigEnv) (u a len : Nat) : JobM (List Byte) := do
  v.unit u
  readOp (v.master u) v.ctrl a len

/-- The check of a write by a unit. -/
def DigEnv.checkW (v : DigEnv) (u a len : Nat) : JobM Unit := do
  v.unit u
  checkOut (v.master u) v.ctrl a len

/-- Check 3 of R160. -/
def check3 : JobM Unit := do
  let s ← get
  need (!s.locked) 0x15
  need (decide (s.lcs ≠ 4)) 0x14

/-- The lowest-numbered context that may be taken (R192). -/
def State.freeContext (s : State) : Option Nat :=
  findFrom (fun x => decide ((s.ctx x).st = .free) || decide ((s.ctx x).st = .expired)) 256 0

/-- Jobs ahead of `e` in the digest queue (R193). -/
def State.ahead (s : State) (e : Nat) : List Nat := (s.jobQueue 3).takeWhile (· ≠ e)

/-- A digest job's descriptor, as read or as it stands. -/
def State.digBytes (s : State) (e : Nat) : List Byte := if (s.job e).granted then (s.job e).bytes else s.bytes (s.job e).desc 128

/-- The context that a digest job on an open one names with a handle in force (R191, R192). A handle with another sequence, or of another
polder, names none. -/
def State.namedCtx (s : State) (e : Nat) : Option Nat :=
  let j := s.job e
  let h := leAt (s.digBytes e) 28 4
  let x := s.ctx (h % 256)
  if j.opc ∈ [0x02, 0x03, 0x04, 0x06] ∧ x.seq = h / 256 ∧ x.polder = j.polder ∧ x.st ≠ .free ∧ x.temp = false then some (h % 256) else none

/-- Jobs on one context are processed one at a time, in their order of issue (R192). -/
def State.ctxOrder (s : State) (e : Nat) : Bool :=
  match s.namedCtx e with
  | none => true
  | some k => !((s.ctx k).st = .busy) && !(s.ahead e).any (fun f => s.namedCtx f == some k)

/-- Digest operations whose work writes MRAM at its start wait while PWR_FAIL_N is low (R208, R212, R500). -/
def digMram (opc : Nat) : Bool := decide (opc ∈ [0x19, 0x1B])

/-- A queued digest job that takes a context is masked, generates a key or signs, and needs its DRBG (R190, R203). -/
def State.digSecret (s : State) (e : Nat) : Bool :=
  let o := (s.job e).opc
  decide (o ∈ [0x08, 0x09, 0x10, 0x11, 0x18, 0x19]) || (decide (o ∈ [1, 5]) && (parseDig (s.digBytes e)).mac)

/-- Nothing but a context, a hash core or randomness keeps a queued digest job from its turn (R149, R189, R192, R261, R410, R500). -/
def State.digMay (s : State) (e : Nat) : Bool :=
  let j := s.job e
  decide (j.st = .queued) && decide (j.cls = 3) && !s.halted j.polder && !s.tamperFrozen && !s.mcsHeld 3 j.opc && s.ctxOrder e &&
    !(s.power.pwrFail && digMram j.opc) && !(!j.granted && s.frozen 5 33) && !(decide (j.opc = 0x0B) && (s.frozen 5 32 || s.mcs.cmpOff || s.test.running.contains (3, 32)))

/-- A job ahead takes the next context: its own conditions hold, and it waits for nothing else (R157, R193). -/
def State.takesNext (s : State) (f : Nat) : Bool :=
  takesCtx (s.job f).opc && s.ctxRoom (s.job f).polder && s.digMay f && (!s.digSecret f || s.drbgReady (instFor 3 ((s.freeContext).getD 0)))

/-- A context for a new message is there for the job now: the conditions of R193 hold, and no job ahead takes it. -/
def State.ctxTurn (s : State) (e : Nat) : Bool := s.ctxRoom (s.job e).polder && !(s.ahead e).any s.takesNext

/-- A context is taken for the job (R192, R193): DG_OPEN's stays, any other is freed with the job. -/
def takeCtx (v : DigEnv) (x : Ctx) (temp : Bool) : JobM Nat := do
  let s ← get
  if !s.ctxTurn v.e then throw .wait
  match s.freeContext with
  | none => throw .wait
  | some k =>
    let q := (s.ctx k).seq
    act (fun s => (s.setCtx k { x with st := .busy, seq := if temp then q else (q + 1) % 2 ^ 24, polder := v.j.polder,
                                       temp := temp }).setJob v.e { s.job v.e with ctx := some k })
    pure k

/-- A masked job, a key generation or a hedged signature needs its DRBG (R203). -/
def needRnd (secret : Bool) (x : Nat) : JobM Unit := do
  let s ← get
  if secret && !s.drbgReady (instFor 3 x) then throw .rnd

/-- The key of a MAC: a secret, derived secret or HMAC key with usage hmac (R200). -/
def macTy (x : KeySlot) : Bool := decide (x.ty ∈ [3, 4, 6])
/-- A salt, input keying material or PRK (R200). -/
def deriveTy (x : KeySlot) : Bool := decide (x.ty ∈ [3, 4])

/-- The digest of a context's bytes (R188, R200). -/
def Ctx.digest (x : Ctx) (len : Nat) : List Byte :=
  match x.mac with
  | some k => fitLen len (Config.hmac x.alg k x.data)
  | none => fitLen len (Config.hash x.alg len x.custN x.custS x.data)

/-- Bytes are absorbed (R196): past a declared length the rest is discarded. The context after, and whether bytes were
discarded. -/
def Ctx.absorb (x : Ctx) (a : List Byte) : Ctx × Bool :=
  let take := if x.dl then min a.length (x.decl - x.total) else a.length
  ({ x with data := x.data ++ a.take take, total := x.total + take, trunc := x.trunc || decide (take < a.length) },
    decide (take < a.length))

/-- A count of discarded bytes (R196). -/
def countTrunc (p : Bool) : JobM Unit := if p then act (fun s => s.incFld F.DIG_TRUNC_COUNT) else pure ()

/-- The open context a handle names, for the job (R191): otherwise MALFORMED, or TIMEOUT where it has expired. The job keeps it BUSY until
it completes, whatever its status (R192, R195). -/
def openCtx (v : DigEnv) (h : Nat) : JobM Nat := do
  let s ← get
  let k := h % 256
  let x := s.ctx k
  need (decide (x.seq = h / 256) && decide (x.polder = v.j.polder) && decide (x.st ≠ .free) && !x.temp) 0x12
  if x.st = .expired then
    set (s.setCtx k { seq := x.seq })
    throw (.status 0x05 0)
  act (fun s => (s.setCtx k { x with st := .busy }).setJob v.e { s.job v.e with ctx := some k })
  pure k

/-- What a job absorbed goes into its context, which it keeps. -/
def holdCtx (k : Nat) (x : Ctx) : JobM Unit := act (fun s => s.setCtx k { x with st := .busy })

/-- A context is closed (R190). -/
def closeCtx (k : Nat) : JobM Unit := act (fun s => s.dropCtx k)

/-- The level of a keyed job on an open context (R163, R203): the key slot's minimum, the polder's default and the job's request. -/
def State.ctxLevel (s : State) (v : DigEnv) (k : Nat) : Nat :=
  let hmin := match (s.ctx k).macSlot with | some q => (s.key q).hmin | none => 0
  s.effLevel v.j.polder hmin (hdrHreq v.l)

/-- The masks of a secret digest operation (R164, R203). -/
def maskDig (secret : Bool) (k level : Nat) : JobM Unit := if secret then drawMasks (instFor 3 k) level else pure ()

/-- The end of a message: LEN_SHORT, a digest, or a comparison (R196, R199, R202). -/
def finalOut (v : DigEnv) (x : Ctx) (size : Nat) : JobM JobOut := do
  if x.dl && decide (x.total < x.decl) then
    act (fun s => s.incFld F.DIG_SHORT_COUNT)
    if v.d.cmp then pure { status := 0x02 }
    else
      v.checkW v.core v.d.out size
      pure { status := 0x02, writes := [(v.d.out, List.replicate size 0)] }
  else
    let dg := x.digest size
    let ok := if x.trunc then 1 else 0
    if v.d.cmp then
      let b ← v.read 32 v.d.bAddr v.d.bLen
      need (decide (dg.take v.d.bLen = b)) 0x07
      pure { status := ok }
    else
      v.checkW v.core v.d.out size
      pure { status := ok, outlen := size, writes := [(v.d.out, dg)] }

/-- Output bytes of a digest, XOFs by OUT_LEN (R188). -/
def digSize (alg outLen : Nat) : Nat := if isXof alg then outLen else hashOut alg

/-- The lengths of a final step (R188, R199). -/
def finalLens (d : DigDesc) (alg : Nat) : Bool :=
  (!isXof alg || decide (1 ≤ d.outLen ∧ d.outLen ≤ 1048576)) &&
    (!d.cmp || decide (4 ≤ d.bLen ∧ d.bLen ≤ digSize alg d.outLen))

/-! ## Contexts (R190 to R202) -/

/-- What DG_OPEN and DG_ONESHOT open: algorithm, declared length, HMAC key and customisation (R190, R196, R200). -/
def startCtx (v : DigEnv) (final : Bool) : JobM Ctx := do
  let d := v.d
  need (digMbz v.j.opc d v.l) 0x12
  need (decide (hdrHreq v.l < 3) && isHash d.alg && !(d.mac && isXof d.alg)) 0x13
  check3
  let key ← if d.mac then inSlot v.j.polder v.slot v.sv macTy else pure {}
  if d.mac then useSlot key useHmac
  need ((!d.dl || decide (d.decl < 2 ^ 61)) && (!isCshake d.alg || (decide (d.bLen ≤ 255) && decide (d.cLen ≤ 255)) ||
    (final && d.cmp && decide (d.cLen ≤ 255))) && (!final || finalLens d d.alg)) 0x17
  need (!final || d.cmp || decide (digSize d.alg d.outLen ≤ d.cap)) 0x04
  pure { polder := v.j.polder, alg := d.alg, dl := d.dl, decl := d.decl, mac := if d.mac then some key.secret else none,
         macSlot := if d.mac then some v.slot else none }

/-- The operands of an opening: customisation strings, then the data (R188). -/
def openData (v : DigEnv) (x : Ctx) : JobM (Ctx × Bool) := do
  let d := v.d
  let n ← if isCshake d.alg && !d.cmp then v.read v.core d.bAddr d.bLen else pure []
  let c ← if isCshake d.alg then v.read v.core d.cAddr d.cLen else pure []
  let a ← v.read v.core d.aAddr d.aLen
  pure ({ x with custN := n, custS := c }.absorb a)

/-- DG_OPEN's work. -/
def dgOpenWork (v : DigEnv) : JobM JobOut := do
  let x ← startCtx v false
  let s ← get
  needRnd v.d.mac ((s.freeContext).getD 0)
  let k ← takeCtx v x false
  maskDig v.d.mac k ((← get).ctxLevel v k)
  let r ← openData v { x with st := .busy }
  let q := ((← get).ctx k).seq
  act (fun s => s.setCtx k { r.1 with st := .busy, seq := q })
  countTrunc r.2
  pure { status := if r.2 then 1 else 0, writes := [(v.j.desc + 28, leBytes 4 (q * 256 + k))] }

/-- The checks of a job on an open context (R191, R160). -/
def ctxChecks (v : DigEnv) : JobM Nat := do
  need (digMbz v.j.opc v.d v.l) 0x12
  openCtx v v.d.ctx

/-- A job's new bytes would pass the limit of an undeclared message (R198). -/
def tooLong (x : Ctx) (len : Nat) : Bool := !x.dl && decide (x.total + len ≥ 2 ^ 61)

/-- DG_UPDATE's work. -/
def dgUpdateWork (v : DigEnv) : JobM JobOut := do
  let k ← ctxChecks v
  let x := (← get).ctx k
  need (decide (hdrHreq v.l < 3)) 0x13
  check3
  need (!tooLong x v.d.aLen) 0x17
  needRnd x.mac.isSome k
  maskDig x.mac.isSome k ((← get).ctxLevel v k)
  let a ← v.read v.core v.d.aAddr v.d.aLen
  let r := x.absorb a
  holdCtx k r.1
  countTrunc r.2
  pure { status := if r.2 then 1 else 0 }

/-- DG_FINAL's work. -/
def dgFinalWork (v : DigEnv) : JobM JobOut := do
  let k ← ctxChecks v
  let x := (← get).ctx k
  need (isXof x.alg || zeroAt v.l 80 83) 0x12
  need (decide (hdrHreq v.l < 3)) 0x13
  check3
  need (!tooLong x v.d.aLen && finalLens v.d x.alg) 0x17
  let size := digSize x.alg v.d.outLen
  need (v.d.cmp || decide (size ≤ v.d.cap)) 0x04
  needRnd x.mac.isSome k
  maskDig x.mac.isSome k ((← get).ctxLevel v k)
  let a ← v.read v.core v.d.aAddr v.d.aLen
  let r := x.absorb a
  countTrunc r.2
  closeCtx k
  finalOut v r.1 size

/-- DG_PEEK's work. -/
def dgPeekWork (v : DigEnv) : JobM JobOut := do
  let k ← ctxChecks v
  let x := (← get).ctx k
  need (isXof x.alg || zeroAt v.l 80 83) 0x12
  need (decide (hdrHreq v.l < 3) && !x.dl) 0x13
  check3
  need (finalLens v.d x.alg) 0x17
  let size := digSize x.alg v.d.outLen
  need (decide (size ≤ v.d.cap)) 0x04
  needRnd x.mac.isSome k
  maskDig x.mac.isSome k ((← get).ctxLevel v k)
  v.checkW v.core v.d.out size
  pure { outlen := size, writes := [(v.d.out, x.digest size)] }

/-- DG_ONESHOT's work. -/
def dgOneshotWork (v : DigEnv) : JobM JobOut := do
  let x ← startCtx v true
  let s ← get
  needRnd v.d.mac ((s.freeContext).getD 0)
  let k ← takeCtx v x true
  maskDig v.d.mac k ((← get).ctxLevel v k)
  let r ← openData v x
  countTrunc r.2
  finalOut v r.1 (digSize v.d.alg v.d.outLen)

/-- DG_CLOSE's work. -/
def dgCloseWork (v : DigEnv) : JobM JobOut := do
  let k ← ctxChecks v
  need (decide (hdrHreq v.l < 3)) 0x13
  check3
  closeCtx k
  pure {}

/-! ## HKDF and comparison (R200 to R202) -/

/-- Type, ALG, usage and key bytes of an HKDF output type (R200). -/
def hkdfType (t : Nat) : Nat × Nat × Nat × Option Nat :=
  match t with
  | 1 => (5, 0x61, 2 ^ useAead, some 16)
  | 2 => (5, 0x62, 2 ^ useAead, some 32)
  | 3 => (5, 0x63, 2 ^ useAead, some 32)
  | 4 => (6, 0, 2 ^ useHmac, none)
  | _ => (4, 0, 2 ^ useDerive + 2 ^ useHmac, none)

/-- The slot an HKDF operation fills (R200). -/
def hkdfSlot (t level : Nat) (secret : List Byte) : KeySlot :=
  let x := hkdfType t
  { ty := x.1, alg := x.2.1, usage := x.2.2.1, hmin := if x.1 = 5 then 1 else level, secret := secret,
    granules := granulesFor secret.length 0 false }

/-- An HKDF output for its slot (R200). -/
def hkdfFill (v : DigEnv) (level : Nat) (secret : List Byte) : JobM Unit := setFill v.e v.d.oslot (hkdfSlot v.d.otype level secret) false

/-- HKDF_EXTRACT's work (R200). -/
def hkdfExtractWork (v : DigEnv) : JobM JobOut := do
  let d := v.d
  let n := v.j.polder
  need (digMbz v.j.opc d v.l) 0x12
  need (decide (hdrHreq v.l < 3) && decide (hashOut d.alg ≠ 0) && decide (d.otype ≤ 4)) 0x13
  check3
  let salt ← if v.sv then inSlot n v.slot true deriveTy else pure {}
  let ikm ← if d.i2v then inSlot n d.islot2 true deriveTy else pure {}
  if v.sv then useSlot salt useDerive
  if d.i2v then useSlot ikm useDerive
  outSlot n d.oslot d.ov
  let hl := hashOut d.alg
  need (match (hkdfType d.otype).2.2.2 with | some k => decide (k = hl) | none => true) 0x17
  let s ← get
  need (s.heapRoom n (granulesFor hl 0 false)) 0x04
  let level := s.effLevel n (max salt.hmin ikm.hmin) (hdrHreq v.l)
  needRnd true ((s.freeContext).getD 0)
  let k ← takeCtx v {} true
  maskDig true k level
  let b ← if v.sv then pure salt.secret else v.read v.core d.bAddr d.bLen
  let a ← if d.i2v then pure ikm.secret else v.read v.core d.aAddr d.aLen
  let key := if b.isEmpty then List.replicate hl 0 else b
  hkdfFill v level (fitLen hl (Config.hmac d.alg key a))
  pure {}

/-- HKDF_EXPAND's work (R200, R201). -/
def hkdfExpandWork (v : DigEnv) : JobM JobOut := do
  let d := v.d
  let n := v.j.polder
  need (digMbz v.j.opc d v.l) 0x12
  need (decide (hdrHreq v.l < 3) && decide (hashOut d.alg ≠ 0) && decide (d.otype ≤ 4)) 0x13
  check3
  let prk ← inSlot n v.slot v.sv deriveTy
  useSlot prk useDerive
  if d.ov then outSlot n d.oslot true else need (decide (d.outLen ≤ 12) && decide (d.otype = 0)) 0x08
  let hl := hashOut d.alg
  need (decide (d.bLen ≤ 1024) && decide (d.outLen ≤ 255 * hl) &&
    (match (hkdfType d.otype).2.2.2 with | some k => decide (d.outLen = k) | none => decide (1 ≤ d.outLen ∧ d.outLen ≤ 64))) 0x17
  let s ← get
  need (if d.ov then s.heapRoom n (granulesFor d.outLen 0 false) else decide (d.outLen ≤ d.cap)) 0x04
  let level := s.effLevel n prk.hmin (hdrHreq v.l)
  needRnd true ((s.freeContext).getD 0)
  let k ← takeCtx v {} true
  maskDig true k level
  let info ← v.read v.core d.bAddr d.bLen
  let okm := fitLen d.outLen (hkdfBlocks d.alg hl prk.secret info (cdiv d.outLen hl) 1 [])
  if d.ov then
    hkdfFill v level okm
    pure {}
  else
    v.checkW v.core d.out d.outLen
    pure { outlen := d.outLen, writes := [(d.out, okm)] }

/-- CT_COMPARE's work, on the comparison unit (R202). -/
def ctCompareWork (v : DigEnv) : JobM JobOut := do
  let d := v.d
  need (digMbz v.j.opc d v.l) 0x12
  need (decide (hdrHreq v.l < 3)) 0x13
  check3
  need (decide (d.aLen ≤ 4096) && decide (d.aLen = d.bLen)) 0x17
  let a ← v.read 32 d.aAddr d.aLen
  let b ← v.read 32 d.bAddr d.bLen
  need (decide (a = b)) 0x07
  pure {}

/-! ## SLH-DSA (R205) -/

/-- A hash-based key pair of an ALG. -/
def hashPairTy (alg : Nat) (x : KeySlot) : Bool := decide (x.ty = 2) && decide (x.alg = alg)
/-- A hash-based key pair or public key of an ALG. -/
def hashPubTy (alg : Nat) (x : KeySlot) : Bool := (decide (x.ty = 2) || decide (x.ty = 8)) && decide (x.alg = alg)

/-- A key pair for its slot (R205, R207). -/
def pairFill (v : DigEnv) (x : KeySlot) : JobM Unit := setFill v.e v.d.oslot x true

/-- SLH_KEYGEN's work. -/
def slhKeygenWork (v : DigEnv) : JobM JobOut := do
  let d := v.d
  let n := v.j.polder
  need (digMbz v.j.opc d v.l) 0x12
  need (decide (hdrHreq v.l < 3) && isSlh d.alg) 0x13
  check3
  outSlot n d.oslot d.ov
  let len := 2 * slhN d.alg
  need (decide (len ≤ d.cap)) 0x04
  let s ← get
  let g := granulesFor len len false
  need (s.heapRoom n g) 0x04
  needRnd true ((s.freeContext).getD 0)
  let k ← takeCtx v {} true
  maskDig true k 1
  let rnd ← drawM (instFor 3 k) 96
  let pk := fitLen len (Config.keygenPub d.alg 0 rnd)
  v.checkW v.core d.out len
  pairFill v { ty := 2, alg := d.alg, usage := 2 ^ useSign, hmin := 1, secret := fitLen len (Config.keygenSec d.alg 0 rnd),
               pub := pk, granules := g }
  pure { outlen := len, writes := [(d.out, pk)] }

/-- The lengths of a message or pre-hash and a context (R205). -/
def slhLens (d : DigDesc) : Bool := (decide (d.ph = 0) || decide (d.aLen = hashLen d.ph)) && decide (d.cLen ≤ 255)

/-- SLH_SIGN's work: the private key is the stored secret with PK.seed and PK.root, and with DET = 1 PK.seed is opt_rand (R205, R222). -/
def slhSignWork (v : DigEnv) : JobM JobOut := do
  let d := v.d
  need (digMbz v.j.opc d v.l) 0x12
  need (decide (hdrHreq v.l < 3) && isSlh d.alg && decide (d.ph < 6)) 0x13
  check3
  let key ← inSlot v.j.polder v.slot v.sv (hashPairTy d.alg)
  useSlot key useSign
  need (decide (key.hmin ≠ 2)) 0x09
  need (slhLens d) 0x17
  need (decide (slhSig d.alg ≤ d.cap)) 0x04
  let s ← get
  needRnd true ((s.freeContext).getD 0)
  let k ← takeCtx v {} true
  maskDig true k 1
  let a ← v.read v.core d.aAddr d.aLen
  let c ← v.read v.core d.cAddr d.cLen
  let rnd ← if d.det then pure (key.pub.take (slhN d.alg)) else drawM (instFor 3 k) (slhN d.alg)
  let sig := fitLen (slhSig d.alg) (Config.sign d.alg d.ph (key.secret ++ key.pub) a c rnd)
  v.checkW v.core d.out sig.length
  pure { outlen := sig.length, writes := [(d.out, sig)] }

/-- SLH_VERIFY's work. -/
def slhVerifyWork (v : DigEnv) : JobM JobOut := do
  let d := v.d
  need (digMbz v.j.opc d v.l) 0x12
  need (decide (hdrHreq v.l < 3) && isSlh d.alg && decide (d.ph < 6)) 0x13
  check3
  let key ← if v.sv then inSlot v.j.polder v.slot true (hashPubTy d.alg) else pure {}
  if v.sv then useSlot key useVerify
  need (slhLens d && decide (d.bLen = slhSig d.alg) && (v.sv || decide (d.kLen = 2 * slhN d.alg))) 0x17
  let _ ← takeCtx v {} true
  let a ← v.read v.core d.aAddr d.aLen
  let b ← v.read v.core d.bAddr d.bLen
  let c ← v.read v.core d.cAddr d.cLen
  let pk ← if v.sv then pure key.pub else v.read v.core d.kAddr d.kLen
  need (Config.verify d.alg d.ph pk a c b) 0x07
  pure {}

/-! ## Stateful signatures (R206 to R213) -/

/-- A 32-bit number in big-endian order, as RFC 8554 and RFC 8391 write it. -/
def be4 (x : Nat) : List Byte := (leBytes 4 x).reverse

/-- The public key of a stateful pair: its parameters, then what the key generation gives. -/
def hbsPub (alg p1 p2 levels : Nat) (rnd : List Byte) : List Byte :=
  let head := if alg = 0x80 then be4 levels ++ be4 p1 ++ be4 p2 else be4 p1
  head ++ fitLen (hbsPubLen alg p1 - head.length) (Config.keygenPub alg (p1 + 2 ^ 32 * p2 + 2 ^ 64 * levels) rnd)

/-- HBS_KEYGEN's work (R207). -/
def hbsKeygenWork (v : DigEnv) : JobM JobOut := do
  let d := v.d
  let n := v.j.polder
  need (digMbz v.j.opc d v.l) 0x12
  need (decide (hdrHreq v.l < 3) && isHbs d.alg && (hbsParam d.alg d.p1 d.p2 d.levels).isSome) 0x13
  check3
  outSlot n d.oslot d.ov
  let len := hbsPubLen d.alg d.p1
  need (decide (len ≤ d.cap)) 0x04
  let s ← get
  let g := granulesFor 64 len true
  need (s.heapRoom n g) 0x04
  needRnd true ((s.freeContext).getD 0)
  let k ← takeCtx v {} true
  maskDig true k 1
  let rnd ← drawM (instFor 3 k) 96
  let pk := hbsPub d.alg d.p1 d.p2 d.levels rnd
  let limit := 2 ^ ((hbsParam d.alg d.p1 d.p2 d.levels).getD (0, 0)).2 - 1
  v.checkW v.core d.out len
  pairFill v
    { ty := 2, alg := d.alg, usage := 2 ^ useSign, exportP := if bit d.flags 7 then 1 else 0, hmin := 1, stateful := true,
      secret := fitLen 64 (Config.keygenSec d.alg (d.p1 + 2 ^ 32 * d.p2 + 2 ^ 64 * d.levels) rnd), pub := pk, granules := g,
      p1 := d.p1, p2 := d.p2, levels := d.levels, cursor := 0, floor := 0, limit := limit,
      recA := floorRec 1 0 limit }
  pure { outlen := len, writes := [(d.out, pk)] }

/-- The block a leaf past the committed floor needs is reserved: a new floor to commit (R208). -/
def State.reserveLeaf (s : State) (slot : Nat) : State :=
  let x := s.key slot
  let p := min (x.cursor + s.fld F.DIG_LMS_RESERVE_LEAVES) (x.limit + 1)
  if x.cursor < x.pendFloor.getD x.floor then s else s.setKey slot { x with pendFloor := some p }

/-- The leaf a signature takes (R208): the cursor's, which moves on; past the committed floor a block is reserved, and its
signatures wait for the commit. -/
def State.takeLeaf (s : State) (slot : Nat) : Nat × State :=
  let x := s.key slot
  let s1 := s.reserveLeaf slot
  (x.cursor, (s1.setKey slot { s1.key slot with cursor := x.cursor + 1 }).checkLow slot)

/-- HBS_SIGN's work (R208, R210). -/
def hbsSignWork (v : DigEnv) : JobM JobOut := do
  let d := v.d
  need (digMbz v.j.opc d v.l) 0x12
  need (decide (hdrHreq v.l < 3) && isHbs d.alg) 0x13
  check3
  let key ← inSlot v.j.polder v.slot v.sv (hashPairTy d.alg)
  useSlot key useSign
  need (decide (key.hmin ≠ 2)) 0x09
  let len := hbsSigLen d.alg key.p1 key.p2 key.levels
  need (decide (len ≤ d.cap)) 0x04
  need (decide (key.cursor ≤ key.limit)) 0x11
  let s ← get
  needRnd true ((s.freeContext).getD 0)
  let k ← takeCtx v {} true
  maskDig true k 1
  let r := (← get).takeLeaf v.slot
  set r.2
  act (fun s => s.setJob v.e { s.job v.e with leaf := some (v.slot, r.1) })
  let a ← v.read v.core d.aAddr d.aLen
  let rnd ← drawM (instFor 3 k) 32
  let sig := fitLen len (Config.hbsSign d.alg key.p1 key.p2 key.levels key.secret r.1 a rnd)
  v.checkW v.core d.out len
  pure { outlen := len, writes := [(d.out, sig)] }

/-- HBS_VERIFY's work (R206). -/
def hbsVerifyWork (v : DigEnv) : JobM JobOut := do
  let d := v.d
  need (digMbz v.j.opc d v.l) 0x12
  need (decide (hdrHreq v.l < 3) && isHbs d.alg) 0x13
  check3
  let key ← if v.sv then inSlot v.j.polder v.slot true (hashPubTy d.alg) else pure {}
  if v.sv then useSlot key useVerify
  let p := hbsOfPub d.alg key.pub
  need (!v.sv || decide (d.bLen = hbsSigLen d.alg p.1 p.2.1 p.2.2)) 0x17
  let _ ← takeCtx v {} true
  let pk ← if v.sv then pure key.pub else v.read v.core d.kAddr d.kLen
  let p := hbsOfPub d.alg pk
  need ((hbsParam d.alg p.1 p.2.1 p.2.2).isSome) 0x13
  need (decide (pk.length = hbsPubLen d.alg p.1) && decide (d.bLen = hbsSigLen d.alg p.1 p.2.1 p.2.2)) 0x17
  let a ← v.read v.core d.aAddr d.aLen
  let b ← v.read v.core d.bAddr d.bLen
  need (Config.verify d.alg 0 pk a [] b) 0x07
  pure {}

/-- HBS_SPLIT's work (R212). It waits for a floor commit that is under way, so that the leaves a block reserves are never moved (DEDUCED, R208).
A slot whose every leaf is moved away is left with floor 1 and limit 0, for no number names its limit, 0 − 1 (DESIGN CHOICE, log entry 74). -/
def hbsSplitWork (v : DigEnv) : JobM JobOut := do
  let d := v.d
  let n := v.j.polder
  need (digMbz v.j.opc d v.l) 0x12
  need (decide (hdrHreq v.l < 3) && isHbs d.alg) 0x13
  check3
  let s ← get
  need (decide (s.fld F.RNG_CTRL_TESTSRC = 0)) 0x14
  let key ← inSlot n v.slot v.sv (hashPairTy d.alg)
  let wrap ← inSlot n d.islot2 d.i2v (fun x => (exportMethod x).isSome)
  let method := (exportMethod wrap).getD 1
  need (decide (key.exportP = 1) && !key.expired s) 0x09
  useSlot wrap (if method = 1 then useWrap else useKemEnc)
  if key.pendFloor.isSome then throw .wait
  need (decide (1 ≤ d.outLen ∧ d.outLen ≤ key.limit + 1 - key.floor)) 0x17
  let total := blobLen method key.secret.length key.pub.length
  need (decide (total ≤ d.cap)) 0x04
  if !s.drbgReady 30 then throw .rnd
  if method ≥ 2 then engineWork 0 none none
  let rnd ← drawM 30 32
  v.checkW v.core d.out total
  let top := key.limit + 1 - d.outLen
  act (fun s => (s.setKey v.slot (if top = 0 then { (s.key v.slot).commit 1 0 with cursor := max 1 key.cursor }
    else (s.key v.slot).commit key.floor (top - 1))).checkLow v.slot)
  pure { outlen := total,
         writes := [(d.out, fitLen total (makeBlob key (key.attrWord s.tick) top key.limit method wrap rnd))] }

/-! ## Expiry (R195, R530) -/

/-- An OPEN context with no job in progress or queued, idle for the limit, becomes EXPIRED. -/
def State.expireCtx (s : State) (x : Nat) : State :=
  let k := s.ctx x
  let lim := s.fld F.DIG_IDLE_TICKS
  if k.st = .open ∧ lim ≠ 0 ∧ k.idleSince + lim ≤ s.tick ∧ !(s.jobQueue 3).any (fun e => s.namedCtx e == some x) then
    s.setCtx x { st := .expired, seq := k.seq, polder := k.polder }
  else s

/-- Every context whose idle limit has fallen due. -/
def State.expireCtxs (s : State) : State := s.ctxs.foldl (fun s e => s.expireCtx e.1) s

/-! ## Starting a digest job -/

/-- The course of a digest job: descriptor by the front end, then the operation's work (R189). -/
def digWork (e core : Nat) (work : DigEnv → JobM JobOut) : JobM JobOut := do
  let s ← get
  let j := s.job e
  let ctrl := ctrlOfJob s j 15
  if !j.granted then act (fun s => s.setJob e { s.job e with engine := some 33 })
  let l ← fetchDesc { mcls := 5, unit := 33, acts := [j.polder] } ctrl e
  act (fun s => s.setJob e { s.job e with engine := some core })
  work { e := e, j := j, l := l, d := parseDig l, sv := hdrSv l, slot := hdrSlot l, core := core, ctrl := ctrl }

/-- The hash core for a job: none is asked for by a comparison, which has its own unit (R194, R202). -/
def State.digUnit (s : State) (opc : Nat) : Option Nat := if opc = 0x0B then some 32 else s.hashCore

/-- A job row of one digest operation. An idle limit that is due comes first (R530). -/
def digJob (opc : Nat) (work : DigEnv → JobM JobOut) (e : SlotId) (s : State) : Out :=
  .next (s.unreset fun s0 =>
    let s := s0.expireCtxs
    if s.digMay e ∧ (s.job e).opc = opc then
      match s.digUnit opc with
      | none => s
      | some c => s.doJob e (digWork e c work)
    else s)

/-- DG_OPEN (R190, R192, R196). -/
def execDgOpen (e : SlotId) (s : State) : Out := digJob 0x01 dgOpenWork e s
/-- DG_UPDATE (R190, R196). -/
def execDgUpdate (e : SlotId) (s : State) : Out := digJob 0x02 dgUpdateWork e s
/-- DG_FINAL (R190, R196, R199). -/
def execDgFinal (e : SlotId) (s : State) : Out := digJob 0x03 dgFinalWork e s
/-- DG_PEEK (R190, R197). -/
def execDgPeek (e : SlotId) (s : State) : Out := digJob 0x04 dgPeekWork e s
/-- DG_ONESHOT (R190, R196). -/
def execDgOneshot (e : SlotId) (s : State) : Out := digJob 0x05 dgOneshotWork e s
/-- DG_CLOSE (R190). -/
def execDgClose (e : SlotId) (s : State) : Out := digJob 0x06 dgCloseWork e s
/-- HKDF_EXTRACT (R200). -/
def execHkdfExtract (e : SlotId) (s : State) : Out := digJob 0x08 hkdfExtractWork e s
/-- HKDF_EXPAND (R200, R201). -/
def execHkdfExpand (e : SlotId) (s : State) : Out := digJob 0x09 hkdfExpandWork e s
/-- CT_COMPARE (R202). -/
def execCtCompare (e : SlotId) (s : State) : Out := digJob 0x0B ctCompareWork e s
/-- SLH_KEYGEN (R205). -/
def execSlhKeygen (e : SlotId) (s : State) : Out := digJob 0x10 slhKeygenWork e s
/-- SLH_SIGN (R205). -/
def execSlhSign (e : SlotId) (s : State) : Out := digJob 0x11 slhSignWork e s
/-- SLH_VERIFY (R205). -/
def execSlhVerify (e : SlotId) (s : State) : Out := digJob 0x12 slhVerifyWork e s
/-- HBS_KEYGEN (R207). -/
def execHbsKeygen (e : SlotId) (s : State) : Out := digJob 0x18 hbsKeygenWork e s
/-- HBS_SIGN (R208). -/
def execHbsSign (e : SlotId) (s : State) : Out := digJob 0x19 hbsSignWork e s
/-- HBS_VERIFY (R206). -/
def execHbsVerify (e : SlotId) (s : State) : Out := digJob 0x1A hbsVerifyWork e s
/-- HBS_SPLIT (R212). -/
def execHbsSplit (e : SlotId) (s : State) : Out := digJob 0x1B hbsSplitWork e s

/-- HBS_FLOOR_COMMIT: the pending floor of a slot reaches MRAM (R208, R209). -/
def execHbsFloorCommit (k : SlotId) (s : State) : Out :=
  .next (s.unreset fun s =>
    let x := s.key k
    match x.pendFloor with
    | some p => if s.power.pwrFail then s else s.setKey k (x.commit p x.limit)
    | none => s)

/-! ## Expiry and faults (R195, R215) -/

/-- CONTEXT_EXPIRY (R195, R530). -/
def execContextExpiry (x : Fin 256) (s : State) : Out := .next (s.unreset fun s => s.expireCtx x)

/-- DIGEST_FAULT (R215, R534): a core error takes the core offline; a context RAM error frees the context, and its jobs end
with ABORTED. Hardware digest work is done again in the step that depends on it. -/
def execDigestFault (ctxRam : Bool) (core : Fin 32) (x : Fin 256) (s : State) : Out :=
  .next (s.unreset fun s =>
    let mine := s.liveJobs.filter (fun e => decide ((s.job e).cls = 3) && (decide ((s.job e).ctx = some x.val) ||
      (decide ((s.job e).st = .queued) && s.namedCtx e == some x.val)))
    let ctrl := match mine with
      | e :: _ => if ctxRam then ctrlOfJob s (s.job e) 8 else hwCtrl s 0 8
      | [] => hwCtrl s 0 8
    let s1 := s.latch 8 ctrl dataNone
    let s2 := if s.fld F.DIG_FAULT_V = 0 then
        (((s1.setFld F.DIG_FAULT_V 1).setFld F.DIG_FAULT_CAUSE (if ctxRam then 2 else 1)).setFld F.DIG_FAULT_CORE core).setFld
          F.DIG_FAULT_CTX (if ctxRam then x.val else 0)
      else s1
    if s.bringsReset 8 then s2
    else if ctxRam then
      (mine.foldl (fun s e => s.stopJob e 0x16 0xFFFF) s2).dropCtx x
    else
      let on := s2.fld F.DIG_CORE_ONLINE_ONLINE
      s2.setFld F.DIG_CORE_ONLINE_ONLINE (if bit on core then on - 2 ^ core.val else on))

end Sys2Proof.Machine
end

