-- ==== Sys2Proof/Machine/Codec.lean ====
section
/-!
DEFINITION. Sys2Proof/Machine/Codec.lean: the DBS coder (R338 to R342) and the column segment format: block encodings, their
choice and their validity (R298, R300, R312, R314 to R316, R326).
-/

namespace Sys2Proof.Machine

/-! ## Bit packing -/

/-- The number of bits a value needs; 0 for 0. -/
def bitLen (n : Nat) : Nat := if n = 0 then 0 else Nat.log2 n + 1

/-- Values of given widths packed least significant bit first (R316, R339): the number, and its bits. -/
def packBits : List (Nat × Nat) → Nat × Nat
  | [] => (0, 0)
  | (v, w) :: t => let r := packBits t; (v % 2 ^ w + 2 ^ w * r.1, w + r.2)

/-- Packed values as bytes, padded with zero bits to a whole byte. -/
def packBytes (l : List (Nat × Nat)) : List Byte := let r := packBits l; leBytes (cdiv r.2 8) r.1

/-- `n` values of `w` bits from a number (R316). -/
def unpack (w : Nat) : Nat → Nat → List Nat
  | 0, _ => []
  | n + 1, x => x % 2 ^ w :: unpack w n (x / 2 ^ w)

/-- Bytes with zeros appended up to a multiple of `m`. -/
def padTo (m : Nat) (l : List Byte) : List Byte := l ++ List.replicate (alignUp l.length m - l.length) 0

/-! ## The DBS coder (R338 to R342) -/

/-- A DBS dictionary: entries as (code of the string without its last byte, last byte, code), newest first, and NEXT. -/
structure LzDict where
  ents : List (Nat × Byte × Nat) := []
  next : Nat := 257

/-- The code of a string and one more byte, if the dictionary has it. -/
def LzDict.find (d : LzDict) (c : Nat) (b : Byte) : Option Nat :=
  (d.ents.find? (fun e => decide (e.1 = c) && decide (e.2.1 = b))).map (fun e => e.2.2)

/-- An entry is added as NEXT; none once NEXT has reached 65,536 (R339). -/
def LzDict.add (d : LzDict) (c : Nat) (b : Byte) : LzDict :=
  if d.next < 65536 then { ents := (c, b, d.next) :: d.ents, next := d.next + 1 } else d

/-- The codes of a block's bytes, and the dictionary after it (R339). -/
def lzCodes : LzDict → Option Nat → List Byte → List Nat → List Nat × LzDict
  | d, none, [], acc => (acc.reverse, d)
  | d, some c, [], acc => ((c :: acc).reverse, d)
  | d, none, b :: t, acc => lzCodes d (some b.toNat) t acc
  | d, some c, b :: t, acc =>
    match d.find c b with
    | some k => lzCodes d (some k) t acc
    | none => lzCodes (d.add c b) (some b.toNat) t (c :: acc)

/-- The width in which a code is written while NEXT is `n` (R339). -/
def lzWidth (n : Nat) : Nat := min 16 (max 9 (bitLen n))

/-- The codes of a block with their widths: the decoder's NEXT rises with each code after the first (R339). -/
def lzWidths (base : Nat) : Nat → List Nat → List (Nat × Nat)
  | _, [] => []
  | j, c :: t => (c, lzWidth (min 65536 (base + (j - 1)))) :: lzWidths base (j + 1) t

/-- A block header (R338). -/
def dbsHeader (rst fin : Bool) (clen ulen : Nat) : List Byte :=
  leBytes 8 (b2n rst * 2 ^ 63 + b2n fin * 2 ^ 62 + clen % 2 ^ 24 * 2 ^ 32 + ulen % 2 ^ 23)

/-- One DBS block, and the dictionary after it. -/
def dbsBlock (d : LzDict) (rst fin : Bool) (l : List Byte) : List Byte × LzDict :=
  let d0 : LzDict := if rst then {} else d
  let r := lzCodes d0 none l []
  let p := packBytes (lzWidths d0.next 0 r.1)
  (dbsHeader rst fin p.length l.length ++ p, r.2)

/-- A piece of at most 4,194,304 bytes at a time; only the first may carry RESET (R341). -/
def dbsChop : Nat → Bool → List Byte → List (Bool × List Byte)
  | 0, rst, l => [(rst, l)]
  | f + 1, rst, l => if l.length ≤ 4194304 then [(rst, l)] else (rst, l.take 4194304) :: dbsChop f false (l.drop 4194304)

/-- The input cut at its flush points, each as (offset, RESET), counted from `at` (R341). -/
def dbsCut : Nat → Bool → List (Nat × Bool) → List Byte → List (Bool × List Byte)
  | _, rst, [], l => dbsChop (l.length / 4194304) rst l
  | a, rst, (o, r) :: t, l => dbsChop ((o - a) / 4194304) rst (l.take (o - a)) ++ dbsCut o r t (l.drop (o - a))

/-- Blocks coded in order with one dictionary; the last carries FINAL when `fin` (R341). -/
def dbsBlocks (fin : Bool) : LzDict → List (Bool × List Byte) → List Byte
  | _, [] => []
  | d, [(rst, l)] => (dbsBlock d rst fin l).1
  | d, (rst, l) :: t => let r := dbsBlock d rst false l; r.1 ++ dbsBlocks fin r.2 t

/-- A stream of the input with its flush points (R341). -/
def dbsEncode (fin : Bool) (flush : List (Nat × Bool)) (l : List Byte) : List Byte := dbsBlocks fin {} (dbsCut 0 true flush l)

/-- A flush list is strictly ascending and in range (R341). -/
def flushOk (n : Nat) : Nat → List (Nat × Bool) → Bool
  | _, [] => true
  | lo, (o, _) :: t => decide (lo < o) && decide (o < n) && flushOk n o t

/-- A decoder's dictionary: the strings of codes 257 upward, newest first. -/
structure LzStrs where
  strs : List (List Byte) := []
  next : Nat := 257

/-- The string of a code below NEXT. -/
def LzStrs.str (d : LzStrs) (c : Nat) : Option (List Byte) :=
  if c < 256 then some [BitVec.ofNat 8 c] else if c = 256 ∨ c ≥ d.next then none else d.strs[d.next - 1 - c]?

/-- The strings with one more (R339). -/
def LzStrs.add (d : LzStrs) (x : List Byte) : LzStrs := if d.next < 65536 then { strs := x :: d.strs, next := d.next + 1 } else d

/-- Codes are read until `ulen` bytes have been decoded (R339, R340). -/
def lzDecode (ulen : Nat) : Nat → LzStrs → Option (List Byte) → Nat → Nat → List Byte → Option (List Byte × LzStrs)
  | 0, _, _, _, _, _ => none
  | f + 1, d, prev, x, left, out =>
    if out.length = ulen then (if x = 0 ∧ left < 8 then some (out, d) else none)
    else if out.length > ulen then none
    else
      let w := lzWidth d.next
      if left < w then none else
      let c := x % 2 ^ w
      let s := match d.str c, prev with
        | some y, _ => some y
        | none, some p => if c = d.next then some (p ++ p.take 1) else none
        | none, none => none
      match s with
      | none => none
      | some y =>
        let d1 := match prev with
          | some p => d.add (p ++ y.take 1)
          | none => d
        lzDecode ulen f d1 (some y) (x / 2 ^ w) (left - w) (out ++ y)

/-- How the decoding of a stream ends (R342). -/
inductive DbsEnd where
  | ok | truncated | short | malformed
  deriving DecidableEq, Repr

/-- Blocks are decoded in order until the FINAL block (R342). -/
def dbsDecode : Nat → Bool → LzStrs → List Byte → List Byte → DbsEnd × List Byte
  | 0, _, _, _, out => (.malformed, out)
  | f + 1, first, d, l, out =>
    if l.isEmpty then (.ok, out)
    else if l.length < 8 then (.short, out)
    else
      let h := leAt l 0 8
      let clen := bits h 55 32
      let ulen := bits h 22 0
      let rst := bit h 63
      if bits h 61 56 ≠ 0 ∨ bits h 31 23 ≠ 0 ∨ ulen > 4194304 ∨ (first ∧ !rst) then (.malformed, out)
      else if l.length < 8 + clen then (.short, out)
      else
        let p := (l.drop 8).take clen
        match lzDecode ulen (8 * clen + 2) (if rst then {} else d) none (leNat p) (8 * clen) [] with
        | none => (.malformed, out)
        | some r =>
          if bit h 62 then (if l.length = 8 + clen then (.ok, out ++ r.1) else (.truncated, out ++ r.1))
          else dbsDecode f false r.2 (l.drop (8 + clen)) (out ++ r.1)

/-! ## Types and encodings (R298, R300) -/

/-- The natural width of a type, in bytes; 0 for an unknown code (R298). -/
def natWidth (ty : Nat) : Nat :=
  match ty with
  | 1 => 1 | 2 => 2 | 3 => 4 | 4 => 8 | 5 => 1 | 6 => 2 | 7 => 4 | 8 => 8 | 9 => 4 | 10 => 8 | 11 => 8 | 12 => 1 | 13 => 2
  | _ => 0

/-- A type compared as two's complement (R298). -/
def tySigned (ty : Nat) : Bool := decide (5 ≤ ty ∧ ty ≤ 8) || decide (ty = 11)
/-- A floating-point type (R298). -/
def tyFloat (ty : Nat) : Bool := decide (ty = 9) || decide (ty = 10)
/-- An integer type or ts64 (R300). -/
def tyInt (ty : Nat) : Bool := decide (1 ≤ ty ∧ ty ≤ 8) || decide (ty = 11)

/-- An encoding is allowed for a type (R300); 0 is AUTO. -/
def encOk (ty enc : Nat) : Bool :=
  if enc = 0 ∨ enc = 1 then true
  else if tyInt ty then decide (enc ≤ 6)
  else if tyFloat ty then decide (enc = 4 ∨ enc = 5 ∨ enc = 6)
  else decide (enc = 2 ∨ enc = 4)

/-- An element as an integer of its type. -/
def elemInt (ty v : Nat) : Int := if tySigned ty then sx (8 * natWidth ty) v else (v : Int)

/-- An element extended to 64 bits by its type (R316). -/
def ext64 (ty v : Nat) : Nat := wrap 64 (elemInt ty v)

/-! ## Blocks (R315, R316) -/

/-- A block header (R315). -/
def blkHeader (enc w count len base : Nat) : List Byte :=
  leBytes 1 enc ++ leBytes 1 w ++ leBytes 2 count ++ leBytes 4 len ++ leBytes 8 base

/-- A block from its encoding, width, BASE and unpadded payload. -/
def mkBlock (enc w count base : Nat) (p : List Byte) : List Byte :=
  let q := padTo 8 p
  blkHeader enc w count q.length base ++ q

/-- Elements at natural width (R298). -/
def plainBytes (ty : Nat) (vs : List Nat) : List Byte := vs.flatMap (leBytes (natWidth ty))

/-- PLAIN (R316). -/
def encPlain (ty : Nat) (vs : List Nat) : List Byte := mkBlock 1 0 vs.length 0 (plainBytes ty vs)

/-- The least element by its type. -/
def minElem (ty : Nat) (vs : List Nat) : Nat :=
  vs.foldl (fun m v => if elemInt ty v < elemInt ty m then v else m) (vs.headD 0)

/-- FOR (R316). -/
def encFor (ty : Nat) (vs : List Nat) : List Byte :=
  let base := ext64 ty (minElem ty vs)
  let ds := vs.map (fun v => (ext64 ty v + (2 ^ 64 - base)) % 2 ^ 64)
  let w := bitLen (ds.foldl max 0)
  mkBlock 2 w vs.length base (packBytes (ds.map (fun d => (d, w))))

/-- Differences of neighbours, modulo 2^64. -/
def diffs : List Nat → List Nat
  | a :: b :: t => (b + (2 ^ 64 - a)) % 2 ^ 64 :: diffs (b :: t)
  | _ => []

/-- The zigzag form (R316). -/
def zigzag (d : Nat) : Nat := if bit d 63 then 2 * (2 ^ 64 - d) - 1 else 2 * d

/-- The value of a zigzag form, modulo 2^64. -/
def unzig (z : Nat) : Nat := if z % 2 = 0 then z / 2 else 2 ^ 64 - (z + 1) / 2

/-- DELTA (R316). -/
def encDelta (ty : Nat) (vs : List Nat) : List Byte :=
  let xs := vs.map (ext64 ty)
  let ds := diffs xs
  let zs := (diffs ds).map zigzag
  let w := bitLen (zs.foldl max 0)
  mkBlock 3 w vs.length (xs.headD 0)
    (match ds with
     | [] => []
     | d1 :: _ => leBytes 8 d1 ++ packBytes (zs.map (fun z => (z, w))))

/-- Runs of equal values. -/
def runsOf : List Nat → List (Nat × Nat)
  | [] => []
  | v :: t =>
    match runsOf t with
    | (u, n) :: r => if u = v then (u, n + 1) :: r else (v, 1) :: (u, n) :: r
    | [] => [(v, 1)]

/-- RLE (R316). -/
def encRle (ty : Nat) (vs : List Nat) : List Byte :=
  let rs := runsOf vs
  mkBlock 4 0 vs.length rs.length (rs.flatMap (fun r => leBytes (natWidth ty) r.1 ++ leBytes 2 (r.2 - 1)))

/-- The place of a value in a dictionary. -/
def dictIndex (dict : List Nat) (v : Nat) : Nat := dict.findIdx (· = v)

/-- The code width of a dictionary (R316). -/
def dictWidth (n : Nat) : Nat := if n ≤ 1 then 0 else bitLen (n - 1)

/-- DICT (R316). -/
def encDict (dict vs : List Nat) : List Byte :=
  let w := dictWidth dict.length
  mkBlock 5 w vs.length 0 (packBytes (vs.map (fun v => (dictIndex dict v, w))))

/-- DBS (R316). -/
def encDbs (ty : Nat) (vs : List Nat) : List Byte := mkBlock 6 0 vs.length 0 (dbsBlock {} true true (plainBytes ty vs)).1

/-- A LOST block of `n` rows (R313). -/
def encLost (n : Nat) : List Byte := blkHeader 7 0 n 0 0

/-- The choice under AUTO: the smallest LEN, ties to the lower code (R312). -/
def encAuto (ty : Nat) (vs : List Nat) : List Byte :=
  let a := encPlain ty vs
  let pick := fun (p q : List Byte) => if q.length < p.length then q else p
  let b := if encOk ty 2 then pick a (encFor ty vs) else a
  let c := if encOk ty 3 then pick b (encDelta ty vs) else b
  pick c (encRle ty vs)

/-- A block in a named encoding (R300, R312). -/
def encBlock (ty enc : Nat) (dict vs : List Nat) : List Byte :=
  match enc with
  | 1 => encPlain ty vs
  | 2 => encFor ty vs
  | 3 => encDelta ty vs
  | 4 => encRle ty vs
  | 5 => encDict dict vs
  | 6 => encDbs ty vs
  | _ => encAuto ty vs

/-- Sums of the running second differences: the elements of a DELTA block from element `v`, difference `d` on. -/
def undelta : Nat → Nat → List Nat → List Nat
  | v, d, [] => [(v + d) % 2 ^ 64]
  | v, d, z :: t => (v + d) % 2 ^ 64 :: undelta ((v + d) % 2 ^ 64) ((d + unzig z) % 2 ^ 64) t

/-- Every byte of a list is 0. -/
def allZero (l : List Byte) : Bool := l.all (· = 0)

/-- Packed values with their padding checked (R316, R326). -/
def unpackPad (w n : Nat) (p : List Byte) : Option (List Nat) :=
  if 8 * p.length < w * n ∨ p.length ≠ alignUp (cdiv (w * n) 8) 8 then none
  else if leNat p / 2 ^ (w * n) ≠ 0 then none
  else some (unpack w n (leNat p))

/-- The runs of an RLE payload (R316). -/
def rleRuns (w : Nat) : Nat → List Byte → List (Nat × Nat)
  | 0, _ => []
  | n + 1, l => (leAt l 0 w, leAt l w 2 + 1) :: rleRuns w n (l.drop (w + 2))

/-- An element whose 64-bit extension is `x`, if the type has it. -/
def narrow (ty x : Nat) : Option Nat :=
  let v := x % 2 ^ (8 * natWidth ty)
  if ext64 ty v = x then some v else none

/-- A FOR element: BASE plus the difference, without a wrap, so that BASE is not above it (R316, R326). -/
def forElem (ty base d : Nat) : Option Nat :=
  let b : Int := if tySigned ty then sx 64 base else (base : Int)
  match narrow ty ((base + d) % 2 ^ 64) with
  | some v => if elemInt ty v = b + (d : Int) then some v else none
  | none => none

/-- A block decodes under R316 to exactly its COUNT elements, and meets the conditions of R326; `none` where it does not.
LOST blocks give no elements and are told apart by their ENC. -/
def decBlock (ty : Nat) (dict : List Nat) (l : List Byte) : Option (List Nat) :=
  let enc := leAt l 0 1
  let w := leAt l 1 1
  let n := leAt l 2 2
  let len := leAt l 4 4
  let base := leAt l 8 8
  let p := (l.drop 16).take len
  let nw := natWidth ty
  if p.length ≠ len ∨ n = 0 ∨ n > 4096 ∨ w > 64 then none else
  match enc with
  | 1 =>
    if w ≠ 0 ∨ base ≠ 0 ∨ len ≠ alignUp (n * nw) 8 ∨ !allZero (p.drop (n * nw)) then none
    else some (unpack (8 * nw) n (leNat (p.take (n * nw))))
  | 2 =>
    match unpackPad w n p with
    | some ds => ds.mapM (fun d => forElem ty base d)
    | none => none
  | 3 =>
    if n = 1 then (if w = 0 ∧ len = 0 then (narrow ty base).map (fun v => [v]) else none)
    else if len < 8 ∨ (n = 2 ∧ w ≠ 0) then none
    else
      match unpackPad w (n - 2) (p.drop 8) with
      | some zs => (base :: undelta base (leAt p 0 8) zs).mapM (narrow ty)
      | none => none
  | 4 =>
    let rs := rleRuns nw base p
    if w ≠ 0 ∨ len ≠ alignUp (base * (nw + 2)) 8 ∨ !allZero (p.drop (base * (nw + 2))) ∨ (rs.map (·.2)).sum ≠ n then none
    else some (rs.flatMap (fun r => List.replicate r.2 r.1))
  | 5 =>
    match unpackPad w n p with
    | some cs => if base = 0 then cs.mapM (fun c => dict[c]?) else none
    | none => none
  | 6 =>
    if w ≠ 0 ∨ base ≠ 0 then none else
    let h := leAt p 0 8
    let q := p.take (8 + bits h 55 32)
    match dbsDecode 2 true {} q [] with
    | (.ok, out) =>
      if bit h 63 ∧ bit h 62 ∧ out.length = n * nw ∧ len = alignUp q.length 8 ∧ allZero (p.drop q.length) then
        some (unpack (8 * nw) n (leNat out))
      else none
    | _ => none
  | 7 => if w = 0 ∧ len = 0 ∧ base = 0 then some [] else none
  | _ => none

/-! ## Column segments (R314) -/

/-- Values inserted in ascending order, once each. -/
def insertUnique (v : Nat) : List Nat → List Nat
  | [] => [v]
  | a :: t => if v < a then v :: a :: t else if v = a then a :: t else a :: insertUnique v t

/-- The dictionary of a numeric column segment: its distinct values, ascending (R314). -/
def numDict (blocks : List (Option (List Nat))) : List Nat :=
  blocks.foldl (fun d b => match b with | some vs => vs.foldl (fun d v => insertUnique v d) d | none => d) []

/-- Strings in order of first appearance (R314). -/
def strDict (strs : List (List Byte)) : List (List Byte) :=
  strs.foldl (fun d x => if d.contains x then d else d ++ [x]) []

/-- The offsets of a string dictionary. -/
def strOffsets : Nat → List (List Byte) → List Nat
  | o, [] => [o]
  | o, x :: t => o :: strOffsets (o + x.length) t

/-- A string dictionary's bytes (R314). -/
def strDictBytes (d : List (List Byte)) : List Byte := (strOffsets 0 d).flatMap (leBytes 4) ++ d.flatten

/-- The blocks placed after `o` bytes, each at a multiple of 32: directory entries, and the bytes from `o` on (R314). -/
def placeBlocks : Nat → List (List Byte) → List (Nat × Nat) × List Byte
  | _, [] => ([], [])
  | o, b :: t =>
    let a := alignUp o 32
    let r := placeBlocks (a + b.length) t
    ((a, b.length) :: r.1, List.replicate (a - o) 0 ++ b ++ r.2)

/-- A column segment's bytes (R314). -/
def colSegment (col ty seg rows dictLen emin emax : Nat) (prev dictBytes : List Byte) (blocks : List (List Byte)) : List Byte :=
  let r := placeBlocks (192 + dictBytes.length) blocks
  let dir := (r.1 ++ List.replicate (16 - r.1.length) (0, 0)).take 16
  leBytes 1 1 ++ leBytes 1 col ++ leBytes 1 ty ++ [0] ++ leBytes 4 seg ++ leBytes 4 rows ++ leBytes 4 dictLen ++ leBytes 8 emin ++
    leBytes 8 emax ++ fitLen 32 prev ++ dir.flatMap (fun e => leBytes 4 e.1 ++ leBytes 4 e.2) ++ dictBytes ++ r.2

/-- A numeric column sealed: its blocks by value, `none` for a LOST one of the row count beside it (R311 to R314). -/
def sealNumeric (col ty enc seg rows emin emax : Nat) (prev : List Byte) (blocks : List (Option (List Nat) × Nat)) : List Byte :=
  let dict := if enc = 5 then numDict (blocks.map (·.1)) else []
  colSegment col ty seg rows dict.length emin emax prev (dict.flatMap (leBytes (natWidth ty)))
    (blocks.map (fun b => match b.1 with | some vs => encBlock ty enc dict vs | none => encLost b.2))

/-- A dstr column sealed (R314). -/
def sealStrings (col enc seg rows emin emax : Nat) (prev : List Byte) (blocks : List (Option (List (List Byte)) × Nat)) : List Byte :=
  let dict := strDict (blocks.flatMap (fun b => b.1.getD []))
  colSegment col 13 seg rows dict.length emin emax prev (strDictBytes dict)
    (blocks.map (fun b => match b.1 with
      | some vs => encBlock 13 enc [] (vs.map (fun x => dict.findIdx (· = x)))
      | none => encLost b.2))

/-- The fields of a column segment's header (R314). -/
structure ColHdr where
  version : Nat
  col : Nat
  ty : Nat
  b3 : Nat
  seg : Nat
  rows : Nat
  dictLen : Nat
  emin : Nat
  emax : Nat
  prev : List Byte
  dir : List (Nat × Nat)
  deriving DecidableEq, Repr

/-- The header in the first 192 bytes. -/
def parseCol (l : List Byte) : ColHdr :=
  { version := leAt l 0 1, col := leAt l 1 1, ty := leAt l 2 1, b3 := leAt l 3 1, seg := leAt l 4 4, rows := leAt l 8 4,
    dictLen := leAt l 12 4, emin := leAt l 16 8, emax := leAt l 24 8, prev := bytesAt l 32 32,
    dir := (List.range 16).map (fun i => (leAt l (64 + 8 * i) 4, leAt l (68 + 8 * i) 4)) }

/-- Blocks of a segment of `rows` rows (R314). -/
def blockCount (rows : Nat) : Nat := cdiv rows 4096

/-- A numeric dictionary (R314). -/
def numDictOf (l : List Byte) (h : ColHdr) : List Nat :=
  if h.ty = 13 then [] else unpack (8 * natWidth h.ty) h.dictLen (leNat (bytesAt l 192 (h.dictLen * natWidth h.ty)))

/-- The offsets of a dstr dictionary (R314). -/
def strOffsOf (l : List Byte) (h : ColHdr) : List Nat := (List.range (h.dictLen + 1)).map (fun i => leAt l (192 + 4 * i) 4)

/-- String `i` of a dstr column segment's dictionary (R314). -/
def strAt (l : List Byte) (h : ColHdr) (i : Nat) : List Byte :=
  let o := strOffsOf l h
  bytesAt l (192 + 4 * (h.dictLen + 1) + o.getD i 0) (o.getD (i + 1) 0 - o.getD i 0)

/-- Bytes of the dictionary (R314). -/
def dictSize (l : List Byte) (h : ColHdr) : Nat :=
  if h.ty = 13 then 4 * (h.dictLen + 1) + (strOffsOf l h).getLastD 0 else h.dictLen * natWidth h.ty

/-- A list of numbers does not decrease, with steps of at most `m`. -/
def stepsIn (m : Nat) : List Nat → Bool
  | a :: b :: t => decide (a ≤ b) && decide (b - a ≤ m) && stepsIn m (b :: t)
  | _ => true

/-- A list of numbers rises strictly. -/
def rises : List Nat → Bool
  | a :: b :: t => decide (a < b) && rises (b :: t)
  | _ => true

/-- The block at a directory place. -/
def blockAt (l : List Byte) (h : ColHdr) (i : Nat) : List Byte :=
  let e := h.dir.getD i (0, 0)
  bytesAt l e.1 e.2

/-- The end of a column segment: of its last block (R317). -/
def colEnd (h : ColHdr) : Nat := let e := h.dir.getD (blockCount h.rows - 1) (0, 0); e.1 + e.2

/-- A decoded block of a column segment; `none` for a block that does not decode. -/
def colBlock (l : List Byte) (h : ColHdr) (i : Nat) : Option (List Nat) := decBlock h.ty (numDictOf l h) (blockAt l h i)

/-- Where the blocks must lie: after the dictionary, each at the next multiple of 32 (R314). -/
def dirOk (o : Nat) : List (Nat × Nat) → Bool
  | [] => true
  | (a, n) :: t => decide (a = alignUp o 32) && decide (16 ≤ n) && dirOk (a + n) t

/-- Rows of block `i`. -/
def rowsOf (rows i : Nat) : Nat := min 4096 (rows - 4096 * i)

/-- A column segment is valid under R314 to R316 and R326, for a column index and type. -/
def colValid (l : List Byte) (col ty : Nat) : Bool :=
  let h := parseCol l
  let nb := blockCount h.rows
  decide (h.version = 1) && decide (h.col = col) && decide (h.ty = ty) && decide (h.b3 = 0) && decide (1 ≤ h.rows) &&
    decide (h.rows ≤ 65536) && (ty = 13 || (rises (numDictOf l h))) &&
    (ty ≠ 13 || (decide ((strOffsOf l h).headD 0 = 0) && stepsIn 64 (strOffsOf l h))) && dirOk (192 + dictSize l h) (h.dir.take nb) &&
    (h.dir.drop nb).all (fun e => decide (e = (0, 0))) && decide (colEnd h = l.length) &&
    (List.range nb).all (fun i =>
      let b := blockAt l h i
      let enc := leAt b 0 1
      decide (b.length = 16 + leAt b 4 4) && decide (leAt b 2 2 = rowsOf h.rows i) && (decide (enc = 7) || encOk ty enc) &&
        decide (enc ≠ 0) &&
        (match decBlock ty (numDictOf l h) b with
         | some vs => decide (enc = 7) || (decide (vs.length = rowsOf h.rows i) && (ty ≠ 13 || vs.all (· < h.dictLen)) &&
             (ty ≠ 12 || vs.all (· < 2)))
         | none => false))

/-! ## The calendar -/

/-- Days from 1970-01-01 to the first day of a year. -/
def daysTo (y : Nat) : Nat :=
  let p := y - 1
  365 * (y - 1970) + (p / 4 - p / 100 + p / 400) - (1969 / 4 - 1969 / 100 + 1969 / 400)

/-- A leap year of the Gregorian calendar. -/
def leapYear (y : Nat) : Bool := decide (y % 4 = 0) && (decide (y % 100 ≠ 0) || decide (y % 400 = 0))

/-- Days of a month. -/
def monthDays (y m : Nat) : Nat :=
  if m = 2 then 28 + b2n (leapYear y) else if m = 4 ∨ m = 6 ∨ m = 9 ∨ m = 11 then 30 else 31

/-- Days from 1970-01-01 to a date. -/
def dayNumber (y m d : Nat) : Nat := daysTo y + ((List.range (m - 1)).map (fun i => monthDays y (i + 1))).sum + d - 1

end Sys2Proof.Machine
end

