-- ==== Sys2Proof/Machine/ColOps.lean ====
section
/-!
DEFINITION. Sys2Proof/Machine/ColOps.lean: the operations over the column store: table descriptors (R299 to R301), granules and
quotas (R318, R345), segments and their columns (R309 to R317, R322), and the frame of a class ZE job (R302 to R305, R343, R537).
-/

namespace Sys2Proof.Machine

/-- SHA3-256 (R188). -/
def sha3 (l : List Byte) : List Byte := fitLen 32 (Config.hash 0x12 32 [] [] l)

/-! ## Table descriptors (R299 to R301) -/

/-- NCOL of a descriptor; 0 means 256. -/
def tblCols (l : List Byte) : Nat := let n := leAt l 5 1; if n = 0 then 256 else n
/-- INGEST. -/
def tblIngest (l : List Byte) : Nat := leAt l 6 1
/-- SCHEMA. -/
def tblSchema (l : List Byte) : Nat := leAt l 8 2
/-- WINDOW, in ticks. -/
def tblWindow (l : List Byte) : Nat := leAt l 16 8
/-- MIGRATE, in ticks. -/
def tblMigrate (l : List Byte) : Nat := leAt l 24 8
/-- RETAIN, in ticks. -/
def tblRetain (l : List Byte) : Nat := leAt l 32 8
/-- TYPE of column `c`. -/
def tblTy (l : List Byte) (c : Nat) : Nat := leAt l (64 + 8 * c) 1
/-- ENC of column `c`. -/
def tblEnc (l : List Byte) (c : Nat) : Nat := leAt l (65 + 8 * c) 1

/-- A table exists: its descriptor has been accepted. -/
def Table.live (t : Table) : Bool := !t.desc.isEmpty
/-- Columns of a table. -/
def Table.ncol (t : Table) : Nat := tblCols t.desc
/-- The type of a table's column. -/
def Table.ty (t : Table) (c : Nat) : Nat := tblTy t.desc c

/-- Tables in existence. -/
def State.tablesLive (s : State) : List (Nat × Table) := s.col.tables.filter (fun e => e.2.live)

/-- The payload columns of an IEC table (R335). -/
def iecTypes : List Nat := [2, 3, 1, 1, 10, 1, 11]

/-- A descriptor meets R301 for polder `n`. -/
def tblDescOk (s : State) (n : Nat) (l : List Byte) : Bool :=
  let nc := tblCols l
  let cs := List.range nc
  decide (bytesAt l 0 4 = [0x54, 0x42, 0x4C, 0x44]) && decide (leAt l 4 1 = 1) && decide (3 ≤ nc) && decide (l.length = 64 + 8 * nc) &&
    decide (tblIngest l ≤ 2) && zeroAt l 7 7 && zeroAt l 10 15 && zeroAt l 40 63 &&
    cs.all (fun c => zeroAt l (66 + 8 * c) (71 + 8 * c) && decide (natWidth (tblTy l c) ≠ 0) && decide (tblEnc l c ≤ 6) &&
      encOk (tblTy l c) (tblEnc l c)) &&
    decide (tblTy l 0 = 3) && decide (tblTy l 1 = 4) && decide (tblTy l 2 = 3) &&
    (decide (tblSchema l = 0) ||
      !s.tablesLive.any (fun e => decide (e.2.polder = n) && decide (tblSchema e.2.desc = tblSchema l))) &&
    (decide (tblIngest l = 0) || (decide (1 ≤ tblSchema l) && decide (tblSchema l ≤ 32767))) &&
    (decide (tblIngest l ≠ 2) || decide ((cs.drop 3).map (tblTy l) = iecTypes))

/-! ## Granules (R318, R345) -/

/-- Bytes of a store granule. -/
def granBytes : Nat := 2097152

/-- The address of HBM granule `i`. -/
def State.hbmGran (s : State) (i : Nat) : Nat := (s.fld F.COL_HBM_BASE_BASE + i) * granBytes

/-- Granules of CXL port `p`. -/
def State.cxlGranules (s : State) (p : Nat) : Nat := s.fld (F.MEM_CXL_GIB p) * 512

/-- A granule is free. -/
def State.granFree (s : State) (a : Nat) : Bool :=
  decide (tget (fun _ => 0) s.col.gran a = 0)

/-- `k` consecutive free granules from `base`, among `n`; the lowest are taken. -/
def State.granRun (s : State) (base n k : Nat) : Option Nat :=
  (findFrom (fun i => decide (i + k ≤ n) && (List.range k).all (fun j => s.granFree (base + (i + j) * granBytes))) n 0).map
    (fun i => base + i * granBytes)

/-- `k` consecutive free granules of HBM, or of the CXL tier within one port. -/
def State.granFind (s : State) (cxl : Bool) (k : Nat) : Option Nat :=
  if cxl then (List.range 4).findSome? (fun p => s.granRun (0x100000000000 + p * 0x10000000000) (s.cxlGranules p) k)
  else s.granRun (s.hbmGran 0) s.hbmGranules k

/-- Granules are charged to a polder. -/
def State.granTake (s : State) (n : Nat) (l : List Nat) : State :=
  { s with col := { s.col with gran := l.foldl (fun g a => tset (fun _ => 0) g a (n + 1)) s.col.gran } }

/-- `k` consecutive granules are taken for a polder. -/
def State.granAlloc (s : State) (cxl : Bool) (n k : Nat) : Option (List Nat × State) :=
  (s.granFind cxl k).map (fun a => let l := (List.range k).map (fun i => a + i * granBytes); (l, s.granTake n l))

/-- Consecutive granules for each of several needs. -/
def State.granAllocs (s : State) (cxl : Bool) (n : Nat) : List Nat → Option (List (List Nat) × State)
  | [] => some ([], s)
  | k :: t =>
    match s.granAlloc cxl n k with
    | some (l, s1) => (s1.granAllocs cxl n t).map (fun r => (l :: r.1, r.2))
    | none => none

/-- Runs that read a segment of a table (R362). -/
def State.readers (s : State) (t seg : Nat) : List Nat :=
  (s.opu.runs.filter (fun e => e.2.pins.contains (t, seg))).map (·.1)

/-- A granule is returned to the pool. -/
def State.granDrop (s : State) (a : Nat) : State :=
  { s with col := { s.col with gran := tset (fun _ => 0) s.col.gran a 0 } }

/-- Granules of a segment are freed, once the runs that read it have completed (R311, R319, R322). -/
def State.granFreeAll (s : State) (t seg : Nat) (l : List Nat) : State :=
  match s.readers t seg with
  | [] => l.foldl (fun s a => s.granDrop a) s
  | rs => { s with col := { s.col with deferred := s.col.deferred ++ l.map (fun a => (a, rs)) } }

/-- A run reads no segment any more: granules that waited for it alone are freed (R362). -/
def State.unpin (s : State) (e : Nat) : State :=
  let d := s.col.deferred.map (fun x => (x.1, x.2.filter (· ≠ e)))
  let s1 := { s with col := { s.col with deferred := d.filter (fun x => !x.2.isEmpty) } }
  (d.filter (fun x => x.2.isEmpty)).foldl (fun s x => s.granDrop x.1) s1

/-! ## Segments -/

/-- The rows an APPEND job hid are seen once it has completed (R307). -/
def State.unhide (s : State) (e : Nat) : State :=
  { s with col := { s.col with tables := s.col.tables.map (fun x =>
      (x.1, { x.2 with segs := x.2.segs.map (fun g => { g with hidden := g.hidden.filter (fun h => h.1 ≠ e) }) })) } }

/-- The code of a segment's state (R324). -/
def SegState.code : SegState → Nat
  | .opened => 0
  | .closedS => 1
  | .archived => 2
  | .dropped => 3

/-- The segment of a number. -/
def Table.seg (t : Table) (n : Nat) : Option Seg := t.segs.find? (fun g => decide (g.num = n))

/-- The table with a segment replaced. -/
def Table.setSeg (t : Table) (g : Seg) : Table := { t with segs := t.segs.map (fun x => if x.num = g.num then g else x) }

/-- The segment in state OPEN, if any; it may be closed for appends. -/
def Table.openSeg (t : Table) : Option Seg := t.segs.find? (fun g => decide (g.st = .opened))

/-- Bytes of one element of an APPEND's operand: a dstr element is a 65-byte slot (R306). -/
def slotWidth (ty : Nat) : Nat := if ty = 13 then 65 else natWidth ty

/-- Where the string dictionary of an open dstr column stands behind its codes: a column segment header, then the dictionary of R314
(entry 46). -/
def openDict : Nat := 65536 * 2

/-- Bytes of a column of an open segment. -/
def openSize (ty : Nat) : Nat :=
  if ty = 13 then openDict + 192 + 4 * 65537 + 64 * 65536 else 65536 * natWidth ty

/-- Granules of each column of an open segment. -/
def Table.openNeeds (t : Table) : List Nat := (List.range t.ncol).map (fun c => cdiv (openSize (t.ty c)) granBytes)

/-- The first address of a column of an open segment. -/
def Seg.colBase (g : Seg) (c : Nat) : Nat := (g.plain.getD c []).headD 0

/-- The address of an element of an open segment (R298). -/
def Seg.plainAt (g : Seg) (t : Table) (c row : Nat) : Nat := g.colBase c + row * natWidth (t.ty c)

/-- A segment is closed for appends, and its sealing starts (R310). -/
def State.closeSeg (s : State) (t : Nat) : State :=
  let x := s.table t
  match x.openSeg with
  | some g => s.setTable t (x.setSeg { g with closing := true })
  | none => s

/-- The digests PREV holds for the next segment of a table: of its last segment, or the chain anchors when all are DROPPED, or those
of the descriptor for segment 0 (R317, R326). -/
def Table.prevs (t : Table) : List (List Byte) :=
  let live := t.segs.filter (fun g => decide (g.st ≠ .dropped) && !g.digests.isEmpty)
  match live.reverse with
  | g :: _ => g.digests
  | [] => if t.anchors.isEmpty then List.replicate t.ncol (sha3 t.desc) else t.anchors

/-- A segment's storage granules. -/
def Seg.granules (g : Seg) : List Nat := g.plain.flatten ++ g.enc.flatMap (·.1) ++ g.copy.flatten

/-- A segment becomes DROPPED: its storage is freed, and its digests become the chain anchors where no higher segment has been dropped
(R322). -/
def State.dropSeg (s : State) (t seg : Nat) : State :=
  let x := s.table t
  match x.seg seg with
  | none => s
  | some g =>
    let higher := x.segs.any (fun y => decide (y.st = .dropped) && decide (y.num > seg))
    let y := x.setSeg { g with st := .dropped, closing := false, moving := false }
    let s1 := s.setTable t (if higher ∨ g.digests.isEmpty then y else { y with anchors := g.digests })
    s1.granFreeAll t seg g.granules

/-! ## The frame of a class ZE job (R302 to R305) -/

/-- The descriptor of a class ZE job (R303). -/
structure ZeDesc where
  aAddr : Nat
  aLen : Nat
  bLen : Nat
  bAddr : Nat
  out : Nat
  cap : Nat
  table : Nat
  sch : Bool
  mode : Nat
  column : Nat
  segment : Nat
  count : Nat
  deriving DecidableEq, Repr

/-- The descriptor in 128 bytes (R303). -/
def parseZe (l : List Byte) : ZeDesc :=
  { aAddr := leAt l 16 8, aLen := leAt l 24 4, bLen := leAt l 28 4, bAddr := leAt l 32 8, out := leAt l 40 8, cap := leAt l 48 4,
    table := leAt l 52 2 % 2 ^ 15, sch := bit (leAt l 52 2) 15, mode := leAt l 54 1, column := leAt l 55 1,
    segment := leAt l 56 4, count := leAt l 60 4 }

/-- Byte ranges of the descriptor that an operation leaves unused (R303, R304). -/
def zeUnused (opc : Nat) : List (Nat × Nat) :=
  let a := [(16, 27)]
  let b := [(28, 39)]
  let out := [(40, 51)]
  let tab := [(52, 53)]
  let mode := [(54, 54)]
  let col := [(55, 55)]
  let seg := [(56, 59)]
  let cnt := [(60, 63)]
  match opc with
  | 0x01 => tab ++ col ++ seg ++ cnt
  | 0x02 => b ++ tab ++ mode ++ col ++ seg ++ cnt
  | 0x40 => b ++ tab ++ mode ++ col ++ seg ++ cnt
  | 0x41 => a ++ b ++ out ++ mode ++ col ++ seg ++ cnt
  | 0x42 => b ++ mode ++ col ++ seg
  | 0x43 => a ++ b ++ out ++ mode ++ col ++ seg ++ cnt
  | 0x44 => a ++ b ++ mode ++ col ++ cnt
  | 0x45 => a ++ b ++ mode ++ cnt
  | 0x46 => b ++ out ++ mode ++ col ++ seg ++ cnt
  | _ => a ++ b ++ mode ++ col ++ seg ++ cnt

/-- The must-be-zero bits of a class ZE job: SV is 0 (R302, R303). -/
def ZeDesc.mbz (d : ZeDesc) (opc : Nat) (l : List Byte) : Bool :=
  hdrOk l && zeroAt l 8 9 && decide (d.aAddr < 2 ^ 48) && decide (d.bAddr < 2 ^ 48) && decide (d.out < 2 ^ 48) && decide (d.mode < 2) &&
    decide (d.segment < 2 ^ 25) && (d.sch || decide (d.table < 4096)) && zeroAt l 64 127 &&
    (zeUnused opc).all (fun r => zeroAt l r.1 r.2)

/-- The table a descriptor names for polder `n`: by Table ID, or by a schema of the polder's (R303, R305). -/
def State.tableNamed (s : State) (n : Nat) (d : ZeDesc) : Option Nat :=
  if d.sch then
    if d.table = 0 then none
    else (s.tablesLive.find? (fun e => decide (e.2.polder = n) && decide (tblSchema e.2.desc = d.table))).map (·.1)
  else if (s.table d.table).live then some d.table else none

/-- Operations that change a table (R537). -/
def changesTable (opc : Nat) : Bool := decide (opc ∈ [0x41, 0x42, 0x43, 0x46])

/-- The staging edge of a table's drop has passed (R323). -/
def Table.edgePast (x : Table) (now : Nat) : Bool := x.dropping || (x.staged && !x.noref && decide (now > x.stagedAt))

/-- A job was accepted after the staging edge of its table's drop: in NOREF after the TBL_DROP itself (R323). -/
def Table.late (x : Table) (j : Job) : Bool :=
  let d := (j.seq + 2 ^ 18 - x.dropSeq) % 2 ^ 18
  x.staged && (if x.noref then decide (0 < d ∧ d < 2 ^ 17) else decide (j.since > x.stagedAt))

/-- The store controller's unit number as a master (R403, R536). -/
def scUnit : Nat := 8

/-- The store controller acting for polder `n`. -/
def scMaster (n : Nat) : Master := { mcls := 7, unit := scUnit, acts := [n] }

/-- The table a queued store job names, as its descriptor has it. -/
def State.jobTable (s : State) (e : Nat) : Option Nat :=
  let j := s.job e
  s.tableNamed j.polder (parseZe (if j.granted then j.bytes else s.bytes j.desc 128))

/-- No job that changes the same table was accepted before this one and has not been performed (R307, R537). -/
def State.tableTurn (s : State) (e : Nat) : Bool :=
  let j := s.job e
  !changesTable j.opc ||
    ((s.jobQueue 5).takeWhile (· ≠ e)).all (fun x => !(changesTable (s.job x).opc && s.jobTable x == s.jobTable e && (s.jobTable e).isSome))

/-- The checks every class ZE job begins with (R160, R302, R451); the descriptor's bytes. -/
def zeChecks (m : Master) (opc e : Nat) : JobM (List Byte × ZeDesc) := do
  let s0 ← get
  let ctrl := ctrlOfJob s0 (s0.job e) 15
  let l ← fetchDesc m ctrl e
  let d := parseZe l
  need (d.mbz opc l) 0x12
  need (decide (hdrHreq l < 3)) 0x13
  let s ← get
  need (!s.locked) 0x15
  need (decide (s.lcs ≠ 4)) 0x14
  pure (l, d)

/-- A store-controller job runs if it is its turn and the controller is not stopped (R302, R410, R450, R537). -/
def State.storeJob (s : State) (e opc : Nat) (work : ZeDesc → JobM JobOut) : State :=
  let j := s.job e
  if j.st = .queued ∧ !s.halted j.polder ∧ j.cls = 5 ∧ j.opc = opc ∧ !s.frozen 7 scUnit ∧ !s.tamperFrozen ∧ s.tableTurn e then
    let s1 := (s.dequeue e).setJob e { j with st := .running, engine := some scUnit }
    let w : JobM JobOut := do
      if j.inner then work { parseZe [] with table := j.subject }
      else
        let r ← zeChecks (scMaster j.polder) opc e
        work r.2
    s1.doJob e w
  else s

/-- The table of a store job: MALFORMED where none is named, ACCESS_VIOLATION and a notice for another polder's (R305, R536). -/
def needTable (e : Nat) (d : ZeDesc) (write : Bool) : JobM Nat := do
  let s ← get
  let j := s.job e
  match s.tableNamed j.polder d with
  | none => throw (.status 0x12 0)
  | some t =>
    if (s.table t).polder = j.polder then pure t
    else
      set (s.refuseOwner 7 scUnit (ctrlOfJob s j 15) t write)
      throw (.status 0x0D 0)

/-- A checked write of the store controller, performed at once. -/
def scStore (n : Nat) (ctrl : Word) (a : Nat) (l : List Byte) : JobM Unit := do
  checkOut (scMaster n) ctrl a l.length
  act (fun s => s.store n a l)

end Sys2Proof.Machine
end

