-- ==== Sys2Proof/Machine/Fp.lean ====
section
/-!
DEFINITION. Sys2Proof/Machine/Fp.lean: values of the column types: comparison, total order, canonical form and arithmetic (R298, R360,
R368, R374, R376, R384). Floating point follows IEEE 754 with round-to-nearest-even; what it leaves open is a free value.
-/

namespace Sys2Proof.Machine

/-! ## Binary floating point -/

/-- Mantissa bits of a format. -/
def fpM (ty : Nat) : Nat := if ty = 9 then 23 else 52
/-- Exponent bits of a format. -/
def fpE (ty : Nat) : Nat := if ty = 9 then 8 else 11
/-- The bits of +infinity. -/
def fpInf (ty : Nat) : Nat := (2 ^ fpE ty - 1) * 2 ^ fpM ty
/-- The sign bit's weight. -/
def fpSignW (ty : Nat) : Nat := 2 ^ (fpE ty + fpM ty)
/-- Sign of a pattern. -/
def fpSign (ty v : Nat) : Bool := decide (v / fpSignW ty % 2 = 1)
/-- The pattern without its sign. -/
def fpAbs (ty v : Nat) : Nat := v % fpSignW ty
/-- A NaN. -/
def fpNan (ty v : Nat) : Bool := decide (fpInf ty < fpAbs ty v)
/-- An infinity. -/
def fpIsInf (ty v : Nat) : Bool := decide (fpAbs ty v = fpInf ty)
/-- A zero of either sign. -/
def fpZero (ty v : Nat) : Bool := decide (fpAbs ty v = 0)
/-- The exponent of a subnormal's last place: the least exponent of an integer mantissa. -/
def fpMinExp (ty : Nat) : Int := 2 - (2 : Int) ^ (fpE ty - 1) - fpM ty

/-- A finite pattern as mantissa and exponent: value mantissa × 2^exponent. -/
def fpParts (ty v : Nat) : Nat × Int :=
  let a := fpAbs ty v
  let e := a / 2 ^ fpM ty
  if e = 0 then (a % 2 ^ fpM ty, fpMinExp ty) else (a % 2 ^ fpM ty + 2 ^ fpM ty, fpMinExp ty + (e - 1 : Nat))

/-- A sign put on a pattern. -/
def fpPut (ty : Nat) (neg : Bool) (a : Nat) : Nat := if neg then a + fpSignW ty else a

/-- n/d × 2^e rounded to nearest, ties to even. -/
def fpRound (ty : Nat) (neg : Bool) (n d : Nat) (e : Int) : Nat :=
  if n = 0 then fpPut ty neg 0 else
  let m := fpM ty
  let scale (k : Int) : Nat × Nat := if e ≥ k then (n * 2 ^ (e - k).toNat, d) else (n, d * 2 ^ (k - e).toNat)
  let k0 : Int := e + bitLen n - bitLen d - m
  let p0 := scale k0
  let k1 := if p0.1 / p0.2 ≥ 2 ^ (m + 1) then k0 + 1 else if p0.1 / p0.2 < 2 ^ m then k0 - 1 else k0
  let k := if k1 < fpMinExp ty then fpMinExp ty else k1
  let p := scale k
  let q := p.1 / p.2
  let r := p.1 % p.2
  let q1 := if 2 * r > p.2 ∨ (2 * r = p.2 ∧ q % 2 = 1) then q + 1 else q
  let a := (k - fpMinExp ty).toNat * 2 ^ m + q1
  fpPut ty neg (min a (fpInf ty))

/-- A signed integer times 2^e, rounded; `zneg` is the sign of a zero. -/
def fpOfInt (ty : Nat) (x : Int) (e : Int) (zneg : Bool) : Nat :=
  if x = 0 then fpPut ty zneg 0 else fpRound ty (decide (x < 0)) x.natAbs 1 e

/-- A finite pattern's mantissa with its sign. -/
def fpInt (ty v : Nat) : Int × Int := let p := fpParts ty v; (if fpSign ty v then -(p.1 : Int) else p.1, p.2)

/-- Addition. -/
def fpAdd (ty a b : Nat) : Nat :=
  if fpNan ty a ∨ fpNan ty b ∨ (fpIsInf ty a ∧ fpIsInf ty b ∧ fpSign ty a ≠ fpSign ty b) then Config.fpOpen ty 1 a b
  else if fpIsInf ty a then a else if fpIsInf ty b then b
  else
    let x := fpInt ty a
    let y := fpInt ty b
    let e := min x.2 y.2
    fpOfInt ty (x.1 * 2 ^ (x.2 - e).toNat + y.1 * 2 ^ (y.2 - e).toNat) e (fpSign ty a && fpSign ty b)

/-- A pattern with its sign inverted. -/
def fpNeg (ty v : Nat) : Nat := fpPut ty (!fpSign ty v) (fpAbs ty v)

/-- Multiplication. -/
def fpMul (ty a b : Nat) : Nat :=
  let neg := fpSign ty a != fpSign ty b
  if fpNan ty a ∨ fpNan ty b ∨ (fpIsInf ty a ∧ fpZero ty b) ∨ (fpZero ty a ∧ fpIsInf ty b) then Config.fpOpen ty 3 a b
  else if fpIsInf ty a ∨ fpIsInf ty b then fpPut ty neg (fpInf ty)
  else
    let x := fpParts ty a
    let y := fpParts ty b
    fpRound ty neg (x.1 * y.1) 1 (x.2 + y.2)

/-- Division. -/
def fpDiv (ty a b : Nat) : Nat :=
  let neg := fpSign ty a != fpSign ty b
  if fpNan ty a ∨ fpNan ty b ∨ (fpIsInf ty a ∧ fpIsInf ty b) ∨ (fpZero ty a ∧ fpZero ty b) then Config.fpOpen ty 4 a b
  else if fpIsInf ty a ∨ fpZero ty b then fpPut ty neg (fpInf ty)
  else if fpIsInf ty b ∨ fpZero ty a then fpPut ty neg 0
  else
    let x := fpParts ty a
    let y := fpParts ty b
    fpRound ty neg x.1 y.1 (x.2 - y.2)

/-- The key of totalOrder: patterns compare as these integers do (R376). -/
def fpOrder (ty v : Nat) : Int := if fpSign ty v then -(fpAbs ty v : Int) - 1 else (fpAbs ty v : Int)

/-- A numeric comparison of two that are not NaN: −0 equals +0. -/
def fpLt (ty a b : Nat) : Bool := !(fpZero ty a && fpZero ty b) && decide (fpOrder ty a < fpOrder ty b)
/-- Numeric equality of two that are not NaN. -/
def fpEq (ty a b : Nat) : Bool := (fpZero ty a && fpZero ty b) || decide (a = b)

/-- The nearest integer of a finite value, ties to even. -/
def fpToInt (ty v : Nat) : Int :=
  let p := fpParts ty v
  let m : Nat :=
    if p.2 ≥ 0 then p.1 * 2 ^ p.2.toNat
    else
      let d := 2 ^ (-p.2).toNat
      let q := p.1 / d
      let r := p.1 % d
      if 2 * r > d ∨ (2 * r = d ∧ q % 2 = 1) then q + 1 else q
  if fpSign ty v then -(m : Int) else m

/-! ## Values of the column types -/

/-- A value converted to a type (R368): integers wrap, floats round to nearest even; what does not fit is open. -/
def convTo (src dst v : Nat) : Nat :=
  let w := 8 * natWidth dst
  if src = dst then v
  else if tyFloat dst then
    if tyFloat src then
      if fpNan src v then Config.fpOpen dst 7 v src
      else if fpIsInf src v then fpPut dst (fpSign src v) (fpInf dst)
      else let p := fpParts src v; fpRound dst (fpSign src v) p.1 1 p.2
    else fpOfInt dst (elemInt src v) 0 false
  else if tyFloat src then
    if fpNan src v ∨ fpIsInf src v then Config.fpOpen dst 7 v src
    else
      let x := fpToInt src v
      let lo : Int := if tySigned dst then -(2 : Int) ^ (w - 1) else 0
      let hi : Int := if dst = 12 then 2 else if tySigned dst then (2 : Int) ^ (w - 1) else (2 : Int) ^ w
      if lo ≤ x ∧ x < hi then wrap w x else Config.fpOpen dst 7 v src % 2 ^ w
  else
    let x := wrap w (elemInt src v)
    if dst = 12 ∧ x > 1 then Config.fpOpen 12 7 v src % 2 else x

/-- One value below another by its type; floats compare numerically and must not be NaN. -/
def valLt (ty a b : Nat) : Bool := if tyFloat ty then fpLt ty a b else decide (elemInt ty a < elemInt ty b)

/-- A function of PROJECT on two values of a type (R368). -/
def projFn (fn ty a b : Nat) : Nat :=
  let w := 8 * natWidth ty
  if tyFloat ty then
    match fn with
    | 1 => fpAdd ty a b
    | 2 => fpAdd ty a (fpNeg ty b)
    | 3 => fpMul ty a b
    | 4 => fpDiv ty a b
    | _ =>
      if fpNan ty a ∨ fpNan ty b ∨ (fpZero ty a ∧ fpZero ty b ∧ a ≠ b) then Config.fpOpen ty fn a b
      else if fn = 5 then (if fpLt ty b a then b else a) else (if fpLt ty a b then b else a)
  else
    let x := elemInt ty a
    let y := elemInt ty b
    match fn with
    | 1 => wrap w (x + y)
    | 2 => wrap w (x - y)
    | 3 => wrap w (x * y)
    | 4 => if y = 0 then 2 ^ w - 1 else wrap w (Int.tdiv x y)
    | 5 => if y < x then b else a
    | _ => if x < y then b else a

/-- The canonical form of a key column's value (R374). -/
def canon (ty v : Nat) : Nat :=
  if tyFloat ty then
    if fpNan ty v then (if ty = 9 then 0x7FC00000 else 0x7FF8000000000000) else if fpZero ty v then 0 else v
  else v

/-- The key bytes of canonical values (R374). -/
def keyBytes (tys vs : List Nat) : List Byte :=
  padTo 8 ((tys.zip vs).flatMap (fun p => leBytes (natWidth p.1) (canon p.1 p.2)))

/-- One round of the key hash (R375). -/
def hashStep (h w : Nat) : Nat :=
  let x := (Nat.xor h w * 0x9E3779B97F4A7C15) % 2 ^ 64
  Nat.xor x (x / 2 ^ 32)

/-- The little-endian 64-bit words of bytes. -/
def words64 (l : List Byte) : List Nat := (List.range (l.length / 8)).map (fun i => leAt l (8 * i) 8)

/-- The key hash of key bytes (R375). -/
def keyHash (l : List Byte) : Nat :=
  let h := (words64 l).foldl hashStep 0x6A09E667F3BCC908
  let a := Nat.xor h (h / 2 ^ 29)
  let b := (a * 0xBF58476D1CE4E5B9) % 2 ^ 64
  Nat.xor b (b / 2 ^ 32)

/-- Order of two values in the total order of rows (R376): −1, 0 or 1. -/
def ordVal (ty a b : Nat) : Int :=
  let x := if tyFloat ty then fpOrder ty a else elemInt ty a
  let y := if tyFloat ty then fpOrder ty b else elemInt ty b
  if x < y then -1 else if y < x then 1 else 0

/-- A row's encoding: every column at natural width (R376). -/
def rowBytes (tys vs : List Nat) : List Byte := (tys.zip vs).flatMap (fun p => leBytes (natWidth p.1) p.2)

/-- Byte strings compared as unsigned, the shorter first where one begins the other. -/
def bytesLt : List Byte → List Byte → Bool
  | [], [] => false
  | [], _ :: _ => true
  | _ :: _, [] => false
  | a :: s, b :: t => if a.toNat < b.toNat then true else if b.toNat < a.toNat then false else bytesLt s t

end Sys2Proof.Machine
end

