-- ==== Sys2Proof/Machine/Batch.lean ====
section
/-!
DEFINITION. Sys2Proof/Machine/Batch.lean: batches (R352, R353), predicates (R359, R360), the operators' parameter blocks (R358, R367,
R368, R377, R384, R393, R396) and the check of a pipeline before it runs (R347 to R349).
-/

namespace Sys2Proof.Machine

/-! ## Batches (R352, R353) -/

/-- One column of a batch. -/
structure BCol where
  src : Nat
  ty : Nat
  dict : Nat := 0
  vals : List Nat
  deriving DecidableEq, Repr

/-- A batch: its data word, rows covered, the selected rows in order, and its columns; with DENSE the columns hold the selected rows
alone. -/
structure Batch where
  coord : Nat := 0
  rows : Nat
  sel : List Nat
  dense : Bool
  cols : List BCol
  deriving DecidableEq, Repr

/-- A bitmap of rows, as a number. -/
def bitmapOf (l : List Nat) : Nat := l.foldl (fun m i => m + 2 ^ i) 0

/-- The rows a bitmap marks. -/
def rowsIn (m n : Nat) : List Nat := (List.range n).filter (bit m)

/-- The offsets of the vectors, each at a multiple of 64. -/
def vecOffsets : Nat → List (Nat × Nat) → List Nat
  | _, [] => []
  | o, (w, n) :: t => o :: vecOffsets (alignUp (o + w * n) 64) t

/-- Elements a vector holds. -/
def Batch.elems (b : Batch) : Nat := if b.dense then b.sel.length else b.rows

/-- The batch as bytes (R352). -/
def Batch.bytes (b : Batch) : List Byte :=
  let n := b.cols.length
  let start := alignUp (576 + 16 * n) 64
  let offs := vecOffsets start (b.cols.map (fun c => (natWidth c.ty, b.elems)))
  let head := leBytes 8 b.coord ++ leBytes 2 b.rows ++ leBytes 2 b.sel.length ++ leBytes 1 n ++ leBytes 1 (b2n b.dense) ++
    List.replicate 50 (0 : Byte) ++ leBytes 512 (bitmapOf b.sel)
  let ents := (b.cols.zip offs).flatMap (fun p => leBytes 1 p.1.src ++ leBytes 1 p.1.ty ++ leBytes 2 0 ++ leBytes 4 p.2 ++ leBytes 8 p.1.dict)
  padTo 64 (head ++ ents) ++ b.cols.flatMap (fun c => padTo 64 (fitLen (natWidth c.ty * b.elems) (c.vals.flatMap (leBytes (natWidth c.ty)))))

/-- A batch read from bytes; `none` where it violates R352. -/
def parseBatch (l : List Byte) : Option Batch :=
  let rows := leAt l 8 2
  let n := leAt l 12 1
  let dense := bit (leAt l 13 1) 0
  let map := leAt l 64 512
  let sel := rowsIn map rows
  let el := if dense then sel.length else rows
  let col := fun j => let o := 576 + 16 * j; (leAt l o 1, leAt l (o + 1) 1, leAt l (o + 2) 2, leAt l (o + 4) 4, leAt l (o + 8) 8)
  let cs := (List.range n).map col
  if rows = 0 ∨ rows > 4096 ∨ n = 0 ∨ n > 32 ∨ leAt l 13 1 > 1 ∨ !zeroAt l 14 63 ∨ map / 2 ^ rows ≠ 0 ∨ leAt l 10 2 ≠ sel.length ∨
      !cs.all (fun c => decide (natWidth c.2.1 ≠ 0) && decide (c.2.2.1 = 0) && decide (c.2.2.2.1 % 64 = 0) &&
        decide (c.2.2.2.1 + natWidth c.2.1 * el ≤ l.length) && (decide (c.2.1 = 13) || decide (c.2.2.2.2 = 0))) then none
  else
    let mk : Nat × Nat × Nat × Nat × Nat → BCol := fun c =>
      { src := c.1, ty := c.2.1, dict := c.2.2.2.2, vals := unpack (8 * natWidth c.2.1) el (leNat (bytesAt l c.2.2.2.1 (natWidth c.2.1 * el))) }
    let cols := cs.map mk
    some { coord := leAt l 0 8, rows, sel, dense, cols }

/-- The largest batch of columns of given types (R353). -/
def batchMax (tys : List Nat) : Nat :=
  alignUp (576 + 16 * tys.length) 64 + (tys.map (fun t => alignUp (4096 * natWidth t) 64)).sum

/-- The types of a batch's columns. -/
def Batch.types (b : Batch) : List Nat := b.cols.map (·.ty)

/-- A column's elements of the selected rows, in row order. -/
def Batch.colSel (b : Batch) (c : BCol) : List Nat := if b.dense then c.vals else b.sel.map (fun i => c.vals.getD i 0)

/-- The selected rows, each as its column values. -/
def Batch.rowList (b : Batch) : List (List Nat) :=
  let cs := b.cols.map b.colSel
  (List.range b.sel.length).map (fun i => cs.map (fun c => c.getD i 0))

/-- A DENSE batch that an operator built: KIND none, every row selected (R352, R374). -/
def denseBatch (tys : List Nat) (rows : List (List Nat)) : Batch :=
  { rows := rows.length, sel := List.range rows.length, dense := true,
    cols := (List.range tys.length).map (fun j => { src := 0xFF, ty := tys.getD j 0, vals := rows.map (fun r => r.getD j 0) }) }

/-- Rows in lists of at most 4,096. -/
def chunkRows : Nat → List (List Nat) → List (List (List Nat))
  | 0, _ => []
  | f + 1, l => if l.isEmpty then [] else l.take 4096 :: chunkRows f (l.drop 4096)

/-! ## Predicates (R359, R360) -/

/-- A predicate entry. -/
structure Pred where
  column : Nat
  op : Nat
  clause : Nat
  neg : Bool
  slen : Nat
  k1 : Nat
  k2 : Nat
  deriving DecidableEq, Repr

/-- The predicate at byte `o`. -/
def parsePred (l : List Byte) (o : Nat) : Pred :=
  { column := leAt l o 1, op := leAt l (o + 1) 1, clause := leAt l (o + 2) 1, neg := bit (leAt l (o + 3) 1) 0, slen := leAt l (o + 4) 4,
    k1 := leAt l (o + 8) 8, k2 := leAt l (o + 16) 8 }

/-- A constant uses all 64 bits, extended from the column width; f32 uses its low half (R359). -/
def constOk (ty k : Nat) : Bool :=
  if ty = 9 then decide (k < 2 ^ 32) else if ty = 10 then true else decide (ext64 ty (k % 2 ^ (8 * natWidth ty)) = k)

/-- A predicate is legal for its column's type (R359). -/
def predOk (l : List Byte) (o : Nat) (ty : Option Nat) : Bool :=
  let p := parsePred l o
  decide (p.op ≤ 7) && decide (p.clause < 16) && decide (leAt l (o + 3) 1 ≤ 1) && zeroAt l (o + 24) (o + 31) &&
    (decide (p.op = 6) || decide (p.k2 = 0)) && decide (p.slen ≤ 64) &&
    (match ty with
     | none => true
     | some t =>
       if t = 13 then decide (p.op ≤ 1) && decide (p.k1 < 2 ^ 48)
       else decide (p.slen = 0) && (decide (p.op ≠ 7) || (decide (1 ≤ t ∧ t ≤ 8) || decide (t = 12))) && constOk t p.k1 &&
         (decide (p.op ≠ 6) || constOk t p.k2))

/-- A predicate on a value that is not a string; a NaN makes all but NE false (R360). -/
def Pred.holds (p : Pred) (ty v : Nat) : Bool :=
  let k1 := p.k1 % 2 ^ (8 * natWidth ty)
  let k2 := p.k2 % 2 ^ (8 * natWidth ty)
  let r :=
    if tyFloat ty then
      let n := fpNan ty v || fpNan ty k1
      match p.op with
      | 0 => !n && fpEq ty v k1
      | 1 => n || !fpEq ty v k1
      | 2 => !n && fpLt ty v k1
      | 3 => !n && (fpLt ty v k1 || fpEq ty v k1)
      | 4 => !n && fpLt ty k1 v
      | 5 => !n && (fpLt ty k1 v || fpEq ty v k1)
      | _ => !n && !fpNan ty k2 && !fpLt ty v k1 && !fpLt ty k2 v
    else
      let x := elemInt ty v
      let a := elemInt ty k1
      match p.op with
      | 0 => decide (x = a)
      | 1 => decide (x ≠ a)
      | 2 => decide (x < a)
      | 3 => decide (x ≤ a)
      | 4 => decide (x > a)
      | 5 => decide (x ≥ a)
      | 6 => decide (a ≤ x) && decide (x ≤ elemInt ty k2)
      | _ => decide (Nat.land v k1 ≠ 0)
  r != p.neg

/-- EQ and NE on strings (R360). -/
def Pred.holdsStr (p : Pred) (v k : List Byte) : Bool := (if p.op = 0 then decide (v = k) else decide (v ≠ k)) != p.neg

/-- For every clause that holds a predicate, one of its predicates is true (R360). `t` gives each predicate's truth. -/
def selected (ps : List Pred) (t : Nat → Bool) : Bool :=
  (List.range 16).all (fun c =>
    let mine := (List.range ps.length).filter (fun i => decide ((ps.getD i (parsePred [] 0)).clause = c))
    mine.isEmpty || mine.any t)

/-! ## Parameter blocks -/

/-- A SCAN parameter block (R358). -/
structure ScanPar where
  table : Nat
  first : Nat
  last : Nat
  skipLost : Bool
  open_ : Bool
  runEpoch : Bool
  dense : Bool
  out : List Nat
  preds : List Pred
  deriving DecidableEq, Repr

/-- The block's fields. -/
def parseScan (l : List Byte) : ScanPar :=
  { table := leAt l 0 2, first := leAt l 4 4, last := leAt l 8 4, skipLost := bit (leAt l 12 1) 0, open_ := bit (leAt l 12 1) 1,
    runEpoch := bit (leAt l 12 1) 2, dense := bit (leAt l 12 1) 3, out := (List.range (leAt l 3 1)).map (fun i => leAt l (16 + i) 1),
    preds := (List.range (leAt l 2 1)).map (fun i => parsePred l (64 + 32 * i)) }

/-- A SCAN block is valid for a table (R349, R358, R359). -/
def scanOk (l : List Byte) (x : Table) : Bool :=
  let np := leAt l 2 1
  let no := leAt l 3 1
  decide (l.length = 64 + 32 * np) && decide (np ≤ 16) && decide (1 ≤ no) && decide (no ≤ 32) && decide (leAt l 12 1 < 16) &&
    zeroAt l 13 15 && zeroAt l 48 63 && (List.range 32).all (fun i =>
      if i < no then decide (leAt l (16 + i) 1 < x.ncol) else decide (leAt l (16 + i) 1 = 0xFF)) &&
    (List.range np).all (fun i => decide (leAt l (64 + 32 * i) 1 < x.ncol) && predOk l (64 + 32 * i) (some (x.ty (leAt l (64 + 32 * i) 1))))

/-- A FILTER block is valid; the columns' types where they are known (R367). -/
def filterOk (l : List Byte) (tys : Option (List Nat)) : Bool :=
  let np := leAt l 0 1
  decide (1 ≤ np) && decide (np ≤ 16) && decide (l.length = 16 + 32 * np) && zeroAt l 1 15 &&
    (List.range np).all (fun i =>
      match tys with
      | none => predOk l (16 + 32 * i) none
      | some ts => decide (leAt l (16 + 32 * i) 1 < ts.length) && predOk l (16 + 32 * i) (ts[leAt l (16 + 32 * i) 1]?))

/-- One item of a PROJECT (R368). -/
structure ProjItem where
  fn : Nat
  ty : Nat
  a : Nat
  b : Nat
  k : Nat
  deriving DecidableEq, Repr

/-- The items of a PROJECT block. -/
def parseProj (l : List Byte) : List ProjItem :=
  (List.range (leAt l 0 1)).map (fun i => let o := 16 + 16 * i
    { fn := leAt l o 1, ty := leAt l (o + 1) 1, a := leAt l (o + 2) 1, b := leAt l (o + 3) 1, k := leAt l (o + 8) 8 })

/-- A PROJECT item is valid; with its columns' types where they are known (R368). -/
def projItemOk (p : ProjItem) (tys : Option (List Nat)) : Bool :=
  let unary := decide (p.fn = 0) || decide (p.fn = 7)
  decide (p.fn ≤ 7) && decide (natWidth p.ty ≠ 0) && (!unary || (decide (p.b = 0xFF) && decide (p.k = 0))) &&
    (unary || decide (p.b = 0xFF) || decide (p.k = 0)) && (decide (p.ty ≠ 13) || decide (p.fn = 0)) &&
    (decide (p.b ≠ 0xFF) || unary || constOk p.ty p.k) &&
    (match tys with
     | none => true
     | some ts =>
       decide (p.a < ts.length) && (decide (p.b = 0xFF) || decide (p.b < ts.length)) &&
         (let ta := ts.getD p.a 0
          let tb := if p.b = 0xFF then 1 else ts.getD p.b 0
          if p.fn = 0 then (decide (ta = 13) == decide (p.ty = 13)) else decide (ta ≠ 13) && decide (tb ≠ 13)))

/-- A PROJECT block is valid (R368). -/
def projOk (l : List Byte) (tys : Option (List Nat)) : Bool :=
  let n := leAt l 0 1
  decide (1 ≤ n) && decide (n ≤ 32) && decide (l.length = 16 + 16 * n) && zeroAt l 1 15 &&
    (List.range n).all (fun i => zeroAt l (20 + 16 * i) (23 + 16 * i)) && (parseProj l).all (fun p => projItemOk p tys)

/-- The parameter block of the stateful operators (R377). -/
structure AggPar where
  nkey : Nat
  npay : Nat
  nagg : Nat
  flags : Nat
  key : List Nat
  desc : Nat
  tcol : Nat
  vcol : Nat
  limit : Nat
  area : Nat
  cap : Nat
  aux : Nat
  p0 : Nat
  p1 : Nat
  stats : Nat
  p2 : Nat
  pay : List Nat
  items : List (Nat × Nat × Nat)
  deriving DecidableEq, Repr

/-- The block's fields; an aggregate item as (FN, A, B) (R384). -/
def parseAgg (l : List Byte) : AggPar :=
  { nkey := leAt l 0 1, npay := leAt l 1 1, nagg := leAt l 2 1, flags := leAt l 3 1, key := (List.range (leAt l 0 1)).map (fun i => leAt l (4 + i) 1),
    desc := leAt l 8 1, tcol := leAt l 9 1, vcol := leAt l 10 1, limit := leAt l 12 4, area := leAt l 16 8, cap := leAt l 24 4 * 65536,
    aux := leAt l 28 4, p0 := leAt l 32 8, p1 := leAt l 40 8, stats := leAt l 48 8, p2 := leAt l 56 8,
    pay := (List.range (leAt l 1 1)).map (fun i => leAt l (64 + i) 1),
    items := (List.range (leAt l 2 1)).map (fun i => (leAt l (80 + 16 * i) 1, leAt l (81 + 16 * i) 1, leAt l (82 + 16 * i) 1)) }

/-- An aggregate item's columns are named as its function needs (R384). -/
def aggItemOk (l : List Byte) (i : Nat) : Bool :=
  let o := 80 + 16 * i
  let fn := leAt l o 1
  let a := leAt l (o + 1) 1
  let b := leAt l (o + 2) 1
  zeroAt l (o + 3) (o + 15) && decide (fn ≤ 7) && (decide (fn ≠ 0) || (decide (a = 0xFF) && decide (b = 0xFF))) &&
    (!(decide (1 ≤ fn ∧ fn ≤ 4)) || (decide (a ≠ 0xFF) && decide (b = 0xFF))) && (decide (fn < 5) || (decide (a ≠ 0xFF) && decide (b ≠ 0xFF)))

/-- A stateful operator's block is valid apart from its columns' types (R349, R377, R387, R389). -/
def aggOk (code : Nat) (l : List Byte) : Bool :=
  let p := parseAgg l
  let grp := decide (code = 7) || decide (code = 8)
  decide (80 ≤ l.length) && decide (l.length = 80 + 16 * p.nagg) && (decide (1 ≤ p.nkey) || grp) && decide (p.nkey ≤ 4) &&
    decide (p.npay ≤ 16) && (decide (p.nagg = 0) || (grp && decide (p.nagg ≤ 8))) &&
    (List.range 4).all (fun i => decide (i < p.nkey) == decide (leAt l (4 + i) 1 ≠ 0xFF)) &&
    (List.range 16).all (fun i => decide (i < p.npay) == decide (leAt l (64 + i) 1 ≠ 0xFF)) &&
    (List.range p.nagg).all (aggItemOk l) && zeroAt l 11 11 &&
    decide (p.area < 2 ^ 48) && decide (p.stats < 2 ^ 48) &&
    (match code with
     | 4 => decide (p.flags < 2)
     | 5 => decide (p.flags < 4)
     | 6 => decide (p.flags < 2)
     | _ => decide (p.flags = 0)) &&
    (if code = 9 ∨ code = 10 ∨ code = 11 then decide (p.desc < 16) else decide (p.desc = 0)) &&
    ((decide (code = 6) || decide (code = 8) || decide (code = 14)) == decide (p.tcol ≠ 0xFF)) &&
    (decide (code = 14) == decide (p.vcol ≠ 0xFF)) &&
    (if code = 11 then decide (1 ≤ p.limit) && decide (p.limit ≤ 4096)
     else if code = 14 then decide (1 ≤ p.limit) && decide (p.limit ≤ 1024) else decide (p.limit = 0)) &&
    (if code = 14 then decide (1 ≤ p.aux) && decide (p.aux ≤ 65536) else decide (p.aux = 0)) &&
    (decide (code = 6) || decide (code = 8) || decide (code = 14) || decide (p.p0 = 0)) &&
    (decide (code = 8) || decide (code = 14) || decide (p.p1 = 0)) &&
    (decide (code = 8) || (decide (code = 14) && decide (p.p2 < 2 ^ 48)) || decide (p.p2 = 0)) &&
    (decide (code ≠ 8) || (decide (1 ≤ p.p1) && decide (p.p0 % p.p1 = 0) && decide (1 ≤ p.p0 / p.p1) && decide (p.p0 / p.p1 ≤ 64))) &&
    (decide (code ≠ 14) || (decide (1 ≤ p.p0) && decide (p.npay ≤ 1))) &&
    (decide (code = 4) || decide (code = 14) || decide (p.npay = 0)) &&
    (decide (code = 4) || decide (code = 5) || decide (code = 7) || decide (code = 8) || decide (code = 10) || decide (code = 14) ||
      (decide (p.area = 0) && decide (p.cap = 0)))

/-- The type of an aggregate's outputs, for the types of the input (R384). -/
def aggTypes (tys : List Nat) (it : Nat × Nat × Nat) : List Nat :=
  let t := tys.getD it.2.1 0
  let sum := if tyFloat t then 10 else if tySigned t then 8 else 4
  match it.1 with
  | 0 => [4]
  | 1 => [sum]
  | 4 => [sum, 4]
  | 7 => [4]
  | _ => [t]

/-- Accumulator bytes of an aggregate (R384). -/
def aggBytes (fn : Nat) : Nat := if fn = 4 ∨ fn = 5 ∨ fn = 6 then 16 else 8

/-- Types that a time column may have (R377). -/
def timeTy (t : Nat) : Bool := decide (t ∈ [3, 4, 7, 8, 11])

/-- The key width (R374). -/
def keyWidth (tys key : List Nat) : Nat := (key.map (fun c => natWidth (tys.getD c 0))).sum

/-- The columns' types fit a stateful operator's block: no dstr, columns present, key width at most 32 bytes (R374, R377, R384, R389). -/
def aggTypesOk (code : Nat) (l : List Byte) (tys : List Nat) : Bool :=
  let p := parseAgg l
  let n := tys.length
  !tys.contains 13 && (p.key.all (· < n)) && (p.pay.all (· < n)) && decide (keyWidth tys p.key ≤ 32) &&
    (decide (p.tcol = 0xFF) || (decide (p.tcol < n) && timeTy (tys.getD p.tcol 0))) &&
    (decide (p.vcol = 0xFF) || (decide (p.vcol < n) && decide (tys.getD p.vcol 0 ∈ [1, 2, 3, 5, 6, 7]))) &&
    (decide (code ≠ 14) || p.pay.all (fun c => decide (1 ≤ tys.getD c 0 ∧ tys.getD c 0 ≤ 8))) &&
    (decide (code ≠ 10) || decide (n ≤ 31)) &&
    p.items.all (fun it =>
      (decide (it.1 = 0) || decide (it.2.1 < n)) && (decide (it.1 < 5) || decide (it.2.2 < n)) &&
        (decide (it.1 ≠ 5 ∧ it.1 ≠ 6) || timeTy (tys.getD it.2.2 0)) &&
        (decide (it.1 ≠ 7) || (decide (1 ≤ tys.getD it.2.1 0 ∧ tys.getD it.2.1 0 ≤ 8) && decide (tys.getD it.2.2 0 = tys.getD it.2.1 0))))

/-- An EXCHANGE block (R393). -/
structure ExPar where
  exid : Nat
  n : Nat
  self : Nat
  key : List Nat
  links : List Nat
  timeout : Nat
  stats : Nat
  deriving DecidableEq, Repr

/-- The block's fields. -/
def parseEx (l : List Byte) : ExPar :=
  { exid := leAt l 0 4, n := leAt l 4 1, self := leAt l 5 1, key := (List.range (leAt l 6 1)).map (fun i => leAt l (8 + i) 1),
    links := (List.range 16).map (fun i => leAt l (16 + i) 1), timeout := leAt l 32 8, stats := leAt l 40 8 }

/-- An EXCHANGE block is valid (R393). -/
def exOk (l : List Byte) : Bool :=
  let p := parseEx l
  decide (l.length = 64) && decide (2 ≤ p.n) && decide (p.n ≤ 16) && decide (p.self < p.n) && decide (1 ≤ leAt l 6 1) && decide (leAt l 6 1 ≤ 4) &&
    zeroAt l 7 7 && zeroAt l 12 15 && (List.range 4).all (fun i => decide (i < leAt l 6 1) == decide (leAt l (8 + i) 1 ≠ 0xFF)) &&
    (List.range 16).all (fun i => if i < p.n ∧ i ≠ p.self then decide (leAt l (16 + i) 1 < 16) else decide (leAt l (16 + i) 1 = 0xFF)) &&
    decide (p.stats < 2 ^ 48) && zeroAt l 48 63

/-- A RECEIPT block (R396). -/
structure RcptPar where
  addr : Nat
  cap : Nat
  rlim : Nat
  buf : Nat
  bufCap : Nat
  list : Nat
  listCap : Nat
  nonce : List Byte
  deriving DecidableEq, Repr

/-- The block's fields. -/
def parseRcpt (l : List Byte) : RcptPar :=
  { addr := leAt l 0 8, cap := leAt l 8 4, rlim := leAt l 12 4, buf := leAt l 16 8, bufCap := leAt l 24 4, list := leAt l 32 8,
    listCap := leAt l 40 4, nonce := bytesAt l 48 32 }

/-- A RECEIPT block is valid (R396). -/
def rcptOk (l : List Byte) : Bool :=
  let p := parseRcpt l
  decide (l.length = 80) && decide (p.addr < 2 ^ 48) && decide (p.buf < 2 ^ 48) && decide (p.list < 2 ^ 48) && decide (1 ≤ p.rlim) &&
    decide (p.rlim ≤ 1048576) && zeroAt l 28 31 && zeroAt l 44 47

/-! ## The graph (R347, R349) -/

/-- The worker class of an operator code (R347). -/
def opClass (code : Nat) : Nat :=
  if code = 1 then 1 else if code ∈ [4, 5, 6, 7, 8, 14] then 2 else if code ∈ [9, 10, 11] then 3 else 0

/-- Inputs an operator code takes (R347). -/
def opInputs (code : Nat) : Nat := if code = 1 ∨ code = 17 then 0 else if code = 5 ∨ code = 6 then 2 else 1

/-- An operator with batch output (R347): every one but HBUILD, SINK and SEAL. -/
def hasBatches (code : Nat) : Bool := !(decide (code = 4) || decide (code = 13) || decide (code = 17))

/-- IN0 of a descriptor (R348). -/
def OpDef.in0 (o : OpDef) : Nat := leAt o.bytes 1 1
/-- IN1. -/
def OpDef.in1 (o : OpDef) : Nat := leAt o.bytes 2 1
/-- PRIO. -/
def OpDef.prio (o : OpDef) : Nat := leAt o.bytes 3 1
/-- QDEPTH. -/
def OpDef.qdepth (o : OpDef) : Nat := leAt o.bytes 4 1
/-- QENTRY, in bytes. -/
def OpDef.qentry (o : OpDef) : Nat := leAt o.bytes 5 1 * 8192
/-- UFN. -/
def OpDef.ufn (o : OpDef) : Nat := leAt o.bytes 6 1

/-- Producers an operator names. -/
def OpDef.ins (o : OpDef) : List Nat := [o.in0, o.in1].filter (· ≠ 0xFF)

/-- The operator of an index. -/
def opAt (ops : List OpDef) (i : Nat) : Option OpDef := ops.find? (fun o => decide (o.index = i))

/-- The operator that consumes an operator's output. -/
def consumerOf (ops : List OpDef) (i : Nat) : Option OpDef := ops.find? (fun o => o.ins.contains i)

/-- No cycle: every operator is reached by taking off, time and again, those whose inputs are all taken off. -/
def acyclic (ops : List OpDef) : Nat → List Nat → Bool
  | 0, done => ops.all (fun o => done.contains o.index)
  | f + 1, done =>
    acyclic ops f (done ++ (ops.filter (fun o => !done.contains o.index && o.ins.all done.contains)).map (·.index))

/-- The types an operator emits, from those of its inputs; `none` where a customer function decides (R347, R368, R381, R383, R386,
R387, R389, R391). -/
def outTypesOf (s : State) (ops : List OpDef) : Nat → Nat → Option (List Nat)
  | 0, _ => none
  | f + 1, i =>
    match opAt ops i with
    | none => none
    | some o =>
      let in0 := outTypesOf s ops f o.in0
      let p := parseAgg o.params
      match o.code with
      | 1 => let x := parseScan o.params; some (x.out.map (fun c => (s.table x.table).ty c))
      | 3 => some ((parseProj o.params).map (·.ty))
      | 4 => in0.map (fun t => p.pay.map (fun c => t.getD c 0))
      | 5 =>
        match in0, outTypesOf s ops f o.in1 with
        | some a, some b => some (if p.flags = 0 then a ++ b else if p.flags = 3 then a ++ b ++ [12] else a)
        | _, _ => none
      | 6 =>
        match in0, outTypesOf s ops f o.in1 with
        | some a, some b => some (a ++ b.drop p.nkey ++ (if p.flags = 1 then [12] else []))
        | _, _ => none
      | 7 => in0.map (fun t => p.key.map (fun c => t.getD c 0) ++ p.items.flatMap (aggTypes t))
      | 8 => in0.map (fun t => 4 :: p.key.map (fun c => t.getD c 0) ++ p.items.flatMap (aggTypes t))
      | 10 => in0.map (fun t => t ++ [4])
      | 14 => in0.map (fun t => p.key.map (fun c => t.getD c 0) ++ [3, 4, 3])
      | 16 => none
      | _ => in0

/-- The types an operator emits in its graph. -/
def outTypes (s : State) (ops : List OpDef) (i : Nat) : Option (List Nat) := outTypesOf s ops (ops.length + 1) i

/-- The parameter block of an operator is valid in its graph (R349). The tables of SCANs are checked apart. -/
def opParOk (s : State) (ops : List OpDef) (o : OpDef) : Bool :=
  let in0 := outTypes s ops o.in0
  match o.code with
  | 1 => scanOk o.params (s.table (leAt o.params 0 2))
  | 2 => filterOk o.params in0
  | 3 => projOk o.params in0
  | 5 =>
    let p := parseAgg o.params
    let ok := match opAt ops o.in1 with
      | some b =>
        let q := parseAgg b.params
        decide (b.code = 4) && decide (p.nkey = q.nkey) &&
          (match in0, outTypes s ops b.in0 with
           | some t, some u => decide (p.key.map (fun c => t.getD c 0) = q.key.map (fun c => u.getD c 0))
           | _, _ => true)
      | none => false
    aggOk 5 o.params && ok && (match outTypes s ops o.index with | some t => decide (t.length ≤ 32) | none => true)
  | 6 =>
    let p := parseAgg o.params
    aggOk 6 o.params &&
      (match outTypes s ops o.in1, in0 with
       | some u, some t => decide (p.nkey + 1 ≤ u.length) && !u.contains 13 &&
           decide ((p.key ++ [p.tcol]).map (fun c => t.getD c 0) = u.take (p.nkey + 1))
       | _, _ => true) &&
      (match outTypes s ops o.index with | some t => decide (t.length ≤ 32) | none => true)
  | 10 =>
    let p := parseAgg o.params
    aggOk 10 o.params &&
      (match opAt ops o.in0 with
       | some b => let q := parseAgg b.params; decide (b.code = 9) && decide (q.key = p.key) && decide (q.desc = p.desc)
       | none => false)
  | 12 => exOk o.params
  | 13 => true
  | 15 => rcptOk o.params && ops.all (fun x => decide (x.code ≠ 1) || !(parseScan x.params).open_)
  | 16 => true
  | 17 => decide (o.params.length = 2) && decide (leAt o.params 0 2 < 4096)
  | c => aggOk c o.params

/-- The graph of a pipeline is legal apart from its parameter blocks (R349). -/
def graphOk (ops : List OpDef) : Bool :=
  !ops.isEmpty &&
    ops.all (fun o => o.ins.all (fun i => (opAt ops i).isSome) &&
      decide ((if o.in0 = 0xFF then 0 else 1) + (if o.in1 = 0xFF then 0 else 1) = opInputs o.code) && (decide (opInputs o.code ≠ 1) || decide (o.in1 = 0xFF)) &&
      decide (((ops.flatMap OpDef.ins).filter (· = o.index)).length ≤ 1) &&
      (match consumerOf ops o.index with
       | some c => hasBatches o.code || (decide (o.code = 4) && decide (c.code = 5) && decide (c.in1 = o.index))
       | none => !hasBatches o.code)) &&
    acyclic ops ops.length [] && decide ((ops.filter (fun o => decide (o.code = 15))).length ≤ 1)

/-- QENTRY holds the largest batch of every operator whose columns are known (R349, R353). -/
def entriesOk (s : State) (ops : List OpDef) : Bool :=
  ops.all (fun o => !hasBatches o.code ||
    (decide (1 ≤ o.qdepth) && decide (1 ≤ o.qentry) &&
      (match outTypes s ops o.index with | some t => decide (batchMax t ≤ o.qentry) | none => true)))

end Sys2Proof.Machine
end

