-- ==== Sys2Proof/Machine/Pump.lean ====
section
/-!
DEFINITION. Sys2Proof/Machine/Pump.lean: the TASK instructions and the Pump's own steps (R52 to R58, R97 to R111, R530).
DONE stands in Net.lean with the session actions it performs.
-/

namespace Sys2Proof.Machine

/-- A TASK instruction of the task core `c` runs; a core in P has no task, and only moves on. -/
def State.withTask (s : State) (c : CoreId) (k : Nat → Frame → State → State) : State :=
  s.withFrame c fun f =>
    match s.curTask c with
    | some t => k t f s
    | none => s.setFrame c f.next

/-- A P-only instruction: in U it raises PRIVILEGE (R37). -/
def State.inP (s : State) (c : CoreId) (k : Frame → State) : State :=
  s.withFrame c fun f => if s.privileged c then k f else s.raise c f 2 0 0 false

/-- WAITWORK (R52, R105): P only; the core asks for work and blocks. -/
def execWaitwork (c : CoreId) (rd : Reg) (s : State) : Out :=
  .next (s.onCore c fun s => s.inP c fun _ =>
    (s.setCore c { s.core c with waiting := some rd, wrd := rd }).setWorker c { s.worker c with asking := true })

/-- The task on a worker's affinity list that is served first: the highest priority, then the earliest (R105). -/
def State.bestOf (s : State) : List Nat → Option Nat
  | [] => none
  | t :: l =>
    match s.bestOf l with
    | none => some t
    | some u => if (s.task u).prio > (s.task t).prio then some u else some t

/-- The head of the highest non-empty priority queue of a class, from level `p - 1` down (R105). -/
def State.queueHead (s : State) (cls : Nat) : Nat → Option Nat
  | 0 => none
  | p + 1 =>
    match (s.prioq cls p).find? (fun t => !s.halted (s.task t).polder) with
    | some t => some t
    | none => s.queueHead cls p

/-- What the Pump answers a worker that asks: its affinity list first, then its class's queues (R105); no task of a draining polder
starts (R149). -/
def State.nextFor (s : State) (w : Nat) : Option Nat :=
  match s.bestOf ((s.affList w).filter (fun t => !s.halted (s.task t).polder)) with
  | some t => some t
  | none => s.queueHead (workerClass w) 8

/-- A core's scratch window is zeroed (R38). -/
def State.zeroScratch (s : State) (c : Nat) : State :=
  let lo := 0x200100000000 + c * 0x40000 + 0x30000
  { s with mem := s.mem.filter (fun e => !(decide (lo ≤ e.1) && decide (e.1 < lo + 0x10000)))
           poison := s.poison.filter (fun a => !(decide (lo ≤ a) && decide (a < lo + 0x10000))) }

/-- What a SCAN's task sees of its block is the segment as it stands when the task is dispatched (R15, R362). -/
def State.snapScan (s : State) (t : Nat) : State :=
  match (s.task t).kind with
  | .operator e op item _ =>
    let r := s.run e
    match r.ops.find? (fun o => decide (o.index = op) && decide (o.code = 1)) with
    | some o =>
      match (s.table (leAt o.params 0 2)).segs.find? (fun g => decide (g.num = item / 16)) with
      | some g => s.setRun e { r with snaps := tput r.snaps (256 * item + op) g }
      | none => s
    | none => s
  | _ => s

/-- A worker receives a task (R38, R51, R103, R105): a core goes to U, WAITWORK's register takes the slot, the scratch window
is zeroed when the polder changes, and a task that waits in WAITEV finds its flag word in rd. -/
def State.give (s : State) (w t : Nat) : State :=
  let s1 := s.unlist t
  let x := s1.task t
  let fr := match x.resumeRd with
    | some r => if h : r < 32 then x.frame.setG ⟨r, h⟩ (x.flags.setWidth 64) else x.frame
    | none => x.frame
  let s2 := (s1.setTask t { x with state := .running, aff := some w, started := true, resumeRd := none, frame := fr }).setWorker w
              { task := some t, asking := false }
  if w < 64 then
    let k := s2.core w
    let pf := if h : k.wrd < 32 then (k.pframe.setG ⟨k.wrd, h⟩ (BitVec.ofNat 64 t)).next else k.pframe.next
    let s3 := s2.setCore w { k with mode := .U, waiting := none, pframe := pf, lastPolder := some x.polder }
    if k.lastPolder = some x.polder then s3 else s3.zeroScratch w
  else s2

/-- An operator unit starts nothing new: a patch of its class is awaited or staged, or a UDO's function runs on it (R261, R264, R347). -/
def State.unitHeld (s : State) (w : Nat) : Bool := decide (64 ≤ w) && (s.mcsHeld 4 0 || s.unitCustom 4 (w - 64))

/-- A worker may be given work: it asks, and is neither frozen nor offline (R105, R106), nor held by its control store. -/
def State.mayServe (s : State) (w : Nat) : Bool :=
  (s.worker w).asking && !s.workerFrozen w && !s.workerOff w && !s.tamperFrozen && !s.unitHeld w

/-- TASK_DISPATCH (R105). -/
def execTaskDispatch (w : WorkerId) (s : State) : Out :=
  .next (s.unreset fun s =>
    if s.mayServe w then
      match s.nextFor w with
      | some t => (s.give w t).snapScan t
      | none => s
    else s)

/-- OPERATOR_UNIT_WORK_REQUEST (R105): an operator unit that holds no task asks. -/
def execOperatorUnitWorkRequest (w : WorkerId) (s : State) : Out :=
  .next (s.unreset fun s =>
    if 64 ≤ w.val ∧ (s.worker w).task = none ∧ !s.workerFrozen w then s.setWorker w { s.worker w with asking := true } else s)

/-- A task marked for ending ends at this instruction, which has no effect (R58). -/
def State.orMarked (s : State) (t : Nat) (k : State) : State := if (s.task t).marked then s.endTask t else k

/-- YIELD (R52): the frame is saved, the task stays ready. -/
def execYield (c : CoreId) (s : State) : Out :=
  .next (s.onCore c fun s => s.withTask c fun t f s =>
    s.orMarked t (((s.setFrame c f.next).dropWorker c).makeReady t))

/-- Waiting hardware requests that find a slot get it, oldest first (R99). -/
def State.serveHw (s : State) : State :=
  let s := s.checkSlots.latchSlotWaits
  s.sched.hwWait.foldl
    (fun s r =>
      match s.freeSlotFor r.task.polder true with
      | some t =>
        ({ s with sched := { s.sched with hwWait := s.sched.hwWait.erase r } }).createTask t r.task
      | none => s) s

/-- SPAWN (R53, R54, R98): the descriptor is checked, then a slot is taken; all ones where none is free. A task of a polder that drains starts
no new work, and waits at the instruction (R149). -/
def State.spawn (s : State) (c : CoreId) (rd ra : Reg) (t : Nat) (f : Frame) : State :=
  let a := (f.gr ra).toNat
  if a % 32 ≠ 0 then s.raise c f 3 0 (f.gr ra) false else
  match s.coreRead c f a 32 with
  | .stop s1 => s1
  | .ok l s1 =>
    let x := s1.task t
    let p := s1.prog x.polder x.program
    let d := parseSpawn l
    if !d.okFor s1 p then s1.raise c f 4 0 0 false else
    if s1.halted x.polder then s1 else
    match s1.dikeCheck (s1.coreMaster c) d.frame (frameSize d.vec) .write false with
    | some r => s1.refuse (s1.coreMaster c) (s1.coreCtrl c 15) .write r true true
    | none =>
      let s2 := s1.serveHw
      match s2.freeSlotFor x.polder false with
      | none => s2.setFrame c (f.setG rd (BitVec.allOnes 64)).next
      | some u => (s2.createTask u (d.toTask u x.polder x.program p)).setFrame c (f.setG rd (BitVec.ofNat 64 u)).next

/-- SPAWN (R52 to R54). -/
def execSpawn (c : CoreId) (rd ra : Reg) (s : State) : Out :=
  .next (s.onCore c fun s => s.withTask c fun t f s => s.spawn c rd ra t f)

/-- What FREE does to a slot, and whether it is accepted (R58). -/
def State.freeOp (s : State) (self target : Nat) : Bool × State :=
  let x := s.task self
  let y := s.task target
  if target ≥ 16384 ∨ target = self ∨ y.polder ≠ x.polder ∨ y.program ≠ x.program then (false, s)
  else
    match y.state with
    | .free => (false, s)
    | .ending => (false, s)
    | .running => (true, s.setTask target { y with marked := true })
    | _ => (true, s.endTask target)

/-- FREE (R58). -/
def execFree (c : CoreId) (rd ra : Reg) (s : State) : Out :=
  .next (s.live fun s => s.withTask c fun t f s =>
    let r := s.freeOp t (f.gr ra).toNat
    r.2.setFrame c (f.setG rd (BitVec.ofNat 64 (b2n r.1))).next)

/-- SETEV's delivery to a slot of a polder (R55). -/
def State.deliver (s : State) (n target : Nat) (m : BitVec 32) : Bool × State :=
  let y := s.task target
  if target < 16384 ∧ y.state ≠ .free ∧ y.state ≠ .ending ∧ y.polder = n then (true, s.setFlags target m) else (false, s)

/-- SETEV (R55). -/
def execSetev (c : CoreId) (rd ra rb : Reg) (s : State) : Out :=
  .next (s.onCore c fun s => s.withTask c fun t f s =>
    if (f.gr rb).getLsbD 31 then s.raise c f 4 0 0 false else
    let r := s.deliver (s.task t).polder (f.gr ra).toNat ((f.gr rb).setWidth 32)
    r.2.setFrame c (f.setG rd (BitVec.ofNat 64 (b2n r.1))).next)

/-- CLREV (R52). -/
def execClrev (c : CoreId) (rb : Reg) (s : State) : Out :=
  .next (s.onCore c fun s => s.withTask c fun t f s =>
    let s1 := s.setFrame c f.next
    s1.setTask t { s1.task t with flags := (s1.task t).flags &&& ~~~((f.gr rb).setWidth 32) })

/-- A task blocks: TIMEOUT cleared, the frame saved, the timer armed where the count arms one (R56, R57, R108). DESIGN CHOICE: no rule gives
the layout of a saved frame at FRAME; it is kept with the slot, and the bytes at FRAME are not written (log entry 66). -/
def State.block (s : State) (c : CoreId) (t : Nat) (f : Frame) (st : TState) (mask : BitVec 32) (all : Bool)
    (timer : Option Nat) (rd : Option Nat) : State :=
  let s1 := s.setFrame c f.next
  let x := s1.task t
  (s1.setTask t { x with state := st, flags := x.flags &&& 0x7FFFFFFF#32, mask := mask, all := all, timer := timer, dueAt := none,
                         resumeRd := rd }).dropWorker c

/-- WAITEV (R56). -/
def execWaitev (c : CoreId) (rd ra rb : Reg) (all : Bool) (s : State) : Out :=
  .next (s.onCore c fun s => s.withTask c fun t f s =>
    s.orMarked t (
      let m := (f.gr rb).setWidth 32
      if m = 0 ∨ m.getLsbD 31 then s.raise c f 4 0 0 false else
      let x := s.task t
      let n := (f.gr ra).toNat % 2 ^ 32
      if waitHolds { x with mask := m, all := all } ∨ n = 0 then s.setFrame c (f.setG rd (x.flags.setWidth 64)).next
      else s.block c t f .waiting m all (if n = 0xFFFFFFFF then none else some (s.tick + n)) (some rd)))

/-- SLEEP (R57). -/
def execSleep (c : CoreId) (ra : Reg) (s : State) : Out :=
  .next (s.onCore c fun s => s.withTask c fun t f s =>
    s.orMarked t (
      let n := (f.gr ra).toNat % 2 ^ 32
      if n = 0 then s.setFrame c f.next
      else if n = 0xFFFFFFFF then s.block c t f .parked 0 false none none
      else s.block c t f .waiting 0 false (some (s.tick + n)) none))

/-- TIMER_EXPIRY (R110): at the edge the condition is sampled, and TIMEOUT set where it does not hold. -/
def execTimerExpiry (t : SlotId) (s : State) : Out :=
  .next (s.unreset fun s =>
    let x := s.task t
    match x.state, x.timer with
    | .waiting, some e =>
      if e ≤ s.tick ∧ !waitHolds x then s.setTask t { x with flags := x.flags ||| 0x80000000#32 } else s
    | _, _ => s)

/-- The due timer that the Pump retires next: the lowest expiry tick, then the lowest slot (R109). -/
def State.dueTimer (s : State) : Option (Nat × Nat) :=
  s.sched.tasks.foldl
    (fun best e =>
      match e.2.timer with
      | some d =>
        if e.2.state = .waiting ∧ d ≤ s.tick then
          match best with
          | none => some (d, e.1)
          | some b => if d < b.1 then some (d, e.1) else best
        else best
      | none => best) none

/-- TIMER_RETIREMENT (R109, R110): the due timer retires; the task gets TIMEOUT and becomes READY, and PMP_LATE keeps the worst lateness. -/
def execTimerRetirement (s : State) : Out :=
  .next (s.unreset fun s =>
    match s.dueTimer with
    | some (_, t) =>
      let x := s.task t
      let late := min (s.now - x.dueAt.getD s.now) (2 ^ 32 - 1)
      ((s.setFld F.PMP_LATE_MAX_CC (max (s.fld F.PMP_LATE_MAX_CC) late)).setTask t { x with flags := x.flags ||| 0x80000000#32 }).makeReady t
    | none => s)

/-- AFFINITY_HOLD_EXPIRY (R104): a task held on an affinity list for longer than HOLD moves to its priority queue. -/
def execAffinityHoldExpiry (w : WorkerId) (t : SlotId) (s : State) : Out :=
  .next (s.unreset fun s =>
    let x := s.task t
    if (s.affList w).contains t.val ∧ s.now - x.readyAt > s.fld F.PMP_AFFHOLD_HOLD then
      (s.setAff w ((s.affList w).filter (· ≠ t.val))).setPrioq x.cls x.prio (s.prioq x.cls x.prio ++ [t.val])
    else s)

/-- SLOT_WAIT_EXPIRY (R99). -/
def execSlotWaitExpiry (s : State) : Out := .next (s.unreset fun s => s.latchSlotWaits)

/-- HW_REQUESTER_SLOT_GRANT (R99): the oldest waiting requests that find a slot get it, before SPAWN. -/
def execHwRequesterSlotGrant (s : State) : Out := .next (s.unreset fun s => s.serveHw)

/-- A write of PMP_WOFFm: a worker taken offline has its affinity list drained (R106, R122). -/
def State.writeWoff (s : State) (m v : Nat) : State :=
  let v := if m = 3 then v % 2 ^ 24 else v
  let s1 := s.setFld (F.PMP_WOFF_OFF m) v
  (List.range 64).foldl (fun s k => if bit v k then s.drainAff (64 * m + k) else s) s1

/-- PMP_WOFF_WRITE (R106). -/
def execPmpWoffWrite (m : Fin 4) (v : Word) (s : State) : Out := .next (s.unreset fun s => s.writeWoff m v.toNat)

end Sys2Proof.Machine
end

