-- ==== Sys2Proof/Machine/Keys.lean ====
section
/-!
DEFINITION. Sys2Proof/Machine/Keys.lean: the KEY instructions (R65, R178, R218 to R220, R223, R227 to R230, R235 to R238, R532).
-/

namespace Sys2Proof.Machine

/-- The synchronous functions answer nothing: tamper lock, or a running scrub (R65). -/
def State.keysBarred (s : State) : Bool := s.locked || decide (s.fld F.KST_STATUS_SCRUB = 1)

/-- A KEY instruction of the task on core `c`: `ra` holds a slot number and nothing else (R65). A synchronous function answers nothing
while it is barred, and then raises no exception. -/
def State.withKey (s : State) (c : CoreId) (sync : Bool) (ra : Reg) (k : Nat → Nat → Frame → State → State) : State :=
  s.withTask c fun t f s =>
    let a := (f.gr ra).toNat
    if a / 2 ^ 14 ≠ 0 ∧ !(sync && s.keysBarred) then s.raise c f 4 0 0 false else k t a f s

/-- A polder slot that polder `n` holds (R65). -/
def State.holdsKey (s : State) (n k : Nat) : Bool :=
  (s.key k).allocated && !(s.key k).device && decide ((s.key k).owner = n) && decide (k < 16368)

/-- KINFO (R65, R219). -/
def execKinfo (c : CoreId) (rd ra : Reg) (s : State) : Out :=
  .next (s.onCore c fun s => s.withKey c true ra fun t k f s =>
    let v := if s.keysBarred ∨ !s.holdsKey (s.task t).polder k then 0 else (s.key k).attrWord s.tick
    s.setFrame c (f.setG rd v).next)

/-- The lowest-numbered free polder slot, within the polder's quota (R218, R239). -/
def State.freeKey (s : State) (n : Nat) : Option Nat :=
  if s.keysOf n ≥ min (s.fld (F.KST_QUOTA_LIMIT n)) 16368 then none
  else findFrom (fun k => !(s.key k).allocated) 16368 0

/-- KALLOC (R65, R218, R239). -/
def execKalloc (c : CoreId) (rd rb : Reg) (s : State) : Out :=
  .next (s.onCore c fun s => s.withTask c fun t f s =>
    let b := (f.gr rb).toNat
    let none_ := (s.setFrame c (f.setG rd (BitVec.allOnes 64)).next)
    if s.keysBarred then none_
    else if b / 2 ≠ 0 then s.raise c f 4 0 0 false
    else if s.power.pwrFail then s
    else match s.freeKey (s.task t).polder with
      | none => none_
      | some k =>
        (s.setKey k { allocated := true, owner := (s.task t).polder, transient := bit b 0 }).setFrame c
          (f.setG rd (BitVec.ofNat 64 k)).next)

/-- Jobs that name a slot and run a customer function: their stop waits for the next YIELD (R178, R253). -/
def State.slotInMicro (s : State) (k : Nat) : Bool := s.liveJobs.any (fun e => s.inMicro e && (s.jobSlots e).contains k)

/-- KZERO (R65, R178): it retires once every job that names the slot has ended, and while PWR_FAIL_N is low it does not (R253, R500). -/
def execKzero (c : CoreId) (rd ra : Reg) (s : State) : Out :=
  .next (s.live fun s => s.withKey c true ra fun t k f s =>
    if s.keysBarred ∨ !s.holdsKey (s.task t).polder k then s.setFrame c (f.setG rd 0).next
    else if s.power.pwrFail then s
    else if s.slotInMicro k then s.endKeyJobs k
    else (s.zeroSlot k).setFrame c (f.setG rd 1).next)

/-- The ticks of a LIFE field, with unlimited above every number. -/
def lifeLe (new old : Nat) : Bool :=
  match lifeTicks new, lifeTicks old with
  | _, none => true
  | none, some _ => false
  | some a, some b => decide (a ≤ b)

/-- KATTR's test: the word differs from the current one only in ways that narrow (R220). -/
def narrows (noref : Bool) (cur new : Nat) : Bool :=
  let keep (hi lo : Nat) : Bool := decide (bits cur hi lo = bits new hi lo)
  keep 63 44 && keep 30 29 && decide (bits new 43 36 &&& bits cur 43 36 = bits new 43 36) &&
    (keep 35 34 || (decide (bits cur 35 34 = 1) && decide (bits new 35 34 = 0))) &&
    (keep 33 32 || (decide (bits cur 33 32 ≠ 0) && decide (bits cur 33 32 < bits new 33 32) && decide (bits new 33 32 ≤ 2))) &&
    (keep 31 31 || bit new 31) && (keep 28 0 || (!noref && lifeLe (bits new 28 0) (bits cur 28 0)))

/-- KATTR (R65, R220). -/
def execKattr (c : CoreId) (rd ra rb : Reg) (s : State) : Out :=
  .next (s.onCore c fun s => s.withKey c true ra fun t k f s =>
    let x := s.key k
    let cur := (x.attrWord s.tick).toNat
    let new := (f.gr rb).toNat
    if s.keysBarred ∨ !s.holdsKey (s.task t).polder k ∨ x.ty = 0 ∨ !narrows (s.fld F.EPC_STATUS_STATE = 0) cur new then
      s.setFrame c (f.setG rd 0).next
    else if s.power.pwrFail then s
    else
      let life := bits new 28 0
      let y := { x with usage := bits new 43 36, exportP := bits new 35 34, hmin := bits new 33 32, transient := bit new 31,
                        expiry := if life = bits cur 28 0 then x.expiry else (lifeTicks life).map (· + s.tick) }
      (s.setKey k y).setFrame c (f.setG rd 1).next)

/-! ## The asynchronous functions -/

/-- Checks 1 and 2 of R230, with HREQ 3 refused as R60 states. -/
def keyChecks12 (mbz : Bool) (l : List Byte) (denied : State → Bool) : JobM Unit := do
  need mbz 0x12
  need (decide (hdrHreq l < 3)) 0x13
  let s ← get
  need (!s.keysBarred) 0x15
  need (!(decide (s.lcs = 4) || denied s)) 0x14

/-- An attestation of a slot's public part, signed by DEV_ID (R227). -/
def attest (slot : Nat) (pub nonce : List Byte) : JobM (List Byte) := do
  let s ← get
  need (decide ((s.key 16383).ty ≠ 0)) 0x08
  let rnd ← drawM 30 32
  let unit := leBytes 8 (s.reg (F.LCS_UNIT_ID_ID 0).off).toNat ++ leBytes 8 (s.reg (F.LCS_UNIT_ID_ID 1).off).toNat
  let body := [0x4B, 0x41, 0x54, 0x54] ++ leBytes 2 1 ++ leBytes 2 slot ++ unit ++ leBytes 1 s.lcs ++
    leBytes 1 (s.fld F.EPC_STATUS_STATE) ++ List.replicate 6 0 ++ leBytes 8 ((s.key slot).attrWord s.tick).toNat ++
    fitLen 32 (Config.hash 0x12 32 [] [] pub) ++ fitLen 32 nonce ++ leBytes 8 s.tick ++ List.replicate 16 0
  pure (body ++ fitLen 4627 (Config.sign 0x13 0 (s.key 16383).secret body [] rnd))

/-- KPUB of slot 16,368: the calling polder's tenant DRBG (R235 to R238). A seed comes after every internal instance that is due and every tenant
request that waits (R237). -/
def tenantWork (e n : Nat) (d : KeyDesc) (m : Master) (ctrl : Word) : JobM JobOut := do
  let i := 32 + n
  let s ← get
  let inst := bit d.flags 2 && decide (d.cap = 0)
  need (inst || decide (1 ≤ d.cap ∧ d.cap ≤ 65536)) 0x17
  let pr := bit d.flags 1 || decide (s.fld F.RNG_CTRL_STRICT = 1)
  let g := s.drbg i
  if !inst then keyCheckW m ctrl d.addr d.cap
  let seed := inst || !g.seeded || pr || decide (g.calls ≥ s.fld F.RNG_TEN_RESEED_CALLS)
  if seed then
    if s.wellReady && s.internalDue.isNone && (s.ent.tenants.isEmpty || s.ent.tenants.contains e) then
      act (fun s => ({ s with ent := { s.ent with lastServed := n } }).reseed i)
    else if !inst && g.seeded && !pr && decide (g.calls < 2 ^ 32) then pure ()
    else if s.wellFailed then throw (.status 0x0B 0)
    else throw .entropy
  if inst then
    act (fun s => s.setDrbg i { s.drbg i with pers := d.nonce })
    pure {}
  else
    let s1 ← get
    let r := s1.generate i d.cap (if d.nonce.all (· = 0) then [] else d.nonce)
    set r.2
    pure { outlen := d.cap, writes := [(d.addr, r.1)] }

/-- Device slots whose public part a polder may read (R218). -/
def devicePub (k : Nat) : Bool := decide (16379 ≤ k ∧ k ≤ 16383)

/-- KPUB's work (R227, R230). -/
def kpubWork (e n slot : Nat) (l : List Byte) (m : Master) (ctrl : Word) : JobM JobOut := do
  let d := parseKey l
  keyChecks12 (d.mbz l && !hdrSv l && (decide (slot = 16368) || decide (bits d.flags 2 1 = 0))) l
    (fun s => decide (s.lcs = 3) && decide (slot < 16368))
  if slot = 16368 then tenantWork e n d m ctrl
  else
    let s ← get
    let x := s.key slot
    need ((s.ownsKey n slot || (devicePub slot && decide (x.ty ≠ 0))) && decide (x.ty ∈ [1, 2, 8])) 0x08
    let pub := x.pubPart
    let att := bit d.flags 0
    let total := pub.length + if att then 4755 else 0
    need (decide (total ≤ d.cap)) 0x04
    if att && !s.drbgReady 30 then throw .rnd
    if x.ty = 1 && decide (pubLenOf x.alg = 0) then engineWork (if x.alg < 0x20 then 0 else 1) none (some (max 1 x.hmin))
    if att then engineWork 0 (some (16383, 2)) (some 2)
    let st ← if att then attest slot pub d.nonce else pure []
    keyCheckW m ctrl d.addr total
    pure { outlen := total, writes := [(d.addr, pub ++ st)] }

/-- KIMP's work (R229, R230). -/
def kimpWork (e n slot : Nat) (l : List Byte) (m : Master) (ctrl : Word) : JobM JobOut := do
  let d := parseKey l
  keyChecks12 (d.mbz l && decide (bits d.flags 2 1 = 0)) l (fun _ => false)
  let s ← get
  need (s.canFill n slot) 0x08
  let w := hdrSlot l
  let wrap := s.key w
  let sv := hdrSv l
  let method := if sv then importMethod wrap else some 0
  need (!sv || ((s.ownsKey n w || (decide (w = 16382) && decide (wrap.ty ≠ 0))) && method.isSome)) 0x08
  let blob ← keyRead m ctrl d.addr d.cap
  let b := parseBlob blob
  need (sv || decide (b.method = 0)) 0x08
  let s ← get
  need (!sv || (bit wrap.usage (if method = some 1 then useWrap else useKemDec) && !wrap.expired s)) 0x09
  need (!(bit b.attr 30 && s.rangeHeld b.kid b.floor b.limit)) 0x09
  need (decide (80 ≤ d.cap) && b.headerOk blob (method.getD 0)) 0x12
  let g := granulesFor b.secLen b.pubLen (bit b.attr 30)
  need (s.heapRoom n g) 0x04
  if b.method ≥ 2 then engineWork 0 (some (w, s.effLevel n wrap.hmin 0)) (some (s.effLevel n wrap.hmin 0))
  match b.open wrap with
  | none => throw (.status 0x07 0)
  | some secret =>
    let x := slotOfAttr b.attr n s.tick (s.hardDefault n) secret b.pub g
    let p := hbsOfPub x.alg b.pub
    let y := if x.stateful then
        { x with p1 := p.1, p2 := p.2.1, levels := p.2.2, cursor := b.floor,
                 recA := floorRec 1 b.floor b.limit, floor := b.floor, limit := b.limit }
      else x
    setFill e slot y x.stateful
    pure {}

/-- KEXP's work (R228, R230). -/
def kexpWork (n slot : Nat) (l : List Byte) (m : Master) (ctrl : Word) : JobM JobOut := do
  let d := parseKey l
  keyChecks12 (d.mbz l && decide (bits d.flags 2 1 = 0)) l (fun s => decide (s.fld F.RNG_CTRL_TESTSRC = 1))
  let s ← get
  need (s.ownsKey n slot) 0x08
  let x := s.key slot
  let w := hdrSlot l
  let wrap := s.key w
  need (hdrSv l && s.ownsKey n w && (exportMethod wrap).isSome) 0x08
  let method := (exportMethod wrap).getD 1
  need (decide (x.exportP = 1) && !x.stateful && bit wrap.usage (if method = 1 then useWrap else useKemEnc) && !wrap.expired s &&
    !x.expired s) 0x09
  let total := blobLen method x.secret.length x.pub.length
  need (decide (total ≤ d.cap)) 0x04
  if !s.drbgReady 30 then throw .rnd
  if method ≥ 2 then engineWork 0 none none
  let rnd ← drawM 30 32
  keyCheckW m ctrl d.addr total
  pure { outlen := total, writes := [(d.addr, fitLen total (makeBlob x (x.attrWord s.tick) 0 0 method wrap rnd))] }

/-- The work of a KEY job, from its entry (R227, R531, R532). -/
def keyWork (e : Nat) : JobM JobOut := do
  let s ← get
  let j := s.job e
  let m := keyMaster j.worker j.polder
  let ctrl := ctrlOfJob s j 15
  if !j.granted then
    keyGranted m ctrl .read j.desc 128
    keyGranted m ctrl .write j.desc 8
  let l ← fetchDesc m ctrl e
  match j.opc with
  | 3 => kpubWork e j.polder j.subject l m ctrl
  | 4 => kimpWork e j.polder j.subject l m ctrl
  | _ => kexpWork j.polder j.subject l m ctrl

/-- A KEY job is worked on; one that must wait stays queued: for entropy, a tenant request among the tenants and any other job held back (R157,
R237); for an engine, until its completion is tried again (R231). -/
def State.runKey (s : State) (e : Nat) : State :=
  let r := (keyWork e).run.run s
  match r.1 with
  | .error .entropy =>
    let s1 := r.2
    if s1.ent.tenants.contains e then s1
    else { (s1.setJob e { s1.job e with since := s1.tick }) with ent := { s1.ent with tenants := s1.ent.tenants ++ [e] } }
  | x => { (r.2.conclude e x) with ent := { r.2.ent with tenants := r.2.ent.tenants.filter (· ≠ e) } }

/-- An asynchronous KEY function is issued (R62, R65): with no free entry the core stalls. No rule asks the descriptor's address at rb for an
alignment, and none is checked (DESIGN CHOICE, log entry 69). -/
def State.issueKey (s : State) (c : CoreId) (rd ra rb : Reg) (ev fn : Nat) : State :=
  s.withKey c false ra fun t k f s =>
    if ev = 31 then s.raise c f 4 0 0 false
    else match s.freeEntry with
      | none => s
      | some e =>
        let j := s.newJob c t 8 fn ev (f.gr rb).toNat k
        ((s.enqueue e j).setFrame c (f.setG rd (jobHandle e j.seq)).next).runKey e

/-- KPUB (R227, R230). -/
def execKpub (c : CoreId) (rd ra rb : Reg) (ev : Fin 32) (s : State) : Out :=
  .next (s.onCore c fun s => s.issueKey c rd ra rb ev 3)

/-- KIMP (R229, R230). -/
def execKimp (c : CoreId) (rd ra rb : Reg) (ev : Fin 32) (s : State) : Out :=
  .next (s.onCore c fun s => s.issueKey c rd ra rb ev 4)

/-- KEXP (R228, R230). -/
def execKexp (c : CoreId) (rd ra rb : Reg) (ev : Fin 32) (s : State) : Out :=
  .next (s.onCore c fun s => s.issueKey c rd ra rb ev 5)

end Sys2Proof.Machine
end

