-- ==== Sys2Proof/Machine/Entropy.lean ====
section
/-!
DEFINITION. Sys2Proof/Machine/Entropy.lean: the Well and the DRBGs (R232 to R238), the receipt designations (R239), and the ends
of a scrub and of a re-wrap (R225, R226).
-/

namespace Sys2Proof.Machine

/-! ## The Well (R232 to R234) -/

/-- Every DRBG is unseeded: it reseeds before any further output (R234, R238). -/
def State.unseedAll (s : State) : State :=
  { s with ent := { s.ent with drbg := s.ent.drbg.map (fun e => (e.1, { e.2 with seeded := false })) } }

/-- A held job has waited for the limit in FAILED (R238). -/
def State.stallDue (s : State) (e : Nat) : Bool :=
  let j := s.job e
  s.wellFailed && j.held && decide (j.since + s.fld F.RNG_STALL_LIMIT_TICKS ≤ s.tick)

/-- A held job at its limit completes with ENTROPY_FAILED, and so does a run whose receipt waits (R238). -/
def State.stallOne (s : State) (e : Nat) : State :=
  if !s.stallDue e then s
  else if (s.job e).cls = 9 then s.failRun e 0x0B 0
  else if (s.job e).st = .queued then s.finish e 0x0B 0 0 [] else s

/-- A tenant request has waited for its limit (R237). -/
def State.entropyDue (s : State) (e : Nat) : Bool :=
  let j := s.job e
  s.ent.tenants.contains e && decide (j.since + s.fld (F.PLD_ENTWAIT_TICKS j.polder) ≤ s.tick)

/-- A tenant request at its limit completes with ENTROPY_UNAVAILABLE (R237). -/
def State.entropyOne (s : State) (e : Nat) : State :=
  if s.entropyDue e then ({ s with ent := { s.ent with tenants := s.ent.tenants.filter (· ≠ e) } }).finish e 0x0A 0 0 [] else s

/-- Every wait for randomness whose limit has fallen due has ended, before entropy that comes later is given out (R111, R237, R238, R530). -/
def State.waitsDue (s : State) : State :=
  let s1 := s.liveJobs.foldl (fun s e => s.stallOne e) s
  s1.ent.tenants.foldl (fun s e => s.entropyOne e) s1

/-- STARTUP is entered over the sources not disabled (R233). -/
def State.startup (s0 : State) : State :=
  let s := s0.waitsDue
  let s1 := (((((s.setFld F.RNG_STATUS_STATE 1).setFld F.RNG_STATUS_READY 0).setFld F.RNG_STATUS_HEALTHY 0).setFld
    F.RNG_STATUS_EXCLUDED 0)).unseedAll
  { s1 with ent := { s1.ent with buf := 0, startBad := 0, readyBad := 0, katBad := false } }

/-- Requests of tenants that wait are looked at again (R237, R238). -/
def State.retryTenants (s : State) : State := s.ent.tenants.foldl (fun s e => s.runKey e) s

/-- FAILED is entered: nothing is delivered, and tenant requests that cannot be served complete at once (R233, R238). -/
def State.wellFails (s : State) : State :=
  let s1 := (s.setFld F.RNG_STATUS_STATE 3).setFld F.RNG_STATUS_READY 0
  ({ s1 with ent := { s1.ent with buf := 0 } }).waitsDue.retryTenants

/-- A write of RNG_CTRL.ENABLE (R233, R240). -/
def State.wellEnable (s : State) : State :=
  if s.fld F.RNG_CTRL_ENABLE = 1 then s else (s.setFld F.RNG_CTRL_ENABLE 1).startup

/-- RNG_ENABLE (R233). -/
def execRngEnable (s : State) : Out := .next (s.unreset fun s => s.wellEnable)

/-- RNG_RESTART (R233). -/
def execRngRestart (s : State) : Out := .next (s.unreset fun s => s.startup)

/-- A write of RNG_CTRL.TESTSRC: in MAKER only; clearing it enters STARTUP (R234). -/
def State.writeTestsrc (s : State) (v : Bool) : State :=
  if s.lcs ≠ 0 then s.setFld F.RNG_STATUS_CFG_ERR 1
  else
    let old := s.fld F.RNG_CTRL_TESTSRC
    let s1 := (s.setFld F.RNG_CTRL_TESTSRC (b2n v)).setFld F.RNG_STATUS_TEST (b2n v)
    if old = 1 ∧ !v then s1.startup else s1

/-- RNG_TESTSRC_WRITE (R234). -/
def execRngTestsrcWrite (v : Bool) (s : State) : Out := .next (s.unreset fun s => s.writeTestsrc v)

/-- Health test failures are counted (R240). -/
def State.countHealth (s : State) (rct apt : Nat) : State := (s.addFld F.RNG_HEALTH_RCT rct).addFld F.RNG_HEALTH_APT apt

/-- WELL_STARTUP_COMPLETE (R233): `failed` marks the sources that failed each health test over their 1,024 samples, `kat` that the
conditioner's known-answer test passed. READY comes with 512 bits of conditioned output. -/
def execWellStartupComplete (failed : StartupFailures) (kat : Bool) (s : State) : Out :=
  .next (s.unreset fun s =>
    if s.fld F.RNG_STATUS_STATE ≠ 1 then s else
    let on := 255 - s.fld F.RNG_SRC_CTRL_DISABLE
    let bad := (failed.rct ||| failed.apt).toNat &&& on
    let ok := on - bad
    let s0 := s.countHealth (popN 8 (failed.rct.toNat &&& on)) (popN 8 (failed.apt.toNat &&& on))
    let s1 := (s0.setFld F.RNG_STATUS_HEALTHY ok).setFld F.RNG_STATUS_EXCLUDED bad
    let s2 := if bad ≠ 0 ∨ !kat then s1.latchHw 19 else s1
    let s3 := { s2 with ent := { s2.ent with startBad := bad, katBad := !kat } }
    if kat ∧ popN 8 ok ≥ 4 then
      ({ s3 with ent := { s3.ent with buf := 4 } }.setFld F.RNG_STATUS_STATE 2).setFld F.RNG_STATUS_READY 1
    else s3.wellFails)

/-- The half blocks of the buffer that may hold a bit of one source's last 1,024 samples, with `h` sources delivering: a block takes 400 raw
bits, which the sources give in equal parts (R232; the equal parts are DEDUCED from their equal rates). -/
def spoilt (h : Nat) : Nat := 2 * cdiv (1024 * h) 400

/-- A source is excluded, and the conditioning blocks that hold its last samples are discarded (R232, R233). -/
def State.excludeSource (s : State) (k : Nat) : State :=
  let h := s.fld F.RNG_STATUS_HEALTHY
  if bit h k then
    let left := h - 2 ^ k
    let s0 := { s with ent := { s.ent with buf := s.ent.buf - spoilt (popN 8 h) } }
    let s1 := (s0.setFld F.RNG_STATUS_HEALTHY left).setFld F.RNG_STATUS_EXCLUDED (setBit (s.fld F.RNG_STATUS_EXCLUDED) k)
    if s.wellUp then
      let s2 := ({ s1 with ent := { s1.ent with readyBad := setBit s1.ent.readyBad k } }).latchHw 18
      if popN 8 left < 4 then s2.wellFails else s2
    else s1
  else s

/-- The repetition count test: 51 raw bits in a row are equal (R232). Bit 0 of `w` is the newest of a source's last 1,024 samples. -/
def rctFails (w : BitVec 1024) : Bool :=
  (List.range 974).any (fun i => decide (w.extractLsb' i 51 = 0) || decide (w.extractLsb' i 51 = BitVec.allOnes 51))

/-- The adaptive proportion test: in a window of 1,024 bits, 700 are equal to its first (R232; the test is that of SP 800-90B). -/
def aptFails (w : BitVec 1024) : Bool :=
  decide (700 ≤ ((List.range 1024).filter (fun i => w.getLsbD i == w.getLsbD 1023)).length)

/-- SOURCE_HEALTH_FAILURE (R232, R233): the tests on a source's last 1,024 raw bits. -/
def execSourceHealthFailure (k : Fin 8) (window : BitVec 1024) (s : State) : Out :=
  .next (s.unreset fun s =>
    let r := rctFails window
    let a := aptFails window
    if bit (s.fld F.RNG_STATUS_HEALTHY) k ∧ (r || a) then (s.countHealth (b2n r) (b2n a)).excludeSource k else s)

/-! ## DRBGs (R235 to R238) -/

/-- DRBG_RESEED (R235, R236): instance `i`, or the tenant instance of polder `i − 32`. -/
def execDrbgReseed (i : Fin 288) (s : State) : Out :=
  .next (s.unreset fun s => if s.wellUp ∧ s.seedDue i ∧ (i.val < 32 ∨ (s.drbg i).inst) then s.reseed i else s)

/-- ENTROPY_WAIT_EXPIRY (R237). The limit that counts is PLD_ENTWAIT as it stands when the wait is judged (DESIGN CHOICE, log entry 64). -/
def execEntropyWaitExpiry (e : SlotId) (s : State) : Out := .next (s.unreset fun s => s.entropyOne e)

/-- RNG_STALL_EXPIRY (R238). The limit that counts is RNG_STALL_LIMIT as it stands when the wait is judged (DESIGN CHOICE, log entry 64). -/
def execRngStallExpiry (e : SlotId) (s : State) : Out := .next (s.unreset fun s => s.stallOne e)

/-- The waiting tenant request served next: polders in turn after the one served last, each in order of arrival (R237). -/
def State.nextTenant (s : State) : Option Nat :=
  (findFrom (fun k => s.ent.tenants.any (fun e => decide ((s.job e).polder = (s.ent.lastServed + k) % 256))) 256 1).bind
    (fun k => s.ent.tenants.find? (fun e => decide ((s.job e).polder = (s.ent.lastServed + k) % 256)))

/-- ENTROPY_DELIVERY (R237): conditioned output for one seed has come. An internal instance that is due takes it, then a held KEY job, then the
next tenant's request whose limit has not passed. -/
def execEntropyDelivery (s : State) : Out :=
  .next (s.unreset fun s0 =>
    if !s0.wellUp then s0 else
    let s := ({ s0 with ent := { s0.ent with buf := max 3 s0.ent.buf } }).waitsDue
    match s.internalDue with
    | some i => s.reseed i
    | none =>
      match (s.jobQueue 8).find? (fun e => (s.job e).held) with
      | some e => s.runKey e
      | none =>
        match s.nextTenant with
        | some e => ({ s with ent := { s.ent with lastServed := (s.job e).polder } }).runKey e
        | none => s)

/-! ## Receipt designations (R239) -/

/-- A slot that may be designated for receipts (R239). -/
def State.rcptOk (s : State) (n k : Nat) : Bool :=
  let x := s.key k
  s.ownsKey n k && bit x.usage useSign && (decide (x.ty = 1) && (decide (x.alg = 0x12) || decide (x.alg = 0x13)) ||
    decide (x.ty = 2) && (isSlh x.alg || decide (x.alg = 0x80)))

/-- The designation staged for polder `n` comes into force. -/
def State.rcptApply (s : State) (n : Nat) : State :=
  match tget (fun _ => none) s.keys.rcptStaged n with
  | some (v, k) =>
    { s with keys := { s.keys with rcptStaged := tset (fun _ => none) s.keys.rcptStaged n none,
                                   rcptInForce := tset (fun _ => none) s.keys.rcptInForce n (if v then some k else none) } }
  | none => s

/-- Receipt work of an older designation of polder `n` still runs (R239). -/
def State.rcptBusy (s : State) (n : Nat) : Bool :=
  s.opu.runs.any (fun r => r.2.receipt && decide (r.2.polder = n) && decide (r.2.rslot ≠ tget (fun _ => none) s.keys.rcptInForce n))

/-- PENDING clears once the designation is in force and the last work under the older one has ended (R239). -/
def State.rcptSettle (s : State) (n : Nat) : State :=
  if (tget (fun _ => none) s.keys.rcptStaged n).isNone ∧ !s.rcptBusy n then s.setFld (F.KST_RCPT_PENDING n) 0 else s

/-- A write of KST_RCPT[n] (R239): staged, or in force at once in NOREF; a slot that may not be designated is refused. -/
def State.writeRcpt (s : State) (n : Nat) (v : Bool) (k : Nat) : State :=
  if v ∧ !s.rcptOk n k then s.setFld F.KST_STATUS_CFG_ERR 1 else
  let s1 := (((s.setFld (F.KST_RCPT_V n) (b2n v)).setFld (F.KST_RCPT_SLOT n) k).setFld (F.KST_RCPT_PENDING n) 1)
  let s2 := { s1 with keys := { s1.keys with rcptStaged := tset (fun _ => none) s1.keys.rcptStaged n (some (v, k)) } }
  if s.fld F.EPC_STATUS_STATE = 0 then (s2.rcptApply n).rcptSettle n else s2

/-- KST_RCPT_WRITE (R239); held while PWR_FAIL_N is low (R500). -/
def execKstRcptWrite (n : PolderId) (valid : Bool) (k : SlotId) (s : State) : Out :=
  .next (s.unreset fun s => if s.power.pwrFail then s.holdReg (F.KST_RCPT_V n).off (b2n valid * 2 ^ 63 + k) else s.writeRcpt n valid k)

/-- RECEIPT_SLOT_STAGING: a tick edge, at which staged designations come into force while the counter moves (R239). -/
def execReceiptSlotStaging (s : State) : Out :=
  .next (s.unreset fun s =>
    if s.counting then
      (s.keys.rcptStaged.map (·.1)).foldl (fun s n => (s.rcptApply n).rcptSettle n) s
    else s)

/-! ## Scrub and re-wrap (R225, R226) -/

/-- SCRUB_COMPLETE (R225). -/
def execScrubComplete (s : State) : Out :=
  .next (s.unreset fun s =>
    if s.fld F.KST_STATUS_SCRUB = 1 then (s.setFld F.KST_STATUS_SCRUB 0).setFld F.TMP_STATUS_ZEROISING 0 else s)

/-- REWRAP_COMPLETE (R226): every record is wrapped under the key of the backup mode in force. -/
def execRewrapComplete (s : State) : Out :=
  .next (s.unreset fun s =>
    if s.fld F.KST_STATUS_REWRAP = 1 ∧ !s.power.pwrFail then
      let m := decide (s.fld F.EMB_CFG_MODE = 1)
      let slots := s.keys.slots.map (fun e => (e.1, { e.2 with keyB := m }))
      ({ s with keys := { s.keys with slots := slots, checkB := m } }).setFld F.KST_STATUS_REWRAP 0
    else s)

end Sys2Proof.Machine
end

