-- ==== Sys2Proof/Machine/Store.lean ====
section
/-!
DEFINITION. Sys2Proof/Machine/Store.lean: class ZE: the compression lanes (R338 to R344), the store controller's jobs (R301 to R308,
R324 to R326), and the store's own work: sealing, migration, retention and drops (R310 to R323).
-/

namespace Sys2Proof.Machine

/-! ## Compression (R341 to R344) -/

/-- A compression job starts on the lowest-numbered free lane, in order of arrival (R343). -/
def State.laneJob (s : State) (e opc : Nat) (work : Master → ZeDesc → JobM JobOut) : State :=
  let j := s.job e
  if j.st = .queued ∧ j.cls = 5 ∧ j.opc = opc ∧ (s.jobQueue 5).find? (fun x => decide ((s.job x).opc ≤ 2) && !s.halted (s.job x).polder) = some e then
    match s.engineFor 5 with
    | none => s
    | some k =>
      let m : Master := { mcls := 7, unit := k, acts := [j.polder] }
      let s1 := (s.dequeue e).setJob e { j with st := .running, engine := some k }
      s1.doJob e (do
        let r ← zeChecks m opc e
        need (decide (r.2.aLen ≤ 16777216)) 0x17
        work m r.2)
  else s

/-- The flush points in a flush list (R341). -/
def parseFlush (l : List Byte) : List (Nat × Bool) :=
  (List.range (l.length / 4)).map (fun i => let w := leAt l (4 * i) 4; (w % 2 ^ 31, bit w 31))

/-- A job's input bytes are noted for CMP_BYTES. -/
def noteInput (e n : Nat) : JobM Unit := act (fun s => s.setJob e { s.job e with subject := n })

/-- ZCOMP (R341, R342). -/
def execZcomp (e : SlotId) (s : State) : Out :=
  .next (s.unreset fun s => s.laneJob e 0x01 fun m d => do
    let ctrl := ctrlOfJob s (s.job e) 15
    let b ← readOp m ctrl d.bAddr d.bLen
    let fl := parseFlush b
    need (decide (d.bLen % 4 = 0) && flushOk d.aLen 0 fl) 0x12
    let a ← readOp m ctrl d.aAddr d.aLen
    noteInput e a.length
    let out := dbsEncode (bit d.mode 0) fl a
    need (decide (out.length ≤ d.cap)) 0x04
    checkOut m ctrl d.out out.length
    pure { outlen := out.length, writes := [(d.out, out)] })

/-- ZDECOMP (R340, R342). -/
def execZdecomp (e : SlotId) (s : State) : Out :=
  .next (s.unreset fun s => s.laneJob e 0x02 fun m d => do
    let ctrl := ctrlOfJob s (s.job e) 15
    let a ← readOp m ctrl d.aAddr d.aLen
    noteInput e a.length
    let r := dbsDecode (a.length / 8 + 1) true {} a []
    need (decide (r.2.length ≤ d.cap)) 0x04
    need (decide (r.1 ≠ .malformed)) 0x12
    need (decide (r.1 ≠ .short)) 0x02
    checkOut m ctrl d.out r.2.length
    pure { status := if r.1 = .truncated then 1 else 0, outlen := r.2.length,
           writes := if r.2.isEmpty then [] else [(d.out, r.2)] })

/-- COMPRESSION_LANE_FAULT (R344): the lane goes offline, and its job runs once again unless a reset is due. -/
def execCompressionLaneFault (k : Fin 8) (cause : BitVec 8) (s : State) : Out :=
  .next (s.unreset fun s =>
    match s.jobOn 5 k with
    | none => s
    | some e =>
      let j := s.job e
      let s1 := s.latch 10 (ctrlOfJob s j 10) j.coord
      let s2 := if s.fld F.CMP_FAULT_V = 0 then
          (((s1.setFld F.CMP_FAULT_V 1).setFld F.CMP_FAULT_CAUSE cause.toNat).setFld F.CMP_FAULT_LANE k).setFld F.CMP_FAULT_ENTRY e
        else s1
      let on := s2.fld F.CMP_ONLINE_ONLINE
      let s3 := s2.setFld F.CMP_ONLINE_ONLINE (if bit on k then on - 2 ^ k.val else on)
      if s.bringsReset 10 then s3.awaitReset e
      else if j.retried then s3.finish e 0x16 0xFFFF 0 []
      else s3.requeue e)

/-! ## Tables -/

/-- TBL_CREATE (R301). -/
def execTblCreate (e : SlotId) (s : State) : Out :=
  .next (s.unreset fun s => s.storeJob e 0x40 fun d => do
    let j := s.job e
    let m := scMaster j.polder
    let ctrl := ctrlOfJob s j 15
    need (decide (d.aLen ≤ 64 + 8 * 256)) 0x12
    need (decide (2 ≤ d.cap)) 0x04
    let a ← readOp m ctrl d.aAddr d.aLen
    let s1 ← get
    need (tblDescOk s1 j.polder a) 0x12
    let mine := (s1.tablesLive.filter (fun x => decide (x.2.polder = j.polder))).length
    need (decide (s1.tablesLive.length < 4096) && decide (mine < min 4096 (s1.fld (F.COL_QUOTA_T_LIMIT j.polder)))) 0x04
    checkOut m ctrl d.out 2
    match findFrom (fun t => !(s1.table t).live) 4096 0 with
    | none => throw (.status 0x04 0)
    | some t =>
      act (fun s => (s.setTable t { polder := j.polder, desc := a }).setJob e { s.job e with slotBegun := true })
      pure { outlen := 2, writes := [(d.out, leBytes 2 t)] })

/-- TBL_DROP (R323): staged as a generation; a second drop of the table is MALFORMED. The job waits. -/
def execTblDrop (e : SlotId) (s : State) : Out :=
  .next (s.unreset fun s => s.storeJob e 0x41 fun d => do
    let t ← needTable e d true
    let s1 ← get
    let x := s1.table t
    need (!x.staged) 0x12
    let noref := decide (s1.fld F.EPC_STATUS_STATE = 0)
    act (fun s => (s.setTable t { x with staged := true, dropJob := some e.val, dropping := noref, noref := noref,
                                         stagedAt := s.tick, dropSeq := (s.job e).seq }).setJob e
      { s.job e with wait := some (t, 0), engine := none })
    throw .wait)

/-- The column address table and the column data of an APPEND, as the elements' slots (R306). -/
def readColumns (m : Master) (ctrl : Word) (x : Table) (count : Nat) : List Byte → Nat → JobM (List (List Byte))
  | _, 0 => pure []
  | l, n + 1 => do
    let c := x.ncol - (n + 1)
    let col ← readOp m ctrl (leAt l (8 * c) 8) (count * slotWidth (x.ty c))
    let rest ← readColumns m ctrl x count l n
    pure (col :: rest)

/-- A column's elements are legal: bools are 0 or 1, strings at most 64 bytes (R306). -/
def columnOk (ty count : Nat) (l : List Byte) : Bool :=
  if ty = 12 then l.all (fun b => decide (b.toNat < 2))
  else if ty = 13 then (List.range count).all (fun i => decide (leAt l (65 * i) 1 ≤ 64))
  else true

/-- A segment opens in a table, if granules and quota allow (R308, R310). -/
def openSegment (t : Nat) : JobM Unit := do
  let s ← get
  let x := s.table t
  if x.next ≥ 33554432 then
    act (fun s => s.setTable t { x with full := true })
    throw (.status 0x04 0)
  let needs := x.openNeeds
  match s.granAllocs false x.polder needs with
  | some (l, s1) =>
    if s.granHbm x.polder + needs.sum ≤ s.fld (F.COL_QUOTA_H_LIMIT x.polder) then
      let w := tblWindow x.desc
      let g : Seg := { num := x.next, openedAt := s.tick, plain := l,
                       win := if w = 0 ∨ s.fld F.EPC_STATUS_STATE = 0 then none else some (s.tick / w) }
      set (s1.setTable t { x with segs := x.segs ++ [g], next := x.next + 1 })
    else
      set (s.incFld F.COL_ERRCNT_APPEND_FULL)
      throw (.status 0x04 0)
  | none =>
    set (s.incFld F.COL_ERRCNT_APPEND_FULL)
    throw (.status 0x04 0)

/-- A dstr element of its 65-byte slot (R306). -/
def slotStr (l : List Byte) (i : Nat) : List Byte := bytesAt l (65 * i + 1) (leAt l (65 * i) 1)

/-- The bytes of an open dstr column's header and dictionary (R314, entry 46). -/
def State.openDictBytes (s : State) (g : Seg) (c : Nat) : List Byte :=
  let a := g.colBase c + openDict
  let n := s.load (a + 12) 4
  let o := s.bytes (a + 192) (4 * (n + 1))
  s.bytes a (192 + 4 * (n + 1) + leAt o (4 * n) 4)

/-- The strings of an open dstr column, in code order; none before its first row. -/
def State.openStrings (s : State) (g : Seg) (c : Nat) : List (List Byte) :=
  if g.rows = 0 then [] else
  let l := s.openDictBytes g c
  let h := parseCol l
  let h13 := { h with ty := 13 }
  (List.range h.dictLen).map (strAt l h13)

/-- The bytes an APPEND writes for one column from row `g.rows` on, as addresses with bytes (R306, R314). -/
def State.appendWrites (s : State) (x : Table) (g : Seg) (c : Nat) (col : List Byte) (from_ n : Nat) : List (Nat × List Byte) :=
  if x.ty c = 13 then
    let strs := (List.range n).map (fun i => slotStr col (from_ + i))
    let d := strDict (s.openStrings g c ++ strs)
    [(g.plainAt x c g.rows, strs.flatMap (fun y => leBytes 2 (d.findIdx (· = y)))),
     (g.colBase c + openDict, leBytes 12 0 ++ leBytes 4 d.length), (g.colBase c + openDict + 192, strDictBytes d)]
  else
    let w := natWidth (x.ty c)
    [(g.plainAt x c g.rows, bytesAt col (w * from_) (w * n))]

/-- Checked writes of the store controller, one after another. -/
def scStores (n : Nat) (ctrl : Word) : List (Nat × List Byte) → JobM Unit
  | [] => pure ()
  | (a, l) :: t => do
    scStore n ctrl a l
    scStores n ctrl t

/-- Rows `from_` to `from_ + n - 1` of the columns are written at the end of segment `num` of a table (R306, R307). -/
def appendPart (e t num : Nat) (cols : List (List Byte)) (from_ n : Nat) : JobM Unit := do
  if n = 0 then return ()
  let s ← get
  let x := s.table t
  match x.seg num with
  | none => throw (.status 0x04 0)
  | some g =>
    scStores x.polder (ctrlOfJob s (s.job e) 15)
      ((List.range x.ncol).flatMap (fun c => s.appendWrites x g c (cols.getD c []) from_ n))
    let ep := (List.range n).map (fun i => leAt (cols.getD 1 []) (8 * (from_ + i)) 8)
    let g1 := { g with rows := g.rows + n, hidden := g.hidden ++ [(e, g.rows, n)], closing := decide (g.rows + n = 65536),
                       emin := ep.foldl min (if g.rows = 0 then ep.headD 0 else g.emin), emax := ep.foldl max g.emax }
    act (fun s => (s.setTable t (x.setSeg g1)).setJob e { s.job e with slotBegun := true })

/-- An APPEND to a table that was accepted before an edge is still to be performed: it lands in the closing segment (R310). -/
def State.appendBefore (s : State) (t edge : Nat) : Bool :=
  s.jobs.tab.any (fun e => (decide (e.2.st = .queued) || decide (e.2.st = .frozen)) && decide (e.2.cls = 5) && decide (e.2.opc = 0x42) &&
    decide (e.2.since < edge) && decide (s.jobTable e.1 = some t))

/-- The open segment of a table closes once the edge that ends its window has come, by a count, and what was accepted before has been performed (R310). -/
def State.windowDue (s : State) (t now : Nat) : State :=
  let x := s.table t
  let w := tblWindow x.desc
  match x.openSeg with
  | some g =>
    match g.win with
    | some k => if w ≠ 0 ∧ s.fld F.EPC_STATUS_STATE ≠ 0 ∧ (k + 1) * w ≤ now ∧ !s.appendBefore t ((k + 1) * w) then s.closeSeg t else s
    | none => s
  | none => s

/-- The open segment of a table that takes rows. -/
def Table.taking (x : Table) : Option Seg := x.segs.find? (fun g => decide (g.st = .opened) && !g.closing)

/-- `count` rows, their columns as elements' slots, are placed at the end of a table for a job: the segment and the row of the first (R306, R307). -/
def placeRows (e t count : Nat) (cols : List (List Byte)) : JobM (Nat × Nat) := do
  let s ← get
  let x := s.table t
  let old := match x.taking with
    | some g => (g.num, g.rows)
    | none => (x.next, 65536)
  let here := min (65536 - old.2) count
  if here < count then openSegment t
  appendPart e t old.1 cols 0 here
  appendPart e t x.next cols here (count - here)
  pure (old.1, if here = 0 then 0 else old.2)

/-- The elements an APPEND names are legal for its table (R306). -/
def Table.columnsOk (x : Table) (count : Nat) (cols : List (List Byte)) : Bool :=
  (List.range x.ncol).all (fun c => columnOk (x.ty c) count (cols.getD c []))

/-- APPEND (R306 to R308); one accepted after the edge of a window opens a new segment (R310). -/
def execAppend (e : SlotId) (s : State) : Out :=
  .next (s.unreset fun s => s.storeJob e 0x42 fun d => do
    let j := s.job e
    let m := scMaster j.polder
    let ctrl := ctrlOfJob s j 15
    let t ← needTable e d true
    act (fun s => s.windowDue t j.since)
    let s1 ← get
    let x := s1.table t
    need (!x.late j) 0x16
    need (decide (1 ≤ d.count) && decide (d.count ≤ 4096)) 0x17
    need (decide (d.aLen = 8 * x.ncol)) 0x12
    need (decide (8 ≤ d.cap)) 0x04
    let at_ ← readOp m ctrl d.aAddr d.aLen
    need ((List.range x.ncol).all (fun c => decide (leAt at_ (8 * c) 8 < 2 ^ 48))) 0x12
    let cols ← readColumns m ctrl x d.count at_ x.ncol
    need (x.columnsOk d.count cols) 0x12
    need (!x.full) 0x04
    checkOut m ctrl d.out 8
    let r ← placeRows e t d.count cols
    pure { outlen := 8, writes := [(d.out, leBytes 4 r.1 ++ leBytes 2 r.2 ++ [0, 0])] })

/-- TBL_SEAL (R310, R311): OK at once with no open segment; otherwise the segment closes and the job waits for it. -/
def execTblSeal (e : SlotId) (s : State) : Out :=
  .next (s.unreset fun s => s.storeJob e 0x43 fun d => do
    let t ← needTable e d true
    let s1 ← get
    let x := s1.table t
    need (!x.late (s.job e)) 0x16
    match x.openSeg with
    | none => pure {}
    | some g =>
      act (fun s => (s.closeSeg t).setJob e { s.job e with wait := some (t, g.num + 1), engine := none })
      throw .wait)

/-! ## Information, export, import (R324 to R326) -/

/-- A segment record (R324). -/
def segRecord (x : Table) (g : Seg) : List Byte :=
  let keep := decide (g.st ≠ .dropped)
  let dig := fun (l : List Byte) => if keep then fitLen 32 l else List.replicate 32 (0 : Byte)
  leBytes 4 g.num ++ leBytes 1 g.st.code ++ leBytes 1 (b2n (decide (g.st = .archived))) ++ [0, 0] ++ leBytes 4 g.rows ++ [0, 0, 0, 0] ++
    leBytes 8 g.emin ++ leBytes 8 g.emax ++ leBytes 8 g.openedAt ++ leBytes 8 g.sealedAt ++ dig g.digest ++
    (List.range x.ncol).flatMap (fun c => dig (g.digests.getD c []))

/-- SEG_INFO (R324). -/
def execSegInfo (e : SlotId) (s : State) : Out :=
  .next (s.unreset fun s => s.storeJob e 0x44 fun d => do
    let t ← needTable e d false
    let s1 ← get
    let x := s1.table t
    match x.seg d.segment with
    | none => throw (.status 0x12 0)
    | some g =>
      let out := segRecord x g
      need (decide (out.length ≤ d.cap)) 0x04
      checkOut (scMaster x.polder) (ctrlOfJob s (s.job e) 15) d.out out.length
      pure { outlen := out.length, writes := [(d.out, out)] })

/-- SEG_EXPORT (R325). -/
def execSegExport (e : SlotId) (s : State) : Out :=
  .next (s.unreset fun s => s.storeJob e 0x45 fun d => do
    let t ← needTable e d false
    let s1 ← get
    let x := s1.table t
    let ctrl := ctrlOfJob s (s.job e) 15
    match x.seg d.segment with
    | none => throw (.status 0x12 0)
    | some g =>
      need (decide (d.column < x.ncol)) 0x12
      need (decide (g.st = .closedS) || decide (g.st = .archived)) 0x12
      let c := g.enc.getD d.column ([], 0)
      need (decide (c.2 ≤ d.cap)) 0x04
      let out ← readOp (scMaster x.polder) ctrl (c.1.headD 0) c.2
      checkOut (scMaster x.polder) ctrl d.out out.length
      pure { outlen := out.length, writes := [(d.out, out)] })

/-- TBL_INFO (R324). -/
def execTblInfo (e : SlotId) (s : State) : Out :=
  .next (s.unreset fun s => s.storeJob e 0x47 fun d => do
    let t ← needTable e d false
    let s1 ← get
    let x := s1.table t
    let kept := x.segs.filter (fun g => decide (g.st ≠ .dropped))
    let low := match kept with | g :: _ => g.num | [] => x.next
    let gr := kept.flatMap (fun g => g.granules)
    let out := leBytes 4 low ++ leBytes 1 (b2n x.full + 2 * b2n x.dropping) ++ leBytes 3 0 ++ leBytes 4 x.next ++
      leBytes 4 ((x.openSeg.map (fun g => g.num)).getD (2 ^ 32 - 1)) ++
      leBytes 8 ((gr.filter (fun a => decide (a < 0x2400000000))).length) ++
      leBytes 8 ((gr.filter (fun a => decide (0x2400000000 ≤ a))).length) ++ List.replicate 32 (0 : Byte) ++ x.desc
    need (decide (out.length ≤ d.cap)) 0x04
    checkOut (scMaster x.polder) (ctrlOfJob s (s.job e) 15) d.out out.length
    pure { outlen := out.length, writes := [(d.out, out)] })

/-- The concatenated column segments of an import, cut apart (R326). -/
def cutColumns : Nat → List Byte → Option (List (List Byte))
  | 0, l => if l.isEmpty then some [] else none
  | n + 1, l =>
    let k := colEnd (parseCol l)
    if k < 192 ∨ l.length < k then none else (cutColumns n (l.drop k)).map (fun r => l.take k :: r)

/-- The epoch column's values agree with EPOCH_MIN and EPOCH_MAX (R326). -/
def epochOk (l : List Byte) : Bool :=
  let h := parseCol l
  let vs := (List.range (blockCount h.rows)).flatMap (fun i => (colBlock l h i).getD [])
  vs.isEmpty || (decide (vs.foldl min (vs.headD 0) = h.emin) && decide (vs.foldl max 0 = h.emax))

/-- The column segments are written into fresh granules (R318, R326). -/
def writeColumns (n : Nat) (ctrl : Word) : List (List Nat × List Byte) → JobM Unit
  | [] => pure ()
  | (g, l) :: t => do
    scStore n ctrl (g.headD 0) l
    writeColumns n ctrl t

/-- SEG_IMPORT (R326); it waits for what its digests need (R193, R534, R537). -/
def execSegImport (e : SlotId) (s : State) : Out :=
  .next (s.unreset fun s => if !s.hwDigest (s.job e).polder then s else s.storeJob e 0x46 fun d => do
    let j := s.job e
    let ctrl := ctrlOfJob s j 15
    let t ← needTable e d true
    let s1 ← get
    let x := s1.table t
    need (!x.late j) 0x16
    let a ← readOp (scMaster x.polder) ctrl d.aAddr d.aLen
    match cutColumns x.ncol a with
    | none => throw (.status 0x12 0)
    | some cols =>
      let hs := cols.map parseCol
      let h0 := hs.headD (parseCol [])
      let never := decide (x.segs = []) && decide (x.next = 0)
      need (x.openSeg.isNone && (List.range x.ncol).all (fun c => colValid (cols.getD c []) c (x.ty c)) &&
        hs.all (fun h => decide (h.seg = h0.seg) && decide (h.rows = h0.rows) && decide (h.emin = h0.emin) && decide (h.emax = h0.emax)) &&
        (never || decide (h0.seg = x.next)) && decide (h0.seg < 33554432) &&
        (never || decide (hs.map (fun h => h.prev) = x.prevs)) && epochOk (cols.getD 1 [])) 0x12
      let s2 ← get
      let needs := cols.map (fun l => cdiv l.length granBytes)
      match s2.granAllocs false x.polder needs with
      | none => throw (.status 0x04 0)
      | some (gs, s3) =>
        need (decide (s2.granHbm x.polder + needs.sum ≤ s2.fld (F.COL_QUOTA_H_LIMIT x.polder))) 0x04
        set s3
        writeColumns x.polder ctrl (gs.zip cols)
        let digs := cols.map sha3
        let g : Seg := { num := h0.seg, st := .closedS, rows := h0.rows, openedAt := s.tick, sealedAt := s.tick, emin := h0.emin,
                         emax := h0.emax, enc := (gs.zip cols).map (fun p => (p.1, p.2.length)), digests := digs, digest := sha3 digs.flatten }
        act (fun s => (s.setTable t { x with segs := x.segs ++ [g], next := h0.seg + 1,
                                             anchors := if never then hs.map (fun h => h.prev) else x.anchors }).setJob e
          { s.job e with slotBegun := true })
        pure {})

/-! ## Sealing (R310 to R313) -/

/-- SEGMENT_WINDOW_CLOSE (R310): the open segment's window has ended. -/
def execSegmentWindowClose (t : Fin 4096) (s : State) : Out :=
  .next (s.unreset fun s => s.windowDue t s.tick)

/-- The elements of one block of a column of an open segment, `none` where their read meets an uncorrectable error (R313). -/
def State.plainBlock (s : State) (x : Table) (g : Seg) (c i : Nat) : Option (List Nat) :=
  let w := natWidth (x.ty c)
  let n := rowsOf g.rows i
  let a := g.plainAt x c (4096 * i)
  if (s.poisoned a (n * w)).isSome then none else some (unpack (8 * w) n (s.load a (n * w)))

/-- A column of a segment, encoded (R311, R312). -/
def State.sealColumn (s : State) (x : Table) (g : Seg) (c : Nat) : List Byte :=
  let raw := (List.range (blockCount g.rows)).map (fun i => (s.plainBlock x g c i, rowsOf g.rows i))
  let prev := x.prevs.getD c []
  if x.ty c = 13 then
    let d := s.openStrings g c
    sealStrings c (tblEnc x.desc c) g.num g.rows g.emin g.emax prev
      (raw.map (fun b => (b.1.map (fun vs => vs.map (fun v => d.getD v [])), b.2)))
  else sealNumeric c (x.ty c) (tblEnc x.desc c) g.num g.rows g.emin g.emax prev raw

/-- Blocks of a segment that are lost, as (column, block) (R313). -/
def State.lostBlocks (s : State) (x : Table) (g : Seg) : List (Nat × Nat) :=
  (List.range x.ncol).flatMap (fun c =>
    ((List.range (blockCount g.rows)).filter (fun i => (s.plainBlock x g c i).isNone)).map (fun i => (c, i)))

/-- The jobs that wait for a segment to be sealed complete (R311). -/
def State.sealedJobs (s : State) (t seg : Nat) : State :=
  ((s.jobs.tab.filter (fun e => decide (e.2.wait = some (t, seg + 1)) && decide (e.2.opc = 0x43) && decide (e.2.st = .running))).map (·.1)).foldl
    (fun s e => s.finish e 0 0 0 []) s

/-- The store controller writes the sealed columns, unless Dike refuses it (R318). -/
def State.writeSealed (s : State) (n : Nat) (ctrl : Word) : List (List Nat × List Byte) → Bool × State
  | [] => (true, s)
  | (g, l) :: t =>
    let r := s.unitCheckW (scMaster n) ctrl (g.headD 0) l.length false
    if r.1 = .ok then (r.2.store n (g.headD 0) l).writeSealed n ctrl t else (false, r.2)

/-- Columns of a table that are encoded as DBS (R300). -/
def Table.dbsCols (x : Table) : List Nat := (List.range x.ncol).filter (fun c => decide (tblEnc x.desc c = 6))

/-- What the compression lanes have done for a sealed segment: a job for each DBS block (R311, R346). -/
def State.sealLanes (s : State) (x : Table) (g : Seg) : State :=
  x.dbsCols.foldl (fun s c => (List.range (blockCount g.rows)).foldl
    (fun s i => (s.incFld F.CMP_COMPLETED_COUNT).addFld F.CMP_BYTES_COUNT (rowsOf g.rows i * natWidth (x.ty c))) s) s

/-- The closed segment of a table is sealed and published (R311 to R317); without granules, a lane for its DBS blocks, or a digest context and an
online hash core, it waits (R193, R343, R534). -/
def State.sealSeg (s : State) (t : Nat) : State :=
  let x := s.table t
  match x.openSeg with
  | none => s
  | some g =>
    if !g.closing ∨ (g.sealWait ∧ !g.granted) ∨ !g.hidden.isEmpty ∨ s.frozen 7 scUnit ∨ !s.hwDigest x.polder ∨
        (!x.dbsCols.isEmpty ∧ (s.engineFor 5).isNone) then s else
    let cols := (List.range x.ncol).map (s.sealColumn x g)
    match s.granAllocs false x.polder (cols.map (fun l => cdiv l.length granBytes)) with
    | none => s.setTable t (x.setSeg { g with sealWait := true, granted := false })
    | some (gs, s1) =>
      let ctrl := hwCtrl s x.polder 0
      let r := s1.writeSealed x.polder ctrl (gs.zip cols)
      if !r.1 then gs.flatten.foldl (fun s a => s.granDrop a) r.2 else
      let s2 := (s.lostBlocks x g).foldl
        (fun s b => (s.latch 0 ctrl (dataBlock t b.1 g.num b.2)).incFld F.COL_ERRCNT_LOST_BLOCKS) r.2
      let digs := cols.map sha3
      let g1 := { g with st := .closedS, closing := false, sealWait := false, granted := false, plain := [], sealedAt := s.tick,
                         enc := (gs.zip cols).map (fun p => (p.1, p.2.length)), digests := digs, digest := sha3 digs.flatten }
      let s3 := s2.setTable t ((s2.table t).setSeg g1)
      ((s3.sealLanes x g).granFreeAll t g.num g.plain.flatten).sealedJobs t g.num

/-- SEGMENT_PUBLISH (R311). -/
def execSegmentPublish (t : Fin 4096) (s : State) : Out := .next (s.unreset fun s => s.sealSeg t)

/-- SEAL_GRANULE_GRANT (R311): a seal that waited finds granules again. -/
def execSealGranuleGrant (t : Fin 4096) (s : State) : Out :=
  .next (s.unreset fun s =>
    let x := s.table t
    match x.openSeg with
    | some g =>
      let cols := (List.range x.ncol).map (s.sealColumn x g)
      if g.closing ∧ g.sealWait ∧ (s.granAllocs false x.polder (cols.map (fun l => cdiv l.length granBytes))).isSome then
        s.setTable t (x.setSeg { g with granted := true })
      else s
    | none => s)

/-! ## Migration and retention (R319, R322) -/

/-- The oldest SEALED segment of the device: the lowest tick sealed, then the lowest Table ID and number. -/
def State.oldestSealed (s : State) : Option (Nat × Nat) :=
  (s.col.tables.foldl
    (fun best e => e.2.segs.foldl
      (fun best g =>
        if g.st = .closedS ∧ !g.moving then
          match best with
          | none => some (g.sealedAt, e.1, g.num)
          | some b => if g.sealedAt < b.1 then some (g.sealedAt, e.1, g.num) else best
        else best) best) none).map (fun b => (b.2.1, b.2.2))

/-- SEGMENT_MIGRATION (R319): a due segment takes its CXL granules and its copy begins; without room it stays, with CXL_FULL at 1. -/
def execSegmentMigration (t : Fin 4096) (seg : BitVec 25) (s : State) : Out :=
  .next (s.unreset fun s =>
    let x := s.table t
    match x.seg seg.toNat with
    | none => s
    | some g =>
      let m := tblMigrate x.desc
      let due := (decide (m ≠ 0) && decide (g.sealedAt + m ≤ s.tick)) ||
        (decide (s.hbmFree < s.fld F.COL_LOWWM_GRANULES) && s.oldestSealed == some (t.val, seg.toNat))
      if g.st ≠ .closedS ∨ g.moving ∨ !due ∨ s.frozen 7 scUnit then s else
      let needs := g.enc.map (fun c => c.1.length)
      match s.granAllocs true x.polder needs with
      | some (gs, s1) =>
        if s.granCxl x.polder + needs.sum ≤ s.fld (F.COL_QUOTA_X_LIMIT x.polder) then
          s1.setTable t (x.setSeg { g with moving := true, copy := gs })
        else s.setFld F.COL_STATUS_CXL_FULL 1
      | none => s.setFld F.COL_STATUS_CXL_FULL 1)

/-- MIGRATION_PUBLISH (R319): the copy is complete, and the segment is ARCHIVED. A copy that meets an uncorrectable error or is refused
ends, and the segment stays SEALED (R410, R533). -/
def execMigrationPublish (t : Fin 4096) (seg : BitVec 25) (s : State) : Out :=
  .next (s.unreset fun s =>
    let x := s.table t
    match x.seg seg.toNat with
    | none => s
    | some g =>
      if !g.moving ∨ g.st ≠ .closedS ∨ s.frozen 7 scUnit then s else
      let ctrl := hwCtrl s x.polder 0
      let stay := fun (s : State) => g.copy.flatten.foldl (fun s a => s.granDrop a)
        (s.setTable t ((s.table t).setSeg { g with moving := false, copy := [] }))
      let r := (g.enc.zip g.copy).foldl
        (fun (r : Bool × State) p =>
          if !r.1 then r else
          let a := r.2.unitRead (scMaster x.polder) ctrl (p.1.1.headD 0) p.1.2
          if a.1 = .ok then
            let b := a.2.2.unitCheckW (scMaster x.polder) ctrl (p.2.headD 0) p.1.2 false
            if b.1 = .ok then (true, b.2.store x.polder (p.2.headD 0) a.2.1) else (false, b.2)
          else (false, a.2.2)) (true, s)
      if !r.1 then stay r.2 else
      let g1 := { g with st := .archived, moving := false, copy := [], enc := (g.enc.zip g.copy).map (fun p => (p.2, p.1.2)) }
      ((r.2.setTable t ((r.2.table t).setSeg g1)).granFreeAll t g.num (g.enc.flatMap (·.1))).setFld F.COL_STATUS_CXL_FULL 0)

/-- RETENTION_DROP (R322). -/
def execRetentionDrop (t : Fin 4096) (seg : BitVec 25) (s : State) : Out :=
  .next (s.unreset fun s =>
    let x := s.table t
    match x.seg seg.toNat with
    | none => s
    | some g =>
      let r := tblRetain x.desc
      if (g.st = .closedS ∨ g.st = .archived) ∧ r ≠ 0 ∧ g.sealedAt + r ≤ s.tick then s.dropSeg t seg.toNat else s)

/-- TBL_DROP_STAGING (R323): the staging edge of a drop, the first tick edge after it; in LOST the drop waits for the counter to move. -/
def execTblDropStaging (t : Fin 4096) (s : State) : Out :=
  .next (s.unreset fun s =>
    let x := s.table t
    if x.edgePast s.tick then s.setTable t { x with dropping := true } else s)

/-- TBL_DROP_COMPLETE (R323): once scans, seals and migrations of the old generation have finished, the segments are dropped, the Table
ID and the schema are free, and the job completes. -/
def execTblDropComplete (t : Fin 4096) (s : State) : Out :=
  .next (s.unreset fun s =>
    let x := s.table t
    let busy := x.segs.any (fun g => (decide (g.st = .opened) && g.closing) || g.moving) ||
      s.opu.runs.any (fun r => r.2.pins.any (fun p => decide (p.1 = t.val))) ||
      s.jobs.tab.any (fun e => (decide (e.2.st = .queued) || decide (e.2.st = .frozen)) && decide (e.2.cls = 5) && changesTable e.2.opc &&
        !x.late e.2 && decide (s.jobTable e.1 = some t.val))
    if !x.dropping ∨ busy then s else
    let s1 := x.segs.foldl (fun s g => g.granules.foldl (fun s a => s.granDrop a) s) s
    let s2 := s1.setTable t {}
    match x.dropJob with
    | some e => if (s2.job e).st = .running then s2.finish e 0 0 0 [] else s2
    | none => s2)

end Sys2Proof.Machine
end

