-- ==== Sys2Proof/Machine/OpRun.lean ====
section
/-!
DEFINITION. Sys2Proof/Machine/OpRun.lean: runs of pipelines: the start and the end of a run
(R349 to R351, R361, R362, R365, R536), its queues and tasks (R354 to R356), and the frame in which an operator's task works
(R347, R355, R366, R374, R378).
-/

namespace Sys2Proof.Machine

/-! ## Runs and pipelines -/

/-- An operator's state in a run. -/
def Run.op (r : Run) (i : Nat) : OpRun := tget (fun _ => {}) r.st i

/-- The run with an operator's state replaced. -/
def Run.setOp (r : Run) (i : Nat) (x : OpRun) : Run := { r with st := tset (fun _ => {}) r.st i x }

/-- An operator's state in run `e`. -/
def State.opRun (s : State) (e i : Nat) : OpRun := (s.run e).op i

/-- The state with an operator's state replaced. -/
def State.setOpRun (s : State) (e i : Nat) (x : OpRun) : State := let r := s.run e; s.setRun e (r.setOp i x)

/-- A pipeline of a program. -/
def State.pipe (s : State) (n h p : Nat) : Pipeline := tget (fun _ => {}) (s.prog n h).pipes p

/-- The state with a pipeline replaced. -/
def State.setPipe (s : State) (n h p : Nat) (x : Pipeline) : State :=
  let g := s.prog n h
  s.setProg n h { g with pipes := tset (fun _ => {}) g.pipes p x }

/-- The operators with one put in place of that of its index (R348). -/
def putOp (ops : List OpDef) (o : OpDef) : List OpDef :=
  if (opAt ops o.index).isSome then ops.map (fun x => if x.index = o.index then o else x) else ops ++ [o]

/-- Queue granules an operator needs in a slice (R354): entry k lies in slice (i + k) modulo 16. -/
def queueEntriesIn (o : OpDef) (slice : Nat) : Nat := ((List.range o.qdepth).filter (fun k => decide ((o.index + k) % 16 = slice))).length

/-- Granules of an operator's queue in a slice, rounded up (R354). -/
def queueNeed (o : OpDef) (slice : Nat) : Nat := cdiv (queueEntriesIn o slice * o.qentry) cisGran

/-- The granules a graph's queues need in a slice. -/
def sliceNeed (ops : List OpDef) (slice : Nat) : Nat := (ops.map (fun o => queueNeed o slice)).sum

/-- An operator's queue is taken, slice by slice; the base of its entries in each. -/
def State.takeQueue (s : State) (n e : Nat) (o : OpDef) : Nat → Option (List Nat × State)
  | 0 => some ([], s)
  | k + 1 =>
    match s.takeQueue n e o k with
    | none => none
    | some (bases, s1) =>
      let need := queueNeed o k
      if need = 0 then some (bases ++ [0], s1)
      else (s1.cisAlloc 1 n e k need).map (fun r => (bases ++ [r.1.headD 0], r.2))

/-- The entries of a queue whose bases are given (R354). -/
def queueEntries (o : OpDef) (bases : List Nat) : List QEnt :=
  (List.range o.qdepth).map (fun k => { addr := bases.getD ((o.index + k) % 16) 0 + (k / 16) * o.qentry })

/-- Every queue of a run is taken, or none is (R354). -/
def State.takeQueues (s : State) (e : Nat) : List OpDef → Option State
  | [] => some s
  | o :: t =>
    match s.takeQueue (s.run e).polder e o 16 with
    | none => none
    | some (bases, s1) => (s1.setOpRun e o.index { s1.opRun e o.index with q := queueEntries o bases }).takeQueues e t

/-- The segments a SCAN reads, and those RUNEPOCH leaves out (R361). -/
def scanSet (x : Table) (p : ScanPar) (lo hi : Nat) : List Seg × Nat :=
  let cand := x.segs.filter (fun g => decide (p.first ≤ g.num) && decide (g.num ≤ p.last) &&
    (decide (g.st = .closedS) || decide (g.st = .archived) || (decide (g.st = .opened) && p.open_)))
  let out := fun (g : Seg) => p.runEpoch && decide (g.st ≠ .opened) && (decide (g.emax < lo) || decide (g.emin > hi))
  (cand.filter (fun g => !out g), (cand.filter out).length)

/-- The blocks of a segment. -/
def segBlocks (op t : Nat) (g : Seg) : List ScanBlk := (List.range (blockCount g.rows)).map (fun i => { op := op, table := t, seg := g.num, blk := i })

/-- The leaves of a run: each segment once, by Table ID and then segment (R398). -/
def insertLeaf (l : Leaf) : List Leaf → List Leaf
  | [] => [l]
  | a :: t =>
    if a.table = l.table ∧ a.seg = l.seg then a :: t
    else if l.table < a.table ∨ (l.table = a.table ∧ l.seg < a.seg) then l :: a :: t else a :: insertLeaf l t

/-- The sets of a run's SCANs are fixed (R361, R362, R398). -/
def State.fixSets (s : State) (e : Nat) : State :=
  let r := s.run e
  (r.ops.filter (fun o => decide (o.code = 1))).foldl
    (fun s o =>
      let p := parseScan o.params
      let x := s.table p.table
      let r := s.run e
      let c := scanSet x p r.emin r.emax
      let s1 := s.addFld F.OPU_SKIPPED_SEGMENTS c.2
      s1.setRun e { r with
        blocks := r.blocks ++ c.1.flatMap (segBlocks o.index p.table), pins := r.pins ++ c.1.map (fun g => (p.table, g.num)),
        leaves := (c.1.map (fun g => ({ table := p.table, seg := g.num, digest := g.digest, emin := g.emin, emax := g.emax } : Leaf))).foldl
          (fun l x => insertLeaf x l) r.leaves })
    s

/-- The task of an operator (R17, R22, R103, R347). -/
def opTaskOf (e : Nat) (r : Run) (o : OpDef) (item out : Nat) (coord : Word) (home : Option Nat) : Task :=
  { polder := r.polder, program := r.program, pipeline := r.pipe, operator := o.index, kind := .operator e o.index item out, coord := coord,
    cls := opClass o.code, prio := o.prio % 8, aff := home }

/-- The SEAL tasks of a run are created at its start (R370). -/
def State.sealTasks (s : State) (e : Nat) : State :=
  ((s.run e).ops.filter (fun o => decide (o.code = 17))).foldl
    (fun s o => (s.setOpRun e o.index { s.opRun e o.index with taskRun := true }).hwCreate (opTaskOf e (s.run e) o 0 255 0 none)) s

/-- UDO needs customer microcode for the operator units, valid and enabled (R68, R255). -/
def State.udoReady (s : State) : Bool := decide (s.fld (F.MCS_STATE_CUST_VALID 4) = 1) && decide (s.fld F.MCS_CTRL_CUST_EN = 1)

/-- Every link that an EXCHANGE names is UP (R486). -/
def State.linksUp (s : State) (ops : List OpDef) : Bool :=
  ops.all (fun o => decide (o.code ≠ 12) || (parseEx o.params).links.all (fun l => decide (l = 0xFF) || decide (s.fld (F.PER_LSTAT_STATE l) = 3)))

/-- What a RUN's check finds before it creates a task (R349, R350, R358, R365, R370, R536): a status, or none; and the state after a
refusal for another polder's table. -/
def State.checkRun (s : State) (e : Nat) (ops : List OpDef) : Option Nat × State :=
  let j := s.job e
  let l := j.bytes
  let named := ops.filterMap (fun o => if o.code = 1 then some (leAt o.params 0 2) else none)
  if !hdrOk l ∨ hdrSv l ∨ (hdrHreq l ≠ 0 ∧ hdrHreq l < 3) ∨ leAt l 32 8 ≥ 2 ^ 48 ∨ !zeroAt l 44 63 then (some 0x12, s)
  else if hdrHreq l ≥ 3 then (some 0x13, s)
  else if !graphOk ops ∨ named.any (fun t => decide (t ≥ 4096) || !(s.table t).live) then (some 0x12, s)
  else
    match named.find? (fun t => decide ((s.table t).polder ≠ j.polder)) with
    | some t => (some 0x0D, s.refuseOwner 0 j.worker (ctrlOfJob s j 15) t false)
    | none =>
      if !ops.all (opParOk s ops) ∨ !entriesOk s ops then (some 0x12, s)
      else if ops.any (fun o => decide (o.code = 16)) ∧ !s.udoReady then (some 0x13, s)
      else if named.any (fun t => (s.table t).edgePast s.tick) ∨ !s.linksUp ops then (some 0x16, s)
      else
        let needs := (List.range 16).map (sliceNeed ops)
        if needs.sum > s.fld (F.PLD_QUOTA_CIS_LIMIT j.polder) ∨ needs.any (fun k => decide (k > cisSize s.cisMode 1)) then (some 0x04, s)
        else (none, s)

/-- A run's queues are taken and its first tasks created, or it waits for the space (R354). -/
def State.grantRun (s : State) (e : Nat) : State :=
  let r := s.run e
  match s.takeQueues e (r.ops.filter (fun o => hasBatches o.code)) with
  | some s1 => (s1.setRun e { s1.run e with waiting := false }).sealTasks e
  | none =>
    if r.waiting then s else (s.setRun e { r with waiting := true }).incFld F.OPU_WAITS_ALLOCWAIT

/-- RUN job `e` starts: its pipeline takes its staged definitions, is checked, and runs; the answer tells whether it runs (R68, R349). -/
def State.startRun (s : State) (e : Nat) : Bool × State :=
  let j := s.job e
  let p := s.pipe j.polder j.program j.pipeline
  let ops := p.staged.foldl putOp p.ops
  let s1 := s.setPipe j.polder j.program j.pipeline { p with ops := ops, staged := [] }
  let c := s1.checkRun e ops
  match c.1 with
  | some st => (false, c.2.finish e st 0 0 [])
  | none =>
    let s2 := (c.2.dequeue e).setJob e { j with st := .running }
    let s3 := s2.setPipe j.polder j.program j.pipeline { s2.pipe j.polder j.program j.pipeline with running := some e }
    let r : Run := { polder := j.polder, program := j.program, pipe := j.pipeline, ops := ops, emin := leAt j.bytes 16 8,
                     emax := leAt j.bytes 24 8, sinkAddr := leAt j.bytes 32 8, sinkCap := leAt j.bytes 40 4,
                     receipt := ops.any (fun o => decide (o.code = 15)),
                     rslot := tget (fun _ => none) s.keys.rcptInForce j.polder }
    (true, ((s3.setRun e r).fixSets e).grantRun e)

/-- The next RUN queued behind a pipeline's instance starts (R68). -/
def State.nextRun (s : State) (n h p : Nat) : Nat → State
  | 0 => s
  | f + 1 =>
    let x := s.pipe n h p
    match x.queued with
    | [] => s
    | e :: t =>
      let s1 := s.setPipe n h p { x with queued := t }
      if (s1.job e).st = .queued ∧ (s1.job e).cls = 9 then
        let r := s1.startRun e
        if r.1 then r.2 else r.2.nextRun n h p f
      else s1.nextRun n h p f

/-! ## Ends of operators and runs -/

/-- Live tasks of an operator, those that wait for a slot included. -/
def State.opLive (s : State) (e i : Nat) : Nat :=
  let mine := fun (x : Task) => match x.kind with | .operator r o _ _ => decide (r = e) && decide (o = i) | _ => false
  (s.sched.tasks.filter (fun x => decide (x.2.state ≠ .free) && mine x.2)).length + (s.sched.hwWait.filter (fun q => mine q.task)).length

/-- Operators that end with a step of their own: they write statistics, emit results or sign (R378, R386, R397). -/
def needsFinal (code : Nat) : Bool := (decide (4 ≤ code) && decide (code ≤ 12)) || decide (code = 14) || decide (code = 15)

/-- An operator has consumed its input and emitted what it will emit. -/
def State.opDone (s : State) (e : Nat) : Nat → Nat → Bool
  | 0, _ => false
  | f + 1, i =>
    let r := s.run e
    match opAt r.ops i with
    | none => true
    | some o =>
      let x := r.op i
      o.ins.all (fun p => s.opDone e f p && (r.op p).q.all (fun q => decide (q.st < 2))) && decide (s.opLive e i = 0) && x.out.isEmpty &&
        (if o.code = 1 then r.blocks.all (fun b => decide (b.op ≠ i)) else true) && (!needsFinal o.code || x.emitted)

/-- An operator of a run has no input left and no task. -/
def State.inputEnded (s : State) (e i : Nat) : Bool :=
  let r := s.run e
  match opAt r.ops i with
  | none => false
  | some o =>
    o.ins.all (fun p => s.opDone e (r.ops.length + 1) p && (r.op p).q.all (fun q => decide (q.st < 2))) && decide (s.opLive e i = 0)

/-- A run is under way: started, with its queues, and not failed. -/
def State.runLive (s : State) (e : Nat) : Bool :=
  let r := s.run e
  !r.ops.isEmpty && !r.waiting && r.fail.isNone

/-- A run completes (R351, R365): queues and tables are freed, segments are read no more, the RUN job finishes, and the next queued RUN
of the pipeline starts. -/
def State.endRun (s : State) (e st detail outlen : Nat) : State :=
  let r := s.run e
  let s1 := ((s.cisDropRun e).setRun e {}).unpin e
  let s2 := (s1.finish e st detail outlen []).rcptSettle r.polder
  let p := s2.pipe r.polder r.program r.pipe
  let s3 := s2.setPipe r.polder r.program r.pipe { p with running := none }
  s3.nextRun r.polder r.program r.pipe (p.queued.length + 1)

/-! ## Tasks at work -/

/-- What an operator's task works with. -/
structure OpEnv where
  w : Nat
  t : Nat
  e : Nat
  op : Nat
  item : Nat
  out : Nat
  o : OpDef
  m : Master
  ctrl : Word
  deriving DecidableEq, Repr

/-- The master of a worker acting for a polder (R347, R403). -/
def workerActs (w n : Nat) : Master := { mcls := (workerMaster w).1, unit := (workerMaster w).2, acts := [n] }

/-- The operator units act for polder `n` where no single one does (R378). -/
def opuMaster (n : Nat) : Master := { mcls := 8, unit := 128, acts := [n] }

/-- The task that worker `w` holds for an operator of a code, if the worker may act and the run is under way. -/
def State.opTask (s : State) (w code : Nat) : Option OpEnv :=
  match (s.worker w).task with
  | none => none
  | some t =>
    let x := s.task t
    match x.kind with
    | .operator e op item out =>
      match opAt (s.run e).ops op with
      | none => none
      | some o =>
        let awake := !s.workerFrozen w && !s.tamperFrozen && (decide (64 ≤ w) || s.executes w)
        if o.code = code ∧ x.state = .running ∧ s.runLive e ∧ awake then
          some { w := w, t := t, e := e, op := op, item := item, out := out, o := o, m := workerActs w x.polder, ctrl := ctrlOfTask s t w 15 }
        else none
    | _ => none

/-- The producer an input entry belongs to. -/
def OpEnv.producer (v : OpEnv) : Nat := if v.item ≥ 256 then v.o.in1 else v.o.in0

/-- An entry of an operator's queue takes a state. -/
def OpRun.mark (x : OpRun) (k st : Nat) : OpRun :=
  { x with q := x.q.set k { x.q.getD k { addr := 0 } with st := st } }

/-- The batch at a queue entry, for a reader; an uncorrectable error there fails the run (R365, R366). -/
def batchAt (ctrl : Word) (a size : Nat) : JobM Batch := do
  let s ← get
  match parseBatch (s.bytes a size) with
  | none => throw (.status 0x12 0)
  | some b =>
    match s.poisoned a b.bytes.length with
    | some w =>
      set (s.latch 2 ctrl (dataAddress w))
      throw (.status 0x16 0xFFFD)
    | none => pure b

/-- The task's input batch; the operator's rows in are counted. -/
def readBatch (v : OpEnv) : JobM Batch := do
  let s ← get
  let r := s.run v.e
  let p := v.producer
  match opAt r.ops p with
  | none => throw (.status 0x12 0)
  | some o =>
    let b ← batchAt v.ctrl ((r.op p).q.getD (v.item % 256) { addr := 0 }).addr o.qentry
    act (fun s => let x := s.opRun v.e v.op; s.setOpRun v.e v.op { x with rowsIn := x.rowsIn + b.sel.length })
    pure b

/-- The types of an operator's batches are checked at the first, and every later batch has the same (R374). -/
def checkTypes (v : OpEnv) (b : Batch) (ok : List Nat → Bool) : JobM Unit := do
  let s ← get
  let x := s.opRun v.e v.op
  let second := decide (v.item ≥ 256)
  match (if second then x.types1 else x.types) with
  | some t => need (decide (t = b.types)) 0x12
  | none =>
    need (!b.types.contains 13 && ok b.types) 0x12
    set (s.setOpRun v.e v.op (if second then { x with types1 := some b.types } else { x with types := some b.types }))

/-- A batch is written to an entry of an operator's queue and enters the queue (R355). -/
def State.putBatch (s : State) (e op k : Nat) (b : Batch) : State :=
  let x := s.opRun e op
  let s1 := s.put (x.q.getD k { addr := 0 }).addr b.bytes
  s1.setOpRun e op { (x.mark k 2) with ready := x.ready ++ [k], rowsOut := x.rowsOut + b.sel.length }

/-- A task ends: its input entry is freed, its first batch enters the queue or its reservation is freed, and rows beyond it wait for
entries of their own (R355, R381). -/
def State.endOp (s : State) (v : OpEnv) (b : Option Batch) (more : List (List (List Nat))) : State :=
  let s1 := if v.o.ins.isEmpty then s else let x := s.opRun v.e v.producer; s.setOpRun v.e v.producer (x.mark (v.item % 256) 0)
  let s2 :=
    if v.out = 255 then s1 else
    match b with
    | some b => s1.putBatch v.e v.op v.out b
    | none => let x := s1.opRun v.e v.op; s1.setOpRun v.e v.op (x.mark v.out 0)
  let s3 := if more.isEmpty then s2 else let x := s2.opRun v.e v.op; s2.setOpRun v.e v.op { x with out := x.out ++ more }
  s3.endTask v.t

/-- What a task's work gives: a batch for its entry, and further rows. -/
abbrev OpOut := Option Batch × List (List (List Nat))

/-- An operator's task works on its block or batch, and ends; a failure ends the run (R351), and a refusal freezes the worker (R410). -/
def State.workOp (s : State) (w code : Nat) (work : OpEnv → JobM OpOut) : State :=
  match s.opTask w code with
  | none => s
  | some v =>
    let r := (do
      let o ← work v
      match o.1 with
      | some b => need (decide (b.bytes.length ≤ v.o.qentry)) 0x04
      | none => pure ()
      pure o : JobM OpOut).run.run s
    match r.1 with
    | .ok o => r.2.endOp v o.1 o.2
    | .error (.status st detail) => r.2.failRun v.e st detail
    | .error .frozen => r.2
    | .error _ => s

/-- The dense batch of at most 4,096 rows and what lies beyond, for a task that builds rows (R352, R374, R381). -/
def rowsOut (v : OpEnv) (tys : List Nat) (rows : List (List Nat)) : JobM OpOut := do
  act (fun s => let x := s.opRun v.e v.op; s.setOpRun v.e v.op { x with outTypes := tys })
  match chunkRows (rows.length + 1) rows with
  | [] => pure (none, [])
  | c :: t => pure (some (denseBatch tys c), t)

/-- The next free entry of a queue. -/
def OpRun.freeEnt (x : OpRun) : Option Nat := (List.range x.q.length).find? (fun k => decide ((x.q.getD k { addr := 0 }).st = 0))

/-- A producer that finds its queue full waits, and the wait is counted once (R355). -/
def State.queueFull (s : State) (e op : Nat) : State :=
  let x := s.opRun e op
  if x.full then s else (s.setOpRun e op { x with full := true }).incFld F.OPU_WAITS_QFULL

/-- One waiting list of an operator's rows enters its queue, if an entry is free (R355). -/
def State.emitOne (s : State) (e op : Nat) : State :=
  let x := s.opRun e op
  match x.out with
  | [] => s
  | rows :: t =>
    match x.freeEnt with
    | none => s.queueFull e op
    | some k =>
      let b := denseBatch x.outTypes rows
      let size := match opAt (s.run e).ops op with | some o => o.qentry | none => 0
      if b.bytes.length ≤ size then (s.setOpRun e op { x with out := t, full := false }).putBatch e op k b
      else s.failRun e 0x04 0

/-! ## AREA (R377, R378, R382, R385) -/

/-- Bytes are appended to an operator's AREA; a full area fails the run (R382, R385). -/
def areaPut (v : OpEnv) (p : AggPar) (l : List Byte) : JobM Unit := do
  let s ← get
  let x := s.opRun v.e v.op
  need (decide (x.areaUsed + l.length ≤ p.cap)) 0x04
  checkOut v.m v.ctrl (p.area + x.areaUsed) l.length
  act (fun s =>
    let x := s.opRun v.e v.op
    (s.store (v.m.acts.headD 0) (p.area + x.areaUsed) l).setOpRun v.e v.op { x with areaUsed := x.areaUsed + l.length, nSpilled := x.nSpilled + 1 })

/-- A slice's table granules that an operator holds. -/
def OpRun.granIn (x : OpRun) (slice : Nat) : Nat := (x.gran.filter (fun a => decide (cisSliceOf a = slice))).length

/-- The operator holds table granules for `bytes` in a slice, taking one more where it must (R379). -/
def State.growTable (s : State) (n e op slice bytes : Nat) : Option State :=
  let x := s.opRun e op
  let need := cdiv bytes cisGran - x.granIn slice
  if need = 0 then some s
  else (s.cisAlloc 0 n e slice need).map (fun r => r.2.setOpRun e op { x with gran := x.gran ++ r.1 })

/-- A table of the given entries of each slice would fit beside what others hold (R382). -/
def State.tableFits (s : State) (n : Nat) (own : List Nat) (counts : Nat → Nat) (size : Nat) : Bool :=
  let need := fun k => cdiv (counts k * size) cisGran
  let mine := fun k => (own.filter (fun a => decide (cisSliceOf a = k))).length
  (List.range 16).all (fun k => decide (need k + s.cisUsed 0 k ≤ s.cisCap 0 + mine k)) &&
    decide (((List.range 16).map need).sum + s.cisOf n ≤ s.fld (F.PLD_QUOTA_CIS_LIMIT n) + own.length)

/-- Spilled rows fit when taken by first-level partition, or by second-level partition where one does not; the hashes of a table's
entries are given (R382, R385). -/
def State.partsFit (s : State) (n : Nat) (own : List Nat) (hs : List Nat) (size : Nat) : Bool :=
  let fits := fun (l : List Nat) => s.tableFits n own (fun k => (l.filter (fun h => decide (bits h 63 60 = k))).length) size
  (List.range 16).all (fun p =>
    let l := hs.filter (fun h => decide (bits h 59 56 = p))
    fits l || (List.range 16).all (fun q => fits (l.filter (fun h => decide (bits h 55 52 = q)))))

/-! ## Faults of operator units, and the end of a UDO function (R366, R395) -/

/-- A worker goes offline, and its affinity list drains (R106). -/
def State.workerOffline (s : State) (w : Nat) : State := s.writeWoff (w / 64) (setBit (s.fld (F.PMP_WOFF_OFF (w / 64))) (w % 64))

/-- What a unit's fault does to the task it works for (R366): back to READY with no affine worker, once, unless it has begun to change a
table. -/
def State.faultTask (s : State) (t : Nat) (begun : Bool) : State :=
  let x := s.task t
  match x.kind with
  | .operator e op _ _ =>
    let code := match opAt (s.run e).ops op with | some o => o.code | none => 0
    if (s.run e).fail.isSome then s.endTask t
    else if x.retried ∨ (begun ∧ code ∈ [4, 7, 8, 14]) then s.failRun e 0x16 0xFFFF
    else
      let s1 := s.setTask t { x with retried := true, aff := none }
      match s.holder t with
      | some w => (s1.dropWorker w).makeReady t
      | none => s1
  | _ => s

/-- A fault of the operator unit that is worker `w` (R366), which works for a task or none: its source latches with the task's coordinates,
OPU_FAULT records it, and the unit goes offline. -/
def State.unitFault (s : State) (w cause : Nat) (begun : Bool) (t : Option Nat) : State :=
  let src := 10 + workerClass w
  let s1 := match t with
    | some t => s.latch src (ctrlOfTask s t w src) (s.task t).coord
    | none => s.latchHw src
  let s2 := if s.fld F.OPU_FAULT_V = 0 then
      (((s1.setFld F.OPU_FAULT_V 1).setFld F.OPU_FAULT_CAUSE cause).setFld F.OPU_FAULT_WORKER w).setFld F.OPU_FAULT_TASK (t.getD 0)
    else s1
  let s3 := s2.workerOffline w
  if s.bringsReset src then s3
  else match t with
    | some t => s3.faultTask t begun
    | none => s3

/-- A UDO function ends (R395): OK emits the batch at its reserved entry where it selects a row; another status fails the run. -/
def State.udoEnd (s : State) (t st detail : Nat) : State :=
  match s.holder t with
  | none => s
  | some w =>
    match s.opTask w 16 with
    | none => s
    | some v =>
      if st ≠ 0 then s.failRun v.e st detail
      else
        match parseBatch (s.bytes (((s.opRun v.e v.op).q.getD v.out { addr := 0 }).addr) v.o.qentry) with
        | none => s.failRun v.e 0x12 0
        | some b => s.endOp v (if b.sel.isEmpty then none else some b) []

end Sys2Proof.Machine
end

