-- ==== Sys2Proof/Machine/Micro.lean ====
section
/-!
DEFINITION. Sys2Proof/Machine/Micro.lean: engine microcode: microwords and nanowords (R242 to R250), customer functions (R251 to R256),
loading (R257 to R263) and errors in a control store (R264).
-/

namespace Sys2Proof.Machine

/-! ## Words (R242 to R250) -/

/-- A microword of a kind (R243, R246, R247); `bad` an invalid one. -/
inductive MWord where
  | issue (nw offA offB : Nat)
  | branch (cond target : Nat)
  | ldi (lc imm : Nat)
  | lda (lc sh : Nat)
  | djnz (lc target : Nat)
  | call (a : Nat)
  | ret
  | yield
  | done (status : Nat)
  | sync (mask : Nat)
  | bad
  deriving DecidableEq, Repr

/-- The microword of 24 bits (R243). -/
def parseMWord (w : Nat) : MWord :=
  let arg := bits w 15 0
  match bits w 23 22 with
  | 0 => .issue (bits w 21 10) (bits w 9 5) (bits w 4 0)
  | 1 =>
    let c := bits w 21 16
    if c % 32 ≥ 28 then .bad else .branch c arg
  | 2 =>
    if bits w 17 16 ≠ 0 then .bad else
    match bits w 21 20 with
    | 0 => .ldi (bits w 19 18) arg
    | 1 => .lda (bits w 19 18) (arg % 16)
    | 2 => .djnz (bits w 19 18) arg
    | _ => .bad
  | _ =>
    if bits w 18 16 ≠ 0 then .bad else
    match bits w 21 19 with
    | 0 => .call arg
    | 1 => if arg = 0 then .ret else .bad
    | 2 => if arg = 0 then .yield else .bad
    | 3 => if arg < 256 then .done arg else .bad
    | 4 => if arg < 16 then .sync arg else .bad
    | _ => .bad

/-- The region of a microaddress: 0 ROM, 1 customer, 2 patch, 3 nothing (R242). -/
def microRegion (a : Nat) : Nat := if a < 0x8000 then 0 else if a < 0xA000 then 1 else if a < 0xA200 then 2 else 3

/-- The region of a nanoword index (R242). -/
def nanoRegion (i : Nat) : Nat := if i < 0xC00 then 0 else if i < 0xF00 then 1 else 2

/-- Code of a region may transfer to an address; `call` marks a CALL, and ROM reaches patch RAM through a match register alone (R248). -/
def mayGo (from_ to_ : Nat) (call : Bool) : Bool :=
  let r := microRegion to_
  match microRegion from_ with
  | 0 => decide (r = 0)
  | 1 => decide (r = 1) || (call && decide (to_ < 0x100))
  | 2 => decide (r = 0) || decide (r = 2)
  | _ => false

/-- An ISSUE of a region may name a nanoword (R248). -/
def mayIssue (from_ nw : Nat) : Bool :=
  match microRegion from_ with
  | 0 => decide (nanoRegion nw ≠ 1)
  | 1 => decide (nanoRegion nw ≠ 2)
  | _ => true

/-- The units, operations and classes of R250. -/
def unitOk (m u op : Nat) : Bool :=
  match u with
  | 0 => decide (op = 0)
  | 1 => decide (op ≤ 6) && decide (m ≤ 2)
  | 2 => decide (op ≤ 3) && (decide (m = 0) || decide (m = 2) || decide (m = 3))
  | 3 => decide (op ≤ 2)
  | 4 => decide (op ≤ 2)
  | 5 => decide (op ≤ 1)
  | 6 => decide (op ≤ 3) && decide (m ≤ 1)
  | 7 => decide (op ≤ 3) && decide (m = 1)
  | 8 => decide (op ≤ 4) && decide (m = 4)
  | _ => false

/-- A nanoword is valid for a class (R249, R250): STORE never takes a share register, KLD loads share registers alone, and no unit but the
modular one takes a value from share registers to another place. -/
def nanoOk (m n : Nat) : Bool :=
  let u := bits n 187 184
  let op := bits n 183 176
  let kld := decide (u = 4) && decide (op = 2)
  let shared := decide (u ≠ 0) && decide (u ≠ 1) && (decide (bits n 175 174 = 3) || decide (bits n 159 158 = 3))
  (!(kld || shared) || decide (bits n 143 142 = 3)) && decide (bits n 189 188 = 0) && unitOk m u op && decide (bits n 143 142 ≠ 2) &&
    (if m = 0 then decide (bits n 63 62 ≤ 2) && decide (bits n 47 16 = 0) else decide (bits n 63 62 = 3)) &&
    !(decide (u = 4) && decide (op = 1) && decide (bits n 175 174 = 3))

/-- The patch target of a matched ROM microaddress, else the address itself (R254). -/
def State.matched (s : State) (m a : Nat) : Nat :=
  if microRegion a ≠ 0 then a else
  match (List.range 32).find? (fun i => decide (s.fld (F.MCS_MATCH_V m i) = 1) && decide (s.fld (F.MCS_MATCH_ADDR m i) = a)) with
  | some i => s.fld (F.MCS_MATCH_TARGET m i)
  | none => a

/-- The microword fetched at an address; none where R242 leaves it empty. RAM words are kept plus 1. -/
def State.fetchMicro (s : State) (m a : Nat) : Option Nat :=
  match microRegion a with
  | 0 => some (Config.romWord m a % 2 ^ 24)
  | 3 => none
  | _ => let w := tget (fun _ => 0) s.mcs.micro (2 ^ 16 * m + a); if w = 0 then none else some (w - 1)

/-- The nanoword of an index; none where nothing has been loaded. -/
def State.fetchNano (s : State) (m i : Nat) : Option Nat :=
  if nanoRegion i = 0 then some (Config.romNano m i % 2 ^ 192)
  else let w := tget (fun _ => 0) s.mcs.nano (2 ^ 12 * m + i); if w = 0 then none else some (w - 1)

/-! ## Sequencers -/

/-- The sequencer that a unit keeps. -/
def State.sqr (s : State) (m k : Nat) : Option Sqr := (s.mcs.seqs.find? (fun e => decide (e.1 = 256 * m + k))).map (·.2)

/-- A unit's sequencer takes a state. -/
def State.setSqr (s : State) (m k : Nat) (q : Sqr) : State :=
  { s with mcs := { s.mcs with seqs := tput s.mcs.seqs (256 * m + k) q } }

/-- A unit's engine state is zeroised (R256). -/
def State.dropSqr (s : State) (m k : Nat) : State :=
  { s with mcs := { s.mcs with seqs := tdel s.mcs.seqs (256 * m + k) } }

/-- The ROM operation that a unit performs: the job or task, and its OPC or operator code (R251). -/
def State.romWork (s : State) (m k : Nat) : Option (Nat × Nat) :=
  if m = 4 then
    match (s.worker (k + 64)).task with
    | some t =>
      match (s.task t).kind with
      | .operator e op _ _ => (opAt (s.run e).ops op).map (fun o => (t, o.code))
      | _ => none
    | none => none
  else (s.jobOn m k).bind (fun e => if (s.job e).opc < 0x80 then some (e, (s.job e).opc) else none)

/-- The sequencer at the entry of a ROM operation (R251). -/
def romSqr (m : Nat) (w : Nat × Nat) : Sqr := { work := w.1, fn := w.2, pc := Config.romEntry m w.2 % 2 ^ 15, rom := true }

/-- The sequencer of a unit (R241, R251): in a customer function; in the ROM operation that it performs, from its entry on; or, on a hash core
with nothing else, in the function written back first (R247). -/
def State.sqrAt (s : State) (m k : Nat) : Option Sqr :=
  match s.sqr m k, s.romWork m k with
  | some q, some w => if q.rom && decide ((q.work, q.fn) ≠ w) then some (romSqr m w) else some q
  | some q, none => if q.rom then none else some q
  | none, some w => some (romSqr m w)
  | none, none => if m = 3 ∧ k < 32 then s.mcs.parked.head? else none

/-- A hash core takes the context that its sequencer works on (R247). -/
def State.unpark (s : State) (m k : Nat) (q : Sqr) : State :=
  if m = 3 ∧ s.mcs.parked.contains q then
    ({ s with mcs := { s.mcs with parked := s.mcs.parked.erase q } }).setJob q.work { s.job q.work with engine := some k }
  else s

/-- ROM operations that are public (R162, R166, R169, R172, R190): a digest job with MAC is secret. -/
def romPublic (m opc : Nat) (mac : Bool) : Bool :=
  match m with
  | 0 => decide (opc ∈ [2, 0x0A])
  | 1 => decide (opc ∈ [2, 9])
  | 2 => decide (opc ∈ [5, 7, 9, 0x0A])
  | 3 => !mac && decide (opc ∈ [1, 2, 3, 4, 5, 6, 0x0B, 0x12, 0x1A])
  | _ => true

/-- Function `fn` of class `m` is public (R255). -/
def State.mcsPublic (s : State) (m fn : Nat) : Bool := decide (m = 4) || bit (s.fld (F.MCS_PUBMAP_PUB m (fn / 64))) (fn % 64)

/-- What a sequencer runs is public (R162, R255). -/
def State.sqrPublic (s : State) (m : Nat) (q : Sqr) : Bool :=
  let d := parseDig (s.job q.work).bytes
  let mac := if q.fn ∈ [2, 3, 4] then (s.ctx (d.ctx % 256)).mac.isSome else d.mac
  if q.rom then romPublic m q.fn mac else s.mcsPublic m q.fn

/-- The level at which a sequencer's work is masked: 0 H0, 1 H1, 2 H2 (R162, R163, R255). -/
def State.sqrLevel (s : State) (m : Nat) (q : Sqr) : Nat :=
  let j := s.job q.work
  if s.sqrPublic m q then 0
  else s.effLevel j.polder (if hdrSv j.bytes then (s.key (hdrSlot j.bytes)).hmin else 0) (hdrHreq j.bytes)

/-- Customer entries of a class are served (R251, R258). -/
def State.custOn (s : State) (m : Nat) : Bool := decide (s.fld (F.MCS_STATE_CUST_VALID m) = 1) && decide (s.fld F.MCS_CTRL_CUST_EN = 1)

/-- The status with which the work of a sequencer ends: the job's completion, or the run's (R252, R395). -/
def State.endWork (s : State) (m k : Nat) (q : Sqr) (st detail outlen : Nat) (writes : List (Nat × List Byte)) : State :=
  let s1 := s.dropSqr m k
  if m = 4 then s1.udoEnd q.work st detail else s1.finish q.work st detail outlen writes

/-- A stop that waits on the work of a sequencer (R253): of a job, or of the run that a UDO works for (R351). -/
def State.stopPending (s : State) (m : Nat) (q : Sqr) : Option (Nat × Nat) :=
  if m ≠ 4 then (s.job q.work).stop
  else match (s.task q.work).kind with
    | .operator e _ _ _ => (s.run e).fail
    | _ => none

/-- A pending stop takes effect: the state is zeroised, and the job completes or the task ends (R253). -/
def State.takeStop (s : State) (m k : Nat) (q : Sqr) : State :=
  match s.stopPending m q with
  | some p => if m = 4 then (s.dropSqr m k).endTask q.work else (s.dropSqr m k).finish q.work p.1 p.2 0 []
  | none => s

/-! ## Errors in a control store (R252, R264) -/

/-- The compute tile of a unit (R241). -/
def unitTile (m k : Nat) : Nat :=
  match m with
  | 0 => k / 16
  | 1 => k / 2
  | 2 => k / 8
  | 3 => 0
  | _ => if k < 128 then k / 64 else if k < 144 then (k - 128) / 8 else (k - 144) / 4

/-- Units of a class; unit 32 of DE is the comparison unit. -/
def unitCount (m : Nat) : Nat := match m with | 0 => 32 | 1 => 4 | 2 => 16 | 3 => 33 | _ => 152

/-- A unit goes offline in its class's register (R264); the comparison unit has no bit there. -/
def State.unitOffline (s : State) (m u : Nat) : State :=
  if m = 4 then s.workerOffline (u + 64)
  else if m = 3 ∧ u = 32 then { s with mcs := { s.mcs with cmpOff := true } }
  else
    let f := if m = 3 then F.DIG_CORE_ONLINE_ONLINE else F.ENG_ONLINE_ONLINE m
    s.setFld f (putBits (s.fld f) u 1 0)

/-- Every unit that the copy of unit `k` serves goes offline (R264). -/
def State.copyOffline (s : State) (m k : Nat) : State :=
  ((List.range (unitCount m)).filter (fun u => decide (unitTile m u = unitTile m k))).foldl (fun s u => s.unitOffline m u) s

/-- What a region's error does to the region (R264). -/
def State.regionError (s : State) (m k : Nat) (region : Fin 3) : State :=
  match region with
  | 0 => s.copyOffline m k
  | 1 =>
    let s1 := s.setFld (F.MCS_STATE_PATCH_VALID m) 0
    { s1 with mcs := { s1.mcs with noPatch := if s1.mcs.noPatch.contains m then s1.mcs.noPatch else s1.mcs.noPatch ++ [m] } }
  | 2 => s.setFld (F.MCS_STATE_CUST_VALID m) 0

/-- The job that a unit of LE, CE, BE or DE performs met a control-store error (R180, R264): it runs again, or the second time ends. A DE job
is not affected by a core's error, and begins again where it ran customer code (R215). -/
def State.storeErrorJob (s : State) (m : Nat) (e : Nat) : State :=
  let j := s.job e
  let s1 := s.dropSeqs e
  if j.slotBegun then s1
  else if m = 3 ∧ j.opc < 0x80 then s1
  else if j.retried ∧ m ≠ 3 then s1.finish e 0x16 0xFFFF 0 []
  else s1.requeue e

/-- What a unit works on: the job or task of the customer function it runs, else its own job or task. -/
def State.unitWork (s : State) (m k : Nat) : Option Nat :=
  match s.sqr m k with
  | some q => if q.rom then (if m = 4 then (s.worker (k + 64)).task else s.jobOn m k) else some q.work
  | none => if m = 4 then (s.worker (k + 64)).task else s.jobOn m k

/-- The work that met a control-store error is handled (R264): in OU as a fault of the unit, a UDO's task like the unit's own (R366). -/
def State.storeErrorWork (s : State) (m k : Nat) : State :=
  if m = 4 then (s.dropSqr 4 k).unitFault (k + 64) 2 false (s.unitWork 4 k)
  else
    match s.unitWork m k with
    | some e => s.storeErrorJob m e
    | none => s

/-- The control word of a record of source 24: the issuing task of the work that met the error (R22, R180). -/
def State.storeCtrl (s : State) (m k : Nat) : Word :=
  match s.unitWork m k with
  | some e => if m = 4 then ctrlOfTask s e (k + 64) 24 else ctrlOfJob s (s.job e) 24
  | none => hwCtrl s 0 24

/-- A control store's error (R264): the record names the class, the copy and the address. -/
def State.storeError (s : State) (m k : Nat) (region : Fin 3) (addr : Nat) : State :=
  let s1 := s.latch 24 (s.storeCtrl m k) (dataAddress (m * 2 ^ 24 + unitTile m k * 2 ^ 16 + addr))
  let s2 := s1.regionError m k region
  if s.bringsReset 24 then (match s2.unitWork m k with | some e => if m = 4 then s2 else s2.awaitReset e | none => s2)
  else s2.storeErrorWork m k

/-- CONTROL_STORE_ERROR (R264): unit `k` of class `m` meets an error at an address of a region. -/
def execControlStoreError (m : Fin 5) (k : Fin 256) (region : Fin 3) (addr : BitVec 16) (s : State) : Out :=
  .next (s.unreset fun s => if unitCount m ≤ k.val then s else s.storeError m k region addr.toNat)

/-- An execution error (R252): in customer code, and what it calls, the work ends with ABORTED; in ROM or patch code it is a control-store
error. -/
def State.execError (s : State) (m k : Nat) (q : Sqr) : State :=
  if q.rom then s.storeError m k (if microRegion q.pc = 2 then 1 else 0) q.pc
  else (s.incFld (F.MCS_CERR_COUNT m)).endWork m k q 0x16 0xFFFE 0 []

/-- A unit that is neither frozen by Dike or tamper nor in a block reset (R410, R423, R450). -/
def State.mcsRuns (s : State) (m k : Nat) : Bool :=
  !s.tamperFrozen &&
    (if m = 4 then !s.frozen 8 k && !s.inReset (10 + workerClass (k + 64)) k else !s.frozen (clsMaster m) k && !s.inReset (clsSource m) k)

/-- One microword of the kind a row names runs on a unit (R242 to R248, R252); an empty or invalid word is an execution error. -/
def State.mwStep (s : State) (m k : Nat) (kind : MWord → Bool) (act : Sqr → MWord → State → Option Sqr × State) : State :=
  match s.sqrAt m k with
  | none => s
  | some q =>
    if !s.mcsRuns m k then s else
    let t := (s.unpark m k q).setSqr m k q
    let q0 := { q with pc := s.matched m q.pc }
    match (s.fetchMicro m q0.pc).map parseMWord with
    | none => t.execError m k q0
    | some .bad => t.execError m k q0
    | some w =>
      if !kind w then s else
      match act q0 w t with
      | (some q1, s1) => if (s1.sqr m k).isSome then s1.setSqr m k q1 else s1
      | (none, s1) => if (s1.sqr m k).isSome then s1.execError m k q0 else s1

/-- The sequencer at a transfer's target; none where R248 forbids the transfer. -/
def Sqr.go (q : Sqr) (a : Nat) (call : Bool) : Option Sqr := if mayGo q.pc (a % 2 ^ 16) call then some { q with pc := a % 2 ^ 16 } else none

/-- The sequencer at the next address. -/
def Sqr.next (q : Sqr) : Option Sqr := q.go (q.pc + 1) false

/-- A condition of R245. Each class has one class flag, read as CF0 (DEDUCED, log entry 78); the others read 0. -/
def State.cond0 (s : State) (m k : Nat) (q : Sqr) (c : Nat) : Bool :=
  let j := s.job q.work
  let l := if m = 4 then [] else j.bytes
  let pub := s.sqrPublic m q
  match c with
  | 0 => true
  | 5 => bit q.conds 5
  | 6 => false
  | 7 => false
  | 8 => decide (q.lc[0] = 0)
  | 9 => decide (q.lc[1] = 0)
  | 10 => decide (q.lc[2] = 0)
  | 11 => decide (q.lc[3] = 0)
  | 12 => (s.stopPending m q).isSome
  | 13 => decide (s.sqrLevel m q = 2)
  | 14 => pub
  | 15 => s.drbgReady (instFor m k)
  | 16 => q.loaded
  | 17 => q.stored
  | 18 => true
  | 19 => true
  | 20 => hdrSv l
  | 21 => bit (leAt l 76 2) 15
  | 22 => if m = 3 then bit (leAt l 79 1) 3 else bit (leAt l 79 1) 0
  | 23 => decide (m = 3) && bit (leAt l 79 1) 0
  | 24 => false
  | 25 => false
  | 26 => false
  | 27 => false
  | _ => bit q.conds c

/-- A branch condition, inverted from 32 on (R245). -/
def State.mcond (s : State) (m k : Nat) (q : Sqr) (c : Nat) : Bool :=
  if c < 32 then s.cond0 m k q c else !s.cond0 m k q (c - 32)

/-! ## Operands and outputs of a customer function -/

/-- The master and control word of a customer function (R256). -/
def State.mcsMaster (s : State) (m k : Nat) (q : Sqr) : Master × Word :=
  if m = 4 then
    let x := s.task q.work
    ({ mcls := 8, unit := k, acts := [x.polder] }, ctrlOfTask s q.work (k + 64) 15)
  else
    let j := s.job q.work
    ({ mcls := clsMaster m, unit := k, acts := [j.polder] }, ctrlOfJob s j 15)

/-- A UDO's operands (R395): A the input batch, C the parameter block. -/
def State.udoAreas (s : State) (t : Nat) : List (Nat × Nat) :=
  match (s.task t).kind with
  | .operator e op item _ =>
    let r := s.run e
    match opAt r.ops op with
    | some o =>
      let p := if item ≥ 256 then o.in1 else o.in0
      let size := match opAt r.ops p with | some x => x.qentry | none => 0
      [(((r.op p).q.getD (item % 256) { addr := 0 }).addr, size), (leAt o.bytes 8 8, o.params.length)]
    | none => []
  | _ => []

/-- The operand areas of a sequencer's work (R159, R189, R395). -/
def State.operandAreas (s : State) (m : Nat) (q : Sqr) : List (Nat × Nat) :=
  let l := (s.job q.work).bytes
  if m = 4 then s.udoAreas q.work
  else if m = 3 then let d := parseDig l; [(d.aAddr, d.aLen), (d.bAddr, d.bLen), (d.cAddr, d.cLen)]
  else let d := parseEng l; [(d.aAddr, d.aLen), (d.bAddr, d.bLen), (d.cAddr, d.cLen), (d.kAddr, d.kLen)]

/-- Every operand is read, checked by Dike. -/
def readAreas (ms : Master × Word) : List (Nat × Nat) → JobM Unit
  | [] => pure ()
  | a :: t => do
    let _ ← readOp ms.1 ms.2 a.1 a.2
    readAreas ms t

/-- The work of a unit stops at a refusal or an error that an access of its job met (R160, R410, R533). -/
def State.mcsAccess (s : State) (m k : Nat) (q : Sqr) (work : JobM Unit) : Option Sqr × State :=
  let r := work.run.run s
  match r.1 with
  | .ok _ => (some q, r.2)
  | .error (.status st detail) => (some q, r.2.endWork m k q st detail 0 [])
  | .error .frozen => if m = 4 then (some q, r.2) else (some q, (r.2.dropSqr m k).stopFrozen q.work)
  | .error _ => (some q, s)

/-- A place a nanoword names: its space and index, local memory through a generator (R249). -/
def place (sel gen off : Nat) : Nat := if sel / 2 ^ 14 = 1 then 2 ^ 14 + (sel % 2 ^ 14 + gen + off) % 2 ^ 14 else sel

/-- A source operand: IMM, what the place holds, or the value that a share register's shares stand for. -/
def Sqr.src (q : Sqr) (sel imm gen off : Nat) : Nat :=
  if sel / 2 ^ 14 = 2 then imm
  else if sel / 2 ^ 14 = 3 then (tget (fun _ => []) q.shares (sel % 2 ^ 14)).foldl Nat.xor 0
  else tget (fun _ => 0) q.dp (place sel gen off)

/-- A value split into shares with fresh masks, as many as the level (R163, R250): their exclusive OR is the value. -/
def splitShares (v level : Nat) (rnd : List Byte) : List Nat :=
  let n := cdiv rnd.length (max level 1)
  let ms := (List.range level).map (fun i => leNat ((rnd.drop (i * n)).take n))
  ms.foldl Nat.xor v :: ms

/-- Bytes of a value. -/
def valBytes (v : Nat) : Nat := cdiv (Nat.log2 v + 1) 8

/-- A draw of a sequencer's work from its engine's internal DRBG; operator units, which are public, have none (R235, R249). -/
def State.unitDraw (s : State) (m k len : Nat) : List Byte × State := if m = 4 then ([], s) else s.draw (instFor m k) len

/-- What a nanoword's operation gives (R250): COPY its operand, ZERO 0, KLD the input slot's key, any other an open value. -/
def State.nanoValue (s : State) (m : Nat) (q : Sqr) (n a b : Nat) : Nat :=
  let u := bits n 187 184
  let op := bits n 183 176
  if u = 3 ∧ op = 0 then a
  else if u = 3 ∧ op = 1 then 0
  else if u = 4 ∧ op = 2 ∧ hdrSv (s.job q.work).bytes then leNat (s.key (hdrSlot (s.job q.work).bytes)).secret
  else Config.datapath s.free m n a b

/-- The conditions after a nanoword (R245): zero is of its result, equality is the comparator's; the others are open. -/
def nanoConds (free m n a b v : Nat) : Nat :=
  let c := putBits (Config.datapathConds free m n a b) 1 1 (b2n (decide (v = 0)))
  if bits n 187 184 = 5 then putBits c 4 1 (b2n (decide (a = b))) else c

/-- The result enters its place; a share register takes it split under the job's masking order, by KLD or SHARE, else as one share (R249, R250).
The result of an operation that draws a mask, or splits, is of a fresh draw. -/
def State.nanoWrite (s : State) (m k : Nat) (q : Sqr) (n offA v : Nat) : Sqr × State :=
  let u := bits n 187 184
  let dst := bits n 143 128
  let split := decide (dst / 2 ^ 14 = 3) && (bit n 191 || (decide (u = 4) && decide (bits n 183 176 = 2)))
  let lev := s.sqrLevel m q
  let r := if split ∧ lev > 0 then s.unitDraw m k (lev * valBytes v) else ([], s)
  if u = 0 then (q, s)
  else if dst / 2 ^ 14 = 3 then
    ({ q with shares := tset (fun _ => []) q.shares (dst % 2 ^ 14) (if split then splitShares v lev r.1 else [v]) }, r.2)
  else ({ q with dp := tset (fun _ => 0) q.dp (place dst q.genA offA) v }, r.2)

/-- A nanoword needs randomness: its RNG bit, a split, or a key's load (R249, R250). -/
def nanoDraws (n : Nat) : Bool :=
  bit n 190 || (decide (bits n 143 142 = 3) && (bit n 191 || (decide (bits n 187 184 = 4) && decide (bits n 183 176 = 2))))

/-- A nanoword runs on the datapath (R244, R249, R250). One that needs randomness its DRBG cannot give stalls the sequencer (R157). The accesses of
a ROM operation were made when its job started. -/
def State.issueNano (s : State) (m k : Nat) (q : Sqr) (n offA offB : Nat) : Option Sqr × State :=
  let u := bits n 187 184
  let op := bits n 183 176
  if u = 4 ∧ op = 2 ∧ s.sqrPublic m q then (none, s)
  else if m ≠ 4 ∧ nanoDraws n ∧ !s.drbgReady (instFor m k) then (some q, s)
  else
    let sa := bits n 175 160
    let sb := bits n 159 144
    let a := q.src sa (bits n 95 64) q.genA offA
    let b := q.src sb (bits n 95 64) q.genB offB
    let s1 := if bit n 190 then (s.unitDraw m k 4).2 else s
    let v := s1.nanoValue m q n a b
    let w := s1.nanoWrite m k q n offA v
    let useA := decide (sa / 2 ^ 14 = 1) || decide (bits n 143 142 = 1)
    let q1 := { w.1 with
      conds := if u = 0 then q.conds else nanoConds s1.free m n a b v
      genA := if useA then (q.genA + bits n 127 112) % 2 ^ 16 else q.genA
      genB := if sb / 2 ^ 14 = 1 then (q.genB + bits n 111 96) % 2 ^ 16 else q.genB
      loaded := q.loaded || (decide (u = 4) && decide (op = 0))
      stored := q.stored || (decide (u = 4) && decide (op = 1)) }
    match q1.next with
    | none => (none, s)
    | some q2 =>
      if u = 4 ∧ op = 0 ∧ !q.rom then w.2.bump.mcsAccess m k q2 (readAreas (s.mcsMaster m k q) (s.operandAreas m q))
      else (some q2, w.2.bump)

/-- The slot that a customer function's output fills (R255, R165). -/
def customSlot (level : Nat) (secret : List Byte) : KeySlot :=
  { ty := 4, usage := 2 ^ useHmac + 2 ^ useDerive, hmin := level, secret := secret, granules := granulesFor secret.length 0 false }

/-- The bytes a customer function leaves, open values of a length up to a bound. -/
def State.customBytes (s : State) (cap : Nat) : List Byte :=
  (List.range (Config.customLen s.free % (cap + 1))).map (Config.customByte s.free)

/-- A job's customer function ends well: its output area, and its output slot, which the key store takes at the completion (R165, R179, R251,
R255). -/
def State.customDone (s : State) (m k : Nat) (q : Sqr) (st : Nat) : State :=
  let j := s.job q.work
  let l := j.bytes
  let ms := s.mcsMaster m k q
  let o := if m = 3 then let d := parseDig l; (d.out, d.cap) else let d := parseEng l; (d.out, d.cap)
  let out := if q.stored then s.customBytes o.2 else []
  let w : JobM JobOut := do
    act (fun s => s.bump)
    checkOut ms.1 ms.2 o.1 out.length
    let s ← get
    if bit (leAt l 76 2) 15 then
      let sec := (List.range (1 + Config.customLen s.free % 66)).map (Config.customByte s.free)
      need (s.heapRoom j.polder (granulesFor sec.length 0 false)) 0x04
      let lev := if s.mcsPublic m q.fn then max 1 (s.hardDefault j.polder) else s.sqrLevel m q
      setFill q.work (leAt l 76 2 % 2 ^ 14) (customSlot lev sec) false
      act (fun s => s.bump)
    pure { status := st, outlen := out.length, writes := if out.isEmpty then [] else [(o.1, out)] }
  (s.dropSqr m k).doJob q.work w

/-- DONE (R247, R251, R252): a status beyond those allowed is an execution error. A ROM routine stays at its DONE: what its operation gives is
what the spec states of it, and JOB_COMPLETION completes the job. -/
def State.mcsDone (s : State) (m k : Nat) (q : Sqr) (st : Nat) : State :=
  if st ∉ [0, 1, 7, 0x12, 0x13] then s.execError m k q
  else if q.rom then s
  else if m = 4 then
    if (s.stopPending 4 q).isSome then s.takeStop 4 k q
    else if q.stored ∧ st ≤ 1 then
      let x := s.task q.work
      match x.kind with
      | .operator e op _ out =>
        let size := match opAt (s.run e).ops op with | some o => o.qentry | none => 0
        ((s.put (((s.opRun e op).q.getD out { addr := 0 }).addr) (s.customBytes size)).bump).endWork m k q 0 0 0 []
      | _ => s.endWork m k q 0 0 0 []
    else s.endWork m k q (if st = 1 then 0 else st) 0 0 []
  else if st ≤ 1 then s.customDone m k q st
  else s.endWork m k q st 0 0 []

/-! ## The microwords' commands -/

/-- MW_ISSUE (R244, R249, R250). -/
def execMwIssue (m : Fin 5) (k : Fin 256) (s : State) : Out :=
  .next (s.unreset fun s => s.mwStep m k (fun w => match w with | .issue _ _ _ => true | _ => false) fun q w s =>
    match w with
    | .issue nw offA offB =>
      match s.fetchNano m nw with
      | some n => if mayIssue q.pc nw && nanoOk m n then s.issueNano m k q n offA offB else (none, s)
      | none => (none, s)
    | _ => (none, s))

/-- MW_BRANCH (R245). -/
def execMwBranch (m : Fin 5) (k : Fin 256) (s : State) : Out :=
  .next (s.unreset fun s => s.mwStep m k (fun w => match w with | .branch _ _ => true | _ => false) fun q w s =>
    match w with
    | .branch c t => (if s.mcond m k q c then q.go t false else q.next, s)
    | _ => (none, s))

/-- A loop counter with a value. -/
def Sqr.setLc (q : Sqr) (i v : Nat) : Sqr := { q with lc := q.lc.setIfInBounds i (v % 2 ^ 16) }

/-- A loop counter's value. -/
def Sqr.getLc (q : Sqr) (i : Nat) : Nat := q.lc.toList.getD i 0

/-- MW_LDI (R246). -/
def execMwLdi (m : Fin 5) (k : Fin 256) (s : State) : Out :=
  .next (s.unreset fun s => s.mwStep m k (fun w => match w with | .ldi _ _ => true | _ => false) fun q w s =>
    match w with
    | .ldi i v => ((q.setLc i v).next, s)
    | _ => (none, s))

/-- A_LEN's low half as the sequencer's work has it (R246): of the descriptor, or of a UDO's input batch. -/
def State.aLen (s : State) (m : Nat) (q : Sqr) : Nat :=
  if m = 4 then
    match (s.task q.work).kind with
    | .operator e op item _ =>
      match opAt (s.run e).ops op with
      | some o =>
        let p := (s.run e).op o.in0
        match parseBatch (s.bytes (p.q.getD (item % 256) { addr := 0 }).addr (match opAt (s.run e).ops o.in0 with | some x => x.qentry | none => 0)) with
        | some b => b.bytes.length % 2 ^ 16
        | none => 0
      | none => 0
    | _ => 0
  else leAt (s.job q.work).bytes 24 2

/-- MW_LDA (R246). -/
def execMwLda (m : Fin 5) (k : Fin 256) (s : State) : Out :=
  .next (s.unreset fun s => s.mwStep m k (fun w => match w with | .lda _ _ => true | _ => false) fun q w s =>
    match w with
    | .lda i sh => ((q.setLc i (s.aLen m q / 2 ^ sh)).next, s)
    | _ => (none, s))

/-- MW_DJNZ (R246). -/
def execMwDjnz (m : Fin 5) (k : Fin 256) (s : State) : Out :=
  .next (s.unreset fun s => s.mwStep m k (fun w => match w with | .djnz _ _ => true | _ => false) fun q w s =>
    match w with
    | .djnz i t =>
      let v := (q.getLc i + 2 ^ 16 - 1) % 2 ^ 16
      (if v ≠ 0 then (q.setLc i v).go t false else (q.setLc i v).next, s)
    | _ => (none, s))

/-- MW_CALL (R247, R248): a ninth nested call overflows the stack. -/
def execMwCall (m : Fin 5) (k : Fin 256) (s : State) : Out :=
  .next (s.unreset fun s => s.mwStep m k (fun w => match w with | .call _ => true | _ => false) fun q w s =>
    match w with
    | .call a => (if q.stack.length < 8 then ({ q with stack := (q.pc + 1) % 2 ^ 16 :: q.stack }).go a true else none, s)
    | _ => (none, s))

/-- MW_RETURN (R247, R248). -/
def execMwReturn (m : Fin 5) (k : Fin 256) (s : State) : Out :=
  .next (s.unreset fun s => s.mwStep m k (fun w => match w with | .ret => true | _ => false) fun q _ s =>
    match q.stack with
    | a :: t => (some { q with pc := a, stack := t }, s)
    | [] => (none, s))

/-- A queued digest job waits for a hash core (R156, R190, R194). -/
def State.coreWanted (s : State) : Bool := (s.jobQueue 3).any (fun e => s.digMay e)

/-- At a YIELD, a hash core writes back its context; it may take another (R247): it does where a written-back function or a digest job waits. -/
def State.yieldCore (s : State) (k : Nat) (q : Sqr) : Option Sqr × State :=
  match q.next with
  | none => (none, s)
  | some q1 =>
    if q.rom ∨ (s.mcs.parked = [] ∧ !s.coreWanted) then (some q1, s)
    else
      let s1 := (s.dropSqr 3 k).setJob q.work { s.job q.work with engine := none }
      (some q1, { s1 with mcs := { s1.mcs with parked := s1.mcs.parked ++ [q1] } })

/-- MW_YIELD (R247, R253). -/
def execMwYield (m : Fin 5) (k : Fin 256) (s : State) : Out :=
  .next (s.unreset fun s => s.mwStep m k (fun w => match w with | .yield => true | _ => false) fun q _ s =>
    if !q.rom && (s.stopPending m q).isSome then (some q, s.takeStop m k q)
    else if m = 3 then s.yieldCore k q
    else (q.next, s))

/-- MW_DONE (R247, R251). -/
def execMwDone (m : Fin 5) (k : Fin 256) (s : State) : Out :=
  .next (s.unreset fun s => s.mwStep m k (fun w => match w with | .done _ => true | _ => false) fun q w s =>
    match w with
    | .done st => (some q, s.mcsDone m k q st)
    | _ => (none, s))

/-- MW_SYNC (R247): hash core and pipeline are idle between steps, so it waits for LOAD and STORE alone. -/
def execMwSync (m : Fin 5) (k : Fin 256) (s : State) : Out :=
  .next (s.unreset fun s => s.mwStep m k (fun w => match w with | .sync _ => true | _ => false) fun q w s =>
    match w with
    | .sync mask => if (!bit mask 0 || q.loaded) && (!bit mask 1 || q.stored) then (q.next, s) else (some q, s)
    | _ => (none, s))

/-- YIELD_LIMIT_EXPIRY (R253): a stop that no YIELD has honoured takes effect at a microword boundary. -/
def execYieldLimitExpiry (m : Fin 5) (k : Fin 256) (s : State) : Out :=
  .next (s.unreset fun s =>
    match s.sqr m k with
    | some q => if q.rom then s else s.takeStop m k q
    | none => s)

/-! ## Customer operations (R251, R255) -/

/-- The checks of a customer operation (R160, R255). -/
def customChecks (cls e k : Nat) : JobM Nat := do
  let s0 ← get
  let j := s0.job e
  let u := if cls = 3 then 33 else k
  let l ← fetchDesc { mcls := clsMaster cls, unit := u, acts := [j.polder] } (ctrlOfJob s0 j 15) e
  let fn := j.opc - 0x80
  need (s0.custOn cls) 0x13
  need (if cls = 3 then (parseDig l).mbz l else (parseEng l).mbz l) 0x12
  need (decide (hdrHreq l < 3) && (decide (cls = 3) || decide ((parseEng l).hash < 6))) 0x13
  let s ← get
  need (!s.locked) 0x15
  need (decide (s.lcs ≠ 4)) 0x14
  let sv := hdrSv l
  let use := leAt (tget (fun _ => []) s.mcs.usage cls) fn 1
  let pub := s.mcsPublic cls fn
  if sv then
    need (pub || decide (use ≠ 0)) 0x08
    let key ← inSlot j.polder (hdrSlot l) sv (fun _ => true)
    if !pub then need (decide (Nat.land key.usage use = use)) 0x09
    need (!key.expired s) 0x09
  else need (pub || decide (use = 0)) 0x08
  if bit (leAt l 76 2) 15 then outSlot j.polder (leAt l 76 2 % 2 ^ 14) true
  pure fn

/-- The work of CUSTOMER_OPERATION: the checks, the key's setup (R182), then the unit's sequencer enters the function. -/
def customStart (cls e k : Nat) : JobM JobOut := do
  let fn ← customChecks cls e k
  act (fun s =>
    let q : Sqr := { work := e, fn := fn, pc := 0x8000 + fn }
    let l := (s.job e).bytes
    let key := if hdrSv l ∧ !s.mcsPublic cls fn then some (hdrSlot l, s.sqrLevel cls q) else none
    (if cls ≤ 1 then s.noteKey cls k key else s).setSqr cls k q)
  throw .wait

/-- A hash core that runs no customer function. -/
def State.freeCore (s : State) : Option Nat :=
  findFrom (fun k => bit (s.fld F.DIG_CORE_ONLINE_ONLINE) k && !s.frozen 5 k && !s.inReset 8 k && !s.unitCustom 3 k) 32 0

/-- CUSTOMER_OPERATION (R251, R255): a queued job with OPC 0x80 to 0xFF of LE, CE, BE or DE starts. -/
def execCustomerOperation (e : SlotId) (s : State) : Out :=
  .next (s.unreset fun s =>
    let j := s.job e
    if s.power.pwrFail then s
    else if j.cls ≤ 2 then s.startJob e j.cls (fun x => decide (x ≥ 0x80)) (customStart j.cls e)
    else if j.cls = 3 ∧ !s.halted j.polder ∧ j.st = .queued ∧ j.opc ≥ 0x80 ∧ !s.tamperFrozen ∧ !s.mcsHeld 3 j.opc ∧ !(!j.granted ∧ s.frozen 5 33) then
      match s.freeCore with
      | none => s
      | some k =>
        if s.drbgReady (instFor 3 k) then
          ((s.dequeue e).setJob e { j with st := .running, engine := some k, held := false }).doJob e (customStart 3 e k)
        else s.holdJob e
    else s)

/-! ## Loading (R257 to R263) -/

/-- An image's header fields (R259). -/
structure McsImage where
  cls : Nat
  kind : Nat
  version : Nat
  mw : Nat
  nw : Nat
  mt : Nat
  flags : Nat
  sigAlg : Nat
  sigLen : Nat
  pubmap : Nat
  unit : Nat
  deriving DecidableEq, Repr

/-- The header in an image's first 192 bytes (R259). -/
def parseMcs (l : List Byte) : McsImage :=
  { cls := leAt l 6 1, kind := leAt l 7 1, version := leAt l 8 4, mw := leAt l 12 2, nw := leAt l 14 2, mt := leAt l 16 1, flags := leAt l 17 1,
    sigAlg := leAt l 18 1, sigLen := leAt l 20 4, pubmap := leAt l 24 16, unit := leAt l 40 16 }

/-- Bytes of an image's body. -/
def McsImage.body (h : McsImage) : Nat := 4 * h.mw + 24 * h.nw + 4 * h.mt

/-- The microwords of a body. -/
def imageWords (h : McsImage) (l : List Byte) : List Nat := (List.range h.mw).map (fun i => leAt l (192 + 4 * i) 4)

/-- The nanowords of a body. -/
def imageNanos (h : McsImage) (l : List Byte) : List Nat := (List.range h.nw).map (fun i => leAt l (192 + 4 * h.mw + 24 * i) 24)

/-- The match entries of a body: ROM address and target. -/
def imageMatches (h : McsImage) (l : List Byte) : List (Nat × Nat) :=
  (List.range h.mt).map (fun i => let o := 192 + 4 * h.mw + 24 * h.nw + 4 * i; (leAt l o 2, leAt l (o + 2) 2))

/-- A word of an image is valid at its address and transfers as R248 allows (check 8 of R260). -/
def imageWordOk (a w : Nat) : Bool :=
  let on := mayGo a (a + 1) false
  match parseMWord w with
  | .bad => false
  | .issue nw _ _ => mayIssue a nw && on
  | .branch c t => (decide (c = 32) || mayGo a t false) && (decide (c = 0) || on)
  | .djnz _ t => mayGo a t false && on
  | .call t => mayGo a t true && on
  | .ret => true
  | .done _ => true
  | _ => on

/-- An entry-vector word of a customer image (R251). -/
def entryOk (w : Nat) : Bool :=
  match parseMWord w with
  | .branch c t => decide (c = 0) && decide (0x8080 ≤ t ∧ t < 0xA000)
  | .done a => decide (a = 0x13)
  | _ => false

/-- No number occurs twice. -/
def distinct : List Nat → Bool
  | [] => true
  | a :: t => !t.contains a && distinct t

/-- The signature of an image is good (check 6 of R260): both vendor keys' for a patch, laid out as a boot image's (DEDUCED, log entry 79), or the
key of slot 16,379. -/
def State.mcsSigOk (s : State) (l : List Byte) : Bool :=
  let h := parseMcs l
  let msg := l.take (192 + h.body)
  let sig := bytesAt l (192 + h.body) h.sigLen
  let a := leAt sig 0 4
  if h.kind = 1 then
    decide (8 + a + leAt sig (4 + a) 4 = h.sigLen) && Config.verify 0x80 0 (Config.vendorKey 0x80) msg [] (bytesAt sig 4 a) &&
      Config.verify 0x13 0 (Config.vendorKey 0x13) msg [] (bytesAt sig (8 + a) (leAt sig (4 + a) 4))
  else Config.verify (s.key 16379).alg 0 (s.key 16379).pubPart msg [] sig

/-- Checks 1 to 5 of R260 on the `len` bytes of an image, which come before the signature: the first failure as status and DETAIL. -/
def State.imageCheck1 (s : State) (len : Nat) (l : List Byte) : Option (Nat × Nat) :=
  let h := parseMcs l
  let own := s.fld (F.LCS_UNIT_ID_ID 0) + 2 ^ 64 * s.fld (F.LCS_UNIT_ID_ID 1)
  let words := imageWords h l
  let key := s.key 16379
  if len < 192 ∨ bytesAt l 0 4 ≠ [0x4D, 0x43, 0x4F, 0x44] ∨ leAt l 4 2 ≠ 1 ∨ leAt l 19 1 ≠ 0 ∨ h.flags ≥ 2 ∨ !zeroAt l 56 63 ∨
      len ≠ 192 + h.body + h.sigLen ∨ words.any (fun w => decide (w ≥ 2 ^ 24)) ∨
      (h.kind = 1 ∧ (h.pubmap ≠ 0 ∨ !zeroAt l 64 191)) then some (0x12, 0)
  else if h.cls > 4 ∨ (h.kind ≠ 1 ∧ h.kind ≠ 2) ∨ !(if h.kind = 1 then decide (h.sigAlg = 3) else decide (h.sigAlg = 1 ∨ h.sigAlg = 2)) ∨
      (h.kind = 2 ∧ h.cls = 4 ∧ h.pubmap ≠ 2 ^ 128 - 1) then some (0x13, 0)
  else if s.lcs = 4 ∨ (h.kind = 2 ∧ s.lcs ≠ 1 ∧ s.lcs ≠ 2) ∨ (h.unit ≠ 0 ∧ h.unit ≠ own) then some (0x14, 0)
  else if h.kind = 2 ∧ (key.ty = 0 ∨ key.alg ≠ (if h.sigAlg = 1 then 0x13 else 0x80)) then some (0x08, 0)
  else if h.mw > (if h.kind = 1 then 512 else 8192) ∨ h.nw > (if h.kind = 1 then 256 else 768) ∨ h.mt > (if h.kind = 1 then 32 else 0) then
    some (0x17, 0)
  else none

/-- Checks 6 to 8 of R260. -/
def State.imageCheck2 (s : State) (l : List Byte) : Option (Nat × Nat) :=
  let h := parseMcs l
  let words := imageWords h l
  let base := if h.kind = 2 then 0x8000 else 0xA000
  let mt := imageMatches h l
  if !s.mcsSigOk l then some (0x07, 0)
  else if h.kind = 2 ∧ h.version < s.fld (F.MCS_CUST_FLOOR_FLOOR h.cls) then some (0x14, 1)
  else if !(List.range h.mw).all (fun i => imageWordOk (base + i) (words.getD i 0)) ∨ !(imageNanos h l).all (nanoOk h.cls) ∨
      (h.kind = 2 ∧ !(words.take 128).all entryOk) ∨ !distinct (mt.map (·.1)) ∨
      mt.any (fun p => decide (p.1 < 0x100) || decide (p.1 ≥ 0x8000)) then some (0x12, 0)
  else none

/-- The checks of R260 in order. -/
def State.imageCheck (s : State) (len : Nat) (l : List Byte) : Option (Nat × Nat) := (s.imageCheck1 len l).or (s.imageCheck2 l)

/-- The classes whose ordinary verification jobs check an image's signature (R260): LE for ML-DSA-87, DE for LMS. -/
def mcsVerifiers (l : List Byte) : List Nat :=
  match (parseMcs l).sigAlg with
  | 1 => [0]
  | 2 => [3]
  | _ => [0, 3]

/-- A load ends with a result (R260). -/
def State.loadEnds (s : State) (m st detail : Nat) : State :=
  (((((s.setFld F.MCS_STATUS_RESULT st).setFld F.MCS_STATUS_DETAIL detail).setFld F.MCS_STATUS_CLASS m).setFld F.MCS_STATUS_BUSY 0).setFld
    F.MCS_STATUS_GEN_PENDING 0).setFld F.MCS_STATUS_DONE 1

/-- A load or clear is staged; in NOREF its edge is at once (R261). -/
def State.stageLoad (s : State) (l : McsLoad) : State :=
  let now := decide (s.fld F.EPC_STATUS_STATE = 0)
  let s1 := ((s.setFld F.MCS_STATUS_BUSY 1).setFld F.MCS_STATUS_CLASS l.m).setFld F.MCS_STATUS_GEN_PENDING (b2n now)
  { s1 with mcs := { s1.mcs with staged := some { l with edge := now } } }

/-- The staged form of a checked image. -/
def stagedImage (l : List Byte) : McsLoad :=
  let h := parseMcs l
  { m := h.cls, kind := h.kind, version := h.version, floor := bit h.flags 0, words := imageWords h l, nanos := imageNanos h l,
    matches_ := imageMatches h l, pubmap := h.pubmap, usage := bytesAt l 64 128, digest := sha3 (l.take (192 + h.body)) }

/-- The image's signature is verified, for which the load waits as its jobs do (R156, R260), and the image staged or refused (R261). -/
def State.verifyLoad (s : State) : State :=
  match s.mcs.verifying with
  | none => s
  | some (l, _) =>
    if !s.hwCan 0 (mcsVerifiers l) then s
    else
      let s1 := { s with mcs := { s.mcs with verifying := none } }.hwDid (mcsVerifiers l)
      match s.imageCheck2 l with
      | some r => s1.loadEnds (parseMcs l).cls r.1 r.2
      | none => s1.stageLoad (stagedImage l)

/-- An image is checked, and staged or refused (R260, R261). -/
def State.loadImage (s : State) (l : List Byte) (len : Nat) : State :=
  match s.imageCheck1 len l with
  | some r => s.loadEnds (parseMcs l).cls r.1 r.2
  | none => ({ (s.setFld F.MCS_STATUS_BUSY 1).setFld F.MCS_STATUS_CLASS (parseMcs l).cls with mcs := { s.mcs with verifying := some (l, len) } }).verifyLoad

/-- A write of MCS_CTRL.OP = 1 (R260). -/
def State.mcsLoad (s : State) : State :=
  if s.fld F.MCS_STATUS_BUSY = 1 then s.setFld F.MCS_STATUS_CFG_ERR 1 else
  let len := s.fld F.MCS_LOAD_LEN_LEN
  let r := s.unitRead mgmtMaster (hwCtrl s 0 15) (s.fld F.MCS_LOAD_ADDR_ADDR * 64) len
  match r.1 with
  | .ok => r.2.2.loadImage r.2.1 len
  | .poison => r.2.2.loadEnds 0 0x16 0
  | _ => r.2.2.loadEnds 0 0x0D 0

/-- MCS_LOAD (R260). -/
def execMcsLoad (s : State) : Out := .next (s.unreset fun s => s.mcsLoad)

/-- A write of MCS_CTRL.OP = 2 (R261). -/
def State.mcsClear (s : State) (cls : Nat) : State :=
  if s.fld F.MCS_STATUS_BUSY = 1 ∨ 5 ≤ cls then s.setFld F.MCS_STATUS_CFG_ERR 1
  else (s.setFld F.MCS_CTRL_CLASS cls).stageLoad { m := cls, kind := 3 }

/-- MCS_CLEAR (R261). -/
def execMcsClear (cls : Fin 8) (s : State) : Out := .next (s.unreset fun s => s.mcsClear cls)

/-- CUST_EN may be written: from the end of the boot, but for a recovery boot (R258). -/
def State.custWritable (s : State) : Bool := decide (s.fld F.PWR_BOOT_STATE = 4) && decide (s.fld F.PWR_BOOT_SRC ≠ 2)

/-- A write of CUST_EN (R257, R258, R261). -/
def State.writeCustEn (s : State) (v : Bool) : State :=
  if !s.custWritable then s
  else if v then
    if s.lcs = 1 ∨ s.lcs = 2 then { s.setFld F.MCS_CTRL_CUST_EN 1 with mcs := { s.mcs with enOff := false } } else s.setFld F.MCS_STATUS_CFG_ERR 1
  else if s.fld F.EPC_STATUS_STATE = 0 then { s.setFld F.MCS_CTRL_CUST_EN 0 with mcs := { s.mcs with enOff := false } }
  else { s with mcs := { s.mcs with enOff := true } }

/-- CUST_EN_WRITE (R258). -/
def execCustEnWrite (v : Bool) (s : State) : Out := .next (s.unreset fun s => s.writeCustEn v)

/-- MICROCODE_STAGING_EDGE (R261): a tick edge, while the counter moves. -/
def execMicrocodeStagingEdge (s : State) : Out :=
  .next (s.unreset fun s =>
    if !s.counting then s else
    let s := s.verifyLoad
    let s1 := if s.mcs.enOff then { s.setFld F.MCS_CTRL_CUST_EN 0 with mcs := { s.mcs with enOff := false } } else s
    match s1.mcs.staged with
    | some l => { s1.setFld F.MCS_STATUS_GEN_PENDING 1 with mcs := { s1.mcs with staged := some { l with edge := true } } }
    | none => s1)

/-- Work that a load waits for has ended (R261): for a customer region its functions, for a patch every started job of the class. -/
def State.loadClear (s : State) (l : McsLoad) : Bool :=
  decide (s.custInflight l.m = 0) &&
    (decide (l.kind ≠ 1) ||
      (if l.m = 4 then (List.range 152).all (fun u => (s.worker (u + 64)).task.isNone)
       else s.jobs.tab.all (fun e => !(decide (e.2.cls = l.m) && decide (e.2.st = .running)))))

/-- Words of a region in a store, each plus 1; the region's old words are gone. -/
def loadRegion (t : Tbl Nat) (lo hi base : Nat) (l : List Nat) : Tbl Nat :=
  let t1 := t.filter (fun e => !(decide (lo ≤ e.1) && decide (e.1 < hi)))
  ((List.range l.length).zip l).foldl (fun t p => tset (fun _ => 0) t (base + p.1) (p.2 + 1)) t1

/-- A digest is shown in four registers. -/
def State.showDigest (s : State) (f : Nat → Fld) (l : List Byte) : State :=
  (List.range 4).foldl (fun s j => s.setFld (f j) (leAt l (8 * j) 8)) s

/-- The match registers of a patch. -/
def State.writeMatches (s : State) (m : Nat) (l : List (Nat × Nat)) : State :=
  (List.range 32).foldl (fun s i =>
    let p := l.getD i (0, 0)
    ((s.setFld (F.MCS_MATCH_V m i) (b2n (decide (i < l.length)))).setFld (F.MCS_MATCH_ADDR m i) p.1).setFld (F.MCS_MATCH_TARGET m i) p.2) s

/-- A staged load is written (R261, R262). -/
def State.applyLoad (s : State) (l : McsLoad) : State :=
  let cust := decide (l.kind ≠ 1)
  let lo := 2 ^ 16 * l.m + (if cust then 0x8000 else 0xA000)
  let hi := 2 ^ 16 * l.m + (if cust then 0xA000 else 0xA200)
  let nlo := 2 ^ 12 * l.m + (if cust then 0xC00 else 0xF00)
  let nhi := 2 ^ 12 * l.m + (if cust then 0xF00 else 0x1000)
  let s1 := { s with mcs := { s.mcs with staged := none, micro := loadRegion s.mcs.micro lo hi lo l.words,
                                         nano := loadRegion s.mcs.nano nlo nhi nlo l.nanos } }
  let s2 :=
    if l.kind = 1 then
      let a := ((s1.writeMatches l.m l.matches_).setFld (F.MCS_PATCH_VERSION_VERSION l.m) l.version).setFld (F.MCS_STATE_PATCH_VALID l.m) 1
      let b := a.showDigest (F.MCS_PATCH_DIGEST_DIGEST l.m) l.digest
      { b with mcs := { b.mcs with noPatch := b.mcs.noPatch.filter (· ≠ l.m) } }
    else if l.kind = 2 then
      let a := (s1.setFld (F.MCS_CUST_VERSION_VERSION l.m) l.version).setFld (F.MCS_STATE_CUST_VALID l.m) 1
      let b := (a.showDigest (F.MCS_CUST_DIGEST_DIGEST l.m) l.digest).setFld (F.MCS_PUBMAP_PUB l.m 0) (l.pubmap % 2 ^ 64)
      let c := b.setFld (F.MCS_PUBMAP_PUB l.m 1) (l.pubmap / 2 ^ 64)
      let d := { c with mcs := { c.mcs with usage := tset (fun _ => []) c.mcs.usage l.m l.usage } }
      if l.floor then d.setFld (F.MCS_CUST_FLOOR_FLOOR l.m) (max l.version (d.fld (F.MCS_CUST_FLOOR_FLOOR l.m))) else d
    else s1.setFld (F.MCS_STATE_CUST_VALID l.m) 0
  s2.loadEnds l.m 0 0

/-- MICROCODE_APPLY (R260, R261): a signature that waited for its engine is verified; a load whose edge has passed is applied. The floor is an
MRAM write, which waits for PWR_FAIL_N (R500). -/
def execMicrocodeApply (s : State) : Out :=
  .next (s.unreset fun s0 =>
    let s := s0.verifyLoad
    match s.mcs.staged with
    | some l => if l.edge && s.loadClear l && !(l.floor && s.power.pwrFail) then s.applyLoad l else s
    | none => s)

end Sys2Proof.Machine
end

