-- ==== Sys2Proof/Machine/Peer.lean ====
section
/-!
DEFINITION. Sys2Proof/Machine/Peer.lean: peer links: flits with CRC, tag, sequence and credit (R479 to R482), keying (R483, R484), the
messages (R482, R486, R487), the course of a link (R477, R478, R488) and the epoch cross-check (R489).
-/

namespace Sys2Proof.Machine

/-- A peer link. -/
def State.peer (s : State) (l : Nat) : Peer := tget (fun _ => {}) s.peers l

/-- The state with a peer link replaced. -/
def State.setPeer (s : State) (l : Nat) (x : Peer) : State := { s with peers := tset (fun _ => {}) s.peers l x }

/-- A link's state (R478). -/
def State.linkState (s : State) (l : Nat) : Nat := s.fld (F.PER_LSTAT_STATE l)

/-- A link enters a state; PER_STATUS.UP follows (R478, R490). -/
def State.setLink (s : State) (l st : Nat) : State :=
  let m := s.fld F.PER_STATUS_UP
  let up := if st = 3 then setBit m l else if bit m l then m - 2 ^ l else m
  (s.setFld (F.PER_LSTAT_STATE l) st).setFld F.PER_STATUS_UP up

/-! ## Flits (R479 to R482) -/

/-- One bit of CRC-32, reflected. -/
def crcStep : Nat → Nat → Nat
  | 0, c => c
  | n + 1, c => crcStep n (if c % 2 = 1 then Nat.xor (c / 2) 0xEDB88320 else c / 2)

/-- CRC-32 of IEEE 802.3. -/
def crc32 (l : List Byte) : Nat := Nat.xor (l.foldl (fun c b => crcStep 8 (Nat.xor c b.toNat)) 0xFFFFFFFF) 0xFFFFFFFF

/-- A flit header (R480). -/
structure FlitHdr where
  ty : Nat
  seq : Nat
  ack : Nat
  nak : Bool
  vc : Nat
  credit : Nat
  cvc : Nat
  len : Nat
  kgen : Nat
  deriving DecidableEq, Repr

/-- The header as 64 bits (R480). -/
def FlitHdr.word (h : FlitHdr) : Nat :=
  h.ty * 2 ^ 60 + h.seq * 2 ^ 48 + h.ack * 2 ^ 36 + b2n h.nak * 2 ^ 35 + h.vc * 2 ^ 32 + h.credit * 2 ^ 24 + h.cvc * 2 ^ 21 + h.len * 2 ^ 8 +
    h.kgen

/-- The header in 64 bits (R480). -/
def parseFlit (w : Nat) : FlitHdr :=
  { ty := bits w 63 60, seq := bits w 59 48, ack := bits w 47 36, nak := bit w 35, vc := bits w 34 32, credit := bits w 31 24,
    cvc := bits w 23 21, len := bits w 15 8, kgen := bits w 7 0 }

/-- The buffer of a channel, in flits (R482). -/
def vcSize (vc : Nat) : Nat := match vc with | 0 => 768 | 1 => 192 | _ => 64

/-- The nonce of a direction's flit (R480). -/
def flitNonce (responder : Bool) (count : Nat) : List Byte := leBytes 4 (b2n responder) ++ leBytes 8 count

/-- A flit's bytes (R479): sealed under a key, or in clear with TAG 0 where there is none yet. -/
def flitBytes (key : List Byte) (responder : Bool) (count : Nat) (h : FlitHdr) (pay : List Byte) : List Byte :=
  let hdr := leBytes 8 h.word
  let p := fitLen 228 pay
  let body := if key = [] then p ++ List.replicate 16 (0 : Byte) else fitLen 244 (Config.aeadSeal 0x02 key (flitNonce responder count) hdr p)
  let l := hdr ++ body
  l ++ leBytes 4 (crc32 l)

/-- This device is the responder of a link's handshake. -/
def Peer.responder (x : Peer) : Bool := x.keying.init == some false

/-- A list's element replaced in a vector of three. -/
def set3 {α : Type} (v : Vector α 3) (i : Nat) (a : α) : Vector α 3 := v.setIfInBounds i a

/-- A vector's element, for a channel that may not exist. -/
def get3 {α : Type} (d : α) (v : Vector α 3) (i : Nat) : α := v.toList.getD i d

/-- One flit is sent: it carries the acknowledgement and the credits of one channel, and takes the next count of the key (R480). -/
def State.sendFlit (s : State) (l ty vc : Nat) (pay : List Byte) : State :=
  let x := s.peer l
  let c := ((List.range 3).find? (fun c => decide (get3 0 x.owed c ≠ 0))).getD 0
  let n := min 255 (get3 0 x.owed c)
  let seq := if ty = 0 then (x.txSeq + 4095) % 4096 else x.txSeq
  let h : FlitHdr := { ty := ty, seq := seq, ack := x.rxSeq, nak := x.nak, vc := vc, credit := n, cvc := c, len := pay.length,
                       kgen := x.tx.gen % 256 }
  let f := flitBytes x.tx.key x.responder x.tx.count h pay
  let y := { x with owed := set3 x.owed c (get3 0 x.owed c - n), tx := { x.tx with count := x.tx.count + 1 },
                    txSeq := if ty = 0 then x.txSeq else (x.txSeq + 1) % 4096,
                    retry := if ty = 0 then x.retry else x.retry ++ [(seq, 0, f)] }
  (s.setPeer l y).send (.flit l f)

/-- The channel that sends next: control first (R482). -/
def Peer.ready (x : Peer) : Option Nat :=
  [2, 0, 1].find? (fun c => !(get3 [] x.txq c).isEmpty && decide (get3 0 x.credits c ≠ 0))

/-- Flits are sent as far as the retry buffer and the credits allow (R481, R482). -/
def State.pumpLink (s : State) (l : Nat) : Nat → State
  | 0 => s
  | f + 1 =>
    let x := s.peer l
    if x.retry.length ≥ 512 then s else
    match x.ready with
    | none => s
    | some c =>
      match get3 [] x.txq c with
      | [] => s
      | m :: t =>
        let pay := (m.drop 1).take 228
        let left := (m.drop 1).drop 228
        let last := left.isEmpty
        let s1 := s.sendFlit l (leAt m 0 1) c pay
        let y := s1.peer l
        let sends := if c = 1 ∧ last then
            match y.sends with
            | b :: r => { b with sent := some x.txSeq } :: r
            | [] => []
          else y.sends
        (s1.setPeer l { y with txq := set3 y.txq c (if last then t else (m.take 1 ++ left) :: t),
                               credits := set3 y.credits c (get3 0 y.credits c - 1), sends := sends }).pumpLink l f

/-- What a link has to send is sent, as far as it may be. -/
def State.pump (s : State) (l : Nat) : State := s.pumpLink l 512

/-- A message or keying payload is queued on a channel, behind its flit TYPE. -/
def State.queueTx (s : State) (l vc ty : Nat) (b : List Byte) : State :=
  let x := s.peer l
  (s.setPeer l { x with txq := set3 x.txq vc (get3 [] x.txq vc ++ [BitVec.ofNat 8 ty :: b]) }).pump l

/-- A message with its header (R482). -/
def peerMsg (mtype arg : Nat) (data : List Byte) : List Byte :=
  leBytes 1 mtype ++ leBytes 3 0 ++ leBytes 4 data.length ++ leBytes 8 arg ++ data

/-- A message is sent on a link (R482). -/
def State.sendMsg (s : State) (l vc mtype arg : Nat) (data : List Byte) : State := s.queueTx l vc 1 (peerMsg mtype arg data)

/-! ## EXCHANGE on the links (R393, R394, R486) -/

/-- The EXCHANGEs of live runs that use a link and have not ended, as (run, operator). -/
def State.exOn (s : State) (l : Nat) : List (Nat × OpDef) :=
  s.opu.runs.flatMap (fun r =>
    if s.runLive r.1 then
      (r.2.ops.filter (fun o => decide (o.code = 12) && (parseEx o.params).links.contains l && !(r.2.op o.index).emitted)).map (fun o => (r.1, o))
    else [])

/-- The EXCHANGE of an EXID on a link. -/
def State.exById (s : State) (l exid : Nat) : Option (Nat × OpDef) := (s.exOn l).find? (fun p => decide ((parseEx p.2.params).exid = exid))

/-- The links of the peers of an EXCHANGE, by device index. -/
def ExPar.peers (p : ExPar) : List Nat := ((List.range p.n).filter (· ≠ p.self)).map (fun i => p.links.getD i 0xFF)

/-- Entries of the output queue that each peer may be granted; the first stays for local rows, as do those left over. -/
def exShare (o : OpDef) : Nat := (o.qdepth - 1) / ((parseEx o.params).n - 1)

/-- The link an entry of an EXCHANGE's queue is kept for, if any. -/
def exOwner (o : OpDef) (k : Nat) : Option Nat := if k = 0 ∨ exShare o = 0 then none else (parseEx o.params).peers[(k - 1) / exShare o]?

/-- The free entries kept for a peer are reserved and granted to it (R394, R486). -/
def State.grantPeer (s : State) (e : Nat) (o : OpDef) (l : Nat) (always : Bool) : State :=
  let x := s.opRun e o.index
  let ks := (List.range x.q.length).filter (fun k => decide (exOwner o k = some l) && decide ((x.q.getD k { addr := 0 }).st = 0))
  if ks.isEmpty && !always then s else
  (s.setOpRun e o.index (ks.foldl (fun x k => x.mark k (4 + l)) x)).sendMsg l 2 3 ((parseEx o.params).exid + ks.length * 2 ^ 32) []

/-- What of an EXCHANGE waits for peers is sent as far as their grants reach, and END once all of it is sent (R394, R486). -/
def State.exSend (s : State) (e : Nat) (o : OpDef) (l : Nat) : State :=
  let p := parseEx o.params
  let x := s.opRun e o.index
  let g := tget (fun _ => 0) (s.peer l).grants p.exid
  if g = 0 then s else
  match x.ext.find? (fun b => decide (b.key = [l])) with
  | some b =>
    if g < 2 then s else
    let y := s.peer l
    let s1 := s.setPeer l { y with grants := tset (fun _ => 0) y.grants p.exid (g - 1) }
    (s1.setOpRun e o.index { x with ext := x.ext.erase b, rowsOut := x.rowsOut + b.accs.length }).sendMsg l 0 1 p.exid
      (denseBatch x.outTypes b.accs).bytes
  | none =>
    if x.ended ∧ !x.split.contains l then
      (s.setOpRun e o.index { x with split := x.split ++ [l] }).sendMsg l 2 2 p.exid []
    else s

/-- Every waiting batch of an EXCHANGE is tried. -/
def State.exSends (s : State) (e : Nat) (o : OpDef) : State :=
  ((parseEx o.params).peers.flatMap (fun l => List.replicate ((s.opRun e o.index).ext.length + 1) l)).foldl (fun s l => s.exSend e o l) s

/-- The EXCHANGEs of every live run: entries that have freed are granted again, the end of local input is noted, and what waits is sent. -/
def State.exAll (s : State) : State :=
  (s.opu.runs.flatMap (fun r => (r.2.ops.filter (fun o => decide (o.code = 12))).map (fun o => (r.1, o)))).foldl
    (fun s p =>
      if s.runLive p.1 && !(s.opRun p.1 p.2.index).emitted then
        let s1 := (parseEx p.2.params).peers.foldl (fun s l => s.grantPeer p.1 p.2 l false) s
        let x := s1.opRun p.1 p.2.index
        let s2 := if x.inEndedAt.isNone && s1.inputEnded p.1 p.2.index then
            s1.setOpRun p.1 p.2.index { x with inEndedAt := some s1.tick, ended := true }
          else s1
        s2.exSends p.1 p.2
      else s) s

/-- The first grants of a run that starts (R486). -/
def State.exStart (s : State) (e : Nat) : State :=
  ((s.run e).ops.filter (fun o => decide (o.code = 12))).foldl
    (fun s o => if s.runLive e then (parseEx o.params).peers.foldl (fun s l => s.grantPeer e o l true) s else s) s

/-! ## Bulk messages (R487) -/

/-- A vector's interrupt, unless masked (R487). -/
def State.msix0 (s : State) : State := if s.fld (F.PLD_IRQ_MASK 0) = 1 then s else s.send (.msix (s.via 0) 0)

/-- A bulk send completes: its descriptor's header, CPL and the interrupt (R61, R487). -/
def State.bulkDone (s : State) (l desc st : Nat) (readable : Bool) : State :=
  let s1 := if readable then ((((s.put desc (leBytes 1 st)).put (desc + 2) (leBytes 2 0)).put (desc + 4) (leBytes 4 0)).put (desc + 1) [1]) else s
  let s2 := s1.setFld (F.PER_LSTAT_CPL l) 1
  if s.fld F.PER_CTRL_IRQ_EN = 1 then s2.msix0 else s2

/-- A send ends with ABORTED; one whose descriptor was never read is checked first (R488, R531). -/
def State.bulkCut (s : State) (l : Nat) (b : BulkSend) : State :=
  if b.sent.isSome then s.bulkDone l b.desc 0x16 true
  else
    let r := s.unitCheckW mgmtMaster (hwCtrl s 0 15) b.desc 64 false
    r.2.bulkDone l b.desc 0x16 (decide (r.1 = .ok))

/-- A bulk descriptor's must-be-zero bits (R60, R487). -/
def bulkOk (d : List Byte) : Bool :=
  hdrOk d && !hdrSv d && decide (hdrHreq d = 0) && zeroAt d 28 31 && zeroAt d 40 63 && decide (leAt d 16 8 < 2 ^ 48)

/-- The status with which a send fails at once, else its data (R487). -/
def State.bulkData (s : State) (d : List Byte) : Option Nat × List Byte × State :=
  if hdrHreq d = 3 then (some 0x13, [], s)
  else if !bulkOk d then (some 0x12, [], s)
  else if leAt d 24 4 = 0 ∨ leAt d 24 4 > 16777216 then (some 0x17, [], s)
  else
    let r := s.unitRead mgmtMaster (hwCtrl s 0 15) (leAt d 16 8) (leAt d 24 4)
    match r.1 with
    | .ok => (none, r.2.1, r.2.2)
    | .poison => (some 0x16, [], r.2.2)
    | _ => (some 0x0D, [], r.2.2)

/-- The head of a link's sends starts, if the peer has granted a buffer; sends that fail complete and the next is tried (R487). -/
def State.startSends (s : State) (l : Nat) : Nat → State
  | 0 => s
  | f + 1 =>
    let x := s.peer l
    let g := tget (fun _ => 0) x.grants 0
    match x.sends with
    | [] => s
    | b :: t =>
      if b.sent.isSome ∨ !(get3 [] x.txq 1).isEmpty ∨ g = 0 ∨ s.linkState l ≠ 3 then s else
      let r := s.unitRead mgmtMaster (hwCtrl s 0 15) b.desc 64
      if r.1 ≠ .ok then ((r.2.2.setPeer l { r.2.2.peer l with sends := t }).bulkDone l b.desc (if r.1 = .poison then 0x16 else 0x0D) false).startSends l f
      else
        let d := r.2.1
        let q := r.2.2.bulkData d
        match q.1 with
        | some st => ((q.2.2.setPeer l { q.2.2.peer l with sends := t }).bulkDone l b.desc st true).startSends l f
        | none =>
          let y := q.2.2.peer l
          (q.2.2.setPeer l { y with grants := tset (fun _ => 0) y.grants 0 (g - 1) }).sendMsg l 1 4 (leAt d 32 8) q.2.1

/-- Receive buffers of a link's ring that are free (R487, R490). -/
def State.rxFree (s : State) (l : Nat) : Nat :=
  2 ^ s.fld (F.PER_RX_BASE_SIZE l) - (s.fld (F.PER_RX_PTR_TAIL l) + 128 - s.fld (F.PER_RX_PTR_HEAD l)) % 128

/-- Free buffers that the peer does not yet hold are granted to it (R487). -/
def State.grantBulk (s : State) (l : Nat) : State :=
  let x := s.peer l
  let n := s.rxFree l - x.granted
  if n = 0 ∨ s.linkState l ≠ 3 then s else (s.setPeer l { x with granted := x.granted + n }).sendMsg l 2 3 (n * 2 ^ 32) []

/-! ## The course of a link (R477, R478, R488) -/

/-- What a link held is discarded (R484, R488): sends complete with ABORTED and EXCHANGE runs on the link fail. -/
def State.dropLink (s : State) (l : Nat) : State :=
  let x := s.peer l
  let exs := (s.exOn l).map (·.1)
  let s1 := s.setPeer l {}
  let s2 := x.sends.foldl (fun s b => s.bulkCut l b) s1
  exs.foldl (fun s e => s.failRun e 0x16 0) s2

/-- A link leaves TRAINING, KEYING or UP for DOWN, and trains again while EN is 1 (R478). -/
def State.linkDown (s : State) (l : Nat) : State :=
  let st := s.linkState l
  if st = 0 ∨ st ≥ 4 then s else
  let s1 := (if st = 3 then s.dropLink l else s.setPeer l { sends := (s.peer l).sends }).latchUnit 29 l
  (s1.setLink l (if s.fld (F.PER_CFG_EN l) = 1 then 1 else 4)).setFld (F.PER_LSTAT_LANES l) 0

/-- A block reset of a link re-enters TRAINING from any state but OFF (R419, R478). -/
def State.linkReset (s : State) (l : Nat) : State :=
  let st := s.linkState l
  if st ≤ 1 then s else
  let s1 := if st = 3 then s.dropLink l else s.setPeer l { sends := (s.peer l).sends }
  (s1.setLink l 1).setFld (F.PER_LSTAT_LANES l) 0

/-- A link enters FAILED (R478, R483). -/
def State.linkFailed (s : State) (l : Nat) : State :=
  ((s.setPeer l { sends := (s.peer l).sends }).setLink l 5).latchUnit 29 l

/-- This device's unit ID (R483). -/
def State.unitId (s : State) : List Byte := leBytes 8 (s.fld (F.LCS_UNIT_ID_ID 0)) ++ leBytes 8 (s.fld (F.LCS_UNIT_ID_ID 1))

/-- A keying payload is sent; during a first handshake in clear, later under the key in force, on channel 2 (R483, R484). -/
def State.sendKeyx (s : State) (l : Nat) (b : List Byte) : State := s.queueTx l 2 2 b

/-- A handshake begins with ANNOUNCE (R483). -/
def State.announce (s : State) (l : Nat) (rekey : Bool) : State :=
  let x := s.peer l
  (s.setPeer l { x with keying := { init := if rekey then x.keying.init else none, rekey := rekey } }).sendKeyx l (leBytes 1 0 ++ s.unitId)

/-- LINK_TRAINED (R477, R478): on all lanes, or on one fully trained half. -/
def execLinkTrained (l : Fin 16) (lanes : BitVec 8) (s : State) : Out :=
  .next (s.unreset fun s =>
    if s.linkState l ≠ 1 ∨ lanes.toNat ∉ [0xFF, 0x0F, 0xF0] then s else
    let x := s.peer l
    let y : Peer := { sends := x.sends, credits := #v[768, 192, 64] }
    (((s.setPeer l y).setLink l 2).setFld (F.PER_LSTAT_LANES l) lanes.toNat).announce l false)

/-- LINK_TRAINING_TIMEOUT (R477). -/
def execLinkTrainingTimeout (l : Fin 16) (s : State) : Out :=
  .next (s.unreset fun s => if s.linkState l = 1 then s.linkDown l else s)

/-- PEER_LINK_DOWN (R478, R488): the link is lost. -/
def execPeerLinkDown (l : Fin 16) (s : State) : Out := .next (s.unreset fun s => s.linkDown l)

/-- A write of PER_CFG.EN (R478, R483). -/
def State.writePeerEn (s : State) (l : Nat) (v : Bool) : State :=
  let on := decide (s.fld (F.PER_CFG_EN l) = 1)
  if v then
    if (List.range 4).all (fun j => decide (s.fld (F.PER_PEERKEY_HASH l j) = 0)) then s.setFld F.PER_STATUS_CFG_ERR 1
    else if on then s
    else (s.setFld (F.PER_CFG_EN l) 1).setLink l 1
  else if on then
    let s1 := if s.linkState l = 3 then s.dropLink l else s.setPeer l { sends := (s.peer l).sends }
    ((s1.setFld (F.PER_CFG_EN l) 0).setLink l 0).setFld (F.PER_LSTAT_LANES l) 0
  else s

/-- PER_CFG_EN_WRITE (R478, R483). -/
def execPerCfgEnWrite (l : Fin 16) (v : Bool) (s : State) : Out := .next (s.unreset fun s => s.writePeerEn l v)

/-! ## Keying (R483, R484) -/

/-- Bytes of a keying payload by its step. -/
def keyxLen (step : Nat) : Nat :=
  match step with
  | 0 => 17
  | 1 => 1 + 16 + 1184 + 2592
  | 2 => 1 + 16 + 2592 + 1088
  | _ => 1 + 4627

/-- The context of a link's signatures and keys, "PYRUDRIC-PEER-1" (R483, R484). -/
def peerCtx : List Byte := [0x50, 0x59, 0x52, 0x55, 0x44, 0x52, 0x49, 0x43, 0x2D, 0x50, 0x45, 0x45, 0x52, 0x2D, 0x31]

/-- The transcript digest T (R483). -/
def Keying.t (k : Keying) : List Byte := sha3 (k.kx1 ++ k.kx2)

/-- The public key in a KEYX1 or KEYX2 is the one PER_PEERKEY names (R483). -/
def State.peerKeyOk (s : State) (l : Nat) (pk : List Byte) : Bool :=
  decide (leBytes 8 (s.fld (F.PER_PEERKEY_HASH l 0)) ++ leBytes 8 (s.fld (F.PER_PEERKEY_HASH l 1)) ++ leBytes 8 (s.fld (F.PER_PEERKEY_HASH l 2)) ++
    leBytes 8 (s.fld (F.PER_PEERKEY_HASH l 3)) = sha3 pk)

/-- A link's handshake takes a state. -/
def State.setKeying (s : State) (l : Nat) (k : Keying) : State := s.setPeer l { s.peer l with keying := k }

/-- The lattice engine that a handshake's work takes: one that is free and whose DRBG delivers. Until there is one, the step waits, as a queued
job does (R156, R157, R484). -/
def State.keyxUnit (s : State) : Option Nat :=
  match s.engineFor 0 with
  | some u => if s.drbgReady (instFor 0 u) then some u else none
  | none => none

/-- A handshake's work on lattice engine `u`: the masks of a secret operation at its level, the key that the engine then holds, and the count of
completed jobs (R163, R164, R182, R187). -/
def State.keyxWork (s : State) (u : Nat) (level : Option Nat) (key : Option (Nat × Nat)) : State :=
  let s1 := match level with
    | some v => ((s.draw (instFor 0 u) 32).2.draw (instFor 0 u) (32 * v)).2
    | none => s
  (s1.noteKey 0 u key).hwDid [0]

/-- SIG is sent: DEV_ID signs the role byte and T with ML-DSA-87 at H2 (R483). -/
def State.sendSig (s0 : State) (l u : Nat) : State :=
  let s := s0.keyxWork u (some 2) (some (16383, 2))
  let k := (s.peer l).keying
  let role : Byte := if k.init = some true then 0x49 else 0x52
  let d := s.draw (instFor 0 u) 32
  let sig := fitLen 4627 (Config.sign 0x13 0 (s.key 16383).secret (role :: k.t) peerCtx d.1)
  (d.2.setKeying l { k with sigSent := true }).sendKeyx l (leBytes 1 3 ++ sig)

/-- KEYX1 is sent by the initiator: its ephemeral pair is generated at H1 (R483, R484). -/
def State.sendKeyx1 (s0 : State) (l u : Nat) : State :=
  let s := s0.keyxWork u (some 1) none
  let d := s.draw (instFor 0 u) 64
  let b := leBytes 1 1 ++ s.unitId ++ fitLen 1184 (pairPk 2 d.1) ++ fitLen 2592 (s.key 16383).pubPart
  (d.2.setKeying l { (d.2.peer l).keying with rnd := d.1, kx1 := b }).sendKeyx l b

/-- An ANNOUNCE (R483): the peer's ID is noted, and the lower ID is the initiator's. -/
def State.onAnnounce (s : State) (l u : Nat) (b : List Byte) : State :=
  let id := bytesAt b 1 16
  let s0 := if s.linkState l = 3 ∧ !(s.peer l).keying.rekey then s.announce l true else s
  let s1 := (s0.setFld (F.PER_PEERID_ID l 0) (leAt id 0 8)).setFld (F.PER_PEERID_ID l 1) (leAt id 8 8)
  let mine := leNat s.unitId
  let k := { (s1.peer l).keying with init := some (decide (mine < leNat id)) }
  if mine = leNat id then s1.linkFailed l
  else if mine < leNat id then (s1.setKeying l k).sendKeyx1 l u
  else s1.setKeying l k

/-- KEYX1 at the responder (R483): the key hash, the encapsulation, KEYX2 and the signature. -/
def State.onKeyx1 (s0 : State) (l u : Nat) (b : List Byte) : State :=
  let ek := bytesAt b 17 1184
  if !s0.peerKeyOk l (bytesAt b 1201 2592) then s0.linkFailed l
  else if !Config.kemKeyOk 2 ek then s0.linkDown l
  else
    let s := s0.keyxWork u none none
    let d := s.draw (instFor 0 u) 32
    let b2 := leBytes 1 2 ++ s.unitId ++ fitLen 2592 (s.key 16383).pubPart ++ fitLen 1088 (Config.kemCt 2 ek d.1)
    ((d.2.setKeying l { (d.2.peer l).keying with kx1 := b, kx2 := b2, ss := fitLen 32 (Config.kemSs 2 ek d.1) }).sendKeyx l b2).sendSig l u

/-- KEYX2 at the initiator (R483). -/
def State.onKeyx2 (s0 : State) (l u : Nat) (b : List Byte) : State :=
  if !s0.peerKeyOk l (bytesAt b 17 2592) then s0.linkFailed l
  else
    let s := s0.keyxWork u (some 1) none
    let k := (s.peer l).keying
    (s.setKeying l { k with kx2 := b, ss := fitLen 32 (Config.kemDec 2 (fitLen 64 (Config.keygenSec 2 0 k.rnd)) (bytesAt b 2609 1088)) }).sendSig l u

/-- Both keys of a link, 64 bytes by HKDF-SHA-256 (R484). -/
def Keying.keys (k : Keying) : List Byte :=
  fitLen 64 (hkdfBlocks 0x02 32 (fitLen 32 (Config.hmac 0x02 (List.replicate 32 0) k.ss)) (peerCtx ++ k.t) 2 1 [])

/-- New keys are installed as the next generation (R484): at first the link is UP. The old receiving key, or clear flits, which count as
generation 0, are accepted until the peer's first flit under the new one. -/
def State.installKeys (s : State) (l : Nat) : State :=
  let x := s.peer l
  let k := x.keying
  let m := k.keys
  let ini := decide (k.init = some true)
  let mine := if ini then m.take 32 else m.drop 32
  let theirs := if ini then m.drop 32 else m.take 32
  let s1 := s.setPeer l { x with keying := { init := k.init }, tx := { key := mine, gen := x.tx.gen + 1 },
                                 rxNew := some { key := theirs, gen := x.rxk.gen + 1 } }
  if k.rekey then s1 else ((s1.setLink l 3).grantBulk l).startSends l 16

/-- A SIG (R483, R484): a bad signature takes the link DOWN, a good one installs the keys. -/
def State.onSig (s0 : State) (l u : Nat) (b : List Byte) : State :=
  let s := s0.keyxWork u none none
  let k := (s.peer l).keying
  let role : Byte := if k.init = some true then 0x52 else 0x49
  let pk := if k.init = some true then bytesAt k.kx2 17 2592 else bytesAt k.kx1 1201 2592
  if Config.verify 0x13 0 pk (role :: k.t) peerCtx (bytesAt b 1 4627) then s.installKeys l else s.linkDown l

/-- The step a handshake may take next from its peer (R483). -/
def Keying.expects (k : Keying) (step : Nat) : Bool :=
  match step with
  | 0 => k.kx1.isEmpty
  | 1 => decide (k.init = some false) && k.kx1.isEmpty
  | 2 => decide (k.init = some true) && !k.kx1.isEmpty && k.kx2.isEmpty
  | 3 => k.sigSent
  | _ => false

/-- A keying payload that is complete is acted on, once an engine can do the step's work; one out of turn takes the link DOWN (R483, R484). -/
def State.keyxStep (s : State) (l : Nat) : State :=
  let x := s.peer l
  let b := x.keying.rx
  let step := leAt b 0 1
  if b = [] ∨ b.length < keyxLen step then s
  else if !x.keying.expects step then s.linkDown l
  else
    let idle := decide (step = 0) && decide (leAt b 1 16 ≤ leNat s.unitId)
    match (if idle then some 0 else s.keyxUnit) with
    | none => s
    | some u =>
      let p := b.take (keyxLen step)
      let s1 := s.setKeying l { x.keying with rx := b.drop (keyxLen step) }
      match step with
      | 0 => s1.onAnnounce l u p
      | 1 => s1.onKeyx1 l u p
      | 2 => s1.onKeyx2 l u p
      | _ => s1.onSig l u p

/-- Bytes of a keying payload arrive (R483). -/
def State.onKeyx (s : State) (l : Nat) (pay : List Byte) : State :=
  let x := s.peer l
  s.setKeying l { x.keying with rx := x.keying.rx ++ pay }

/-- A re-key starts on a link that is UP and does not re-key already (R484). -/
def State.rekeyLink (s : State) (l : Nat) : State := if s.linkState l = 3 ∧ !(s.peer l).keying.rekey then s.announce l true else s

/-- REKEY: PER_CFG.REKEY is written (R484). -/
def execRekey (l : Fin 16) (s : State) : Out := .next (s.unreset fun s => s.rekeyLink l)

/-- PEER_FLIT_COUNT_REKEY (R484). -/
def execPeerFlitCountRekey (l : Fin 16) (s : State) : Out :=
  .next (s.unreset fun s => if (s.peer l).tx.count ≥ 2 ^ 32 then s.rekeyLink l else s)

/-! ## Messages arrive (R394, R482, R486, R487, R489) -/

/-- A message is discarded and counted (R482). -/
def State.protoErr (s : State) (l : Nat) : State := s.incFld (F.PER_ERR_PROTO l)

/-- BATCH (R394): into an entry granted to the peer, which then enters the local EXCHANGE's queue. -/
def State.onBatch (s : State) (l exid : Nat) (data : List Byte) : State :=
  match s.exById l exid with
  | none => s.protoErr l
  | some (e, o) =>
    let x := s.opRun e o.index
    match (List.range x.q.length).find? (fun k => decide ((x.q.getD k { addr := 0 }).st = 4 + l)) with
    | none => s.protoErr l
    | some k =>
      match parseBatch data with
      | none => s.failRun e 0x12 0
      | some b =>
        let tys := match x.types with | some t => some t | none => x.types1
        if tys.isSome && tys != some b.types || decide (data.length > o.qentry) then s.failRun e 0x12 0
        else
          let s1 := s.put (x.q.getD k { addr := 0 }).addr data
          s1.setOpRun e o.index { (x.mark k 2) with ready := x.ready ++ [k], types1 := some b.types }

/-- A marker is missing at the edge TIMEOUT ticks after local input ended: the run fails (R394). -/
def State.exDue (s : State) (e op : Nat) : State :=
  match opAt (s.run e).ops op with
  | none => s
  | some o =>
    let x := s.opRun e op
    let p := parseEx o.params
    match x.inEndedAt with
    | some t =>
      if o.code = 12 ∧ s.runLive e ∧ !x.emitted ∧ t + p.timeout ≤ s.tick ∧ !p.peers.all x.peersEnded.contains then s.failRun e 0x05 0
      else s
    | none => s

/-- END (R394): a peer's end marker; one that comes after the edge of TIMEOUT does not prevent it (R530). -/
def State.onEnd (s : State) (l exid : Nat) : State :=
  match s.exById l exid with
  | none => s.protoErr l
  | some (e, o) =>
    let s := s.exDue e o.index
    let x := s.opRun e o.index
    s.setOpRun e o.index { x with peersEnded := if x.peersEnded.contains l then x.peersEnded else x.peersEnded ++ [l] }

/-- GRANT (R482, R486, R487). -/
def State.onGrant (s : State) (l arg : Nat) : State :=
  let x := s.peer l
  let exid := arg % 2 ^ 32
  let n := bits arg 47 32
  let g := tget (fun _ => 0) x.grants exid
  let s1 := s.setPeer l { x with grants := tset (fun _ => 0) x.grants exid (if exid = 0 then g + n else max g 1 + n) }
  if exid = 0 then s1.startSends l 16 else s1.exAll

/-- BULK (R482, R487): into the next buffer of the ring, for a peer that holds a grant. -/
def State.onBulk (s : State) (l tag : Nat) (data : List Byte) : State :=
  let x := s.peer l
  if x.granted = 0 then s.protoErr l else
  let tail := s.fld (F.PER_RX_PTR_TAIL l)
  let a := s.fld (F.PER_RX_BASE_BASE l) * 2 ^ 24 + tail % 2 ^ s.fld (F.PER_RX_BASE_SIZE l) * 2 ^ 24
  let s1 := s.setPeer l { x with granted := x.granted - 1 }
  let r := s1.unitCheckW mgmtMaster (hwCtrl s 0 15) a (64 + data.length) false
  if r.1 = .ok then
    ((r.2.put a (leBytes 8 data.length ++ leBytes 8 tag)).put (a + 64) data).setFld (F.PER_RX_PTR_TAIL l) (tail + 1)
  else r.2

/-- EPOCH (R489): D is noted, and compared where both sides are locked. -/
def State.onEpoch (s : State) (l count : Nat) (lock : Bool) : State :=
  let d : Int := (s.tick : Int) - count
  let s1 := s.setFld (F.PER_EPCDIFF_D l) (wrap 32 d)
  if lock && decide (s.fld F.EPC_STATUS_LOCK = 1) && decide (d.natAbs > s.fld F.PER_EPC_TOL) then
    (s1.setFld (F.PER_EPCDIFF_MISMATCH l) 1).latchUnit 29 l
  else s1

/-- A whole message acts (R482). -/
def State.onMsg (s : State) (l vc : Nat) (m : List Byte) : State :=
  let data := m.drop 16
  let arg := leAt m 8 8
  if !zeroAt m 1 3 then s.protoErr l else
  match leAt m 0 1, vc with
  | 1, 0 => s.onBatch l (arg % 2 ^ 32) data
  | 2, 2 => s.onEnd l (arg % 2 ^ 32)
  | 3, 2 => s.onGrant l arg
  | 4, 1 => s.onBulk l arg data
  | 5, 2 => s.onEpoch l arg (bit (leAt data 0 1) 0)
  | _, _ => s.protoErr l

/-- A DATA flit's payload joins the message of its channel; a complete one acts (R482). -/
def State.onData (s : State) (l vc : Nat) (pay : List Byte) : State :=
  if vc > 2 then s.protoErr l else
  let x := s.peer l
  let b := get3 [] x.rx vc ++ pay
  if b.length < 16 ∨ b.length < 16 + leAt b 4 4 then s.setPeer l { x with rx := set3 x.rx vc b }
  else (s.setPeer l { x with rx := set3 x.rx vc [] }).onMsg l vc (b.take (16 + leAt b 4 4))

/-! ## Flits arrive (R481) -/

/-- Flits up to a sequence are acknowledged; a bulk send whose last flit they reach completes with OK (R481, R487). -/
def State.onAck (s : State) (l ack : Nat) : State :=
  let x := s.peer l
  let old := fun (q : Nat) => decide ((ack + 4096 - q) % 4096 < 512)
  let gone := x.retry.filter (fun r => old r.1)
  let s1 := s.setPeer l { x with retry := x.retry.filter (fun r => !old r.1) }
  match x.sends with
  | b :: t =>
    match b.sent with
    | some q => if gone.any (fun r => decide (r.1 = q)) then ((s1.setPeer l { s1.peer l with sends := t }).bulkDone l b.desc 0 true).startSends l 16 else s1
    | none => s1
  | [] => s1

/-- A NAK: unacknowledged flits are sent again, in order; one that has been replayed 8 times takes the link DOWN (R481). -/
def State.onNak (s : State) (l : Nat) : State :=
  let x := s.peer l
  if x.retry.any (fun r => decide (r.2.1 ≥ 8)) then s.linkDown l
  else
    let s1 := s.setPeer l { x with retry := x.retry.map (fun r => (r.1, r.2.1 + 1, r.2.2)) }
    (x.retry.foldl (fun s r => s.send (.flit l r.2.2)) s1).addFld (F.PER_ERR_REPLAY l) x.retry.length

/-- Credits come back to a channel (R482). -/
def Peer.credit (x : Peer) (c n : Nat) : Peer := { x with credits := set3 x.credits c (min (vcSize c) (get3 0 x.credits c + n)) }

/-- The key a flit was sealed under, by its KGEN (R484). -/
def Peer.keyFor (x : Peer) (kgen : Nat) : LinkKey :=
  match x.rxNew with
  | some k => if kgen = k.gen % 256 ∧ kgen ≠ x.rxk.gen % 256 then k else x.rxk
  | none => x.rxk

/-- A flit's tag verifies; with no key yet its TAG is 0, and it carries no DATA (R479, R481). -/
def Peer.tagOk (x : Peer) (f : List Byte) : Bool :=
  let h := parseFlit (leAt f 0 8)
  let k := x.keyFor h.kgen
  if k.key = [] then zeroAt f 236 251 && decide (h.ty ≠ 1)
  else
    let d := (x.rxSeq + 1 + 4096 - h.seq) % 4096
    let n := if h.ty ≠ 0 ∧ d < 2048 then k.count - d else k.count
    Config.aeadOk 0x02 k.key (flitNonce (!x.responder) n) (f.take 8) (bytesAt f 8 244)

/-- A flit's payload. -/
def Peer.payload (x : Peer) (f : List Byte) : List Byte :=
  let h := parseFlit (leAt f 0 8)
  let k := x.keyFor h.kgen
  let p := if k.key = [] then bytesAt f 8 228
    else fitLen 228 (Config.aeadPlain 0x02 k.key (flitNonce (!x.responder) k.count) (f.take 8) (bytesAt f 8 244))
  p.take (min 228 h.len)

/-- The receiving key's count moves on; the first flit of a new generation ends the old one (R480, R484). -/
def Peer.counted (x : Peer) (kgen : Nat) : Peer :=
  let k := x.keyFor kgen
  let k1 := { k with count := k.count + 1 }
  if k.gen = x.rxk.gen then { x with rxk := k1 } else { x with rxk := k1, rxNew := none }

/-- An intact flit's header acts: acknowledgement, credits, NAK. -/
def State.onHeader (s : State) (l : Nat) (h : FlitHdr) : State :=
  let s1 := s.setPeer l ((s.peer l).credit h.cvc h.credit)
  let s2 := s1.onAck l h.ack
  if h.nak then s2.onNak l else s2

/-- An acknowledgement, a NAK or credits are carried by an IDLE flit where nothing else was sent (R480). -/
def State.answerIdle (s : State) (l : Nat) (sent : Nat) : State :=
  if (s.linkState l = 2 ∨ s.linkState l = 3) ∧ s.out.length = sent then s.sendFlit l 0 0 [] else s

/-- A flit arrives on a link that is KEYING or UP (R481). -/
def State.onFlit (s : State) (l : Nat) (f : List Byte) : State :=
  let x := s.peer l
  let h := parseFlit (leAt f 0 8)
  let sent := s.out.length
  if s.linkState l ≠ 2 ∧ s.linkState l ≠ 3 then s
  else if leAt f 252 4 ≠ crc32 (f.take 252) then
    ((s.incFld (F.PER_CRC_COUNT l)).setPeer l { x with nak := true }).answerIdle l sent
  else if !x.tagOk f then (s.incFld (F.PER_ERR_TAG l)).linkDown l
  else if h.ty > 2 then s
  else if h.ty = 0 then
    let s1 := s.setPeer l { (x.counted h.kgen) with nak := x.nak || decide (h.seq ≠ x.rxSeq) }
    (((s1.onHeader l h).keyxStep l).pump l)
  else if h.seq ≠ (x.rxSeq + 1) % 4096 then (s.setPeer l { x with nak := true }).answerIdle l sent
  else
    let pay := x.payload f
    let y := { (x.counted h.kgen) with rxSeq := h.seq, nak := false, owed := set3 x.owed h.vc (get3 0 x.owed h.vc + 1) }
    let s1 := (s.setPeer l y).onHeader l h
    if s1.linkState l ≠ s.linkState l then s1
    else
      let s2 := if h.ty = 2 then s1.onKeyx l pay else if s.linkState l = 3 then s1.onData l h.vc pay else s1.protoErr l
      (s2.keyxStep l).pump l |>.answerIdle l sent

/-- FLIT_RECEIVE (R481). -/
def execFlitReceive (l : Fin 16) (flit : List (BitVec 8)) (s : State) : Out := .next (s.unreset fun s => s.onFlit l (fitLen 256 flit))

/-! ## Commands of the manager, and the epoch cross-check -/

/-- EPOCH_SEND (R489): a tick edge at a multiple of INTERVAL. -/
def execEpochSend (s : State) : Out :=
  .next (s.unreset fun s =>
    let n := s.fld F.PER_EPC_INTERVAL
    if n = 0 ∨ s.tick % n ≠ 0 ∨ !s.counting then s
    else (List.range 16).foldl (fun s l =>
      if s.linkState l = 3 then s.sendMsg l 2 5 s.tick (leBytes 1 (s.fld F.EPC_STATUS_LOCK)) else s) s)

/-- A write of PER_TX: a send is queued, or refused with CFG_ERR where 16 are (R487, R490). -/
def State.writePerTx (s : State) (l addr : Nat) : State :=
  let x := s.peer l
  if x.sends.length ≥ 16 then s.setFld F.PER_STATUS_CFG_ERR 1
  else (s.setPeer l { x with sends := x.sends ++ [{ desc := addr / 64 * 64 % 2 ^ 48 }] }).startSends l 16

/-- PER_TX (R487). -/
def execPerTx (l : Fin 16) (addr : BitVec 48) (s : State) : Out := .next (s.unreset fun s => s.writePerTx l addr.toNat)

/-- A write of HEAD frees the buffers it passes, which are granted to the peer; a value beyond TAIL is refused (R487). -/
def State.writeRxHead (s : State) (l v : Nat) : State :=
  let h := s.fld (F.PER_RX_PTR_HEAD l)
  let used := (s.fld (F.PER_RX_PTR_TAIL l) + 128 - h) % 128
  if (v + 128 - h) % 128 > used then s.setFld F.PER_STATUS_CFG_ERR 1
  else (s.setFld (F.PER_RX_PTR_HEAD l) v).grantBulk l

/-- PER_RX_HEAD_WRITE (R487). -/
def execPerRxHeadWrite (l : Fin 16) (head : BitVec 7) (s : State) : Out := .next (s.unreset fun s => s.writeRxHead l head.toNat)

end Sys2Proof.Machine
end

