-- ==== Sys2Proof/Machine/Jobs.lean ====
section
/-!
DEFINITION. Sys2Proof/Machine/Jobs.lean: ENG with its control functions, the completion of a job (R59 to R64), and the OP
instructions (R67, R68, R348 to R350).
-/

namespace Sys2Proof.Machine

/-! ## ENG (R59, R62, R63) -/

/-- Operations that a class defines without microcode loaded by a customer (R158, R190, R302). -/
def knownOpc (cls opc : Nat) : Bool :=
  match cls with
  | 0 => decide (opc ∈ [1, 2, 3, 8, 9, 0x0A]) || decide (opc ≥ 0x80)
  | 1 => decide (opc ∈ [1, 2, 3, 8, 9, 0x0A]) || decide (opc ≥ 0x80)
  | 2 => decide (1 ≤ opc ∧ opc ≤ 0x0A) || decide (opc ≥ 0x80)
  | 3 => decide (opc ∈ [1, 2, 3, 4, 5, 6, 8, 9, 0x0B, 0x10, 0x11, 0x12, 0x18, 0x19, 0x1A, 0x1B]) || decide (opc ≥ 0x80)
  | 4 => decide (opc ∈ [1, 2])
  | _ => decide (opc ∈ [1, 2]) || decide (0x40 ≤ opc ∧ opc ≤ 0x47)

/-- The master that takes a job of no defined operation: the front end, the store controller, or the engine that would run it. -/
def State.jobMaster (s : State) (cls n : Nat) : Option Master :=
  if cls = 3 then (if s.frozen 5 33 then none else some { mcls := 5, unit := 33, acts := [n] })
  else if cls = 5 then (if s.frozen 7 scUnit then none else some (scMaster n))
  else (s.engineFor cls).map (fun k => { mcls := clsMaster cls, unit := k, acts := [n] })

/-- A queued job of no defined operation completes with UNSUPPORTED once its descriptor is read (R63, R531). -/
def State.endUnknown (s : State) (e : Nat) : State :=
  let j := s.job e
  match s.jobMaster j.cls j.polder with
  | none => s
  | some m =>
    s.doJob e (do
      let _ ← fetchDesc m (ctrlOfJob s j 15) e
      pure { status := 0x13 })

/-- The front end reads a digest job's descriptor when the job reaches it (R189); a refused read is held for the thaw. -/
def State.frontEnd (s : State) (e : Nat) : State :=
  if s.frozen 5 33 then s else
  let j := s.job e
  let s1 := s.setJob e { j with engine := some 33 }
  let r := (fetchDesc { mcls := 5, unit := 33, acts := [j.polder] } (ctrlOfJob s j 15) e).run.run s1
  match r.1 with
  | .ok _ => r.2.setJob e { r.2.job e with engine := none }
  | .error x => r.2.conclude e (.error x)

/-- The table entry that a handle names for task `t`: outstanding, of the same program and polder, its sequence number unchanged, and
its output-slot write not begun (R64, R535). -/
def State.handleJob (s : State) (t : Nat) (h : Word) : Option Nat :=
  let x := s.task t
  let e := h.toNat % 2 ^ 14
  let j := s.job e
  if h.toNat < 2 ^ 32 ∧ j.st ≠ .free ∧ !j.inner ∧ j.seq = h.toNat / 2 ^ 14 ∧ j.polder = x.polder ∧ j.program = x.program ∧
      !j.slotBegun then some e
  else none

/-- CTL's ABORT (R64). -/
def State.abortOp (s : State) (c : CoreId) (rd ra : Reg) (t : Nat) (f : Frame) : State :=
  match s.handleJob t (f.gr ra) with
  | some e => (s.setFrame c (f.setG rd 1).next).stopJob e 0x16 0
  | none => s.setFrame c (f.setG rd 0).next

/-- CTL's PROBE (R64). -/
def State.probeOp (s : State) (c : CoreId) (rd ra : Reg) (t : Nat) (f : Frame) : State :=
  s.setFrame c (f.setG rd (BitVec.ofNat 64 (b2n (s.handleJob t (f.gr ra)).isSome))).next

/-- ENG of a class that has engines: checks, an entry of the job table, the handle (R59, R62, R63). A digest job issued after a context's expiry
edge finds it EXPIRED (R195). -/
def State.issueEng (s : State) (c : CoreId) (cls ev : Nat) (ra rd : Reg) (opc : Nat) (t : Nat) (f : Frame) : State :=
  if ev = 31 then s.raise c f 4 0 0 false
  else if (f.gr ra).toNat % 64 ≠ 0 then s.raise c f 3 0 (f.gr ra) false
  else
    match s.freeEntry with
    | none => s
    | some e =>
      let s := if cls = 3 then s.expireCtxs else s
      let j := s.newJob c t cls opc ev (f.gr ra).toNat 0
      let s1 := (s.enqueue e j).setFrame c (f.setG rd (jobHandle e j.seq)).next
      if !knownOpc cls opc then s1.endUnknown e
      else if cls = 3 then s1.frontEnd e
      else s1

/-- ENG (R59). -/
def execEng (c : CoreId) (cls : Fin 8) (ev : Fin 32) (ra rd : Reg) (opc : BitVec 8) (s : State) : Out :=
  .next (s.onCore c fun s => s.withTask c fun t f s =>
    if cls = 6 then s.raise c f 1 0 0 false
    else if cls = 7 then
      if ev ≠ 0 then s.raise c f 1 0 0 false
      else if opc = 1 then s.abortOp c rd ra t f
      else if opc = 2 then s.probeOp c rd ra t f
      else s.raise c f 1 0 0 false
    else s.issueEng c cls ev ra rd opc.toNat t f)

/-- ABORT (R64). -/
def execAbort (c : CoreId) (rd ra : Reg) (s : State) : Out :=
  .next (s.onCore c fun s => s.withTask c fun t f s => s.abortOp c rd ra t f)

/-- PROBE (R64). -/
def execProbe (c : CoreId) (rd ra : Reg) (s : State) : Out :=
  .next (s.onCore c fun s => s.withTask c fun t f s => s.probeOp c rd ra t f)

/-! ## Completion (R61) -/

/-- What a compression job counts (R346). -/
def State.countLane (s : State) (j : Job) : State :=
  if j.cls = 5 ∧ j.opc ≤ 2 then
    let s1 := (s.incFld F.CMP_COMPLETED_COUNT).addFld F.CMP_BYTES_COUNT j.subject
    if j.status = 4 then s1.incFld F.CMP_ERR_FULL else if j.status = 0x12 then s1.incFld F.CMP_ERR_MALFORMED else s1
  else s

/-- A signature waits until the floor past its leaf is committed (R208); no floor is written while PWR_FAIL_N is low (R500). -/
def State.leafWaits (s : State) (j : Job) : Bool :=
  match j.leaf with
  | some (k, l) => decide (j.status ≤ 1) && (decide ((s.key k).floor ≤ l) || s.power.pwrFail)
  | none => false

/-- The job of a SEAL task ends: the task ends with it, or the run fails with its status (R351, R370). -/
def State.sealDone (s : State) (e : Nat) : State :=
  let j := s.job e
  let s1 := (s.countJob j).setJob e {}
  if j.status = 0 then s1.endTask j.task
  else
    match (s1.task j.task).kind with
    | .operator r _ _ _ => (s1.failRun r j.status j.detail).settleSlot j.task
    | _ => s1.settleSlot j.task

/-- The key store takes a job's output-slot write (R179, R535): the first job to complete fills the slot. A job that finds it no longer empty
and its own ends with KEY_SLOT_INVALID, its memory output unwritten. Its granules have been reserved since its check (R223). -/
def State.acceptFill (s : State) (e : Nat) : State :=
  let j := s.job e
  match j.fill with
  | none => s
  | some (k, x, stateful) =>
    if s.canFill j.polder k then
      let s1 := (s.fillSlot k x).setJob e { j with fill := none }
      if stateful then s1.checkLow k else s1
    else s.setJob e { j with fill := none, status := 0x08, detail := 0, outlen := 0, writes := [] }

/-- JOB_COMPLETION (R61): outputs, header, DONE, then the event flag. A job that writes a key slot waits while PWR_FAIL_N is low (R500). -/
def execJobCompletion (e : SlotId) (s : State) : Out :=
  .next (s.unreset fun s =>
    let s := if (s.job e).st = .queued ∧ (s.job e).cls ≤ 5 ∧ !knownOpc (s.job e).cls (s.job e).opc then s.endUnknown e
      else if (s.job e).st = .queued ∧ (s.job e).cls = 8 ∧ !s.ent.tenants.contains e.val then s.runKey e else s
    let j := s.job e
    if j.st = .finished ∧ !s.leafWaits j ∧ !(j.fill.isSome ∧ s.power.pwrFail) then
      let s1 := ((s.acceptFill e).unhide e).countLane j
      if j.inner then s1.sealDone e else s1.completeJob e
    else s)

/-! ## OP DEF, OP RUN and OP STOP (R67, R68, R348, R350) -/

/-- An operator descriptor's fields are legal (R348): index, PLEN and must-be-zero fields. -/
def opDefOk (l : List Byte) (opc : Nat) : Bool :=
  decide (leAt l 0 1 ≠ 0xFF) && decide (leAt l 3 1 < 8) && (decide (leAt l 4 1 ≠ 0) || decide (leAt l 5 1 = 0)) &&
    (decide (leAt l 4 1 = 0) || decide (leAt l 5 1 ≠ 0)) && decide (leAt l 6 1 < if opc = 0x10 then 128 else 1) &&
    decide (leAt l 7 1 = 0) && decide (leAt l 8 8 < 2 ^ 48) && zeroAt l 20 31

/-- OP DEF (R67, R68, R348): the descriptor and its parameters are copied into the pipeline, staged while it runs. -/
def execOpDef (c : CoreId) (pipe : Fin 16) (ra : Reg) (opc : BitVec 6) (s : State) : Out :=
  .next (s.onCore c fun s => s.withTask c fun t f s =>
    if pipe = 0 ∨ opc.toNat = 0 ∨ opc.toNat > 0x11 then s.raise c f 4 0 0 false
    else if (f.gr ra).toNat % 32 ≠ 0 then s.raise c f 3 0 (f.gr ra) false
    else
      match s.coreRead c f (f.gr ra).toNat 32 with
      | .stop s1 => s1
      | .ok l s1 =>
        if !opDefOk l opc.toNat then s1.raise c f 4 0 0 false
        else if leAt l 16 4 > 65536 then s1.raise c f 4 0 0 true
        else
          match (if leAt l 16 4 = 0 then Rd.ok [] s1 else s1.coreRead c f (leAt l 8 8) (leAt l 16 4)) with
          | .stop s2 => s2
          | .ok p s2 =>
            let x := s2.task t
            let o : OpDef := { code := opc.toNat, index := leAt l 0 1, bytes := l, params := p }
            let y := s2.pipe x.polder x.program pipe
            let z := if y.running.isSome then { y with staged := putOp y.staged o } else { y with ops := putOp y.ops o }
            (s2.setPipe x.polder x.program pipe z).setFrame c f.next)

/-- The descriptor's completion writes pass the check made with its read (R531). -/
def State.coreCheckW (s : State) (c : CoreId) (a len : Nat) : Option State :=
  match s.dikeCheck (s.coreMaster c) a len .write false with
  | some p => some (s.refuse (s.coreMaster c) (s.coreCtrl c 15) .write p true true)
  | none => none

/-- OP RUN (R62, R67, R68, R350): the run starts, or waits behind the running instance. In a polder that drains no run starts, and the task
waits at the instruction (R149). -/
def execOpRun (c : CoreId) (pipe : Fin 16) (ra : Reg) (ev : Fin 32) (s : State) : Out :=
  .next (s.onCore c fun s => s.withTask c fun t f s =>
    if pipe = 0 ∨ ev = 31 then s.raise c f 4 0 0 false
    else if (f.gr ra).toNat % 64 ≠ 0 then s.raise c f 3 0 (f.gr ra) false
    else if s.halted (s.task t).polder then s
    else
      match s.freeEntry with
      | none => s
      | some e =>
        match s.coreRead c f (f.gr ra).toNat 64 with
        | .stop s1 => s1
        | .ok l s1 =>
          match s1.coreCheckW c (f.gr ra).toNat 8 with
          | some s2 => s2
          | none =>
            let j : Job := { s1.newJob c t 9 pipe ev (f.gr ra).toNat 0 with bytes := l, granted := true, gen := s1.fld F.DKE_GEN_STATUS_CUR, pipeline := pipe }
            let s2 := (s1.enqueue e j).setFrame c f.next
            let y := s2.pipe j.polder j.program pipe
            if y.running.isSome then s2.setPipe j.polder j.program pipe { y with queued := y.queued ++ [e] }
            else
              let r := s2.startRun e
              if r.1 ∧ !(r.2.run e).waiting then r.2.exStart e else r.2)

/-- OP STOP (R67, R68): the running instance ends with ABORTED. -/
def execOpStop (c : CoreId) (pipe : Fin 16) (s : State) : Out :=
  .next (s.onCore c fun s => s.withTask c fun t f s =>
    if pipe = 0 then s.raise c f 4 0 0 false
    else
      let x := s.task t
      let s1 := s.setFrame c f.next
      match (s.pipe x.polder x.program pipe).running with
      | some e => s1.failRun e 0x16 0
      | none => s1)

end Sys2Proof.Machine
end

