-- ==== Sys2Proof/Machine/Tcp.lean ====
section
/-!
DEFINITION. Sys2Proof/Machine/Tcp.lean: the frames the device builds (R267, R268), and the TCP endpoint of a session (R292, R294): RFC 5681,
6298, 2018, 6675 and 7323.
-/

namespace Sys2Proof.Machine

/-! ## Byte order and checksums -/

/-- The `n` bytes of a number, most significant first. -/
def beBytes (n x : Nat) : List Byte := (leBytes n x).reverse

/-- The big-endian number in `n` bytes of `l` from byte `o`. -/
def beAt (l : List Byte) (o n : Nat) : Nat := leNat (bytesAt l o n).reverse

/-- The sum of the 16-bit words of a byte string. -/
def sum16 : List Byte → Nat
  | [] => 0
  | [a] => a.toNat * 256
  | a :: b :: t => a.toNat * 256 + b.toNat + sum16 t

/-- A sum folded to 16 bits with its carries. -/
def fold16 : Nat → Nat → Nat
  | 0, x => x
  | f + 1, x => fold16 f (x % 65536 + x / 65536)

/-- The Internet checksum of a byte string. -/
def checksum (l : List Byte) : Nat := 0xFFFF - fold16 3 (sum16 l)

/-! ## Frames to a peer (R268) -/

/-- The Ethernet header, with the flow's VLAN tag. -/
def ethHead (port dst : Nat) (vlan : Option Nat) (ty : Nat) : List Byte :=
  beBytes 6 dst ++ beBytes 6 (Config.portMac port) ++
    (match vlan with | some v => beBytes 2 0x8100 ++ beBytes 2 v | none => []) ++ beBytes 2 ty

/-- Bytes of an IP address. -/
def addrLen (v6 : Bool) : Nat := if v6 then 16 else 4

/-- The pseudo-header of a packet of the flow towards its source. -/
def pseudoHead (v6 : Bool) (src dst proto len : Nat) : List Byte :=
  beBytes (addrLen v6) src ++ beBytes (addrLen v6) dst ++
    (if v6 then beBytes 4 len ++ beBytes 4 proto else beBytes 2 proto ++ beBytes 2 len)

/-- An IP packet of a flow towards its source: TTL or hop limit 64, no fragments. -/
def ipPacket (f : Flow) (proto : Nat) (l4 : List Byte) : List Byte :=
  if f.v6 then
    beBytes 4 0x60000000 ++ beBytes 2 l4.length ++ beBytes 1 proto ++ beBytes 1 64 ++ beBytes 16 f.dst ++ beBytes 16 f.src ++ l4
  else
    let h := fun (c : Nat) => beBytes 2 0x4500 ++ beBytes 2 (20 + l4.length) ++ beBytes 4 0x4000 ++ beBytes 1 64 ++ beBytes 1 proto ++
      beBytes 2 c ++ beBytes 4 f.dst ++ beBytes 4 f.src
    h (checksum (h 0)) ++ l4

/-- A frame of at least 60 bytes leaves a port. -/
def State.sendFrame (s : State) (port : Nat) (l : List Byte) : State := s.send (.frame port (l ++ List.replicate (60 - l.length) 0))

/-- A packet of a flow goes to the flow's peer, on the port it arrived on (R268). -/
def State.sendIp (s : State) (f : Flow) (proto : Nat) (l4 : List Byte) : State :=
  s.sendFrame f.port (ethHead f.port f.mac f.vlan (if f.v6 then 0x86DD else 0x0800) ++ ipPacket f proto l4)

/-- A layer-4 header and its data, with the checksum put at byte `o`. -/
def withSum (f : Flow) (proto o : Nat) (l : List Byte) : List Byte :=
  let c := checksum (pseudoHead f.v6 f.dst f.src proto l.length ++ l)
  let c := if proto = 17 ∧ c = 0 then 0xFFFF else c
  l.take o ++ beBytes 2 c ++ l.drop (o + 2)

/-- A UDP datagram to the flow's peer. -/
def State.sendUdp (s : State) (f : Flow) (data : List Byte) : State :=
  s.sendIp f 17 (withSum f 17 6 (beBytes 2 f.dport ++ beBytes 2 f.sport ++ beBytes 2 (8 + data.length) ++ beBytes 2 0 ++ data))

/-- TCP flag bits: FIN 1, SYN 2, RST 4, PSH 8, ACK 16, URG 32. -/
def State.sendTcp (s : State) (f : Flow) (seq ack flags win : Nat) (opts data : List Byte) : State :=
  let o := opts ++ List.replicate ((4 - opts.length % 4) % 4) 0
  s.sendIp f 6 (withSum f 6 16 (beBytes 2 f.dport ++ beBytes 2 f.sport ++ beBytes 4 seq ++ beBytes 4 ack ++
    beBytes 1 ((5 + o.length / 4) * 16) ++ beBytes 1 flags ++ beBytes 2 win ++ beBytes 4 0 ++ o ++ data))

/-! ## Segments -/

/-- An arriving segment: MSS, window scale, SACK-permitted, timestamps and SACK blocks of its options. -/
structure Seg4 where
  seq : Nat := 0
  ack : Nat := 0
  flags : Nat := 0
  win : Nat := 0
  mss : Option Nat := none
  ws : Option Nat := none
  sackOk : Bool := false
  ts : Option (Nat × Nat) := none
  sacks : List (Nat × Nat) := []
  fastOpen : Bool := false
  data : List Byte := []
  deriving DecidableEq, Repr

/-- The options of a segment, one after another. -/
def tcpOpts : Nat → List Byte → Seg4 → Seg4
  | 0, _, g => g
  | f + 1, l, g =>
    match l with
    | [] => g
    | k :: t =>
      if k = 0 then g
      else if k = 1 then tcpOpts f t g
      else
        let n := leAt t 0 1
        if n < 2 ∨ n > l.length then g
        else
          let g1 :=
            match k.toNat, n with
            | 2, 4 => { g with mss := some (beAt l 2 2) }
            | 3, 3 => { g with ws := some (leAt l 2 1) }
            | 4, 2 => { g with sackOk := true }
            | 8, 10 => { g with ts := some (beAt l 2 4, beAt l 6 4) }
            | 5, _ => { g with sacks := (List.range ((n - 2) / 8)).map (fun i => (beAt l (2 + 8 * i) 4, beAt l (6 + 8 * i) 4)) }
            | 34, _ => { g with fastOpen := true }
            | _, _ => g
          tcpOpts f (l.drop n) g1

/-- A segment from its bytes. -/
def parseTcp (l : List Byte) : Seg4 :=
  let h := beAt l 12 1 / 16 * 4
  tcpOpts 40 ((l.take h).drop 20)
    { seq := beAt l 4 4, ack := beAt l 8 4, flags := beAt l 13 1 % 64, win := beAt l 14 2, data := l.drop h }

/-- A flag of a segment. -/
def Seg4.has (g : Seg4) (m : Nat) : Bool := decide (g.flags / m % 2 = 1)

/-- The difference of two sequence numbers, forward. -/
def seqSub (a b : Nat) : Nat := (a + 2 ^ 32 - b) % 2 ^ 32

/-- A sequence number moved on. -/
def seqAdd (a n : Nat) : Nat := (a + n) % 2 ^ 32

/-- The window the device offers. -/
def rcvWindow : Nat := 65535

/-! ## Sending -/

/-- Bytes in flight. -/
def Tcp.flight (t : Tcp) : Nat := seqSub t.sndNxt t.sndUna

/-- Data bytes of a full segment. -/
def Tcp.maxSeg (t : Tcp) : Nat := t.mss - if t.ts then 12 else 0

/-- The options of a session's segments: timestamps, and SACK blocks for data received out of order, newest first. -/
def Tcp.opts (t : Tcp) (tick : Nat) : List Byte :=
  (if t.ts then [(1 : Byte), 1, 8, 10] ++ beBytes 4 tick ++ beBytes 4 t.tsRecent else []) ++
    (if t.sack ∧ !t.ooo.isEmpty then
      let b := t.ooo.take 3
      [(1 : Byte), 1, 5] ++ beBytes 1 (2 + 8 * b.length) ++ b.flatMap (fun r => beBytes 4 r.1 ++ beBytes 4 (seqAdd r.1 r.2.length))
     else [])

/-- The state with a session's TCP state replaced. -/
def State.setTcp (s : State) (k : Nat) (t : Tcp) : State := s.setSes k { s.ses k with tcp := t }

/-- A segment of a session leaves; it carries the acknowledgement, so none is owed. -/
def State.tcpSeg (s : State) (k seq flags : Nat) (data : List Byte) : State :=
  let x := s.ses k
  let t := x.tcp
  if t.dead then s else
  (s.sendTcp x.flow seq t.rcvNxt (16 + flags) rcvWindow (t.opts s.tick) data).setTcp k { t with ackAt := none, ackSegs := 0 }

/-- An acknowledgement alone. -/
def State.tcpAckNow (s : State) (k : Nat) : State := s.tcpSeg k (s.ses k).tcp.sndNxt 0 []

/-- A reset for a session's peer; the connection is over. -/
def State.tcpReset (s : State) (k : Nat) : State :=
  let x := s.ses k
  if x.tcp.dead then s
  else (s.sendTcp x.flow x.tcp.sndNxt x.tcp.rcvNxt 20 0 [] []).setTcp k { x.tcp with dead := true, rtoAt := none, persistAt := none, ackAt := none }

/-- Unacknowledged data from offset `off` goes again; its round trip is not measured (R292). -/
def State.tcpResend (s : State) (k off n : Nat) : State :=
  let t := (s.ses k).tcp
  let d := (t.unacked.drop off).take n
  let fin := if d.isEmpty ∧ t.finSent then 1 else 0
  (s.setTcp k { t with timed := none }).tcpSeg k (seqAdd t.sndUna off) (8 * b2n (!d.isEmpty) + fin) d

/-- The retransmission timer runs while something is outstanding. -/
def Tcp.armRto (t : Tcp) (tick : Nat) : Tcp := if t.rtoAt.isNone then { t with rtoAt := some (tick + t.rto) } else t

/-- Queued data goes out as far as the congestion window and the peer's window let it; a FIN follows the last of it (R292). -/
def State.tcpPush (s : State) (k : Nat) : Nat → State
  | 0 => s
  | f + 1 =>
    let t := (s.ses k).tcp
    if t.dead then s
    else if t.queued.isEmpty then
      if t.finQueued ∧ !t.finSent then
        let s1 := s.tcpSeg k t.sndNxt 1 []
        s1.setTcp k ({ (s1.ses k).tcp with finSent := true, sndNxt := seqAdd t.sndNxt 1 }.armRto s.tick)
      else s
    else
      let room := min t.cwnd t.sndWnd - t.flight
      if room = 0 then
        if t.sndWnd = 0 ∧ t.flight = 0 ∧ t.persistAt.isNone then s.setTcp k { t with persistAt := some (s.tick + t.rto), persistN := 0 } else s
      else
        let d := t.queued.take (min room (max 1 t.maxSeg))
        let s1 := s.tcpSeg k t.sndNxt 8 d
        let u := (s1.ses k).tcp
        let e := seqAdd t.sndNxt d.length
        let v : Tcp := { u with queued := t.queued.drop d.length, unacked := t.unacked ++ d, sndNxt := e,
                                timed := if u.timed.isNone then some (e, s.tick) else u.timed }
        (s1.setTcp k (v.armRto s.tick)).tcpPush k f

/-- All that may go out now goes. -/
def State.tcpOutput (s : State) (k : Nat) : State := s.tcpPush k ((s.ses k).tcp.queued.length + 2)

/-! ## Acknowledgements (RFC 5681, 6298, 6675) -/

/-- A round trip of `r` ticks is taken into SRTT and RTTVAR, and the RTO set within its limits; the granularity is one tick (R292). -/
def Tcp.sample (t : Tcp) (r lo hi : Nat) : Tcp :=
  let u : Tcp :=
    if t.srtt = 0 then { t with srtt := 8 * r, rttvar := 2 * r }
    else
      let d := if t.srtt / 8 > r then t.srtt / 8 - r else r - t.srtt / 8
      { t with rttvar := t.rttvar - t.rttvar / 4 + d, srtt := t.srtt - t.srtt / 8 + r }
  { u with rto := min (max (u.srtt / 8 + max 1 u.rttvar) lo) (max lo hi) }

/-- SACKed ranges, as offsets from the oldest unacknowledged byte. -/
def Tcp.sackOffs (t : Tcp) : List (Nat × Nat) :=
  (t.sacked.map (fun r => (seqSub r.1 t.sndUna, seqSub r.2 t.sndUna))).filter (fun r => decide (r.1 < r.2) && decide (r.2 ≤ t.flight))

/-- Ranges in rising order, touching ones made one. -/
def insRange (a b : Nat) : List (Nat × Nat) → List (Nat × Nat)
  | [] => [(a, b)]
  | (c, d) :: t => if b < c then (a, b) :: (c, d) :: t else if d < a then (c, d) :: insRange a b t else insRange (min a c) (max b d) t

/-- The ranges not SACKed between offsets `a` and `b`. -/
def holes (a b : Nat) : List (Nat × Nat) → List (Nat × Nat)
  | [] => if a < b then [(a, b)] else []
  | (c, d) :: t => (if a < c then [(a, min b c)] else []) ++ holes (max a d) b t

/-- The byte at an offset is held to be lost (RFC 6675): three SACKed ranges, or more than two segments' bytes, above it. -/
def Tcp.lost (t : Tcp) (off : Nat) : Bool :=
  let up := t.sackOffs.filter (fun r => decide (r.1 > off))
  decide (up.length ≥ 3) || decide ((up.map (fun r => r.2 - r.1)).sum > 2 * t.mss)

/-- RFC 6675's pipe. -/
def Tcp.pipe (t : Tcp) : Nat :=
  let hr := seqSub t.highRxt t.sndUna
  let hr := if hr ≤ t.flight then hr else 0
  ((holes 0 t.flight t.sackOffs).map (fun h => (if t.lost h.1 then 0 else h.2 - h.1) + (min h.2 hr - h.1))).sum

/-- RFC 6675's next segment to retransmit: a lost one first, else any below the highest SACKed byte where nothing new can go. -/
def Tcp.nextHole (t : Tcp) (anyHole : Bool) : Option (Nat × Nat) :=
  let hr := seqSub t.highRxt t.sndUna
  let hr := if hr ≤ t.flight then hr else 0
  let top := t.sackOffs.foldl (fun m r => max m r.2) 0
  ((holes 0 t.flight t.sackOffs).filter (fun h => decide (h.2 > hr) && decide (h.1 < top))).findSome? (fun h =>
    let a := max h.1 hr
    if t.lost a || anyHole then some (a, min (max 1 t.maxSeg) (h.2 - a)) else none)

/-- Loss recovery sends while the pipe has room for a segment (RFC 6675). -/
def State.tcpRecover (s : State) (k : Nat) : Nat → State
  | 0 => s
  | f + 1 =>
    let t := (s.ses k).tcp
    if t.dead ∨ t.cwnd < t.pipe + max 1 t.maxSeg then s else
    match t.nextHole false with
    | some (a, n) =>
      let s1 := s.tcpResend k a n
      (s1.setTcp k { (s1.ses k).tcp with highRxt := seqAdd t.sndUna (a + n) }).tcpRecover k f
    | none =>
      if !t.queued.isEmpty ∧ t.flight < t.sndWnd then
        let d := t.queued.take (min (t.sndWnd - t.flight) (max 1 t.maxSeg))
        let s1 := s.tcpSeg k t.sndNxt 8 d
        let u := (s1.ses k).tcp
        (s1.setTcp k { u with queued := t.queued.drop d.length, unacked := t.unacked ++ d, sndNxt := seqAdd t.sndNxt d.length }).tcpRecover k f
      else
        match t.nextHole true with
        | some (a, n) =>
          let s1 := s.tcpResend k a n
          (s1.setTcp k { (s1.ses k).tcp with highRxt := seqAdd t.sndUna (a + n) }).tcpRecover k f
        | none => s

/-- Loss is found: the threshold halves the flight, and the first unacknowledged segment goes again. -/
def State.tcpEnterRecovery (s : State) (k : Nat) : State :=
  let t := (s.ses k).tcp
  let th := max (t.flight / 2) (2 * t.mss)
  let t1 : Tcp := { t with recover := some t.sndNxt, ssthresh := th, cwnd := if t.sack then th else th + 3 * t.mss }
  let n := max 1 t.maxSeg
  let s1 := (s.setTcp k t1).tcpResend k 0 n
  let s2 := s1.setTcp k { (s1.ses k).tcp with highRxt := seqAdd t.sndUna (min n t.unacked.length) }
  if t.sack then s2.tcpRecover k 64 else s2

/-- The congestion window after an acknowledgement of `n` new bytes outside recovery (RFC 5681). -/
def Tcp.grow (t : Tcp) (n : Nat) : Tcp :=
  if t.cwnd < t.ssthresh then { t with cwnd := t.cwnd + min n t.mss } else { t with cwnd := t.cwnd + max 1 (t.mss * t.mss / max 1 t.cwnd) }

/-- New data is acknowledged up to `ack`. -/
def State.tcpNewAck (s : State) (k ack : Nat) : State :=
  let t := (s.ses k).tcp
  let n := seqSub ack t.sndUna
  let t1 := match t.timed with
    | some (e, at_) =>
      if seqSub e t.sndUna ≤ n then { t.sample (s.tick - at_) (s.fld F.SES_TCP_RTO_MIN) (s.fld F.SES_TCP_RTO_MAX) with timed := none } else t
    | none => t
  let t2 : Tcp := match t.recover with
    | some r =>
      if seqSub r t.sndUna ≤ n then { t1 with recover := none, cwnd := t.ssthresh, dup := 0 }
      else if t.sack then t1
      else { t1 with recover := none, cwnd := t.ssthresh, dup := 0 }
    | none => { t1.grow n with dup := 0 }
  let t3 : Tcp := { t2 with
    unacked := t.unacked.drop n, sndUna := ack, retx := 0, finAcked := t.finAcked || (t.finSent && decide (n = t.flight)),
    rtoAt := if n = t.flight then none else some (s.tick + t2.rto) }
  s.setTcp k { t3 with sacked := t.sacked.filter (fun r => decide (seqSub r.2 t.sndUna > n)) }

/-- The acknowledgement of a segment is processed; false where it acknowledges what was never sent. -/
def State.tcpAckIn (s : State) (k : Nat) (g : Seg4) : Bool × State :=
  let t := (s.ses k).tcp
  let n := seqSub g.ack t.sndUna
  if n > t.flight then (decide (n ≥ 2 ^ 31), s) else
  let win := g.win * 2 ^ (if t.wscale < 15 then min t.wscale 14 else 0)
  let offs := if t.sack then g.sacks.foldl (fun l r =>
      let a := seqSub r.1 t.sndUna
      let b := seqSub r.2 t.sndUna
      if a < b ∧ b ≤ t.flight then insRange a b l else l) t.sackOffs else []
  let t1 : Tcp := { t with sacked := offs.map (fun r => (seqAdd t.sndUna r.1, seqAdd t.sndUna r.2)) }
  let isDup := decide (n = 0) && g.data.isEmpty && decide (t.flight > 0) && decide (win = t.sndWnd) && !g.has 1
  let s1 := s.setTcp k (if isDup then { t1 with dup := t1.dup + 1 } else t1)
  let s2 := if n > 0 then s1.tcpNewAck k g.ack else s1
  let u := (s2.ses k).tcp
  let u1 : Tcp := { u with sndWnd := win, persistAt := if win > 0 then none else u.persistAt, persistN := if win > 0 then 0 else u.persistN }
  let s3 := s2.setTcp k (if win > 0 ∧ u.flight > 0 then u1.armRto s.tick else u1)
  let v := (s3.ses k).tcp
  let s4 :=
    match v.recover with
    | some _ => if v.sack then s3.tcpRecover k 64 else if isDup then s3.setTcp k { v with cwnd := v.cwnd + v.mss } else s3
    | none => if isDup ∧ (v.dup = 3 ∨ (v.sack ∧ v.lost 0)) then s3.tcpEnterRecovery k else s3
  (true, s4.tcpOutput k)

/-! ## Receiving -/

/-- Received data joins what waits out of order, in relative positions: touching ranges become one, the newest first. -/
def oooAdd (base : Nat) (a : Nat) (d : List Byte) : List (Nat × List Byte) → Nat × List Byte × List (Nat × List Byte)
  | [] => (a, d, [])
  | (q, e) :: t =>
    let r := oooAdd base a d t
    let b := seqSub q base
    let lo := r.1
    let cur := r.2.1
    if b > lo + cur.length ∨ b + e.length < lo then (lo, cur, (q, e) :: r.2.2)
    else if b < lo then (b, e.take (lo - b) ++ cur ++ e.drop (lo - b + cur.length), r.2.2)
    else (lo, cur ++ e.drop (lo + cur.length - b), r.2.2)

/-- Data at relative position `a` is taken: in order it joins the stream with all that follows it, else it waits. -/
def Tcp.accept (t : Tcp) (a : Nat) (d : List Byte) : Tcp :=
  let r := oooAdd t.rcvNxt a d t.ooo
  if r.1 = 0 then { t with stream := t.stream ++ r.2.1, rcvNxt := seqAdd t.rcvNxt r.2.1.length, ooo := r.2.2 }
  else { t with ooo := (seqAdd t.rcvNxt r.1, r.2.1) :: r.2.2 }

/-- Complete TLS records of the stream become items; one that is too long ends the reading (R282, R290). -/
def State.tcpRecords (s : State) (k : Nat) : Nat → State
  | 0 => s
  | f + 1 =>
    let x := s.ses k
    let l := x.tcp.stream
    if x.tcp.stopped then s.setTcp k { x.tcp with stream := [] }
    else if l.length < 5 then s
    else
      let n := beAt l 3 2
      if n > 2 ^ 14 + 256 then
        (s.setTcp k { x.tcp with stopped := true, stream := [] }).addItem k { kind := 8, flow := x.flow }
      else if l.length < 5 + n then s
      else
        ((s.setTcp k { x.tcp with stream := l.drop (5 + n) }).addItem k
          { kind := 2, flow := x.flow, data := l.take (5 + n), hdrLen := 5 }).tcpRecords k f

/-- The data and FIN of a segment are received; the acknowledgement is sent or held back (R292). -/
def State.tcpDataIn (s : State) (k : Nat) (g : Seg4) : State :=
  let t := (s.ses k).tcp
  let a := seqSub g.seq t.rcvNxt
  let past := decide (a ≥ 2 ^ 31)
  let cut := if past then 2 ^ 32 - a else 0
  let d := g.data.drop cut
  let pos := if past then 0 else a
  if g.data.isEmpty ∧ !g.has 1 then s
  else if (d.isEmpty ∧ !g.data.isEmpty ∧ !g.has 1) ∨ pos ≥ rcvWindow then s.tcpAckNow k
  else
    let full := decide (g.data.length ≥ t.maxSeg)
    let gap := !t.ooo.isEmpty || decide (pos > 0)
    let s1 := s.setTcp k (if d.isEmpty then t else t.accept pos d)
    let s2 := s1.tcpRecords k (t.stream.length + d.length + 1)
    if s2.fld (F.NET_DROP_COUNT 13) ≠ s1.fld (F.NET_DROP_COUNT 13) then s.netDrop 13
    else
      let u := (s2.ses k).tcp
      let finNow := g.has 1 && decide (seqAdd g.seq g.data.length = u.rcvNxt)
      if finNow then
        (((s2.setTcp k { u with rcvNxt := seqAdd u.rcvNxt 1 }).addItem k { kind := 6, flow := (s2.ses k).flow })).tcpAckNow k
      else
        let u1 : Tcp := { u with ackSegs := u.ackSegs + b2n full, ackAt := if u.ackAt.isSome then u.ackAt else some (s.tick + s.fld F.SES_TCP_DELACK) }
        let s3 := s2.setTcp k u1
        if gap ∨ u1.ackSegs ≥ 2 then s3.tcpAckNow k else s3

/-- The connection is over by the peer's RST or the device's own: a RESET item; a closing session needs no more (R282, R292). -/
def State.tcpOver (s : State) (k : Nat) : State :=
  let x := s.ses k
  (s.setTcp k { x.tcp with dead := true, finAcked := true, rtoAt := none, persistAt := none, ackAt := none, unacked := [], queued := [] }).addItem k
    { kind := 7, flow := x.flow }

/-- A segment of a session (R292): timestamps, RST, the acknowledgement, then the data. -/
def State.tcpIn (s : State) (k : Nat) (g : Seg4) : State :=
  let s0 := if g.has 32 then s.netDrop 15 else s
  let t := (s0.ses k).tcp
  let a := seqSub g.seq t.rcvNxt
  if t.dead then s0
  else if g.has 4 then (if a = 0 then s0.tcpOver k else if a < rcvWindow then s0.tcpAckNow k else s0)
  else if g.has 2 then s0.tcpAckNow k
  else if !g.has 16 then s0
  else
    let old := match g.ts with | some (v, _) => t.ts && decide (seqSub v t.tsRecent ≥ 2 ^ 31) | none => false
    if old then s0.tcpAckNow k
    else
      let s1 := match g.ts with
        | some (v, _) => if t.ts ∧ (a = 0 ∨ a ≥ 2 ^ 31) then s0.setTcp k { t with tsRecent := v } else s0
        | none => s0
      let r := s1.tcpAckIn k g
      if r.1 then r.2.tcpDataIn k g else s1.tcpAckNow k

/-! ## Timers (R293, R294) -/

/-- The RTO falls due: the oldest segment goes again, or after MAXRETX times RST and a RESET item (R292). -/
def State.tcpRto (s : State) (k : Nat) : State :=
  let t := (s.ses k).tcp
  match t.rtoAt with
  | none => s
  | some d =>
    if d > s.tick ∨ t.dead then s
    else if t.retx ≥ s.fld F.SES_TCP_MAXRETX then (s.tcpReset k).tcpOver k
    else
      let r := min (2 * t.rto) (max 1 (s.fld F.SES_TCP_RTO_MAX))
      let u : Tcp := { t with retx := t.retx + 1, rto := r, rtoAt := some (s.tick + r), ssthresh := max (t.flight / 2) (2 * t.mss),
                              cwnd := t.mss, recover := none, dup := 0, sacked := [] }
      (s.setTcp k u).tcpResend k 0 (max 1 t.maxSeg)

/-- A segment of a session arrives: after the limits and the RTO whose edges it comes after (R111, R294). -/
def State.tcpArrive (s : State) (k : Nat) (g : Seg4) : State :=
  let s1 := s.limitsDue k
  (if s1.dueAt (s1.ses k).tcp.rtoAt then s1.tcpRto k else s1).tcpIn k g

/-- The persist timer falls due: one byte probes the closed window, and the timer backs off as the RTO does (R292). -/
def State.tcpPersist (s : State) (k : Nat) : State :=
  let t := (s.ses k).tcp
  match t.persistAt with
  | none => s
  | some d =>
    if d > s.tick ∨ t.dead then s
    else
      let n := t.persistN + 1
      let u : Tcp :=
        if t.unacked.isEmpty then { t with unacked := t.queued.take 1, queued := t.queued.drop 1, sndNxt := seqAdd t.sndNxt (min 1 t.queued.length) }
        else t
      let w : Tcp := { u with persistN := n, persistAt := some (s.tick + min (t.rto * 2 ^ n) (max 1 (s.fld F.SES_TCP_RTO_MAX))) }
      (s.setTcp k w).tcpResend k 0 1

/-- A delayed acknowledgement falls due (R292). -/
def State.tcpDelack (s : State) (k : Nat) : State :=
  match (s.ses k).tcp.ackAt with
  | some d => if d ≤ s.tick then s.tcpAckNow k else s
  | none => s

end Sys2Proof.Machine
end

