-- ==== Sys2Proof/Machine/Net.lean ====
section
/-!
DEFINITION. Sys2Proof/Machine/Net.lean: the Ethernet ports, the classifier, cookies and limiters, the delivery of datagrams and segments to
sessions (R266 to R279, R285, R294), the timers of sessions (R293), and DONE with its session actions (R58, R286).
-/

namespace Sys2Proof.Machine

/-! ## Ports (R266, R267) -/

/-- Lanes of a WIDTH code. -/
def laneCount (w : Nat) : Nat := 2 ^ w

/-- The widths a speed runs at, as WIDTH codes (R266). -/
def speedWidths (sp : Nat) : List Nat :=
  match sp with
  | 0 => [0]
  | 1 => [0]
  | 2 => [0, 1]
  | 3 => [0, 1, 2]
  | 4 => [1, 2]
  | 5 => [2, 3]
  | _ => []

/-- Port `p` with these lanes overlaps another enabled port. -/
def State.portOverlap (s : State) (p lanes : Nat) : Bool :=
  (List.range 32).any (fun q => decide (q ≠ p) && decide (s.fld (F.NET_PORT_CFG_EN q) = 1) &&
    decide (q < p + lanes) && decide (p < q + laneCount (s.fld (F.NET_PORT_CFG_WIDTH q))))

/-- A write of NET_PORT_CFG (R266): refused for a combination not listed, a port number not a multiple of its width, or an overlap. -/
def State.writePortCfg (s : State) (p v : Nat) : State :=
  let w := bits v 3 1
  if (speedWidths (bits v 6 4)).contains w ∧ p % laneCount w = 0 ∧ !s.portOverlap p (laneCount w) then
    let s1 := s.setReg (F.NET_PORT_CFG_EN p).off (BitVec.ofNat 64 (bits v 29 16 * 2 ^ 16 + bits v 9 0))
    if bit v 0 then s1 else s1.setFld F.NET_STATUS_LINK (putBits (s1.fld F.NET_STATUS_LINK) p 1 0)
  else s.setFld F.NET_STATUS_CFG_ERR 1

/-- NET_PORT_CFG_WRITE (R266). -/
def execNetPortCfgWrite (p : Fin 32) (v : Word) (s : State) : Out := .next (s.unreset fun s => s.writePortCfg p v.toNat)

/-- ETH_LINK_UP (R419): an enabled port has its link. -/
def execEthLinkUp (p : Fin 32) (s : State) : Out :=
  .next (s.unreset fun s =>
    if s.fld (F.NET_PORT_CFG_EN p) = 1 then s.setFld F.NET_STATUS_LINK (setBit (s.fld F.NET_STATUS_LINK) p) else s)

/-- ETH_LINK_DOWN (R267): bit 28 latches with the port. -/
def execEthLinkDown (p : Fin 32) (s : State) : Out :=
  .next (s.unreset fun s =>
    if bit (s.fld F.NET_STATUS_LINK) p then
      (s.setFld F.NET_STATUS_LINK (putBits (s.fld F.NET_STATUS_LINK) p 1 0)).latchAt 28 p (hwCtrl s 0 28) (dataSession 0 p 0)
    else s)

/-! ## Keys of the endpoint (R272, R277) -/

/-- The cookie window at this tick (R276). -/
def State.window (s : State) : Nat := s.tick / max 1 (s.fld F.SES_COOKIE_WINDOW)

/-- The cookie key moves with its window, the one before is kept for one window (R277). -/
def State.rotate (s : State) : State :=
  let w := s.window
  if s.net.cookieKey ≠ [] ∧ s.net.cookieWin = w then s
  else
    let r := s.draw 31 32
    { r.2 with net := { r.2.net with cookieKey := r.1, cookieOld := if w = s.net.cookieWin + 1 then s.net.cookieKey else [], cookieWin := w } }

/-- COOKIE_KEY_ROTATION (R277). -/
def execCookieKeyRotation (s : State) : Out := .next (s.unreset fun s => s.rotate)

/-- The keys the classifier needs are there: the CID key is drawn once, the cookie key for its window (R272, R277). -/
def State.netKeys (s : State) : State :=
  let s1 := s.rotate
  if s1.net.cidKey = [] then
    let r := s1.draw 31 32
    { r.2 with net := { r.2.net with cidKey := r.1 } }
  else s1

/-- The connection ID of a session (R272). -/
def State.cidOf (s : State) (k : Nat) : List Byte :=
  let h := leBytes 3 k ++ leBytes 1 (s.sesGen k)
  h ++ fitLen 4 (Config.hmac 2 s.net.cidKey h)

/-- The session a connection ID names, if it verifies (R272). -/
def State.byCid (s : State) (cid : List Byte) : Option Nat :=
  let k := leAt cid 0 3
  if (s.ses k).st ≠ 0 ∧ cid = s.cidOf k then some k else none

/-! ## Flows and the session cache (R270, R281) -/

/-- Two flow keys are the same: all but the peer's MAC address. -/
def Flow.same (a b : Flow) : Bool := decide ({ a with mac := 0 } = { b with mac := 0 })

/-- The session of a flow key. -/
def State.byFlow (s : State) (f : Flow) : Option Nat := (s.net.ses.find? (fun x => decide (x.2.st ≠ 0) && x.2.flow.same f)).map (·.1)

/-- A session's hot part is in the cache, the least recently used leaving for it (R270, R281). -/
def State.touch (s : State) (k : Nat) : State :=
  let l := s.net.hot.filter (· ≠ k) ++ [k]
  if l.length > 131072 then { s.incFld F.SES_MISS_EVICT with net := { s.net with hot := l.drop 1 } }
  else { s with net := { s.net with hot := l } }

/-! ## Host ring (R274) -/

/-- A KIND 2 record of a polder can be posted now, or wait (R136). -/
def State.recordRoom (s : State) (n : Nat) : Bool :=
  let q := s.pq n
  (s.cqOpen n && decide (s.cqFree n > 0) && q.waiting.all (·.reserved)) || decide ((q.waiting.filter (fun r => !r.reserved)).length < 64)

/-- A frame goes to a polder's host ring with its record, or is dropped (R274). -/
def State.hostFrame (s : State) (n port reason : Nat) (l : List Byte) : State :=
  let used := tget (fun _ => []) s.net.hostUsed n
  let b := tget (fun _ => 0) s.net.hostNext n
  let size := 2 ^ min 12 (s.fld (F.SES_PLD_HOST_SIZE n))
  if s.fld (F.SES_PLD_HOST_V n) = 0 ∨ used.contains b ∨ !s.recordRoom n then s.netDrop 9
  else
    let h := s.fld (F.SES_PLD_HOST_BASE n) * 4096 + b * 16384
    let r := s.translateAll n (h / 4096) (pagesOf h l.length)
    if !r.1 then (r.2.latch 16 (hwCtrl s n 16) (dataAddress (h + 0x400000000000))).netDrop 9
    else
      let s1 := r.2.hostPut n h l
      let s2 := { s1 with net := { s1.net with hostUsed := tset (fun _ => []) s1.net.hostUsed n (used ++ [b]),
                                               hostNext := tset (fun _ => 0) s1.net.hostNext n ((b + 1) % size) } }
      s2.postRecord n (cqBytes 0 0xFF 0 2 0 0 (pairBytes (hwCtrl s n 63) dataNone ++ leBytes 4 b ++ leBytes 2 l.length ++ leBytes 1 port ++
        leBytes 1 reason))

/-! ## Prefix limiter (R275) -/

/-- An entry's words: prefix high, prefix low, configuration. -/
def State.rlEntry (s : State) (i : Nat) : Nat × Nat × Nat := tget (fun _ => (0, 0, 0)) s.net.rl i

/-- An entry's prefix length, if it matches a source. -/
def rlMatch (e : Nat × Nat × Nat) (v6 : Bool) (src : Nat) : Option Nat :=
  let w := if v6 then 128 else 32
  let len := min (bits e.2.2 54 48) w
  let p := if v6 then e.1 * 2 ^ 64 + e.2.1 else e.2.1 % 2 ^ 32
  if bit e.2.2 63 ∧ bit e.2.2 62 = v6 ∧ src / 2 ^ (w - len) = p / 2 ^ (w - len) then some len else none

/-- The entry that limits a source: the longest matching prefix, else entry 0. -/
def State.rlFor (s : State) (v6 : Bool) (src : Nat) : Nat :=
  (s.net.rl.foldl (fun (best : Option (Nat × Nat)) e =>
    if e.1 = 0 then best else
    match rlMatch e.2 v6 src, best with
    | some l, some b => if l > b.1 then some (l, e.1) else best
    | some l, none => some (l, e.1)
    | none, _ => best) none).elim 0 (·.2)

/-- Tokens of an entry. -/
def State.tokens (s : State) (i : Nat) : Nat := tget (fun _ => 0) s.net.tokens i

/-- The state with an entry's tokens replaced. -/
def State.setTokens (s : State) (i v : Nat) : State := { s with net := { s.net with tokens := tset (fun _ => 0) s.net.tokens i v } }

/-- TOKEN_BUCKET_REFILL (R275): every bucket gains RATE tokens, up to BURST. -/
def execTokenBucketRefill (s : State) : Out :=
  .next (s.unreset fun s =>
    (s.net.rl.filter (fun e => decide (e.1 = 0) || bit e.2.2.2 63)).foldl (fun s e =>
      s.setTokens e.1 (min (bits e.2.2.2 47 24) (s.tokens e.1 + bits e.2.2.2 23 0))) s)

/-! ## Listeners (R268, R269) -/

/-- The listener of a local address, a protocol and a port (R268). -/
def State.listener (s : State) (addr port : Nat) (protos : List Nat) : Option Nat :=
  findFrom (fun k => decide (s.fld (F.SES_LSN_A_V k) = 1) && decide (s.fld (F.SES_LSN_A_ADDR k) = addr) &&
    decide (s.fld (F.SES_LSN_A_L4PORT k) = port) && protos.contains (s.fld (F.SES_LSN_A_PROTO k))) 256 0

/-- A listener's suites, as code points. -/
def State.suiteOn (s : State) (k suite : Nat) : Bool := decide (0x1301 ≤ suite ∧ suite ≤ 0x1303) && bit (s.fld (F.SES_LSN_C_SUITES k)) (suite - 0x1301)

/-- A listener enables a key-exchange group (R289, R291). -/
def State.groupOn (s : State) (k g : Nat) : Bool :=
  let m := s.fld (F.SES_LSN_C_GROUPS k)
  (decide (g = 0x1D) && bit m 0) || (decide (g = 0x17) && bit m 1) || (decide (g = 0x201) && bit m 2) || (decide (g = 0x11EC) && bit m 3) ||
    (List.range 4).any (fun i => bit m (4 + i) && decide (s.fld (F.SES_PRIVGRP_V i) = 1) && decide (s.fld (F.SES_PRIVGRP_CODEPOINT i) = g))

/-- A new session's context (R279, R281): none at the polder's quota or with every context taken. -/
def State.createSes (s : State) (lsn : Nat) (f : Flow) (suite : Nat) : Option (Nat × State) :=
  let n := s.fld (F.SES_LSN_A_POLDER lsn)
  if s.sesOf n ≥ s.fld (F.PLD_QUOTA_SES_LIMIT n) then none
  else
    (findFrom (fun k => decide ((s.ses k).st = 0)) s.sesMax 0).map (fun k =>
      let hs := s.fld (F.SES_LSN_B_HS_LIMIT lsn)
      (k, (s.setSes k { st := 1, proto := s.fld (F.SES_LSN_A_PROTO lsn), polder := n, listener := lsn, suite := suite, flow := f,
                        hsAt := if hs = 0 then none else some (s.tick + hs), last := s.tick }).touch k))

/-! ## DTLS (R272, R273, R276, R277, R285) -/

/-- A length-prefixed vector of `l` at `o` with a length of `n` bytes: its content and the place behind it. -/
def vecAt (l : List Byte) (o n : Nat) : Option (List Byte × Nat) :=
  let k := beAt l o n
  if o + n + k ≤ l.length then some ((l.drop (o + n)).take k, o + n + k) else none

/-- The 16-bit numbers of a byte string. -/
def u16s : List Byte → List Nat
  | a :: b :: t => (a.toNat * 256 + b.toNat) :: u16s t
  | _ => []

/-- Extensions as type and content. -/
def extsOf : Nat → List Byte → List (Nat × List Byte)
  | 0, _ => []
  | f + 1, l =>
    if l.length < 4 then [] else
    match vecAt l 2 2 with
    | some (d, o) => (beAt l 0 2, d) :: extsOf f (l.drop o)
    | none => []

/-- The groups of the shares of a key_share list. -/
def shareGroups : Nat → List Byte → List Nat
  | 0, _ => []
  | f + 1, l =>
    if l.length < 4 then [] else
    match vecAt l 2 2 with
    | some (_, o) => beAt l 0 2 :: shareGroups f (l.drop o)
    | none => []

/-- A ClientHello in one record: the record, its sequence number, the message for the hash, suites and extensions. -/
structure Hello where
  record : List Byte
  seq : Nat
  msg : List Byte
  suites : List Nat
  exts : List (Nat × List Byte)
  deriving DecidableEq, Repr

/-- A ClientHello from a datagram's first record: plaintext, epoch 0, not fragmented. -/
def parseHello (l : List Byte) : Option Hello :=
  let n := beAt l 11 2
  if l.length < 13 + n ∨ leAt l 0 1 ≠ 22 ∨ beAt l 3 2 ≠ 0 then none else
  let h := (l.drop 13).take n
  let m := beAt h 1 3
  if leAt h 0 1 ≠ 1 ∨ beAt h 6 3 ≠ 0 ∨ beAt h 9 3 ≠ m ∨ h.length < 12 + m then none else
  let b := (h.drop 12).take m
  match vecAt b 34 1 with
  | none => none
  | some (_, o1) =>
    match vecAt b o1 1 with
    | none => none
    | some (_, o2) =>
      match vecAt b o2 2 with
      | none => none
      | some (su, o3) =>
        match vecAt b o3 1 with
        | none => none
        | some (_, o4) =>
          match vecAt b o4 2 with
          | none => none
          | some (ex, _) =>
            some { record := l.take (13 + n), seq := beAt l 5 6, msg := [(1 : Byte)] ++ beBytes 3 m ++ b, suites := u16s su,
                   exts := extsOf ex.length ex }

/-- An extension's content. -/
def Hello.ext (h : Hello) (ty : Nat) : Option (List Byte) := (h.exts.find? (fun e => decide (e.1 = ty))).map (·.2)

/-- DTLS 1.3 is among the versions offered. -/
def Hello.v13 (h : Hello) : Bool :=
  match h.ext 43 with
  | some d => (u16s (d.drop 1)).contains 0xFEFC
  | none => false

/-- The MAC of a cookie's first 56 bytes for a source and a listener (R276). -/
def cookieMac (key c56 : List Byte) (f : Flow) (lsn : Nat) : List Byte :=
  fitLen 16 (Config.hmac 2 key (c56 ++ beBytes 16 f.src ++ beBytes 2 f.sport ++ beBytes 1 lsn))

/-- The key a window index verifies under (R277). -/
def State.cookieKeyFor (s : State) (w : Nat) : Option (List Byte) :=
  if w = s.net.cookieWin % 2 ^ 32 then some s.net.cookieKey
  else if w + 1 = s.net.cookieWin % 2 ^ 32 ∧ s.net.cookieOld ≠ [] then some s.net.cookieOld
  else none

/-- A cookie is valid (R277). -/
def State.cookieOk (s : State) (c : List Byte) (f : Flow) (lsn : Nat) : Bool :=
  decide (c.length = 72) &&
    (match s.cookieKeyFor (leAt c 0 4) with
     | some k => decide (c.drop 56 = cookieMac k (c.take 56) f lsn)
     | none => false)

/-- The group named in the cookie: that of the first share of an enabled group, else the first enabled group offered, else 0; with whether
a share is there (R276). -/
def State.helloGroup (s : State) (lsn : Nat) (h : Hello) : Bool × Nat :=
  let shares := match h.ext 51 with | some d => shareGroups d.length (d.drop 2) | none => []
  match shares.find? (s.groupOn lsn) with
  | some g => (true, g)
  | none =>
    let gs := match h.ext 10 with | some d => u16s (d.drop 2) | none => []
    (false, (gs.find? (s.groupOn lsn)).getD 0)

/-- The random value of a HelloRetryRequest (RFC 8446). -/
def hrrRandom : List Byte :=
  [0xCF, 0x21, 0xAD, 0x74, 0xE5, 0x9A, 0x61, 0x11, 0xBE, 0x1D, 0x8C, 0x02, 0x1E, 0x65, 0xB8, 0x91, 0xC2, 0xA2, 0x11, 0x16, 0x7A, 0xBB, 0x8C,
   0x5E, 0x07, 0x9E, 0x09, 0xE2, 0xC8, 0xA8, 0x33, 0x9C]

/-- A HelloRetryRequest record with its cookie (R276, RFC 9147). -/
def hrrRecord (seq suite : Nat) (group : Option Nat) (cookie : List Byte) : List Byte :=
  let ex := beBytes 2 43 ++ beBytes 2 2 ++ beBytes 2 0xFEFC ++
    (match group with | some g => beBytes 2 51 ++ beBytes 2 2 ++ beBytes 2 g | none => []) ++
    beBytes 2 44 ++ beBytes 2 (cookie.length + 2) ++ beBytes 2 cookie.length ++ cookie
  let b := beBytes 2 0xFEFD ++ hrrRandom ++ [(0 : Byte)] ++ beBytes 2 suite ++ [(0 : Byte)] ++ beBytes 2 ex.length ++ ex
  let h := [(2 : Byte)] ++ beBytes 3 b.length ++ beBytes 2 0 ++ beBytes 3 0 ++ beBytes 3 b.length ++ b
  [(22 : Byte)] ++ beBytes 2 0xFEFD ++ beBytes 2 0 ++ beBytes 6 seq ++ beBytes 2 h.length ++ h

/-- A datagram at step 7 (R276, R277, R279): an unknown source's ClientHello. `tok` is the limiter entry. -/
def State.dtlsHello (s : State) (lsn : Nat) (f : Flow) (tok : Nat) (l : List Byte) : State :=
  match parseHello l with
  | none => s.netDrop 11
  | some h =>
    if !h.v13 then s.netDrop 11
    else
      match h.ext 44 with
      | some d =>
        let c := d.drop 2
        if !s.cookieOk c f lsn then s.netDrop 11
        else
          match s.createSes lsn f (leAt c 6 2) with
          | none => s.netDrop 12
          | some (k, s1) =>
            (s1.setTokens tok (s1.tokens tok - 1)).addItem k
              { kind := 1, flow := f, rseq := h.seq, data := c.take 56 ++ h.record, hdrLen := 13 }
      | none =>
        match h.suites.find? (s.suiteOn lsn) with
        | none => s.netDrop 11
        | some su =>
          let g := s.helloGroup lsn h
          let alg := if su = 0x1302 then 3 else 2
          let hash := fitLen 48 (fitLen (if su = 0x1302 then 48 else 32) (Config.hash alg (if su = 0x1302 then 48 else 32) [] [] h.msg))
          let c := leBytes 4 s.net.cookieWin ++ leBytes 2 g.2 ++ leBytes 2 su ++ hash
          let cookie := c ++ cookieMac s.net.cookieKey c f lsn
          (s.setTokens tok (s.tokens tok - 1)).sendUdp f (hrrRecord h.seq su (if g.1 ∨ g.2 = 0 then none else some g.2) cookie)

/-- A record number passes the replay window (R285). -/
def Session.fresh? (x : Session) (n : Nat) : Bool :=
  match x.replayTop with
  | none => true
  | some t => decide (n > t) || (decide (t - n < 64) && !bit x.replayMask (t - n))

/-- A record number enters the replay window (R286). -/
def Session.seen (x : Session) (n : Nat) : Session :=
  match x.replayTop with
  | none => { x with replayTop := some n, replayMask := 1 }
  | some t =>
    if n > t then { x with replayTop := some n, replayMask := (if n - t ≥ 64 then 0 else x.replayMask * 2 ^ (n - t) % 2 ^ 64) + 1 }
    else if t - n < 64 then { x with replayMask := setBit x.replayMask (t - n) }
    else x

/-- The full record number nearest to the next one expected, from its low bits (RFC 9147). -/
def nearest (expect lowBits low : Nat) : Nat :=
  let m := 2 ^ lowBits
  let c := expect / m * m + low
  if c + m / 2 < expect then c + m
  else if c > expect + m / 2 ∧ c ≥ m then c - m
  else c

/-- One record at the head of a datagram: its bytes, header length and number with epoch, or none where it is rejected; and the rest of the
datagram, or none where it cannot be told (R272, R285, R290). -/
def State.dtlsRecord (s : State) (k : Nat) (l : List Byte) : Option (List Byte × Nat × Nat) × Option (List Byte) :=
  let x := s.ses k
  let b := leAt l 0 1
  let epoch := x.rseq / 2 ^ 48
  if b / 32 = 1 then
    let cid := bit b 4
    let sl := if bit b 3 then 2 else 1
    let at_ := 1 + if cid then 8 else 0
    let hdr := at_ + sl + if bit b 2 then 2 else 0
    let n := if bit b 2 then beAt l (at_ + sl) 2 else l.length - hdr
    if l.length < hdr + n ∨ (cid ∧ bytesAt l 1 8 ≠ s.cidOf k) then (none, none)
    else
      let rest := some (l.drop (hdr + n))
      let ct := (l.drop hdr).take n
      if n > 2 ^ 14 + 256 ∨ n < 16 ∨ !x.keyed ∨ b % 4 ≠ epoch % 4 then (none, rest)
      else
        let mask := Config.recordMask (suiteAlg x.suite) x.rsn (ct.take 16) % 65536
        let enc := beAt l at_ sl
        let low := if sl = 2 then enc ^^^ mask else enc ^^^ (mask / 256)
        let num := nearest (x.rseq % 2 ^ 48) (8 * sl) low
        if x.fresh? num then (some (l.take at_ ++ beBytes sl low ++ ((l.drop (at_ + sl)).take (hdr - at_ - sl + n)), hdr, epoch * 2 ^ 48 + num), rest)
        else (none, rest)
  else if 20 ≤ b ∧ b ≤ 26 then
    let n := beAt l 11 2
    if l.length < 13 + n then (none, none)
    else
      let rest := some (l.drop (13 + n))
      let num := beAt l 5 6
      if n > 2 ^ 14 + 256 ∨ beAt l 3 2 ≠ epoch ∨ !x.fresh? num then (none, rest)
      else (some (l.take (13 + n), 13, epoch * 2 ^ 48 + num), rest)
  else (none, none)

/-- The records of a datagram, each an item of its session or dropped (R282, R285). -/
def State.dtlsIn (s : State) (k : Nat) (f : Flow) (moved : Bool) : Nat → List Byte → State
  | 0, _ => s
  | n + 1, l =>
    if l.isEmpty then s else
    let r := s.dtlsRecord k l
    let s1 := match r.1 with
      | some (d, hdr, num) => (s.limitsDue k).addItem k { kind := 2, moved := moved, flow := f, rseq := num, data := d, hdrLen := hdr }
      | none => s.netDrop 14
    match r.2 with
    | some rest => s1.dtlsIn k f moved n rest
    | none => s1

/-! ## SYN cookies (R278) -/

/-- The MSS values of a cookie's index. -/
def mssTable : List Nat := [536, 1220, 1360, 1400, 1440, 1460, 4312, 8960]

/-- The index of the largest MSS not above a limit. -/
def mssIndex (m : Nat) : Nat := (mssTable.filter (fun v => decide (v ≤ m))).length - 1

/-- A flow key as bytes, for MACs. -/
def Flow.bytes (f : Flow) : List Byte :=
  beBytes 1 f.port ++ beBytes 2 (match f.vlan with | some v => v | none => 0xFFFF) ++ beBytes 1 (b2n f.v6) ++ beBytes 16 f.src ++ beBytes 16 f.dst ++
    beBytes 1 f.proto ++ beBytes 2 f.sport ++ beBytes 2 f.dport

/-- The sequence number of a SYN-ACK (R278). -/
def synCookie (key : List Byte) (f : Flow) (seq w mi : Nat) : Nat :=
  let i := w % 32 * 8 + mi
  i * 2 ^ 24 + beAt (Config.hmac 2 key (f.bytes ++ beBytes 4 seq ++ beBytes 1 i)) 0 3

/-- The MSS that a port's MTU leaves (R278). -/
def State.portMss (s : State) (f : Flow) : Nat := s.fld (F.NET_PORT_CFG_MTU f.port) - if f.v6 then 60 else 40

/-- A SYN is answered with a cookie, and nothing is kept (R278). -/
def State.synAck (s : State) (f : Flow) (g : Seg4) : State :=
  let s1 := if g.data ≠ [] ∨ g.fastOpen then s.netDrop 15 else s
  let mi := mssIndex (min (g.mss.getD 536) (s.portMss f))
  let ws := match g.ws with | some w => min w 14 | none => 15
  let opts := beBytes 1 2 ++ beBytes 1 4 ++ beBytes 2 (s.portMss f) ++
    (match g.ts with
     | some (v, _) =>
       [(1 : Byte), 1, 8, 10] ++ beBytes 4 (s.tick % 2 ^ 27 * 32 + b2n g.sackOk * 16 + ws) ++ beBytes 4 v ++
         (if g.sackOk then [(1 : Byte), 1, 4, 2] else []) ++ (if g.ws.isSome then [(1 : Byte), 3, 3, 0] else [])
     | none => [])
  s1.sendTcp f (synCookie s.net.cookieKey f g.seq s.net.cookieWin mi) (seqAdd g.seq 1) 18 rcvWindow opts []

/-- An ACK's cookie is valid: its MSS index (R277, R278). -/
def State.synOk (s : State) (f : Flow) (g : Seg4) : Option Nat :=
  let isn := seqSub g.ack 1
  let seq := seqSub g.seq 1
  let mi := isn / 2 ^ 24 % 8
  let w := s.net.cookieWin
  let ok := fun (w : Nat) (k : List Byte) => decide (isn / 2 ^ 27 = w % 32) && decide (synCookie k f seq w mi = isn)
  if ok w s.net.cookieKey ∨ (w > 0 ∧ s.net.cookieOld ≠ [] ∧ ok (w - 1) s.net.cookieOld) then some mi else none

/-- The initial window of RFC 5681. -/
def initialWindow (mss : Nat) : Nat := if mss > 2190 then 2 * mss else if mss > 1095 then 3 * mss else 4 * mss

/-- A reset in answer to a segment that meets no session (R270). -/
def State.answerRst (s : State) (f : Flow) (g : Seg4) : State :=
  if g.has 4 then s
  else if g.has 16 then s.sendTcp f g.ack 0 4 0 [] []
  else s.sendTcp f 0 (seqAdd g.seq (g.data.length + b2n (g.has 2) + b2n (g.has 1))) 20 0 [] []

/-- A segment at step 7 (R278, R279). -/
def State.tcpHello (s : State) (lsn : Nat) (f : Flow) (tok : Nat) (g : Seg4) : State :=
  if g.has 2 ∧ !g.has 16 ∧ !g.has 4 then (s.setTokens tok (s.tokens tok - 1)).synAck f g
  else if !g.has 16 ∨ g.has 2 ∨ g.has 4 then s.netDrop 11
  else
    match s.synOk f g with
    | none => s.netDrop 11
    | some mi =>
      match s.createSes lsn f 0 with
      | none => (s.netDrop 12).answerRst f g
      | some (k, s1) =>
        let mss := mssTable.getD mi 536
        let ecr := match g.ts with | some (_, e) => e | none => 15
        let t : Tcp := { rcvNxt := g.seq, sndUna := g.ack, sndNxt := g.ack, mss := mss, wscale := ecr % 16, sack := bit ecr 4, ts := g.ts.isSome,
                         tsRecent := (g.ts.map (·.1)).getD 0, cwnd := initialWindow mss, rto := s.fld F.SES_TCP_RTO_INIT,
                         sndWnd := g.win * 2 ^ (if ecr % 16 < 15 then ecr % 16 else 0) }
        let s2 := ((s1.setTcp k t).setTokens tok (s1.tokens tok - 1)).addItem k { kind := 1, flow := f }
        s2.tcpIn k g

/-! ## The classifier (R267, R270, R271) -/

/-- The local address entry that admits a destination on a port (R268). -/
def State.localAddr (s : State) (port : Nat) (vlan : Option Nat) (v6 : Bool) (a : Nat) : Option Nat :=
  findFrom (fun k => decide (s.fld (F.NET_ADDR_CFG_V k) = 1) && decide (s.fld (F.NET_ADDR_CFG_V6 k) = b2n v6) &&
    bit (s.fld (F.NET_ADDR_PORTS_PORTS k)) port &&
    (match vlan with
     | some v => decide (s.fld (F.NET_ADDR_CFG_VLAN_EN k) = 1) && decide (s.fld (F.NET_ADDR_CFG_VID k) = v)
     | none => decide (s.fld (F.NET_ADDR_CFG_VLAN_EN k) = 0)) &&
    decide ((if v6 then s.fld (F.NET_ADDR_HI_ADDR k) * 2 ^ 64 + s.fld (F.NET_ADDR_LO_ADDR k) else s.fld (F.NET_ADDR_LO_ADDR k) % 2 ^ 32) = a)) 64 0

/-- Some local address on the port carries a VLAN ID (R267). -/
def State.vlanOk (s : State) (port v : Nat) : Bool :=
  (List.range 64).any (fun k => decide (s.fld (F.NET_ADDR_CFG_V k) = 1) && decide (s.fld (F.NET_ADDR_CFG_VLAN_EN k) = 1) &&
    decide (s.fld (F.NET_ADDR_CFG_VID k) = v) && bit (s.fld (F.NET_ADDR_PORTS_PORTS k)) port)

/-- An ARP packet (R268): a request for a local address is answered. -/
def State.arpIn (s : State) (port : Nat) (vlan : Option Nat) (p : List Byte) : State :=
  match s.localAddr port vlan false (beAt p 24 4) with
  | none => s.netDrop 8
  | some _ =>
    if beAt p 0 2 = 1 ∧ beAt p 2 2 = 0x0800 ∧ beAt p 6 2 = 1 then
      s.sendFrame port (ethHead port (beAt p 8 6) vlan 0x0806 ++ beBytes 2 1 ++ beBytes 2 0x0800 ++ [(6 : Byte), 4] ++ beBytes 2 2 ++
        beBytes 6 (Config.portMac port) ++ bytesAt p 24 4 ++ bytesAt p 8 10)
    else s.netDrop 9

/-- A Neighbour Solicitation for a local address is answered (R268, RFC 4861). -/
def State.neighbour (s : State) (f : Flow) (l4 : List Byte) : State :=
  let t := beAt l4 8 16
  match s.localAddr f.port f.vlan true t with
  | none => s.netDrop 8
  | some _ =>
    let dst := if f.src = 0 then 0xFF020000000000000000000000000001 else f.src
    let b := fun (c : Nat) => [(136 : Byte), 0] ++ beBytes 2 c ++ beBytes 4 (if f.src = 0 then 0x20000000 else 0x60000000) ++ beBytes 16 t ++
      [(2 : Byte), 1] ++ beBytes 6 (Config.portMac f.port)
    let m := b (checksum (pseudoHead true t dst 58 32 ++ b 0))
    s.sendFrame f.port (ethHead f.port f.mac f.vlan 0x86DD ++ beBytes 4 0x60000000 ++ beBytes 2 32 ++ [(58 : Byte), 255] ++ beBytes 16 t ++
      beBytes 16 dst ++ m)

/-- The session a packet belongs to, by steps 4 to 6 of R270: nothing, a rejected connection ID, or a session with whether its flow moved;
and the state with the lookup counted. -/
def State.resolve (s : State) (f : Flow) (addr : Nat) (data : List Byte) : Option (Option (Nat × Bool)) × State :=
  let cidLsn := if f.proto = 17 ∧ leAt data 0 1 / 32 = 1 ∧ bit (leAt data 0 1) 4 then
      (s.listener addr f.dport [0]).filter (fun k => decide (s.fld (F.SES_LSN_A_CID k) = 1)) else none
  match cidLsn with
  | some _ =>
    match s.byCid (bytesAt data 1 8) with
    | none => (some none, s)
    | some k =>
      let s1 := if s.net.hot.contains k then s else s.incFld F.SES_MISS_LOOKUP
      (some (some (k, !(s.ses k).flow.same f)), s1.touch k)
  | none =>
    match s.byFlow f with
    | some k => (some (some (k, false)), (if s.net.hot.contains k then s else s.incFld F.SES_MISS_LOOKUP).touch k)
    | none => (none, s.incFld F.SES_MISS_LOOKUP)

/-- A checked packet for a local address, from step 4 on (R270). `l4` is the payload of the IP packet, `frame` the whole frame. -/
def State.packetIn (s : State) (f : Flow) (addr : Nat) (l4 frame : List Byte) : State :=
  let data := if f.proto = 17 then (l4.take (beAt l4 4 2)).drop 8 else []
  let n := s.fld (F.NET_ADDR_CFG_POLDER addr)
  let toHost := fun (s : State) (r : Nat) =>
    if s.fld (F.SES_PLD_HOST_V n) = 1 then s.hostFrame n f.port r frame
    else if f.proto = 6 then (s.netDrop 9).answerRst f (parseTcp l4)
    else s.netDrop 9
  if f.proto ≠ 6 ∧ f.proto ≠ 17 then toHost s 2
  else
    let r := s.resolve f addr data
    let s := r.2
    match r.1 with
    | some none => s.netDrop 14
    | some (some (k, moved)) =>
      let s1 := if moved then s else s.setSes k { s.ses k with flow := { (s.ses k).flow with mac := f.mac } }
      if f.proto = 6 then s1.tcpArrive k (parseTcp l4) else s1.dtlsIn k f moved (data.length + 1) data
    | none =>
      match s.listener addr f.dport [if f.proto = 6 then 1 else 0] with
      | some lsn =>
        let e := s.rlFor f.v6 f.src
        if s.tokens e = 0 then s.netDrop 10
        else if f.proto = 6 then
          let g := parseTcp l4
          (if g.has 32 then s.netDrop 15 else s).tcpHello lsn f e g
        else s.dtlsHello lsn f e data
      | none => if f.proto = 17 ∧ (s.listener addr f.dport [2]).isSome then toHost s 0 else toHost s 1

/-- The layer-4 header passes its checks (R271). -/
def l4Ok (f : Flow) (l : List Byte) : Bool :=
  let sum := fun (n : Nat) => decide (fold16 3 (sum16 (pseudoHead f.v6 f.src f.dst f.proto n ++ l.take n)) = 0xFFFF)
  if f.proto = 17 then
    let n := beAt l 4 2
    decide (8 ≤ n) && decide (n ≤ l.length) && ((decide (beAt l 6 2 = 0) && !f.v6) || sum n)
  else if f.proto = 6 then
    let h := beAt l 12 1 / 16 * 4
    decide (20 ≤ h) && decide (h ≤ l.length) && sum l.length
  else true

/-- Steps 1 to 3 for an IP packet (R270, R271). -/
def State.ipIn (s : State) (f : Flow) (hop : Nat) (l4 frame : List Byte) : State :=
  let f := if f.proto = 6 ∨ f.proto = 17 then { f with sport := beAt l4 0 2, dport := beAt l4 2 2 } else f
  if !l4Ok f l4 then s.netDrop 5
  else if f.v6 ∧ f.proto = 58 ∧ leAt l4 0 1 = 135 ∧ hop = 255 then s.neighbour f l4
  else
    match s.localAddr f.port f.vlan f.v6 f.dst with
    | none => s.netDrop 8
    | some a => if f.proto = 17 ∧ (f.dport = 319 ∨ f.dport = 320) then s else s.packetIn f a l4 frame

/-- An IPv4 packet (R271). -/
def State.ip4In (s : State) (f : Flow) (p frame : List Byte) : State :=
  let n := beAt p 2 2
  if leAt p 0 1 ≠ 0x45 ∨ p.length < 20 ∨ n < 20 ∨ n > p.length ∨ fold16 3 (sum16 (p.take 20)) ≠ 0xFFFF then s.netDrop 5
  else if beAt p 6 2 % 2 ^ 14 ≠ 0 then s.netDrop 6
  else s.ipIn { f with v6 := false, src := beAt p 12 4, dst := beAt p 16 4, proto := leAt p 9 1 } (leAt p 8 1) ((p.take n).drop 20) frame

/-- IPv6 extension headers. -/
def extHeader (nh : Nat) : Bool := decide (nh ∈ [0, 43, 50, 51, 60, 135, 139, 140, 253, 254])

/-- An IPv6 packet (R271). -/
def State.ip6In (s : State) (f : Flow) (p frame : List Byte) : State :=
  let n := beAt p 4 2
  let nh := leAt p 6 1
  if leAt p 0 1 / 16 ≠ 6 ∨ p.length < 40 ∨ 40 + n > p.length then s.netDrop 5
  else if nh = 44 then s.netDrop 6
  else if extHeader nh then s.netDrop 7
  else s.ipIn { f with v6 := true, src := beAt p 8 16, dst := beAt p 24 16, proto := nh } (leAt p 7 1) ((p.take (40 + n)).drop 40) frame

/-- A frame that a port's MAC has received (R267, R270, R271). -/
def State.frameIn (s : State) (p : Nat) (fcsOk : Bool) (l : List Byte) : State :=
  if !fcsOk then s.netDrop 0
  else if l.length + 4 < 64 then s.netDrop 1
  else if l.length + 4 > 9216 then s.netDrop 2
  else
    let t0 := beAt l 12 2
    let tagged := decide (t0 = 0x8100)
    let ty := if tagged then beAt l 16 2 else t0
    let v := if tagged then some (beAt l 14 2 % 4096) else none
    let tagOk := match v with | some x => s.vlanOk p x | none => true
    if ty = 0x8808 then s.netDrop 3
    else if ty ∉ [0x0800, 0x86DD, 0x0806, 0x88F7] ∨ !tagOk then s.netDrop 4
    else
      let s1 := (s.incFld (F.NET_PORT_STAT_FRAMES p)).netKeys
      let body := l.drop (if tagged then 18 else 14)
      let f : Flow := { port := p, vlan := v, mac := beAt l 6 6 }
      if ty = 0x88F7 then s1
      else if ty = 0x0806 then s1.arpIn p v body
      else if ty = 0x0800 then s1.ip4In f body l
      else s1.ip6In f body l

/-- FRAME_RECEIVE (R270): a frame arrives at a port that has its link. `frame` has no FCS. -/
def execFrameReceive (port : Fin 32) (fcsOk : Bool) (frame : List (BitVec 8)) (s : State) : Out :=
  .next (s.live fun s => if bit (s.fld F.NET_STATUS_LINK) port then s.frameIn port fcsOk frame else s)

/-! ## Timers of sessions (R292 to R294) -/

/-- HANDSHAKE_LIMIT_EXPIRY (R293). -/
def execHandshakeLimitExpiry (k : Fin 2097152) (s : State) : Out :=
  .next (s.live fun s => s.hsDue k)

/-- IDLE_LIMIT_EXPIRY (R293, R294). -/
def execIdleLimitExpiry (k : Fin 2097152) (s : State) : Out :=
  .next (s.live fun s => s.idleDue k)

/-- SESSION_TIMER_EXPIRY (R293). -/
def execSessionTimerExpiry (k : Fin 2097152) (s : State) : Out :=
  .next (s.live fun s => s.timerDue k)

/-- TCP_RTO_EXPIRY (R292, R294). -/
def execTcpRtoExpiry (k : Fin 2097152) (s : State) : Out :=
  .next (s.live fun s => if s.dueAt (s.ses k).tcp.rtoAt then s.tcpRto k else s)

/-- DELAYED_ACK_EXPIRY (R292). -/
def execDelayedAckExpiry (k : Fin 2097152) (s : State) : Out :=
  .next (s.live fun s => if s.dueAt (s.ses k).tcp.ackAt then s.tcpDelack k else s)

/-- PERSIST_TIMER_EXPIRY (R292). -/
def execPersistTimerExpiry (k : Fin 2097152) (s : State) : Out :=
  .next (s.live fun s => if s.dueAt (s.ses k).tcp.persistAt then s.tcpPersist k else s)

/-! ## Session configuration (R269, R280, R291) -/

/-- A write of SES_CTRL.MODE (R280). -/
def State.writeSesMode (s : State) (v : Bool) : State :=
  if s.net.ses.any (fun x => decide (x.2.st ≠ 0)) then s.setFld F.SES_ERR_CFG_ERR 1 else s.setFld F.SES_CTRL_MODE (b2n v)

/-- SES_CTRL_MODE_WRITE (R280). -/
def execSesCtrlModeWrite (v : Bool) (s : State) : Out := .next (s.unreset fun s => s.writeSesMode v)

/-- A write of a listener's register (R269): word A must name a local address of the listener's polder. -/
def State.writeLsn (s : State) (k reg v : Nat) : State :=
  let a := bits v 60 55
  match reg with
  | 0 =>
    if bit v 63 ∧ !(s.fld (F.NET_ADDR_CFG_V a) = 1 ∧ s.fld (F.NET_ADDR_CFG_POLDER a) = bits v 54 47) then s.setFld F.SES_ERR_CFG_ERR 1
    else s.setReg (F.SES_LSN_A_V k).off (BitVec.ofNat 64 (putBits v 16 5 0))
  | 1 => s.setReg (F.SES_LSN_B_IDLE k).off (BitVec.ofNat 64 v)
  | _ => s.setReg (F.SES_LSN_C_SUITES k).off (BitVec.ofNat 64 (bits v 63 48 * 2 ^ 48 + bits v 6 4 * 16 + bits v 2 0))

/-- SES_LSN_WRITE (R269). -/
def execSesLsnWrite (k : Fin 256) (reg : Fin 3) (v : Word) (s : State) : Out := .next (s.unreset fun s => s.writeLsn k reg v.toNat)

/-- A write of SES_PRIVGRP (R291): a code point outside 0xFE00 to 0xFEFF is refused. -/
def State.writePrivgrp (s : State) (k v : Nat) : State :=
  if bits v 31 24 = 0xFE then s.setReg (F.SES_PRIVGRP_V k).off (BitVec.ofNat 64 (bits v 31 16 * 2 ^ 16 + bits v 8 0))
  else s.setFld F.SES_ERR_CFG_ERR 1

/-- SES_PRIVGRP_WRITE (R291). -/
def execSesPrivgrpWrite (k : Fin 4) (v : Word) (s : State) : Out := .next (s.unreset fun s => s.writePrivgrp k v.toNat)

/-! ## DONE and the actions of an item (R58, R286) -/

/-- What an item's actions have come to: the list goes on, closes the session at its end, has aborted, or the context is gone. -/
structure Acts where
  s : State
  close : Bool := false
  discard : Bool := false
  installed : Bool := false
  stop : Bool := false
  gone : Bool := false
  deriving DecidableEq, Repr

/-- The list aborts at this action; earlier ones stand (R286). -/
def Acts.bad (a : Acts) (s : State) : Acts := { a with s := s.incFld F.SES_ERR_ACTION, stop := true }

/-- DTLS record-number encryption of an outgoing record (R286). -/
def sealNumber (x : Session) (l : List Byte) : List Byte :=
  let b := leAt l 0 1
  if !x.keyed ∨ b / 32 ≠ 1 then l else
  let at_ := 1 + if bit b 4 then 8 else 0
  let sl := if bit b 3 then 2 else 1
  let hdr := at_ + sl + if bit b 2 then 2 else 0
  let mask := Config.recordMask (suiteAlg x.suite) x.wsn ((l.drop hdr).take 16) % 65536
  let v := beAt l at_ sl
  l.take at_ ++ beBytes sl (if sl = 2 then v ^^^ mask else v ^^^ (mask / 256)) ++ l.drop (at_ + sl)

/-- The master of the session unit (R403). -/
def sesMaster : Master := { mcls := 10, unit := 0 }

/-- SEND (R286); a refused read gives zeros (R411). -/
def Acts.send (a : Acts) (k : Nat) (l : List Byte) : Acts :=
  let s := a.s
  let x := s.ses k
  let r := s.unitRead sesMaster (hwCtrl s x.polder 15) (leAt l 8 8) (leAt l 4 4)
  let data := if r.1 = .refused then List.replicate (leAt l 4 4) 0 else r.2.1
  if r.1 = .ok ∨ r.1 = .refused then
    let s1 := r.2.2
    let y := { s1.ses k with tseq := (s1.ses k).tseq + 1 }
    if x.proto = 1 then
      let s2 := s1.setSes k { y with tcp := { y.tcp with queued := y.tcp.queued ++ (if y.tcp.dead ∨ y.tcp.finQueued then [] else data) } }
      { a with s := s2.tcpOutput k }
    else { a with s := (s1.setSes k y).sendUdp x.flow (sealNumber x data) }
  else a.bad r.2.2

/-- The epoch an INSTALL begins (R286, RFC 9147): 2 with the handshake's keys, 3 with the first application keys, then one more. -/
def nextEpoch (cur st : Nat) : Nat := max (cur + 1) (if st = 1 then 2 else 3)

/-- Keys enter a context for a new epoch: the numbers start anew (R286). -/
def Session.install (x : Session) (st suite : Nat) (rk wk rsn wsn ivs : List Byte) : Session :=
  let e := if x.proto = 1 then 0 else nextEpoch (x.rseq / 2 ^ 48) st * 2 ^ 48
  { x with st := st, keyed := true, suite := suite, rkey := rk, wkey := wk, rsn := if x.proto = 1 then [] else rsn, wsn := if x.proto = 1 then [] else wsn,
           ivs := ivs, rseq := e, tseq := e, replayTop := none, replayMask := 0, hsAt := if st = 1 then x.hsAt else none }

/-- INSTALL (R286): the four keys go into the context, their slots are zeroised and freed, the numbers start anew. -/
def Acts.install (a : Acts) (k out : Nat) (l : List Byte) : Acts :=
  let s := a.s
  let x := s.ses k
  let slots := if x.proto = 1 then [leAt l 2 2, leAt l 4 2] else [leAt l 2 2, leAt l 4 2, leAt l 6 2, leAt l 8 2]
  let slots := slots.map (· % 2 ^ 14)
  let st := leAt l 1 1
  if !slots.all (s.ownsKey x.polder) ∨ st = 0 ∨ st > 3 ∨ !zeroAt l 10 15 then a.bad s
  else
    let sec := fun (i : Nat) => (s.key (slots.getD i 0)).secret
    let y := x.install st (algSuite (s.key (slots.getD 0 0)).alg) (sec 0) (sec 1) (sec 2) (sec 3) (s.bytes out 24)
    { a with s := slots.foldl (fun s q => s.zeroSlot q) (s.setSes k y), installed := true }

/-- One action (R273, R286). -/
def Acts.act (a : Acts) (k : Nat) (i : SesItem) (out : Nat) (l : List Byte) : Acts :=
  if a.stop ∨ a.gone then a else
  let s := a.s
  let x := s.ses k
  match leAt l 0 1 with
  | 0 => { a with stop := true }
  | 1 => a.send k l
  | 2 => a.install k out l
  | 3 => { a with s := s.setSes k { x with expiry := if leAt l 4 4 = 0 then none else some (i.arrival + leAt l 4 4) } }
  | 4 => { a with close := true }
  | 5 => { a with s := (if x.proto = 1 then s.tcpReset k else s).freeSes k, gone := true }
  | 6 => { a with s := s.setSes k { x with flow := i.flow } }
  | 7 => { a with discard := true }
  | _ => a.bad s

/-- A RECORD that is not discarded: its number enters REPLAY, LAST and the idle limit move (R286, R293). -/
def State.recordDone (s : State) (k : Nat) (i : SesItem) (installed : Bool) : State :=
  let x := s.ses k
  let idle := s.fld (F.SES_LSN_B_IDLE x.listener)
  let y := { x with last := i.arrival, idleAt := if idle = 0 then none else some (i.arrival + idle) }
  if installed then s.setSes k y
  else if x.proto = 1 then s.setSes k { y with rseq := y.rseq + 1 }
  else if i.rseq / 2 ^ 48 = x.rseq / 2 ^ 48 then s.setSes k { y.seen (i.rseq % 2 ^ 48) with rseq := max y.rseq (i.rseq + 1) }
  else s.setSes k y

/-- Where an item in flight has its working copy of the program area (R285). -/
def SesRun.progAt (r : SesRun) : Nat := r.cells.1 + cellSize + cdiv r.item.data.length cellSize * cellSize

/-- Where an item in flight has its output buffer (R285). -/
def State.outAt (s : State) (r : SesRun) : Nat := r.progAt + cdiv s.progLen cellSize * cellSize

/-- The actions of an item in flight, as its descriptor has them (R286). -/
def State.listed (k : Nat) (r : SesRun) (s : State) : Acts :=
  (List.range 4).foldl (fun (x : Acts) j => x.act k r.item (s.outAt r) (s.bytes (r.cells.1 + 128 + 16 * j) 16)) { s := s }

/-- An item's task reaches DONE on core `c`: the working copy goes back, the actions are performed, the item ends (R286). -/
def State.itemDone (s0 : State) (c k : Nat) (perform : SesRun → State → Acts) : State :=
  let s := s0.limitsDue k
  match (s.ses k).cur with
  | none => s
  | some r =>
    let acts := perform r (s.setSes k { s.ses k with prog := s.bytes r.progAt s.progLen, home := c })
    if acts.gone then acts.s
    else
      let s2 := if r.item.kind = 2 then (if acts.discard then acts.s.netDrop 14 else acts.s.recordDone k r.item acts.installed) else acts.s
      let s3 := s2.endItem k
      if !acts.close then s3
      else if (s3.ses k).proto = 1 then
        let y := s3.ses k
        (s3.setSes k { y with st := 3, tcp := { y.tcp with finQueued := true } }).tcpOutput k
      else s3.freeSes k

end Sys2Proof.Machine
end

