-- ==== Sys2Proof/Machine/HostIf.lean ====
section
/-!
DEFINITION. Sys2Proof/Machine/HostIf.lean: the PCIe endpoints and the queues of a polder (R123 to R147): doorbells, fetching, the SQ
opcodes with program images (R74 to R77), completions, links, translations and the dirty log.
-/

namespace Sys2Proof.Machine

/-! ## Doorbells (R129, R130) -/

/-- Entries of SQ `q` (R155). -/
def State.sqSize (s : State) (n q : Nat) : Nat := 2 ^ s.fld (F.PLD_SQ_CFG_SIZE n q)

/-- A refused doorbell (R130). -/
def State.badDoorbell (s : State) (n : Nat) : State := (s.setFld (F.PLD_STATUS_DB_ERR n) 1).latch 17 (hwCtrl s n 17) dataNone

/-- A tail doorbell of SQ `q` (R130). -/
def State.tailDoorbell (s : State) (n q v : Nat) : State :=
  let p := s.pq n
  let t := (p.tails.toList).getD q 0
  let h := (p.held.toList).getD q 0
  let size := s.sqSize n q
  let more := (v % size + size - t) % size
  if s.fld (F.PLD_SQ_CFG_EN n q) = 1 ∧ v < size ∧ v < 65536 ∧ h + more ≤ size then
    if hq : q < 4 then s.setPq n { p with tails := p.tails.set q v, held := p.held.set q (h + more) } else s
  else s.badDoorbell n

/-- A head doorbell of the CQ (R130, R274): the slots and host-ring buffers it passes are free, and what waits is posted. -/
def State.headDoorbell (s : State) (n v : Nat) : State :=
  let p := s.pq n
  let size := s.cqSize n
  if s.fld (F.PLD_CQ_CFG_EN n) = 1 ∧ v < size ∧ v < 65536 then
    let k := min ((v + size - p.cqHead) % size) p.cqUsed
    let k := if v = p.cqHead ∧ p.cqUsed = size then 0 else k
    let bufs := (p.cqHost.take k).filterMap id
    let s1 := s.setPq n { p with cqHead := v, cqUsed := p.cqUsed - k, cqHost := p.cqHost.drop k }
    let used := (tget (fun _ => []) s1.net.hostUsed n).filter (fun b => !bufs.contains b)
    ({ s1 with net := { s1.net with hostUsed := tset (fun _ => []) s1.net.hostUsed n used } }).postWaiting n
  else s.badDoorbell n

/-- SQ_TAIL_DOORBELL (R130). -/
def execSqTailDoorbell (n : PolderId) (q : Fin 4) (v : Word) (s : State) : Out := .next (s.unreset fun s => s.tailDoorbell n q v.toNat)

/-- CQ_HEAD_DOORBELL (R130). -/
def execCqHeadDoorbell (n : PolderId) (v : Word) (s : State) : Out := .next (s.unreset fun s => s.headDoorbell n v.toNat)

/-- What an AtomicOp writes over an old value (R123): none where a compare fails. -/
def atomicNew (op : AtomicOp) (old : Nat) : Option Nat :=
  match op with
  | .fetchAdd v => some ((old + v.toNat) % 2 ^ 64)
  | .swap v => some v.toNat
  | .cas c v => if c.toNat = old then some v.toNat else none

/-- DOORBELL_ATOMICOP (R123): on a doorbell, SQ 0 to 3 or the CQ as 4; the old value is the last accepted one. -/
def execDoorbellAtomicop (n : PolderId) (q : Fin 5) (op : AtomicOp) (s : State) : Out :=
  .next (s.unreset fun s =>
    let old := if q.val < 4 then ((s.pq n).tails.toList).getD q.val 0 else (s.pq n).cqHead
    let s1 := s.send (.atomicOld n (BitVec.ofNat 64 old))
    match atomicNew op old with
    | some v => if q.val < 4 then s1.tailDoorbell n q v else s1.headDoorbell n v
    | none => s1)

/-! ## Entries (R131 to R135) -/

/-- The master of a host polder (R403). -/
def pldMaster (n : Nat) : Master := { mcls := 9, unit := n, acts := [n] }

/-- The control word of a host polder's work (R22). -/
def pldCtrl (s : State) (n source : Nat) : Word := hwCtrl s n source

/-- A polder's fetched entries may start: ACTIVE or QUIESCED, and its master is not frozen (R149, R410, R450). -/
def State.entriesRun (s : State) (n : Nat) : Bool :=
  let st := s.fld (F.PLD_STATUS_STATE n)
  (decide (st = 1) || decide (st = 2)) && !s.frozen 9 n && !s.tamperFrozen

/-- A polder's endpoint has its link and is in D0 (R125, R126). -/
def State.epUp (s : State) (n : Nat) : Bool := (s.ep (s.epOf n)).up

/-- An entry completes (R131, R133, R135): QUIET drops the completion of an OK, and its slot is free again. -/
def State.endEntry (s : State) (n : Nat) (e : SqEntry) (st result : Nat) (payload : List Byte) : State :=
  let s0 := if st = 0x12 then s.incFld (F.PLD_ERRCNT_MALFORMED n) else s
  let p := s0.pq n
  let s1 := s0.setPq n { p with inflight := p.inflight.erase e }
  if st = 0 ∧ bit (leAt e.bytes 1 1) 0 then
    let p1 := s1.pq n
    (s1.setPq n { p1 with reserved := p1.reserved - 1 }).postWaiting n
  else
    s1.complete n (cqBytes e.cid e.sq st 0 e.head (if st = 0 then result else 0)
      (pairBytes (pldCtrl s n 63) dataNone ++ fitLen 32 payload))

/-- The state with an entry in flight replaced. -/
def State.putEntry (s : State) (n : Nat) (e e' : SqEntry) : State :=
  let p := s.pq n
  s.setPq n { p with inflight := p.inflight.replace e e' }

/-- The entry of SQ `q` that starts next, in ring order; a FENCE only once no earlier entry is left (R132). -/
def State.nextEntry (s : State) (n q : Nat) : Option SqEntry :=
  let l := (s.pq n).inflight.filter (fun e => decide (e.sq = q))
  match l.find? (fun e => !e.started) with
  | none => none
  | some e => if e.opc = 7 ∧ l.head? ≠ some e then none else some e

/-- Bytes `lo` to `hi` of an entry are 0. -/
def SqEntry.zero (e : SqEntry) (lo hi : Nat) : Bool := zeroAt e.bytes lo hi

/-- LEN, HADDR, DADDR, ARG of an entry (R133). -/
def SqEntry.len (e : SqEntry) : Nat := leAt e.bytes 4 4
/-- HADDR. -/
def SqEntry.haddr (e : SqEntry) : Nat := leAt e.bytes 8 8
/-- DADDR. -/
def SqEntry.daddr (e : SqEntry) : Nat := leAt e.bytes 16 8
/-- ARG. -/
def SqEntry.arg (e : SqEntry) : Nat := leAt e.bytes 24 8
/-- FLAGS. -/
def SqEntry.flags (e : SqEntry) : Nat := leAt e.bytes 1 1
/-- FLAGS.LIB. -/
def SqEntry.lib (e : SqEntry) : Bool := bit e.flags 2

/-- An entry's fields are legal (R133, R134): a known opcode, no unused field or flag set. -/
def SqEntry.ok (e : SqEntry) : Bool :=
  decide (e.flags < 8) && (decide (e.opc = 3) || !bit e.flags 1) && (decide (e.opc = 1) || !e.lib) &&
    (match e.opc with
     | 1 => e.zero 32 63 && decide (e.daddr % 4096 = 0) && (if e.lib then decide (e.arg < 256) && e.zero 4 15 else decide (e.arg = 0))
     | 2 => e.zero 4 23 && decide (e.arg < 4096) && e.zero 32 63
     | 3 => e.zero 4 23 && decide (e.arg < 4096)
     | 4 => e.zero 24 63
     | 5 => e.zero 24 63
     | 6 => e.zero 4 23 && decide (e.arg < 16384) && e.zero 36 63 && !bit (leAt e.bytes 32 4) 31
     | 7 => e.zero 4 63
     | _ => false)

/-- Entries at the front of SQ `q` with an illegal field complete with MALFORMED (R134). -/
def State.flushBad (s : State) (n q : Nat) : Nat → State
  | 0 => s
  | f + 1 =>
    match s.nextEntry n q with
    | some e => if e.ok ∨ !s.entriesRun n then s else (s.endEntry n e 0x12 0 []).flushBad n q f
    | none => s

/-- A row's work on the entry of SQ `q` that starts next, where it has the row's opcode. -/
def State.onEntry (s : State) (n q opc : Nat) (k : SqEntry → State → State) : State :=
  let s1 := s.flushBad n q ((s.pq n).inflight.length + 1)
  if s1.entriesRun n then
    match s1.nextEntry n q with
    | some e => if e.opc = opc ∧ !e.waiting then (k e s1).flushBad n q ((s.pq n).inflight.length + 1) else s1
    | none => s1
  else s1

/-- The DMA entries of SQ `q` whose transfers are in flight: those at the front that nothing holds back. DESIGN CHOICE: a transfer's command
is its end, and it is in flight from when the entry may start (log entry 25). -/
def State.inFlight (s : State) (n q : Nat) : List SqEntry :=
  if !s.entriesRun n then [] else
  (((s.pq n).inflight.filter (fun e => decide (e.sq = q) && !e.started)).takeWhile (fun e =>
    (decide (e.opc = 4) || decide (e.opc = 5)) && e.ok)).filter (fun e => decide (leAt e.bytes 4 4 ≠ 0))

/-- The transfers of a polder in flight, of every SQ. -/
def State.transfers (s : State) (n : Nat) : List SqEntry := (List.range 4).flatMap (s.inFlight n)

/-- The transfers in flight when a drain begins may still finish (R149). -/
def State.markFlying (s : State) (n : Nat) : State :=
  let l := s.transfers n
  s.setPq n { s.pq n with inflight := (s.pq n).inflight.map (fun e => if l.contains e then { e with flying := true } else e) }

/-- A row's work on a DMA entry: one that starts next, or in a drain one whose transfer was in flight when the drain began (R149). -/
def State.onTransfer (s : State) (n q opc : Nat) (k : SqEntry → State → State) : State :=
  if s.fld (F.PLD_STATUS_STATE n) = 3 then
    match (s.pq n).inflight.find? (fun e => e.flying && !e.frozen && decide (e.sq = q) && decide (e.opc = opc)) with
    | some e => if s.frozen 9 n || s.tamperFrozen then s else k e s
    | none => s
  else s.onEntry n q opc k

/-- SQ_FETCH (R127, R131, R149): an entry is fetched once a CQ slot is reserved for it. `entry` is what the host's ring holds. -/
def execSqFetch (n : PolderId) (q : Fin 4) (entry : List Byte) (s : State) : Out :=
  .next (s.unreset fun s =>
    let p := s.pq n
    let h := p.held[q]
    if s.fld (F.PLD_STATUS_STATE n) = 1 ∧ s.fld (F.PLD_PASID_VALID n) = 1 ∧ s.fld (F.PLD_SQ_CFG_EN n q) = 1 ∧ s.fld (F.PLD_CQ_CFG_EN n) = 1 ∧
        s.epUp n ∧ !(s.ep (s.epOf n)).d3 ∧ !s.frozen 9 n ∧ !s.tamperFrozen ∧ h ≠ 0 ∧ s.cqFree n > 0 then
      let head := (s.fld (F.PLD_SQ_CFG_HEAD n q) + 1) % s.sqSize n q
      let l := fitLen 64 entry
      let e : SqEntry := { sq := q, cid := leAt l 2 2, opc := leAt l 0 1, bytes := l, head := head }
      let s1 := (s.setFld (F.PLD_SQ_CFG_HEAD n q) head).setPq n
                  { p with held := p.held.set q (h - 1), reserved := p.reserved + 1, inflight := p.inflight ++ [e] }
      let a := s.fld (F.PLD_SQ_BASE_BASE n q) * 4096 + 64 * s.fld (F.PLD_SQ_CFG_HEAD n q)
      ((s1.ringPage n a).hostGet n a 64).flushBad n q 1
    else s)

/-! ## Device addresses (R143) -/

/-- A valid entry of the device page table for a polder address (R143). -/
def State.dpt (s : State) (n p : Nat) : Option Nat :=
  let i := p / 2 ^ 21
  if p ≥ 2 ^ 43 ∨ i ≥ s.fld (F.PLD_DPT_CFG_PAGES n) then none
  else
    let e := s.load (s.fld (F.PLD_DPT_BASE_BASE n) * 4096 + 8 * i) 8
    if bit e 63 ∧ bits e 60 48 = 0 ∧ bits e 20 0 = 0 then some e else none

/-- The internal address of a polder address whose page is mapped, with the rights asked for. -/
def State.mapAddr (s : State) (n p : Nat) (w r : Bool) : Option Nat :=
  match s.dpt n p with
  | some e => if (bit e 62 ∨ !w) ∧ (bit e 61 ∨ !r) then some (bits e 47 21 * 2 ^ 21 + p % 2 ^ 21) else none
  | none => none

/-- The pieces of a range of polder addresses, page by page, as internal address and length; none where a page is not mapped. -/
def State.mapRange (s : State) (n : Nat) (w r : Bool) : Nat → Nat → Nat → Option (List (Nat × Nat))
  | 0, _, _ => some []
  | f + 1, p, len =>
    if len = 0 then some [] else
    let k := min len (2 ^ 21 - p % 2 ^ 21)
    match s.mapAddr n p w r with
    | none => none
    | some a => (s.mapRange n w r f (p + k) (len - k)).map (fun l => (a, k) :: l)

/-- A range of polder addresses. -/
def State.mapped (s : State) (n p len : Nat) (w r : Bool) : Option (List (Nat × Nat)) := s.mapRange n w r (len / 2 ^ 21 + 2) p len

/-- The first word in error among the page-table entries that a range of polder addresses uses (R143, R533). -/
def State.dptError (s : State) (n p len : Nat) : Option Nat :=
  if len = 0 then none else
  (List.range ((p % 2 ^ 21 + len + (2 ^ 21 - 1)) / 2 ^ 21)).findSome? (fun k =>
    if p / 2 ^ 21 + k < s.fld (F.PLD_DPT_CFG_PAGES n) then s.poisoned (s.fld (F.PLD_DPT_BASE_BASE n) * 4096 + 8 * (p / 2 ^ 21 + k)) 8 else none)

/-- The ranges of polder addresses that a RUN, a DMA_IN or a DMA_OUT translates (R137, R141). -/
def SqEntry.ranges (e : SqEntry) : List (Nat × Nat) :=
  let d := parseSpawn (bytesAt e.bytes 32 32)
  if e.opc = 3 then [(d.frame, 1), (d.stack.toNat, 1)] else if e.opc = 4 ∨ e.opc = 5 then [(e.daddr, e.len)] else []

/-- The page-table word in error that ranges of polder addresses meet, if any. -/
def State.dptBad (s : State) (n : Nat) (l : List (Nat × Nat)) : Option Nat := l.findSome? (fun r => s.dptError n r.1 r.2)

/-- An entry translates its polder addresses; a page-table word in error ends it with ABORTED and latches its source (R533). -/
def State.onPages (s : State) (n : Nat) (e : SqEntry) (l : List (Nat × Nat)) (k : State) : State :=
  match s.dptBad n l with
  | some w => (s.latch (eccSource w) (pldCtrl s n (eccSource w)) (dataAddress w)).endEntry n e 0x16 0 []
  | none => k

/-! ## Host translations of a command (R142) -/

/-- Every page of a host range is translated, if the host grants what is not cached (R139, R141, R142). -/
def State.hostPages (s : State) (n h len : Nat) (grant : Bool) : Bool × State :=
  let pages := (List.range (pagesOf h len)).map (h / 4096 + ·)
  let tag := fun (p : Nat) => ({ polder := n, ep := s.epOf n, page := p } : Ats)
  let new := pages.filter (fun p => !s.host.ats.contains (tag p))
  if new.isEmpty then (true, s)
  else if grant then
    let s1 := new.foldl (fun s p => s.send (.atsRequest (s.via n) p)) s
    let all := s1.host.ats ++ new.map tag
    (true, { s1 with host := { s1.host with ats := all.drop (all.length - 16384) } })
  else (false, s.send (.atsRequest (s.via n) (new.headD 0)))

/-- The host's refusal latches bit 16 (R139, R141). -/
def State.hostRefused (s : State) (n h : Nat) : State := s.latch 16 (pldCtrl s n 16) (dataAddress (0x400000000000 + h))

/-- Data is written piece by piece as Dike allows it; none of a refused piece. True when all of it is there. -/
def State.placePieces (s : State) (n : Nat) (loader : Bool) : List (Nat × Nat) → List Byte → Bool × State
  | [], _ => (true, s)
  | (a, k) :: t, l =>
    let c := s.unitCheckW (pldMaster n) (pldCtrl s n 15) a k loader
    if c.1 = .ok then (c.2.store n a (fitLen k (l.take k))).placePieces n loader t (l.drop k) else (false, c.2)

/-- An entry whose access Dike refused waits for the thaw of its polder's master (R410). -/
def State.freezeEntry (s : State) (n : Nat) (e : SqEntry) : State := s.putEntry n e { e with started := true, frozen := true }

/-! ## Program images (R74 to R77, R139) -/

/-- An image's fields (R74). -/
structure Image where
  flags : Nat
  codeOff : Nat
  codeLen : Nat
  dataOff : Nat
  dataLen : Nat
  bss : Nat
  entries : Nat
  pipes : Nat
  entryOff : Nat
  len : Nat
  deriving DecidableEq, Repr

/-- The header of an image. -/
def parseImage (l : List Byte) : Image :=
  { flags := leAt l 6 2, codeOff := leAt l 8 4, codeLen := leAt l 12 4, dataOff := leAt l 16 4, dataLen := leAt l 20 4, bss := leAt l 24 4,
    entries := leAt l 28 2, pipes := leAt l 30 2, entryOff := leAt l 32 4, len := leAt l 36 4 }

/-- The entry table as code offset and default MODE. -/
def Image.table (h : Image) (l : List Byte) : List (Nat × Nat) :=
  (List.range h.entries).map (fun i => (leAt l (h.entryOff + 8 * i) 4, leAt l (h.entryOff + 8 * i + 4) 2))

/-- Check 2 of R75. -/
def Image.fieldsOk (h : Image) (l : List Byte) : Bool :=
  decide (bytesAt l 0 4 = [0x49, 0x4B, 0x53, 0x54]) && decide (leAt l 4 2 = 1) && decide (h.flags < 2) && decide (h.codeOff % 4 = 0) &&
    decide (h.codeLen % 4 = 0) && decide (h.codeLen ≤ 2 ^ 23) && decide (h.codeOff + h.codeLen ≤ h.len) &&
    decide (h.dataOff + h.dataLen ≤ h.len) && decide (1 ≤ h.entries ∧ h.entries ≤ 4096) && decide (h.pipes ≤ 15) &&
    decide (h.entryOff % 8 = 0) && decide (h.entryOff + 8 * h.entries ≤ h.len) && decide (80 ≤ h.len ∧ h.len ≤ 2 ^ 26) && zeroAt l 40 47 &&
    (h.table l).all (fun e => decide (e.1 % 4 = 0) && decide (e.1 < h.codeLen) && decide (e.2 < 32)) &&
    (List.range h.entries).all (fun i => decide (leAt l (h.entryOff + 8 * i + 6) 2 = 0))

/-- An LMS signature at the head of a byte string: what follows it (RFC 8554). -/
def lmsSigRest (l : List Byte) : Option (List Byte) :=
  let ot := beAt l 4 4
  let w := (ot + 3) % 4
  let n := if (ot - 1) / 4 % 2 = 0 then 32 else 24
  let o := 8 + n + n * lmotsP n w
  let ty := beAt l o 4
  match lmsParam ty with
  | some (m, h) => if lmotsOk ty ot ∧ m = n ∧ o + 4 + m * h ≤ l.length then some (l.drop (o + 4 + m * h)) else none
  | none => none

/-- The signed public keys of an HSS signature, and the last signature (RFC 8554). -/
def hssRest : Nat → List Byte → Option (List Byte)
  | 0, l => lmsSigRest l
  | f + 1, l =>
    match lmsSigRest l with
    | none => none
    | some r =>
      match lmsParam (beAt r 0 4) with
      | some (m, _) => if lmotsOk (beAt r 0 4) (beAt r 4 4) ∧ 24 + m ≤ r.length then hssRest f (r.drop (24 + m)) else none
      | none => none

/-- A well-formed HSS signature (R75, RFC 8554). -/
def hssOk (l : List Byte) : Bool := decide (4 ≤ l.length) && decide (beAt l 0 4 ≤ 7) && decide (hssRest (beAt l 0 4) (l.drop 4) = some [])

/-- The signature trailer of R76: the two signatures and whether it is well formed. -/
def trailerOk (t : List Byte) : Bool :=
  let ll := leAt t 0 4
  let ml := leAt t 4 4
  decide (ml = 4627) && hssOk (bytesAt t 8 ll) && zeroAt (bytesAt t (8 + ll) (alignUp ll 8 - ll) ++ bytesAt t (8 + alignUp ll 8 + ml) (alignUp ml 8 - ml)) 0
    (alignUp ll 8 - ll + (alignUp ml 8 - ml))

/-- Check 1 of R75: LEN against IMAGE_LEN and the trailer. -/
def imageLenOk (l : List Byte) : Bool :=
  let h := parseImage l
  let t := l.drop h.len
  let full := decide (8 ≤ t.length) && decide (t.length = 8 + alignUp (leAt t 0 4) 8 + alignUp (leAt t 4 4) 8)
  decide (l.length = h.len) || (decide (h.flags % 2 = 1) && decide (h.len ≤ l.length) && full)

/-- Checks 1 and 2 of R75, before the digest; `host` is a host image of LEN bytes `l`, and a library entry meets checks 2 and 3. -/
def imageFormOk (host : Bool) (l : List Byte) : Bool := (!host || imageLenOk l) && (parseImage l).fieldsOk l

/-- Check 3 of R75. -/
def imageDigestOk (l : List Byte) : Bool :=
  decide (fitLen 32 (Config.hash 0x12 32 [] [] ((l.take (parseImage l).len).drop 80)) = bytesAt l 48 32)

/-- An image is subject to checks 4 and 5 of R75: from the host, with FLAGS[0] set. -/
def imageSigned (host : Bool) (l : List Byte) : Bool := host && decide ((parseImage l).flags % 2 = 1)

/-- Check 4 of R75: a trailer is there and well formed. -/
def imageTrailerOk (l : List Byte) : Bool := decide (l.length ≠ (parseImage l).len) && trailerOk (l.drop (parseImage l).len)

/-- Check 5 of R75: both signatures of the trailer verify (R76). -/
def imageVerified (l : List Byte) : Bool :=
  let h := parseImage l
  let t := l.drop h.len
  Config.verify 0x80 0 (Config.vendorKey 0x80) (l.take h.len) [] (bytesAt t 8 (leAt t 0 4)) &&
    Config.verify 0x13 0 (Config.vendorKey 0x13) (l.take h.len) ("PYRUDRIC-PROG-1".toList.map (fun c => BitVec.ofNat 8 c.toNat))
      (bytesAt t (8 + alignUp (leAt t 0 4) 8) 4627)

/-- The checks of R75, in order: a status, or none. -/
def programCheck (host : Bool) (l : List Byte) : Option Nat :=
  if !imageFormOk host l then some 0x12
  else if !imageDigestOk l then some 0x12
  else if imageSigned host l ∧ !imageTrailerOk l then some 0x14
  else if imageSigned host l ∧ !imageVerified l then some 0x14
  else none

/-- An image comes as far as check 5 of R75, where its signatures are verified by ordinary jobs (R76). -/
def imageToVerify (host : Bool) (l : List Byte) : Bool :=
  imageFormOk host l && imageDigestOk l && imageSigned host l && imageTrailerOk l

/-- The next program handle of a polder (R20): in increasing order, wrapping to 1, none that is loaded. -/
def State.nextProg (s : State) (n : Nat) : Option Nat :=
  let last := tget (fun _ => 0) s.host.nextHandle n
  (findFrom (fun i => !(s.prog n ((last + i) % 4095 + 1)).loaded) 4095 0).map (fun i => (last + i) % 4095 + 1)

/-- The image is placed and a handle issued, or the entry ends with a status (R20, R77, R139). Each page of the region lies where the device
page table maps it, so that code, and data from PDB on, run on in internal addresses only as far as the mapping does. The signatures of a
service program are verified with ordinary jobs of LE and DE, for which the load waits (R76); its digest waits as R534 says. -/
def State.loadImage' (s : State) (n : Nat) (e : SqEntry) (l : List Byte) : State :=
  if imageFormOk (!e.lib) l ∧ !s.hwCan n (if imageToVerify (!e.lib) l then [0, 3] else [3]) then s else
  let s := if imageToVerify (!e.lib) l then s.hwDid [0, 3] else s
  match programCheck (!e.lib) l with
  | some st => s.endEntry n e st 0 []
  | none =>
    let h := parseImage l
    let dataOff := alignUp h.codeLen 4096
    s.onPages n e [(e.daddr, dataOff + h.dataLen + h.bss)] <|
    match s.mapped n e.daddr (dataOff + h.dataLen + h.bss) true false, s.nextProg n with
    | none, _ => s.endEntry n e 3 0 []
    | some _, none => s.endEntry n e 4 0 []
    | some _, some k =>
      let cp := (s.mapped n e.daddr h.codeLen true false).getD []
      let dp := (s.mapped n (e.daddr + dataOff) (h.dataLen + h.bss) true false).getD []
      let r := s.placePieces n true cp (bytesAt l h.codeOff h.codeLen)
      if !r.1 then r.2.freezeEntry n e
      else
        let r2 := r.2.placePieces n true dp (bytesAt l h.dataOff h.dataLen)
        if !r2.1 then r2.2.freezeEntry n e
        else
          let p : Program := { loaded := true, service := decide (h.flags = 1), code := cp,
                               pdb := ((s.mapAddr n (e.daddr + dataOff) true false).getD 0), entries := h.table l, pipeCount := h.pipes,
                               digest := bytesAt l 48 32 }
          let s1 := r2.2.setProg n k p
          let s2 := { s1 with host := { s1.host with nextHandle := tset (fun _ => 0) s1.host.nextHandle n k } }
          s2.endEntry n e 0 k p.digest

/-- LOAD_PROGRAM (R139). `image` is what the host's memory holds at HADDR, `grant` whether the host translates its pages. -/
def execLoadProgram (n : PolderId) (q : Fin 4) (image : List Byte) (grant : Bool) (s : State) : Out :=
  .next (s.unreset fun s => s.onEntry n q 1 fun e s =>
    if e.lib then
      match s.host.lib[e.arg]? with
      | none => s.endEntry n e 0x12 0 []
      | some l => s.loadImage' n e l
    else if !s.epUp n then s
    else
      let r := s.hostPages n e.haddr e.len grant
      if !r.1 then (r.2.hostRefused n e.haddr).endEntry n e 0x0D 0 []
      else (r.2.hostGet n e.haddr e.len).loadImage' n e (fitLen e.len image))

/-- The tasks of a program. -/
def State.progTasks (s : State) (n h : Nat) : List Nat :=
  (s.sched.tasks.filter (fun x => decide (x.2.state ≠ .free) && decide (x.2.polder = n) && decide (x.2.program = h))).map (·.1)

/-- A task ends as FREE of it does: a running one is marked (R58, R140). -/
def State.freeTask (s : State) (t : Nat) : State :=
  let x := s.task t
  match x.state with
  | .free => s
  | .ending => s
  | .running => s.setTask t { x with marked := true }
  | _ => s.endTask t

/-- UNLOAD_PROGRAM (R140): the program's pipelines stop and its tasks end; the handle is released later. -/
def execUnloadProgram (n : PolderId) (q : Fin 4) (s : State) : Out :=
  .next (s.unreset fun s => s.onEntry n q 2 fun e s =>
    let p := s.prog n e.arg
    if !p.loaded then s.endEntry n e 0x12 0 []
    else
      let s1 := p.pipes.foldl (fun s x => match x.2.running with | some r => s.failRun r 0x16 0 | none => s) s
      let s2 := (s1.progTasks n e.arg).foldl (fun s t => s.freeTask t) s1
      let g := s2.prog n e.arg
      (s2.setProg n e.arg { g with unloading := true }).putEntry n e { e with started := true })

/-- UNLOAD_RELEASE (R140): with every slot of the program FREE the handle is released, and the unloads that wait for it complete. -/
def execUnloadRelease (n : PolderId) (h : Fin 4096) (s : State) : Out :=
  .next (s.unreset fun s =>
    let p := s.prog n h
    if p.loaded ∧ p.unloading ∧ (s.progTasks n h).isEmpty ∧ s.entriesRun n then
      let s1 := s.setProg n h {}
      ((s1.pq n).inflight.filter (fun e => e.started && decide (e.opc = 2) && decide (e.arg = h.val))).foldl
        (fun s e => s.endEntry n e 0 0 []) s1
    else s)

/-! ## RUN (R137, R138) -/

/-- The task a RUN describes, its addresses translated; none where a check of R54 fails (R137). -/
def State.runSpawn (s : State) (n : Nat) (e : SqEntry) (p : Program) : Option Spawn :=
  let d := parseSpawn (bytesAt e.bytes 32 32)
  let d := if bit e.flags 1 then { d with mode := (p.entries.getD d.entry (0, 0)).2 } else d
  match s.mapAddr n d.frame false false, s.mapAddr n d.stack.toNat false false with
  | some f, some k =>
    let d := { d with frame := f, stack := BitVec.ofNat 64 k }
    if d.okFor s p then some d else none
  | _, _ => none

/-- A RUN's task is created in slot `u`, and the RUN completes (R138). -/
def State.runIn (s : State) (n : Nat) (e : SqEntry) (p : Program) (d : Spawn) (u : Nat) : State :=
  (s.createTask u (d.toTask u n e.arg p)).endEntry n e 0 u []

/-- The limit of a RUN that waits for a slot has fallen due: no slot found later serves it (R138, R530). -/
def State.runDue (s : State) (n : Nat) (e : SqEntry) : Bool := e.waiting && decide (e.since + s.fld (F.PLD_RUNWAIT_TICKS n) ≤ s.tick)

/-- A RUN is tried: its checks, the frame's check as the host polder's write, a slot (R54, R98, R137, R138). -/
def State.tryRun (s : State) (n : Nat) (e : SqEntry) : State :=
  let p := s.prog n e.arg
  if s.runDue n e then s.endEntry n e 5 0 [] else
  if !p.loaded then s.endEntry n e 0x12 0 []
  else if p.unloading then s.endEntry n e 0x16 0 []
  else s.onPages n e e.ranges <|
    match s.runSpawn n e p with
    | none => s.endEntry n e 0x12 0 []
    | some d =>
      let c := s.unitCheckW (pldMaster n) (pldCtrl s n 15) d.frame (frameSize d.vec) false
      if c.1 ≠ .ok then c.2.freezeEntry n e
      else
        let s1 := c.2.serveHw
        match s1.freeSlotFor n false with
        | some u => s1.runIn n e p d u
        | none =>
          if e.waiting then s1
          else if s1.fld (F.PLD_RUNWAIT_TICKS n) = 0 then s1.endEntry n e 5 0 []
          else s1.putEntry n e { e with waiting := true, since := s1.tick }

/-- RUN (R137, R138). -/
def execRun (n : PolderId) (q : Fin 4) (s : State) : Out := .next (s.unreset fun s => s.onEntry n q 3 fun e s => s.tryRun n e)

/-- The RUN of SQ `q` that waits for a slot. -/
def State.waitingRun (s : State) (n q : Nat) : Option SqEntry :=
  if s.entriesRun n then (s.nextEntry n q).filter (fun e => e.waiting && decide (e.opc = 3)) else none

/-- RUN_SLOT_GRANT (R138). -/
def execRunSlotGrant (n : PolderId) (q : Fin 4) (s : State) : Out :=
  .next (s.unreset fun s =>
    match s.waitingRun n q with
    | some e => s.tryRun n e
    | none => s)

/-- RUN_WAIT_EXPIRY (R138, R530). -/
def execRunWaitExpiry (n : PolderId) (q : Fin 4) (s : State) : Out :=
  .next (s.unreset fun s =>
    match s.waitingRun n q with
    | some e => if s.runDue n e then s.endEntry n e 5 0 [] else s
    | none => s)

/-! ## DMA, SIGNAL, FENCE (R132, R134, R141) -/

/-- DMA_IN (R141). `data` is what the host's memory holds, `grant` whether the host translates its pages. -/
def execDmaIn (n : PolderId) (q : Fin 4) (data : List Byte) (grant : Bool) (s : State) : Out :=
  .next (s.unreset fun s => s.onTransfer n q 4 fun e s =>
    if e.len = 0 then s.endEntry n e 0 0 []
    else if !s.epUp n then s
    else s.onPages n e e.ranges <|
      match s.mapped n e.daddr e.len true false with
      | none => s.endEntry n e 3 0 []
      | some ps =>
        let r := s.hostPages n e.haddr e.len grant
        if !r.1 then (r.2.hostRefused n e.haddr).endEntry n e 0x0D 0 []
        else
          let w := (r.2.hostGet n e.haddr e.len).placePieces n false ps (fitLen e.len data)
          if w.1 then w.2.endEntry n e 0 e.len [] else w.2.freezeEntry n e)

/-- The pieces of a device range are read as Dike allows it. -/
def State.readPieces (s : State) (n : Nat) : List (Nat × Nat) → Acc × List Byte × State
  | [] => (.ok, [], s)
  | (a, k) :: t =>
    let r := s.unitRead (pldMaster n) (pldCtrl s n 15) a k
    if r.1 = .ok then
      let q := r.2.2.readPieces n t
      (q.1, r.2.1 ++ q.2.1, q.2.2)
    else r

/-- DMA_OUT (R141, R533). -/
def execDmaOut (n : PolderId) (q : Fin 4) (grant : Bool) (s : State) : Out :=
  .next (s.unreset fun s => s.onTransfer n q 5 fun e s =>
    if e.len = 0 then s.endEntry n e 0 0 []
    else if !s.epUp n then s
    else s.onPages n e e.ranges <|
      match s.mapped n e.daddr e.len false true with
      | none => s.endEntry n e 3 0 []
      | some ps =>
        let r := s.hostPages n e.haddr e.len grant
        if !r.1 then (r.2.hostRefused n e.haddr).endEntry n e 0x0D 0 []
        else
          let d := r.2.readPieces n ps
          match d.1 with
          | .ok => (d.2.2.hostPut n e.haddr d.2.1).endEntry n e 0 e.len []
          | .refused => d.2.2.freezeEntry n e
          | .poison => d.2.2.endEntry n e 0x16 0 []
          | .noTranslation => d.2.2.endEntry n e 0x0D 0 [])

/-- SIGNAL (R55, R134). -/
def execSignal (n : PolderId) (q : Fin 4) (s : State) : Out :=
  .next (s.unreset fun s => s.onEntry n q 6 fun e s =>
    let r := s.deliver n e.arg (BitVec.ofNat 32 (leAt e.bytes 32 4))
    r.2.endEntry n e 0 (b2n r.1) [])

/-- SQ_FENCE (R132). -/
def execSqFence (n : PolderId) (q : Fin 4) (s : State) : Out :=
  .next (s.unreset fun s => s.onEntry n q 7 fun e s => s.endEntry n e 0 0 [])

/-- MSIX_COALESCE_EXPIRY (R136): the delay since the first pending entry has passed. -/
def execMsixCoalesceExpiry (n : PolderId) (s : State) : Out :=
  .next (s.unreset fun s =>
    let p := s.pq n
    if p.irqPending > 0 ∧ s.now - p.irqSince ≥ s.fld (F.PLD_IRQ_DELAY n) then s.fireMsix n else s)

/-! ## Links and endpoints (R123, R125, R126) -/

/-- UNSUPPORTED_REQUEST (R123, R125): refused or dropped, and recorded in the AER status and the header log; an uncorrectable AER error latches bit 27. -/
def execUnsupportedRequest (ep : Fin 2) (posted uncorr : Bool) (header : BitVec 128) (s : State) : Out :=
  .next (s.unreset fun s =>
    let s1 := s.setEp ep { s.ep ep with ur := true, hdrLog := header }
    let s2 := if posted then s1 else s1.send (.pcieUr ep)
    let s3 := s2.send (.aer ep)
    if uncorr then s3.latchHw 27 else s3)

/-- Polders whose PASID entry names an endpoint (R126, R127). -/
def State.poldersOf (s : State) (ep : Nat) : List Nat :=
  (List.range 256).filter (fun n => decide (s.fld (F.PLD_PASID_VALID n) = 1) && decide (s.epOf n = ep))

/-- The transfers of a polder that a drain or a running queue has in flight. -/
def State.cutShort (s : State) (n : Nat) : List SqEntry :=
  if s.fld (F.PLD_STATUS_STATE n) = 3 then (s.pq n).inflight.filter (fun e => e.flying && !e.frozen) else s.transfers n

/-- A link goes down: transfers in flight of the endpoint's polders are abandoned and complete with ABORTED, which waits for the link
(R125). -/
def State.linkLost (s : State) (ep : Nat) : State :=
  let s1 := s.setEp ep { s.ep ep with up := false }
  (s1.poldersOf ep).foldl (fun s n => (s.cutShort n).foldl (fun s e => s.endEntry n e 0x16 0 []) s) s1

/-- PCIE_LINK_DOWN (R125). -/
def execPcieLinkDown (ep : Fin 2) (s : State) : Out :=
  .next (s.unreset fun s => if (s.ep ep).up then (s.linkLost ep).latchHw 27 else s)

/-- PCIE_LINK_UP (R125, R131, R136): what waits is posted. -/
def execPcieLinkUp (ep : Fin 2) (s : State) : Out :=
  .next (s.unreset fun s =>
    if (s.ep ep).up then s
    else
      let s1 := s.setEp ep { s.ep ep with up := true }
      (s1.poldersOf ep).foldl (fun s n => s.postWaiting n) s1)

/-- PCIE_LINK_RETRAIN (R125): below the expected width or rate, bit 27 latches. -/
def execPcieLinkRetrain (ep : Fin 2) (width : Fin 5) (rate : Fin 6) (s : State) : Out :=
  .next (s.unreset fun s =>
    if !(s.ep ep).up then s
    else
      let s1 := s.setEp ep { s.ep ep with width := width, rate := rate }
      let en := if ep = 0 then s.fld F.GLB_PCIE_EXP_A_EN else s.fld F.GLB_PCIE_EXP_B_EN
      let w := if ep = 0 then s.fld F.GLB_PCIE_EXP_A_WIDTH else s.fld F.GLB_PCIE_EXP_B_WIDTH
      let r := if ep = 0 then s.fld F.GLB_PCIE_EXP_A_RATE else s.fld F.GLB_PCIE_EXP_B_RATE
      if en = 1 ∧ (width.val < min 4 w ∨ rate.val < min 5 r) then s1.latchHw 27 else s1)

/-- D3HOT_ENTRY (R126). -/
def execD3hotEntry (ep : Fin 2) (s : State) : Out := .next (s.unreset fun s => s.setEp ep { s.ep ep with d3 := true })

/-- D0_RETURN (R126). -/
def execD0Return (ep : Fin 2) (s : State) : Out := .next (s.unreset fun s => s.setEp ep { s.ep ep with d3 := false })

/-! ## Translations (R128, R142, R144) -/

/-- ATS_INVALIDATION_REQUEST (R142): matching translations are discarded at once. -/
def execAtsInvalidationRequest (n : PolderId) (page pages : Nat) (s : State) : Out :=
  .next (s.unreset fun s =>
    let keep := s.host.ats.filter (fun x => !(decide (x.polder = n.val) && decide (x.ep = s.epOf n) && decide (page ≤ x.page) &&
      decide (x.page < page + pages)))
    ({ s with host := { s.host with ats := keep } }).setPq n { s.pq n with invPending := (s.pq n).invPending + 1 })

/-- A job of the polder still uses the translation its descriptor was read with (R531). -/
def State.descInHost (s : State) (n : Nat) : Bool :=
  s.jobs.tab.any (fun e => decide (e.2.st ≠ .free) && decide (e.2.polder = n) && e.2.granted && decide (spaceOf s e.2.desc = .host))

/-- ATS_INVALIDATION_COMPLETION (R142, R531): one for each request, sent once no access uses a discarded translation. -/
def execAtsInvalidationCompletion (n : PolderId) (s : State) : Out :=
  .next (s.unreset fun s =>
    let k := (s.pq n).invPending
    if k ≠ 0 ∧ !s.descInHost n then (s.setPq n { s.pq n with invPending := k - 1 }).send (.atsInvalidationDone (s.via n)) else s)

/-- PLD_DPT_INV (R144): from here on the new entries are used; no access through an old one is left. -/
def execPldDptInv (n : PolderId) (s : State) : Out := .next (s.unreset fun s => s.setFld (F.PLD_DPT_INV_PENDING n) 0)

/-- Another valid entry has the same endpoint and the same PASID, or the same endpoint and neither sends one (R128). -/
def State.pasidClash (s : State) (n v : Nat) : Bool :=
  (List.range 256).any (fun m => decide (m ≠ n) && decide (s.fld (F.PLD_PASID_VALID m) = 1) && decide (s.fld (F.PLD_PASID_EP m) = bits v 32 32) &&
    (decide (s.fld (F.PLD_PASID_PASID m) = bits v 19 0) || (!bit v 20 && decide (s.fld (F.PLD_PASID_PASID_EN m) = 0))))

/-- A polder that is enabled with a valid PASID entry leaves DISABLED (R149). -/
def State.tryEnable (s : State) (n : Nat) : State :=
  if s.fld (F.PLD_STATUS_STATE n) = 0 ∧ s.fld (F.PLD_CTRL_ENABLE n) = 1 ∧ s.fld (F.PLD_PASID_VALID n) = 1 then
    s.setFld (F.PLD_STATUS_STATE n) (if s.fld (F.PLD_CTRL_QUIESCE n) = 1 then 2 else 1)
  else s

/-- A write of PLD_PASID (R128). -/
def State.writePasid (s : State) (n v : Nat) : State :=
  if bit v 63 ∧ s.pasidClash n v then s.setFld (F.PLD_STATUS_CFG_ERR n) 1
  else
    (s.setReg (F.PLD_PASID_VALID n).off (BitVec.ofNat 64 (bits v 63 63 * 2 ^ 63 + bits v 32 32 * 2 ^ 32 + bits v 20 0))).tryEnable n

/-- PLD_PASID_WRITE (R128). -/
def execPldPasidWrite (n : PolderId) (v : Word) (s : State) : Out := .next (s.unreset fun s => s.writePasid n v.toNat)

/-! ## The dirty log (R147) -/

/-- A write of PLD_DIRTY_CTRL.SWAP. -/
def State.startSwap (s : State) (n : Nat) : State :=
  let p := s.pq n
  if p.swapTo.isSome then s else s.setPq n { p with swapTo := some (s.fld (F.PLD_DIRTY_NEXT_NEXT n) * 4096) }

/-- DIRTY_SWAP (R147). -/
def execDirtySwap (n : PolderId) (s : State) : Out := .next (s.unreset fun s => s.startSwap n)

/-- SWAP_DONE (R147): the new buffer is active. -/
def execSwapDone (n : PolderId) (s : State) : Out :=
  .next (s.unreset fun s =>
    match (s.pq n).swapTo with
    | some b =>
      ((s.setPq n { s.pq n with swapTo := none }).setFld (F.PLD_DIRTY_BASE_BASE n) (b / 4096)).setFld (F.PLD_DIRTY_CTRL_SWAP_DONE n) 1
    | none => s)

end Sys2Proof.Machine
end

