-- ==== Sys2Proof/Machine/Polder.lean ====
section
/-!
DEFINITION. Sys2Proof/Machine/Polder.lean: the states of a polder, its drain, squash, reset and removal, and Function Level Reset
(R126, R149 to R154).
-/

namespace Sys2Proof.Machine

/-- A write of PLD_STATUS's state code. -/
def State.setPolder (s : State) (n st : Nat) : State := s.setFld (F.PLD_STATUS_STATE n) st

/-- POLDER_ENABLE (R149). -/
def execPolderEnable (n : PolderId) (s : State) : Out := .next (s.unreset fun s => (s.setFld (F.PLD_CTRL_ENABLE n) 1).tryEnable n)

/-- A write of PLD_CTRL.QUIESCE (R149). -/
def State.writeQuiesce (s : State) (n : Nat) (set : Bool) : State :=
  let s1 := s.setFld (F.PLD_CTRL_QUIESCE n) (b2n set)
  let st := s.fld (F.PLD_STATUS_STATE n)
  if set then (if st = 1 then s1.setPolder n 2 else s1)
  else if st = 2 ∨ st = 5 then s1.setPolder n 1
  else s1

/-- QUIESCE (R149). -/
def execQuiesce (n : PolderId) (set : Bool) (s : State) : Out := .next (s.unreset fun s => s.writeQuiesce n set)

/-- A drain begins; transfers in flight may finish (R149, R150). -/
def State.startDrain (s : State) (n op lim : Nat) (flr : Bool) : State :=
  let s := s.markFlying n
  (s.setPq n { s.pq n with drainOp := op, drainStart := s.now, drainLimit := lim, flr := flr }).setPolder n 3

/-- A write of PLD_CTRL.OP (R149, R150). -/
def State.writeOp (s : State) (n op : Nat) : State :=
  if op = 0 ∨ op = 3 then s
  else if n = 0 ∨ s.fld (F.PLD_STATUS_STATE n) ≠ 2 then s.setFld (F.PLD_STATUS_CFG_ERR n) 1
  else s.startDrain n op (s.fld (F.PLD_DRAIN_LIMIT_CC n)) false

/-- POLDER_RESET (R149). -/
def execPolderReset (n : PolderId) (s : State) : Out := .next (s.live fun s => s.writeOp n 1)

/-- POLDER_REMOVE (R149, R153). -/
def execPolderRemove (n : PolderId) (s : State) : Out := .next (s.live fun s => s.writeOp n 2)

/-! ## Squashing (R151) -/

/-- Every master frozen only for a polder's work thaws; the debug port does not (R151, R415). -/
def State.thawPolder (s : State) (n : Nat) : State :=
  { s with dike := { s.dike with frozen := s.dike.frozen.filter (fun x => !(decide (x.2.2 = n) && decide (x.1 ≠ 11))) } }

/-- Session items of a polder, in flight and chained, are dropped (R151, R287). -/
def State.dropItems (s : State) (n : Nat) : State :=
  (s.net.ses.filter (fun x => decide (x.2.polder = n))).foldl
    (fun s x =>
      let s1 := (s.ses x.1).chain.foldl (fun s i => s.dropItem i) (s.endItem x.1)
      s1.setSes x.1 { s1.ses x.1 with chain := [] }) s

/-- Every task of a polder ends, without an exception, and its requests for slots lapse (R96, R151); one whose UDO runs ends when the function
honours the stop (R253). -/
def State.endTasks (s : State) (n : Nat) : State :=
  let s := s.latchSlotWaits
  let l := (s.sched.tasks.filter (fun x => decide (x.2.polder = n) && decide (x.2.state ≠ .free) && decide (x.2.state ≠ .ending) && !s.inUdo x.1)).map (·.1)
  let s1 := { s with sched := { s.sched with hwWait := s.sched.hwWait.filter (fun q => decide (q.task.polder ≠ n)) } }
  l.foldl (fun s t => s.endTask t) s1

/-- Jobs and runs of a polder end with SQUASHED; one that has its status already keeps it (R151, R152). -/
def State.squashJobs (s : State) (n : Nat) : State :=
  let runs := (s.opu.runs.filter (fun x => decide (x.2.polder = n))).map (·.1)
  let s1 := runs.foldl (fun s e => s.failRun e 6 0) s
  s1.liveJobs.foldl (fun s e => if (s.job e).polder = n ∧ (s.job e).st ≠ .finished then s.stopJob e 6 0 else s) s1

/-- Every program of a polder is unloaded (R151). -/
def State.dropProgs (s : State) (n : Nat) : State :=
  { s with host := { s.host with progs := s.host.progs.filter (fun x => decide (x.1 / 4096 ≠ n)) } }

/-- Every Cistern allocation of a polder is freed; for polder 0 those of its runs (R126, R151). -/
def State.dropCistern (s : State) (n : Nat) : State :=
  let gone := fun (g : CisGr) => decide (g.polder = n) && (decide (n ≠ 0) || decide (g.part < 2))
  { s with opu := { s.opu with cis := s.opu.cis.filter (fun g => !gone g.2) },
           net := { s.net with cells := s.net.cells.filter (fun c => !(decide (c.2.2 = n) && decide (n ≠ 0))) } }

/-- Every queue of a polder is disabled, its head and tail 0; entries, waiting records and completions go (R150, R151). -/
def State.resetQueues (s : State) (n : Nat) : State :=
  let p := s.pq n
  let s1 := s.setPq n { swapTo := p.swapTo, invPending := p.invPending, drainOp := p.drainOp, drainStart := p.drainStart,
                        drainLimit := p.drainLimit, flr := p.flr }
  let s2 := (List.range 4).foldl (fun s q => (s.setFld (F.PLD_SQ_CFG_EN n q) 0).setFld (F.PLD_SQ_CFG_HEAD n q) 0) s1
  let s3 := ((s2.setFld (F.PLD_CQ_CFG_EN n) 0).setFld (F.PLD_CQ_CFG_TAIL n) 0).setFld (F.PLD_CQ_CFG_PHASE n) 1
  { s3 with net := { s3.net with hostUsed := tset (fun _ => []) s3.net.hostUsed n [], hostNext := tset (fun _ => 0) s3.net.hostNext n 0 } }

/-- Every digest context of a polder is zeroised and freed (R216). -/
def State.dropCtxs (s : State) (n : Nat) : State :=
  s.ctxs.foldl (fun s x => if x.2.polder = n ∧ x.2.st ≠ .free then s.dropCtx x.1 else s) s

/-- A polder's work is squashed (R126, R151). -/
def State.squash (s : State) (n : Nat) : State :=
  let s1 := if n = 0 then s.thawPolder n else (s.thawPolder n).dropItems n
  let s2 := ((((s1.endTasks n).squashJobs n).dropProgs n).dropCistern n).resetQueues n
  (if n = 0 then s2 else s2.dropCtxs n).setPolder n 4

/-- DRAIN_END (R149): no host-bound transfer is in flight, and no completion of one is left to post. -/
def execDrainEnd (n : PolderId) (s : State) : Out :=
  .next (s.live fun s =>
    if s.fld (F.PLD_STATUS_STATE n) = 3 ∧ (s.pq n).waiting.all (fun r => !r.reserved) ∧
        (s.pq n).inflight.all (fun e => !e.flying || e.frozen) then s.squash n else s)

/-- DRAIN_LIMIT_EXPIRY (R149, R150). -/
def execDrainLimitExpiry (n : PolderId) (s : State) : Out :=
  .next (s.live fun s =>
    if s.fld (F.PLD_STATUS_STATE n) = 3 ∧ s.now - (s.pq n).drainStart ≥ (s.pq n).drainLimit then
      (s.setFld (F.PLD_STATUS_DRAIN_TIMEOUT n) 1).squash n
    else s)

/-! ## The end of a reset or removal (R153, R154) -/

/-- No task, job or run of a polder is left. -/
def State.polderIdle (s : State) (n : Nat) : Bool :=
  s.sched.tasks.all (fun x => decide (x.2.polder ≠ n) || decide (x.2.state = .free)) &&
    s.jobs.tab.all (fun x => decide (x.2.polder ≠ n) || decide (x.2.st = .free)) &&
    s.opu.runs.all (fun x => decide (x.2.polder ≠ n))

/-- The contexts of a polder's sessions are freed; TCP peers are sent a reset (R287). -/
def State.removeSessions (s : State) (n : Nat) : State :=
  (s.net.ses.filter (fun x => decide (x.2.polder = n) && decide (x.2.st ≠ 0))).foldl
    (fun s x => (if x.2.proto = 1 then s.tcpReset x.1 else s).freeSes x.1) s

/-- The tables of a polder are dropped and their storage freed (R153). -/
def State.removeTables (s : State) (n : Nat) : State :=
  (s.col.tables.filter (fun x => decide (x.2.polder = n) && !x.2.desc.isEmpty)).foldl
    (fun s x => (x.2.segs.foldl (fun s g => g.granules.foldl (fun s a => s.granDrop a) s) s).setTable x.1 {}) s

/-- The key slots of a polder are zeroised, and its tenant DRBG goes (R153, R235). -/
def State.removeKeys (s : State) (n : Nat) : State :=
  let mine := (s.keys.slots.filter (fun x => x.2.allocated && !x.2.device && decide (x.2.owner = n))).map (·.1)
  (mine.foldl (fun s k => s.zeroSlot k) s).setDrbg (32 + n) {}

/-- A register goes back to its reset value. -/
def State.resetReg (s : State) (off : Nat) : State := s.setReg off (resetWord off)

/-- What a removal discards beside what a reset does (R153). -/
def State.remove (s : State) (n : Nat) : State :=
  let s1 := ((s.removeSessions n).removeTables n).removeKeys n
  let regs := [(F.PLD_QUOTA_CIS_LIMIT n).off, (F.PLD_QUOTA_SES_LIMIT n).off, (F.PMP_QUOTA_LIMIT n).off, (F.KST_QUOTA_LIMIT n).off,
               (F.KST_GQUOTA_LIMIT n).off, (F.DIG_QUOTA_LIMIT n).off, (F.COL_QUOTA_T_LIMIT n).off, (F.COL_QUOTA_H_LIMIT n).off,
               (F.COL_QUOTA_X_LIMIT n).off, (F.PLD_DIRTY_BASE_BASE n).off,
               (F.PLD_DIRTY_LIMIT_LIMIT n).off, (F.PLD_DIRTY_NEXT_NEXT n).off, (F.PLD_DIRTY_CTRL_EN n).off]
  let s2 := regs.foldl (fun s r => s.resetReg r) s1
  let s3 := ((s2.setFld (F.PLD_DPT_CFG_PAGES n) 0).setFld (F.PLD_PASID_VALID n) 0).setFld (F.PLD_CTRL_ENABLE n) 0
  { s3.setPq n { s3.pq n with swapTo := none } with host := { (s3.setPq n { s3.pq n with swapTo := none }).host with
      ats := s3.host.ats.filter (fun x => decide (x.polder ≠ n)) } }

/-- An endpoint's Function Level Reset completes once every polder it covers is done (R126). -/
def State.flrSettle (s : State) (ep : Nat) : State :=
  if (s.ep ep).flr ∧ (List.range 256).all (fun n => decide (s.epOf n ≠ ep) || !(s.pq n).flr) then
    (s.setEp ep { s.ep ep with flr := false }).send (.flrDone ep)
  else s

/-- RESET_DONE (R153, R154): squashing and every access of the polder's work are over. -/
def execResetDone (n : PolderId) (s : State) : Out :=
  .next (s.live fun s =>
    let p := s.pq n
    let ep := s.epOf n
    if s.fld (F.PLD_STATUS_STATE n) = 4 ∧ s.polderIdle n ∧ !(p.drainOp = 2 ∧ s.power.pwrFail) then
      let s1 := (s.setPq n { p with flr := false }).setFld (F.PLD_STATUS_RESET_DONE n) 1
      if p.drainOp = 2 then ((s1.flrSettle ep).remove n).setPolder n 0
      else (s1.flrSettle ep).setPolder n 5
    else s)

/-! ## Function Level Reset (R126) -/

/-- One polder of a Function Level Reset. DEDUCED: a polder in DISABLED holds no work, and its reset is done at once; one that drains
already goes on with the operation written, whose removal includes a reset, under the earlier of the two drain limits (log entry 25). -/
def State.flrPolder (s : State) (n : Nat) : State :=
  let st := s.fld (F.PLD_STATUS_STATE n)
  let lim := min (s.fld (F.PLD_DRAIN_LIMIT_CC n)) 80000000
  if st = 0 then s.setFld (F.PLD_STATUS_RESET_DONE n) 1
  else if st = 3 ∨ st = 4 then
    s.setPq n { s.pq n with flr := true, drainLimit := min (s.pq n).drainLimit (s.now - (s.pq n).drainStart + lim) }
  else s.startDrain n 1 (min (s.fld (F.PLD_DRAIN_LIMIT_CC n)) 80000000) true

/-- FUNCTION_LEVEL_RESET (R126): every polder mapped to the endpoint is reset, polder 0 included. -/
def execFunctionLevelReset (ep : Fin 2) (s : State) : Out :=
  .next (s.live fun s =>
    let s1 := (s.poldersOf ep).foldl (fun s n => s.flrPolder n) (s.setEp ep { s.ep ep with flr := true })
    s1.flrSettle ep)

end Sys2Proof.Machine
end

