-- ==== Sys2Proof/Machine/Tamper.lean ====
section
/-!
DEFINITION. Sys2Proof/Machine/Tamper.lean: the debug port's authority (R445 to R447), zeroisation (R225), the tamper monitors and their
responses (R448 to R453), and the Embankment (R454 to R458).
-/

namespace Sys2Proof.Machine

/-! ## The debug port's authority (R445, R447) -/

/-- The debug port names a set of polders: bit `n` of `mask` is polder `n`. -/
def State.dbgPolders (s : State) (mask : Nat) : State :=
  (List.range 4).foldl (fun s j => s.setFld (F.LCS_DBG_POLDER_MASK j) (mask / 2 ^ (64 * j) % 2 ^ 64)) s

/-- With no token in force: the standing authorisation of MAKER and INTEGRATOR, for polder 0, or none (R445). -/
def State.standing (s : State) : State :=
  let on := decide (s.lcs ≤ 1)
  let s1 := ((s.setFld F.LCS_DBG_AUTH 0).setFld F.LCS_DBG_EXP_EXPIRY 0).setFld F.LCS_DBG_STANDING (b2n on)
  (s1.setFld F.LCS_DBG_SCOPE (if on then 15 else 0)).dbgPolders (b2n on)

/-- A token's authorisation ends (R447). -/
def State.endToken (s : State) : State := if s.fld F.LCS_DBG_AUTH = 1 then s.standing else s

/-- The port has no authorisation at all: a freeze takes it (R450). -/
def State.noAuth (s : State) : State :=
  ((((s.setFld F.LCS_DBG_AUTH 0).setFld F.LCS_DBG_EXP_EXPIRY 0).setFld F.LCS_DBG_STANDING 0).setFld F.LCS_DBG_SCOPE 0).dbgPolders 0

/-! ## Zeroisation (R225, R442) -/

/-- Slots are erased: the jobs that name them end, every engine's copy goes, and a scrub runs (R178, R225). -/
def State.eraseSlots (s : State) (l : List Nat) : State :=
  let s1 := l.foldl (fun s k => ((s.endKeyJobs k).dropMac k).setKey k {}) s
  ({ s1 with jobs := { s1.jobs with lastKey := [] } }).setFld F.KST_STATUS_SCRUB 1

/-- Slots that hold or are allocated something, below a number and not public-only device slots (R225). -/
def State.erasable (s : State) (below : Nat) : List Nat :=
  (s.keys.slots.map (·.1)).filter (fun k => decide (k < below) && !(decide (16379 ≤ k) && decide (k ≤ 16381)))

/-- Zeroisation by a tamper response (R225): the store salt and the RP salt are overwritten, and every secret goes. -/
def State.zeroise (s : State) : State :=
  let s1 := s.eraseSlots (s.erasable 16384)
  let s2 := { s1 with keys := { s1.keys with saltGen := s1.keys.saltGen + 1, scrubKeepDevice := false },
                      card := { s1.card with rpSalt := s1.card.rpSalt + 1 } }
  (s2.setFld F.KST_STATUS_ZEROISED 1).setFld F.TMP_STATUS_ZEROISING 1

/-! ## Responses (R449 to R451) -/

/-- A source's response in TMP_RESP (R449). -/
def State.tmpResp (s : State) (k : Nat) : Nat := s.fld F.TMP_RESP_RESP / 2 ^ (4 * k) % 8

/-- Bit 32 latches for a tamper group; a response above 0 executes reaction 1 whatever FCL_REACT sets (R420, R449). -/
def State.tamperLatch (s : State) (resp : Nat) : State :=
  let s1 := s.latchHw 32
  if resp = 0 ∨ bit (s.fld F.FCL_STATUS_FAULT) 32 then s1
  else { s1 with fcl := { s1.fcl with group := s1.fcl.group.map (fun x => if x.1 = 32 then (32, 1) else x) } }

/-- A freeze stops every master but the management core, and takes the debug port's authorisation (R450). -/
def State.tamperFreeze (s : State) : State := (s.setFld F.TMP_STATUS_FROZEN 1).noAuth

/-- The zeroise and lock parts of a response write MRAM: held while PWR_FAIL_N is low (R500). -/
def State.tamperMram (s : State) (resp : Nat) : State :=
  if resp < 3 then s
  else if s.power.pwrFail then { s with power := { s.power with heldTamper := max resp s.power.heldTamper } }
  else if resp = 3 then s.zeroise
  else s.zeroise.setFld F.TMP_STATUS_LOCKED 1

/-- The bits of a mask below `n`. -/
def bitsOf (m n : Nat) : List Nat := (List.range n).filter (fun k => bit m k)

/-- A group of sources fires: each is logged, and the highest response is executed once (R449). -/
def State.tamperGroup (s : State) (l : List Nat) : State :=
  if l.isEmpty then s
  else
    let resp := (l.map s.tmpResp).foldl max 0
    let s1 := s.setFld F.TMP_STATUS_FIRED (l.foldl setBit (s.fld F.TMP_STATUS_FIRED))
    let s2 := s1.tamperLatch resp
    let s3 := if resp ≥ 2 then { s2.tamperFreeze with dbg := { s2.tamperFreeze.dbg with group := l } } else s2
    s3.tamperMram resp

/-! ## The Embankment (R454 to R458) -/

/-- A log entry (R455). -/
def embEntry (src ts : Nat) (erased battery reported : Bool) : Nat :=
  src * 2 ^ 56 + b2n erased * 2 ^ 50 + b2n battery * 2 ^ 49 + b2n reported * 2 ^ 48 + ts % 2 ^ 48

/-- An entry is logged; a full log overwrites entry 7 (R455). -/
def State.embLog (s : State) (src : Nat) (erased battery reported : Bool) : State :=
  let n := s.fld F.EMB_LOGCNT_COUNT
  let e := embEntry src (s.fld F.EMB_TS_COUNT) erased battery reported
  if n < 8 then (s.setFld (F.EMB_LOG_ENTRY n) e).setFld F.EMB_LOGCNT_COUNT (n + 1)
  else (s.setFld (F.EMB_LOG_ENTRY 7) e).setFld F.EMB_STATUS_OVF 1

/-- The Embankment watches a source: the battery, or a loop that is enabled (R448, R454). -/
def State.embWatches (s : State) (k : Nat) : Bool :=
  decide (k = 9) || (decide (k = 7) && bit (s.fld F.EMB_CFG_LOOP_EN) 0) || (decide (k = 8) && bit (s.fld F.EMB_CFG_LOOP_EN) 1)

/-- TAMPER_ALARM (R448, R449, R454, R455): the sources of `on` fire within one group, and those of `off` have ceased to. -/
def execTamperAlarm (on off : BitVec 10) (s : State) : Out :=
  .next (s.live fun s =>
    let l := (bitsOf on.toNat 10).filter (fun k => decide (k < 7) || s.embWatches k)
    let still := s.dbg.firing.filter (fun k => !bit off.toNat k)
    let s1 := { s with dbg := { s.dbg with firing := still ++ l.filter (fun k => !still.contains k) } }
    let s2 := (l.filter (fun k => decide (7 ≤ k))).foldl (fun s k => s.embLog k false false true) s1
    s2.tamperGroup l)

/-- RELEASE (R450): a freeze ends once no source of its group fires. -/
def State.releaseFreeze (s : State) : State :=
  if s.dbg.group.any (fun k => s.dbg.firing.contains k) then s.setFld F.TMP_STATUS_CFG_ERR 1
  else if s.fld F.TMP_STATUS_FROZEN = 1 then
    (({ s with dbg := { s.dbg with group := [] } }).setFld F.TMP_STATUS_FROZEN 0).standing
  else s

/-- RELEASE: TMP_CTRL.RELEASE (R450). -/
def execRelease (s : State) : Out := .next (s.unreset fun s => s.releaseFreeze)

/-- The result of one monitor's built-in test (R431, R452). -/
def State.selfResult (s : State) (k : Nat) (pass : Bool) : State :=
  let f := s.fld F.TMP_SELF_FAIL
  let f1 := if pass then (if bit f k then f - 2 ^ k else f) else setBit f k
  let s1 := (s.setFld F.TMP_SELF_DONE (setBit (s.fld F.TMP_SELF_DONE) k)).setFld F.TMP_SELF_FAIL f1
  if pass then s1 else s1.latchUnit 22 8

/-- A write of TMP_CTRL with SELFTEST set (R452, R460). -/
def State.selfTest (s : State) (k : Nat) (pass : Bool) : State :=
  if k ≥ 10 then s.setFld F.TMP_STATUS_CFG_ERR 1 else (s.setFld F.TMP_CTRL_SRC k).selfResult k pass

/-- SELFTEST (R452): `pass` is what the monitor's test finds. -/
def execSelftest (src : Fin 16) (pass : Bool) (s : State) : Out := .next (s.unreset fun s => s.selfTest src pass)

/-- What a write of TMP_RESP leaves: a field written 5 to 7 keeps its value (R449). -/
def respMerge (old new : Nat) : Nat :=
  ((List.range 10).map (fun k =>
    let v := new / 2 ^ (4 * k) % 8
    (if v > 4 then old / 2 ^ (4 * k) % 8 else v) * 2 ^ (4 * k))).sum

/-- A write of TMP_RESP (R449). -/
def State.writeResp (s : State) (v : Nat) : State :=
  let old := s.fld F.TMP_RESP_RESP
  let new := respMerge old v
  let lowers := (List.range 10).any (fun k => decide (new / 2 ^ (4 * k) % 8 < old / 2 ^ (4 * k) % 8))
  if s.lcs ≥ 2 ∧ lowers then s.setFld F.TMP_STATUS_CFG_ERR 1
  else
    let bad := (List.range 10).any (fun k => decide (v / 2 ^ (4 * k) % 8 > 4))
    let s1 := if bad then s.setFld F.TMP_STATUS_CFG_ERR 1 else s
    if s.power.pwrFail then s1.holdReg F.TMP_RESP_RESP.off v else s1.setFld F.TMP_RESP_RESP new

/-- TMP_RESP_WRITE (R449); held while PWR_FAIL_N is low (R500). -/
def execTmpRespWrite (v : BitVec 40) (s : State) : Out := .next (s.unreset fun s => s.writeResp v.toNat)

/-- The Embankment key goes (R456, R457). -/
def State.embErase (s : State) : State :=
  ({ s with keys := { s.keys with embGone := true } }).setFld F.EMB_STATUS_KEY_VALID 0

/-- BATTERY_ALARM (R456): an alarm with only VBAT present is logged, and may erase the Embankment key. -/
def execBatteryAlarm (src : Fin 10) (s : State) : Out :=
  .next (if s.power.main ∨ src.val < 7 ∨ !s.embWatches src then s
    else
      let er := decide (s.fld F.EMB_CFG_ERASE_ON_ALARM = 1)
      ((if er then s.embErase else s).embLog src er true false).repin)

/-- A write of EMB_CFG (R458): a change of MODE starts a re-wrap (R226). -/
def State.writeEmbCfg (s : State) (v : Nat) : State :=
  let m := s.fld F.EMB_CFG_MODE
  let er := s.fld F.EMB_CFG_ERASE_ON_ALARM
  let m1 := bits v 0 0
  let er1 := bits v 1 1
  let ok := decide (s.lcs ≤ 1) || (decide (m1 = m) && decide (er1 = er)) || (decide (s.lcs = 2) && decide (m ≤ m1) && decide (er ≤ er1))
  if !ok then s.setFld F.EMB_STATUS_CFG_ERR 1
  else
    let s1 := ((s.setFld F.EMB_CFG_MODE m1).setFld F.EMB_CFG_ERASE_ON_ALARM er1).setFld F.EMB_CFG_LOOP_EN (bits v 3 2)
    if m1 = m then s1 else s1.setFld F.KST_STATUS_REWRAP 1

/-- EMB_CFG_WRITE (R458). -/
def execEmbCfgWrite (v : BitVec 4) (s : State) : Out := .next (s.unreset fun s => s.writeEmbCfg v.toNat)

/-- EMB_LOG_CLR (R461): entries with REPORTED set go, the others move down. -/
def State.clearLog (s : State) : State :=
  let n := s.fld F.EMB_LOGCNT_COUNT
  let keep := ((List.range n).map (fun j => s.fld (F.EMB_LOG_ENTRY j))).filter (fun e => !bit e 48)
  let s1 := (List.range 8).foldl (fun s j => s.setFld (F.EMB_LOG_ENTRY j) (keep.getD j 0)) s
  (s1.setFld F.EMB_LOGCNT_COUNT keep.length).setFld F.EMB_STATUS_OVF 0

/-- EMB_LOG_CLR (R461). -/
def execEmbLogClr (s : State) : Out := .next (s.unreset fun s => s.clearLog)

end Sys2Proof.Machine
end

