-- ==== Sys2Proof/Machine/Reset.lean ====
section
/-!
DEFINITION. Sys2Proof/Machine/Reset.lean: chip reset and what it keeps (R424, R491, R500, R527), the erasures of a life-cycle transition
(R442), and the boot sequence (R436, R443, R494 to R499).
-/

namespace Sys2Proof.Machine

/-! ## Chip reset -/

/-- Registers held in MRAM, in fuses (GLB_ID) or by the Embankment, which a chip reset leaves (R1, R209, R239, R262, R424, R449, R459, R461, R476, R504). -/
def keptReg (off : Nat) : Bool :=
  decide (off = 0) || decide (off = 0x500008) || decide (off = 0x500038) || (decide (0x801000 ≤ off) && decide (off < 0x802800)) || decide (off = 0x1100000) ||
    decide (off = 0x1100008) || decide (off = 0x1100010) || decide (off = 0x1100068) || decide (off = 0x1100090) ||
    decide (off = 0x1200008) || decide (off = 0x1400050) || decide (off = 0x1600038) ||
    (decide (0x1300000 ≤ off) && decide (off < 0x1300068)) ||
    (List.range 5).any (fun m => decide (off = (F.MCS_CUST_FLOOR_FLOOR m).off))

/-- A chip reset (R424, R491, R527): every register but those kept returns to its Reset value, and every volatile record goes. Writes
that PWR_FAIL_N held are lost (R500). -/
def State.chipReset (s : State) : State :=
  let z : State :=
    { regs := s.regs.filter (fun e => keptReg e.1)
      keys := { s.keys with rcptStaged := [], rcptInForce := [], scrubKeepDevice := false }
      ent := { drbg := s.ent.drbg.map (fun e => (e.1, { drawn := e.2.drawn })) }
      power := { s.power with heldSticky := 0, heldErrn := false, held := [], heldTamper := 0, step4 := false, tried := [],
                              capMode := 0, capWatts := 500,
                              cxlKeys := [] }
      dbg := { copyA := s.dbg.copyA, copyB := s.dbg.copyB, intent := s.dbg.intent, firing := s.dbg.firing }
      card := { medium := s.card.medium, rpSalt := s.card.rpSalt, counters := s.card.counters, pend := s.card.pend, mmcE := s.card.mmcE,
                skip := s.card.skip }
      out := s.out
      free := s.free
      pending := s.pending }
  ((((z.setFld F.KST_STATUS_ZEROISED (s.fld F.KST_STATUS_ZEROISED)).setFld F.KST_STATUS_REWRAP (s.fld F.KST_STATUS_REWRAP)).setFld
    F.KST_STATUS_SCRUB (s.fld F.KST_STATUS_SCRUB)).setFld F.TMP_STATUS_LOCKED (s.fld F.TMP_STATUS_LOCKED)).setFld
    F.PWR_STATUS_HOLDUP (b2n s.power.pwrFail)

/-- Bit 31 fires: FCL_STICKY is written, THERMTRIP_N is driven, and every block is held in reset (R515). -/
def State.trip (s : State) : State :=
  let z := (s.latchHw 31).chipReset
  { z with power := { z.power with thermtrip := true } }

/-- Main power collapses (R209, R455, R457): volatile state is lost, and a floor commit under way is interrupted; with no battery the
Embankment's registers are lost too, and with them the key that the store may be wrapped under. -/
def State.powerLoss (s : State) (vbat : Bool) : State :=
  let torn : State := { s with keys := { s.keys with slots := s.keys.slots.map (fun (e : Nat × KeySlot) => (e.1, e.2.tear)) } }
  let z := torn.chipReset
  let p := { z.power with porst := false, main := false, pwrFail := false, thermtrip := false, embFrac := if vbat then z.power.embFrac else 0 }
  if vbat then { z with power := p }
  else
    { z with power := p, regs := z.regs.filter (fun e => !(decide (0x1300000 ≤ e.1) && decide (e.1 < 0x1300068))),
             keys := { z.keys with embGone := z.keys.checkB || z.keys.slots.any (fun e => e.2.keyB) } }

/-! ## The erasures of a transition (R442) -/

/-- Every CXL port takes a new key pair, drawn from internal instance 30: two keys of 32 bytes (R320). What was written under the old pair is no
longer what its bytes decrypt to. -/
def State.newCxlKeys (s : State) : State :=
  let r := (List.range 4).foldl (fun (r : List (List Byte) × State) (_ : Nat) => let d := r.2.draw 30 64; (r.1 ++ [d.1], d.2)) ([], s)
  let p := { r.2.power with cxlKeys := r.1 }
  { r.2 with power := p, mem := r.2.mem.filter (fun e => !(decide (0x100000000000 ≤ e.1) && decide (e.1 < 0x140000000000))) }

/-- The erasures of RETURNED: the polder slots, HBM, the Cistern and core-local memory, the CXL keys, the customer regions, the receipt
designations (R257, R320, R442). -/
def State.eraseReturned (s : State) : State :=
  let s1 := s.eraseSlots (s.erasable 16368)
  let s2 := (List.range 256).foldl (fun s n => s.setFld (F.KST_RCPT_V n) 0) s1
  let s3 := ((List.range 5).foldl (fun s m => s.setFld (F.MCS_STATE_CUST_VALID m) 0) s2).newCxlKeys
  { s3 with mem := [], poison := [],
            keys := { s3.keys with scrubKeepDevice := true, rcptStaged := [], rcptInForce := [] },
            mcs := { s3.mcs with micro := s3.mcs.micro.filter (fun e => !(decide (0x8000 ≤ e.1 % 2 ^ 16) && decide (e.1 % 2 ^ 16 < 0xA000))),
                                 nano := s3.mcs.nano.filter (fun e => !(decide (0xC00 ≤ e.1 % 2 ^ 12) && decide (e.1 % 2 ^ 12 < 0xF00))) } }

/-- The erasures that entering a state performs, by its code (R442). -/
def State.eraseFor (s : State) (code : Nat) : State :=
  if code = 0x0F then s.eraseReturned
  else if code = 0x1F then
    let s1 := s.eraseReturned
    let s2 := s1.eraseSlots (s1.erasable 16384)
    { s2 with keys := { s2.keys with saltGen := s2.keys.saltGen + 1, scrubKeepDevice := false } }
  else s

/-! ## The life-cycle area (R435, R436, R442, R443) -/

/-- The state of a code: its index among the five (R435). -/
def codeState (c : Nat) : Option Nat :=
  if c = 0x01 then some 0 else if c = 0x03 then some 1 else if c = 0x07 then some 2 else if c = 0x0F then some 3
  else if c = 0x1F then some 4 else none

/-- The code of a state (R435). -/
def stateCode (k : Nat) : Nat := 2 ^ (k + 1) - 1

/-- The intent record is intact: its check is that of its bytes (R442). -/
def intentOk (l : List Byte) : Bool := decide (l.length = 36) && decide (bytesAt l 24 8 = (sha3 (l.take 24)).take 8)

/-- An intact intent record whose commit word is 0 (R443). -/
def intentOpen (l : List Byte) : Bool := intentOk l && decide (leAt l 32 4 = 0)

/-- LCS_STATE shows a state and its code. -/
def State.showState (s : State) (k : Nat) (rolled : Bool) : State :=
  ((s.setFld F.LCS_STATE_STATE k).setFld F.LCS_STATE_CODE (stateCode k)).setFld F.LCS_STATE_ROLLED (b2n rolled)

/-- Both copies take a code, and the commit word is written: steps 3 and 4 of R442. -/
def State.commitState (s : State) (code : Nat) : State :=
  { s with dbg := { s.dbg with copyA := code, copyB := code, intent := s.dbg.intent.take 32 ++ leBytes 4 0x5A5AC3C3 } }

/-- The life-cycle state is read at boot step 4, or an interrupted transition rolled forward (R436, R443). -/
def State.readLcs (s : State) : State :=
  if intentOpen s.dbg.intent then
    let t := leAt s.dbg.intent 5 1
    (((s.eraseFor t).commitState t).showState ((codeState t).getD 4) true).latchHw 33
  else
    let a := codeState s.dbg.copyA
    let b := codeState s.dbg.copyB
    match a, b with
    | some x, some y => if x = y then s.showState x false else (s.showState (max x y) false).latchHw 25
    | some x, none => (s.showState x false).latchHw 25
    | none, some y => (s.showState y false).latchHw 25
    | none, none => (s.showState 4 false).latchHw 25

/-! ## The key store at boot (R209, R224, R226, R443) -/

/-- A stateful slot as power-up finds it: the record with the highest sequence among the valid ones gives floor and limit, and the cursor
starts at the floor (R209). -/
def KeySlot.powerUp (x : KeySlot) : KeySlot :=
  let r := x.inForce
  if x.stateful then { x with floor := r.floor, limit := r.limit, cursor := r.floor, pendFloor := none, lowLatched := false } else x

/-- The store check record does not open (R226). -/
def State.bindingLost (s : State) : Bool := s.keys.embGone && (s.keys.checkB || s.keys.slots.any (fun e => e.2.keyB))

/-- A new pair of a device slot (R218, R443). -/
def State.genDevice (s : State) (k p use level : Nat) : State :=
  if (s.key k).ty ≠ 0 then s
  else
    let d := s.draw 30 64
    d.2.setKey k { pairSlot p (2 ^ use) level d.1 (pairPk p d.1) with allocated := true, device := true }

/-- DEV_ID and DEV_KT are generated where they are missing, in any state but SCRAPPED; a regeneration is counted (R218, R443). -/
def State.genIdentity (s : State) : State :=
  if s.lcs = 4 then s
  else
    let lost := decide ((s.key 16383).ty = 0) && decide (s.keys.saltGen > 0)
    let s1 := (s.genDevice 16383 0x13 useSign 2).genDevice 16382 0x03 useKemDec 1
    if lost then s1.incFld F.LCS_IDGEN_COUNT else s1

/-- Slots whose record or granules fail their GCM check are freed: KST_ERR.DAMAGED counts each, and bit 25 latches with the slot named. No KIND of
R23 is a key slot's: the slot number stands as an address (DESIGN CHOICE, log entry 76). -/
def State.damagedOut (s : State) (l : List Nat) : State :=
  l.foldl (fun s k => (s.incFld F.KST_ERR_DAMAGED).latch 25 (hwCtrl s 0 25) (dataAddress k)) s

/-- The key store at boot step 4: TRANSIENT and damaged slots are freed (R224), floors read, a lost binding frees every slot, receipt designations come into
force. -/
def State.bootKeys (s : State) : State :=
  let keep := if s.bindingLost then []
    else (s.keys.slots.filter (fun (e : Nat × KeySlot) => !e.2.transient && !e.2.damaged)).map (fun e => (e.1, e.2.powerUp))
  let s1 := ({ s with keys := { s.keys with slots := keep } }).damagedOut (if s.bindingLost then [] else
    (s.keys.slots.filter (fun (e : Nat × KeySlot) => !e.2.transient && e.2.damaged)).map (fun (e : Nat × KeySlot) => e.1))
  let s2 :=
    if s.bindingLost then
      let k := { s1.keys with embGone := false, checkB := decide (s.fld F.EMB_CFG_MODE = 1), saltGen := s1.keys.saltGen + 1 }
      ({ s1 with keys := k }).setFld F.KST_STATUS_BINDING_LOST 1
    else s1
  let s3 := (List.range 256).foldl (fun s n =>
    let t := s.setFld (F.KST_RCPT_PENDING n) 0
    if s.fld (F.KST_RCPT_V n) = 1 then
      { t with keys := { t.keys with rcptInForce := tset (fun _ => none) t.keys.rcptInForce n (some (s.fld (F.KST_RCPT_SLOT n))) } }
    else t) s2
  s3.genIdentity.checkLows

/-! ## The Embankment at power-up (R456, R457) -/

/-- Entries not yet reported fire their sources as if under main power, and are marked. -/
def State.bootEmb (s : State) : State :=
  let n := s.fld F.EMB_LOGCNT_COUNT
  let es := (List.range n).map (fun j => (j, s.fld (F.EMB_LOG_ENTRY j)))
  let fresh := es.filter (fun e => !bit e.2 48)
  let s1 := fresh.foldl (fun s e => s.setFld (F.EMB_LOG_ENTRY e.1) (e.2 + 2 ^ 48)) s
  s1.tamperGroup ((List.range 10).filter (fun k => fresh.any (fun e => decide (e.2 / 2 ^ 56 = k))))

/-! ## The boot image (R497, R498) -/

/-- The sections of a boot image: type, offset, length. -/
def bootSections (l : List Byte) : List (Nat × Nat × Nat) :=
  (List.range (leAt l 6 2)).map (fun i => (leAt l (32 + 16 * i) 4, leAt l (36 + 16 * i) 4, leAt l (40 + 16 * i) 4))

/-- The layout of a boot image, its sections within IMAGE_LEN (R498). -/
def bootLayoutOk (l : List Byte) : Bool :=
  let len := leAt l 12 4
  let n := leAt l 6 2
  decide (bytesAt l 0 4 = [0x42, 0x4F, 0x4F, 0x54]) && decide (leAt l 4 2 = 1) && decide (1 ≤ n ∧ n ≤ 64) && decide (len ≤ 2 ^ 26) &&
    decide (32 + 16 * n ≤ len) && decide (leAt l 16 8 < 2) && zeroAt l 24 31 &&
    (List.range n).all (fun i => decide (leAt l (44 + 16 * i) 4 = 0)) &&
    (bootSections l).all (fun x => decide (1 ≤ x.1 ∧ x.1 ≤ 3) && decide (x.2.1 + x.2.2 ≤ len))

/-- Bytes of a boot image with its signatures. -/
def bootLen (l : List Byte) : Nat :=
  let len := leAt l 12 4
  let a := leAt l len 4
  len + 4 + a + 4 + leAt l (len + 4 + a) 4

/-- Both keys are the vendor's and both signatures verify (R498). -/
def bootSigsOk (l : List Byte) : Bool :=
  let len := leAt l 12 4
  let a := leAt l len 4
  let m := leAt l (len + 4 + a) 4
  Config.bootKeysOk (l.take len) && Config.verify 0x80 0 (Config.vendorKey 0x80) (l.take len) [] (bytesAt l (len + 4) a) &&
    Config.verify 0x13 0 (Config.vendorKey 0x13) (l.take len) ("PYRUDRIC-BOOT-1".toList.map (fun c => BitVec.ofNat 8 c.toNat))
      (bytesAt l (len + 8 + a) m)

/-- The check of a boot image: none when it is accepted, else the status of the boot (R498, R499). -/
def State.bootCheck (s : State) (l : List Byte) : Option Nat :=
  if !bootLayoutOk l ∨ l.length < bootLen l then some 0x12
  else if !bootSigsOk l then some 0x07
  else if leAt l 8 4 < s.fld F.PWR_BOOT_FLOOR_FLOOR then some 0x14
  else none

/-- A patch image of the boot image is loaded (R263): checked as any load, and in force at once. -/
def State.bootPatch (s : State) (l : List Byte) : State :=
  match s.imageCheck l.length l with
  | some _ => s
  | none => s.applyLoad (stagedImage l)

/-- HBM and the CXL ports are trained, and the CXL keys are drawn (R320, R494, R505). -/
def State.train (s : State) : State :=
  let up := (s.power.cxl.take 4).zip (List.range 4)
  let s1 := up.foldl (fun s x => if x.1 = 0 then s
    else (s.setFld (F.MEM_CXL_GIB x.2) x.1).setFld F.MEM_STATUS_CXL_UP (setBit (s.fld F.MEM_STATUS_CXL_UP) x.2)) s
  ((s1.setFld F.MEM_STATUS_HBM_OK 15).setFld F.GLB_CXL_CAP_GIB ((up.map (·.1)).sum)).newCxlKeys

/-- The CID key of this reset is drawn (R272). -/
def State.newCid (s : State) : State :=
  let r := s.draw 31 32
  { r.2 with net := { r.2.net with cidKey := r.1 } }

/-- An accepted image: steps 7 and 8 of the boot (R494, R498). -/
def State.bootWith (s : State) (l : List Byte) : State :=
  let ver := leAt l 8 4
  let sec := fun (ty : Nat) => ((bootSections l).filter (fun x => decide (x.1 = ty))).map (fun x => bytesAt l x.2.1 x.2.2)
  let s1 := { s with host := { s.host with lib := sec 3 } }
  let s2 := ((sec 2).foldl (fun s p => s.bootPatch p) s1).resetReg F.MCS_STATUS_RESULT.off
  let s3 := if bit (leAt l 16 8) 0 ∧ ver > s.fld F.PWR_BOOT_FLOOR_FLOOR then
      (if s.power.pwrFail then s2.holdReg F.PWR_BOOT_FLOOR_FLOOR.off ver else s2.setFld F.PWR_BOOT_FLOOR_FLOOR ver)
    else s2
  (((s3.train.newCid.setFld F.PWR_BOOT_VERSION ver).setFld F.PWR_BOOT_RESULT 0).setFld F.PWR_BOOT_STATE 4)

/-- The boot ends in FAILED (R499). -/
def State.bootFails (s : State) (st : Nat) : State := (s.setFld F.PWR_BOOT_RESULT st).setFld F.PWR_BOOT_STATE 5

/-- Byte `i` of the card, from a block on. -/
def cardBytes (m : CardMedium) (lba len : Nat) : List Byte :=
  ((List.range (cdiv len 512)).flatMap (fun i => fitLen 512 ((tget (fun _ => []) m.blocks (lba + i))))).take len

/-- The boot image on the card (R497): its header gives IMAGE_LEN, and the two signatures follow. -/
def cardImage (m : CardMedium) : List Byte :=
  let h := cardBytes m 2048 512
  let len := min (leAt h 12 4) (2 ^ 26)
  let a := min (leNat (bytesAt (cardBytes m 2048 (len + 4)) len 4)) (2 ^ 20)
  cardBytes m 2048 (len + 4 + a + 4 + 4627)

/-- What a boot source delivers: the NOR device or the card; none where it delivers nothing (R497, R499). -/
def State.bootBytes (s : State) (src : Nat) : Option (List Byte) :=
  if src = 0 then (if s.power.nor.isEmpty then none else some s.power.nor)
  else if src = 2 then (s.card.medium.filter (·.usable)).map cardImage
  else none

/-- The image is loaded from a source and checked (steps 5 and 6); straps 0b11 try the card once after a NOR failure (R493, R499). -/
def State.bootFrom (s : State) (src : Nat) (retry : Bool) : State :=
  let s1 := ({ s with power := { s.power with tried := s.power.tried ++ [src] } }).setFld F.PWR_BOOT_SRC src
  match s1.bootBytes src with
  | none => s1.setFld F.PWR_BOOT_STATE 1
  | some l =>
    match s1.bootCheck l with
    | none => s1.bootWith l
    | some st =>
      if retry then
        let s2 := ({ s1 with power := { s1.power with tried := s1.power.tried ++ [2] } }).setFld F.PWR_BOOT_SRC 2
        match s2.bootBytes 2 with
        | none => s2.setFld F.PWR_BOOT_STATE 1
        | some l2 =>
          match s2.bootCheck l2 with
          | none => s2.bootWith l2
          | some st2 => s2.bootFails st2
      else s1.bootFails st

/-! ## The boot sequence (R493, R494) -/

/-- Steps 2 to 4: the Well reaches READY, and MRAM is read (R494). A source whose cause persists from before the reset fires again: its
bit makes a new transition (R419, R427, R500). -/
def State.bootMram (s : State) : State :=
  let w := (((s.setFld F.RNG_CTRL_ENABLE 1).setFld F.RNG_STATUS_STATE 2).setFld F.RNG_STATUS_READY 1).setFld F.RNG_STATUS_HEALTHY 255
  let r := { w with ent := { w.ent with buf := 4 } }
  let k := State.standing (State.bootKeys (State.readLcs r))
  let e := State.bootEmb { k with power := { k.power with step4 := true } }
  let f := if e.power.warm then e.latchHw 30 else e
  if f.power.pwrFail then f.latchHw 36 else f

/-- Steps 2 to 8: after step 4 the image, unless the device is SCRAPPED (R438, R493, R494). -/
def State.boot (s : State) : State :=
  let m := s.bootMram
  let k := m.setFld F.PWR_BOOT_SRC (if m.power.straps = 3 then 0 else m.power.straps)
  if k.lcs = 4 then k
  else if k.power.straps = 1 then (k.setFld F.PWR_BOOT_SRC 1).setFld F.PWR_BOOT_STATE 1
  else if k.power.straps = 2 then k.bootFrom 2 false
  else k.bootFrom 0 (decide (k.power.straps = 3))

/-- A chip reset by a reaction or a transition: the sequence restarts at step 2 (R424, R491). -/
def State.restart (s : State) : State := s.chipReset.boot

end Sys2Proof.Machine
end

