-- ==== Sys2Proof/Machine/Lifecycle.lean ====
section
/-!
DEFINITION. Sys2Proof/Machine/Lifecycle.lean: life-cycle requests (R439 to R443, R453), the TAP's instructions and debug tokens (R444 to
R447).
-/

namespace Sys2Proof.Machine

/-! ## Requests (R439 to R441) -/

/-- A signature of a request. -/
structure ReqSig where
  signer : Nat
  salg : Nat
  sig : List Byte
  deriving DecidableEq, Repr

/-- A request's fields (R439). `body` is what every signature covers; `ok` that its zero fields, padding and length are right. -/
structure Req where
  kind : Nat
  target : Nat
  nsig : Nat
  unit : List Byte
  nonce : List Byte
  kslot : Nat
  kalg : Nat
  key : List Byte
  body : List Byte
  sigs : List ReqSig
  ok : Bool
  deriving DecidableEq, Repr

/-- The signatures of a request from offset `o`: each with its padding; and where they end, and whether padding and zero bytes are 0. -/
def parseSigs (l : List Byte) : Nat → Nat → List ReqSig × Nat × Bool
  | 0, o => ([], o, true)
  | n + 1, o =>
    let n1 := leAt l (o + 4) 4
    let e := o + 8 + alignUp n1 8
    let r := parseSigs l n e
    ({ signer := leAt l o 1, salg := leAt l (o + 1) 1, sig := bytesAt l (o + 8) n1 } :: r.1, r.2.1,
      decide (leAt l (o + 2) 2 = 0) && (bytesAt l (o + 8 + n1) (alignUp n1 8 - n1)).all (· = 0) && r.2.2)

/-- The request in `l` (R439). -/
def parseReq (l : List Byte) : Req :=
  let kind := leAt l 5 1
  let klen := leAt l 60 4
  let e := 64 + alignUp klen 8
  let n := leAt l 7 1
  let p := parseSigs l (min n 2) e
  let kalg := leAt l 58 1
  let key := bytesAt l 64 klen
  { kind := kind, target := leAt l 6 1, nsig := n, unit := bytesAt l 8 16, nonce := bytesAt l 24 32, kslot := leAt l 56 2, kalg := kalg,
    key := key, body := l.take e, sigs := p.1,
    ok := decide (bytesAt l 0 4 = [0x4C, 0x43, 0x52, 0x51]) && decide (leAt l 4 1 = 1) && decide (1 ≤ n ∧ n ≤ 2) && decide (leAt l 59 1 = 0) &&
      (decide (kind = 1) || decide (leAt l 6 1 = 0)) &&
      (decide (kind = 2) || (decide (leAt l 56 2 = 0) && decide (kalg = 0) && decide (klen = 0))) &&
      (decide (kind ≠ 2) || decide (kalg ≠ 0x13) || decide (klen = 2592)) &&
      (decide (kind ≠ 2) || decide (kalg ≠ 0x80) || decide (klen = hbsPubLen 0x80 (beNat (bytesAt key 4 4)))) &&
      (bytesAt l (64 + klen) (alignUp klen 8 - klen)).all (· = 0) && p.2.2 && decide (p.2.1 = l.length) }

/-- The signer that holds authority in a state: 1 vendor, 2 integrator, 3 owner, 0 none (R435). -/
def authority (lcs : Nat) : Nat := match lcs with | 0 => 1 | 1 => 2 | 2 => 3 | 3 => 1 | _ => 0

/-- The signers that R440 asks of a request; none where it is not permitted. -/
def State.reqSigners (s : State) (r : Req) : Option (List Nat) :=
  let owner := decide ((s.key 16380).ty ≠ 0)
  if r.kind = 1 then
    if r.target = 0x03 ∧ s.lcs = 0 then some [1]
    else if r.target = 0x07 ∧ s.lcs = 1 ∧ owner then some [2]
    else if r.target = 0x0F ∧ s.lcs = 2 then some [1, 3]
    else if r.target = 0x1F ∧ s.lcs ≠ 4 then some [if owner then 3 else authority s.lcs]
    else none
  else if r.kind = 2 then
    if r.kslot = 16381 ∧ s.lcs = 0 then some [1]
    else if (r.kslot = 16379 ∨ r.kslot = 16380) ∧ s.lcs = 1 then some [2]
    else if (r.kslot = 16379 ∨ r.kslot = 16380) ∧ s.lcs = 2 then some [3]
    else none
  else if s.lcs ≠ 4 then some [authority s.lcs]
  else none

/-- A request's signers are exactly those asked for, in either order (R440). -/
def sameSigners (a b : List Nat) : Bool := decide (a.length = b.length) && a.all (fun x => b.contains x) && b.all (fun x => a.contains x)

/-- The public key of a signer for a signature algorithm: 1 ML-DSA-87, 2 LMS/HSS; none where its slot is empty or of the other kind. -/
def State.signerKey (s : State) (signer salg : Nat) : Option (List Byte) :=
  let alg := if salg = 1 then 0x13 else 0x80
  if signer = 1 then some (Config.vendorKey alg)
  else
    let k := s.key (if signer = 2 then 16381 else 16380)
    if k.ty = 0 then none else some (if k.alg = alg then k.pubPart else [])

/-- A signature by a signer verifies; ML-DSA-87 takes the context given (R439, R445). -/
def State.signedBy (s : State) (signer salg : Nat) (body sig : List Byte) (ctx : String) : Bool :=
  match s.signerKey signer salg with
  | none => false
  | some pk => !pk.isEmpty && Config.verify (if salg = 1 then 0x13 else 0x80) 0 pk body
      (if salg = 1 then ctx.toList.map (fun c => BitVec.ofNat 8 c.toNat) else []) sig

/-- The 16 bytes of LCS_UNIT_ID, and the nonce outstanding. -/
def State.ownUnit (s : State) : List Byte := leBytes 8 (s.fld (F.LCS_UNIT_ID_ID 0)) ++ leBytes 8 (s.fld (F.LCS_UNIT_ID_ID 1))
/-- The nonce that LCS_NONCE0 to 3 show. -/
def State.nonce (s : State) : List Byte := (List.range 4).flatMap (fun j => leBytes 8 (s.fld (F.LCS_NONCE_NONCE j)))

/-- The checks of R441: the first failure as RESULT and DETAIL. -/
def State.reqCheck (s : State) (r : Req) : Option (Nat × Nat) :=
  if !r.ok then some (0x12, 0)
  else if r.kind = 0 ∨ r.kind > 3 ∨ (r.kind = 1 ∧ (codeState r.target).isNone) ∨ (r.kind = 2 ∧ r.kalg ≠ 0x13 ∧ r.kalg ≠ 0x80) ∨
      r.sigs.any (fun x => decide (x.salg ≠ 1) && decide (x.salg ≠ 2)) then some (0x13, 0)
  else if r.unit ≠ s.ownUnit then some (0x14, 1)
  else if s.fld F.LCS_STATUS_NONCE_V = 0 ∨ r.nonce ≠ s.nonce then some (0x14, 2)
  else
    match s.reqSigners r with
    | none => some (0x14, 3)
    | some want =>
      if !sameSigners (r.sigs.map (·.signer)) want then some (0x14, 3)
      else if r.kind = 1 ∧ (List.range 256).any (fun n => decide (n ≠ 0) && decide (s.fld (F.PLD_STATUS_STATE n) ≠ 0)) then some (0x14, 4)
      else if s.fld F.RNG_CTRL_TESTSRC = 1 then some (0x14, 5)
      else if s.power.pwrFail then some (0x14, 6)
      else if s.locked ∧ r.kind ≠ 3 ∧ r.target ≠ 0x1F then some (0x15, 0)
      else if r.sigs.any (fun x => (s.signerKey x.signer x.salg).isNone) then some (0x08, 0)
      else if !r.sigs.all (fun x => s.signedBy x.signer x.salg r.body x.sig "PYRUDRIC-LCRQ-1") then some (0x07, 0)
      else none

/-- The nonce is gone (R441). -/
def State.dropNonce (s : State) : State :=
  (List.range 4).foldl (fun s j => s.setFld (F.LCS_NONCE_NONCE j) 0) (s.setFld F.LCS_STATUS_NONCE_V 0)

/-- A request ends with RESULT and DETAIL (R441). -/
def State.reqEnds (s : State) (st detail : Nat) : State :=
  ((s.setFld F.LCS_STATUS_RESULT st).setFld F.LCS_STATUS_DETAIL detail).setFld F.LCS_STATUS_DONE 1

/-- The intent record of a request (R442). -/
def intentOf (old : List Byte) (cur target : Nat) (req : List Byte) : List Byte :=
  let h := leBytes 4 ((leAt old 0 4 + 1) % 2 ^ 32) ++ leBytes 1 cur ++ leBytes 1 target ++ [0, 0] ++ (sha3 req).take 16
  h ++ (sha3 h).take 8 ++ leBytes 4 0

/-- A transition that passed its checks (R442). `lost` is the step before whose end main power is lost: 0 in the intent record, 1 before
the erasures, 2 after them, 3 between the copies, 4 before the commit word; none when all is done. -/
def State.transit (s : State) (target : Nat) (req : List Byte) (lost : Option Nat) : State :=
  let i := intentOf s.dbg.intent (stateCode s.lcs) target req
  let s1 := { s with dbg := { s.dbg with intent := i } }
  match lost with
  | some 0 => ({ s with dbg := { s.dbg with intent := i.take 20 } }).powerLoss true
  | some 1 => s1.powerLoss true
  | some n =>
    let s2 := s1.eraseFor target
    if n = 2 then s2.powerLoss true
    else if n = 3 then ({ s2 with dbg := { s2.dbg with copyA := target } }).powerLoss true
    else ({ s2 with dbg := { s2.dbg with copyA := target, copyB := target } }).powerLoss true
  | none => ((s1.eraseFor target).commitState target).restart

/-- A public key is installed in a device slot (R441). -/
def State.installKey (s : State) (r : Req) : State :=
  s.setKey r.kslot { allocated := true, device := true, ty := 8, alg := r.kalg, usage := 2 ^ useVerify, pub := r.key,
                     granules := granulesFor 0 r.key.length false }

/-- An unlock (R453). -/
def State.unlock (s : State) : State :=
  if s.dbg.firing.isEmpty then (s.setFld F.TMP_STATUS_LOCKED 0).reqEnds 0 0 else s.reqEnds 0x15 0

/-- A request that is read is checked and performed; its nonce is consumed whatever comes of it (R441). -/
def State.doReq (s : State) (l : List Byte) (lost : Option Nat) : State :=
  let r := parseReq l
  match s.reqCheck r with
  | some e => s.dropNonce.reqEnds e.1 e.2
  | none =>
    if r.kind = 1 then s.dropNonce.transit r.target l lost
    else if r.kind = 2 then (s.dropNonce.installKey r).reqEnds 0 0
    else s.dropNonce.unlock

/-- The units that verify a request's signatures, by class (R441). -/
def Req.units (r : Req) : List Nat := r.sigs.map (fun x => if x.salg = 1 then 0 else 3)

/-- A request's checks come to its signatures, which ordinary verification jobs verify (R441). -/
def State.reqVerifies (s : State) (r : Req) : Bool := decide (s.reqCheck r = none ∨ s.reqCheck r = some (0x07, 0))

/-- A request that is read: its signatures wait until their jobs can run, and the jobs count as completed (R441, R187, R217). -/
def State.reqRun (s0 s : State) (l : List Byte) (lost : Option Nat) : State :=
  let r := parseReq l
  if !s.reqVerifies r then s.doReq l lost
  else if !s.hwCan 0 r.units then s0
  else (s.hwDid r.units).doReq l lost

/-- SUBMIT (R441): the request is read by the management core; `kinds` are the kinds the row performs. -/
def State.submit (s : State) (kinds : Nat → Bool) (lost : Option Nat) : State :=
  if s.fld F.LCS_STATUS_BUSY = 1 then s.setFld F.LCS_STATUS_CFG_ERR 1
  else
    let r := s.unitRead mgmtMaster (hwCtrl s 0 15) (s.fld F.LCS_REQ_ADDR_ADDR * 8) (s.fld F.LCS_REQ_LEN_LEN)
    if !kinds (leAt r.2.1 5 1) then s
    else
      match r.1 with
      | .ok => s.reqRun r.2.2 r.2.1 lost
      | .poison => r.2.2.dropNonce.reqEnds 0x16 0
      | _ => r.2.2.dropNonce.reqEnds 0x0D 0

/-- NONCE_GEN (R441): it waits while DRBG 30 cannot deliver (R157). -/
def State.nonceGen (s : State) : State :=
  if !s.drbgReady 30 then s
  else
    let d := s.draw 30 32
    ((List.range 4).foldl (fun s j => s.setFld (F.LCS_NONCE_NONCE j) (leAt d.1 (8 * j) 8)) d.2).setFld F.LCS_STATUS_NONCE_V 1

/-- NONCE_GEN: LCS_CTRL.NONCE_GEN (R441). -/
def execNonceGen (s : State) : Out := .next (s.unreset fun s => s.nonceGen)

/-- TRANSITION (R442): SUBMIT of a request of KIND 1, or of none that is defined; `lost` as `State.transit` has it. -/
def execTransition (lost : Option (Fin 5)) (s : State) : Out :=
  .next (s.live fun s => s.submit (fun k => decide (k ≠ 2) && decide (k ≠ 3)) (lost.map (·.val)))

/-- KEY_INSTALL (R441): SUBMIT of a request of KIND 2. -/
def execKeyInstall (s : State) : Out := .next (s.live fun s => s.submit (fun k => decide (k = 2)) none)

/-- UNLOCK (R453): SUBMIT of a request of KIND 3. -/
def execUnlock (s : State) : Out := .next (s.live fun s => s.submit (fun k => decide (k = 3)) none)

/-! ## The TAP (R444) -/

/-- The TAP's instruction register takes an instruction: 0 BYPASS, 1 IDCODE, 2 SAMPLE/PRELOAD, 3 EXTEST, 4 DBG_AUTH, 5 DAP. -/
def State.tapInstr (s : State) (k : Nat) : State := { s with dbg := { s.dbg with instr := k } }

/-- The bypass register: TDO is TDI one bit later. -/
def State.bypass (s : State) (tdi : List Bool) : State := (s.tapInstr 0).send (.tdo ((false :: tdi).take tdi.length))

/-- SAMPLE/PRELOAD and EXTEST act: in MAKER, INTEGRATOR and RETURNED, or under a token with BSCAN; never in SCRAPPED. -/
def State.scanAllowed (s : State) : Bool :=
  decide (s.lcs = 0) || decide (s.lcs = 1) || decide (s.lcs = 3) ||
    (decide (s.lcs = 2) && decide (s.fld F.LCS_DBG_AUTH = 1) && bit (s.fld F.LCS_DBG_SCOPE) 3)

/-- BYPASS (R444). -/
def execBypass (tdi : List Bool) (s : State) : Out := .next (s.unreset fun s => s.bypass tdi)

/-- IDCODE (R444): the device ID goes out, its lowest bit first. -/
def execIdcode (tdi : List Bool) (s : State) : Out :=
  .next (s.unreset fun s =>
    (s.tapInstr 1).send (.tdo (((List.range 32).map (fun i => Config.idcode.getLsbD i) ++ tdi).take tdi.length)))

/-- The boundary register captures the pins and takes what is shifted in. -/
def State.boundary (s : State) (k : Nat) (tdi : List Bool) : State :=
  let cap := Config.pinSample s.free
  let s1 := ((s.bump).tapInstr k).send (.tdo ((cap ++ tdi).take tdi.length))
  { s1 with dbg := { s1.dbg with bsr := (cap ++ tdi).drop tdi.length } }

/-- SAMPLE/PRELOAD (R444). -/
def execSamplePreload (tdi : List Bool) (s : State) : Out :=
  .next (s.unreset fun s => if s.scanAllowed then s.boundary 2 tdi else s.bypass tdi)

/-- EXTEST (R444): the boundary register drives the pins. -/
def execExtest (tdi : List Bool) (s : State) : Out :=
  .next (s.unreset fun s =>
    if s.scanAllowed then
      let s1 := (s.send (.pins s.dbg.bsr)).boundary 3 tdi
      s1.send (.pins s1.dbg.bsr)
    else s.bypass tdi)

/-! ## Debug tokens (R445 to R447) -/

/-- A token's layout (R445). -/
def tokenLayoutOk (l : List Byte) : Bool :=
  decide (bytesAt l 0 4 = [0x44, 0x54, 0x4F, 0x4B]) && decide (leAt l 4 1 = 1) && decide (leAt l 6 1 < 16) &&
    decide (leAt l 7 1 = 1 ∨ leAt l 7 1 = 2) && decide (leAt l 76 4 = 0) && decide (l.length = 80 + leAt l 72 4)

/-- Every condition of R446 holds. -/
def State.tokenOk (s : State) (l : List Byte) : Bool :=
  tokenLayoutOk l && decide (s.fld F.EPC_STATUS_LOCK = 1) && decide (bytesAt l 8 16 = s.ownUnit) && decide (leAt l 5 1 = authority s.lcs) &&
    decide (leAt l 24 8 > s.fld F.LCS_DBG_SEQ_TSEQ) && decide (leAt l 32 8 > s.tick) &&
    s.signedBy (leAt l 5 1) (leAt l 7 1) (l.take 80) (bytesAt l 80 (leAt l 72 4)) "PYRUDRIC-DTOK-1"

/-- A fresh authorisation thaws the port and discards its notice (R415, R446). -/
def State.thawPort (s : State) : State :=
  { s with dike := { s.dike with frozen := s.dike.frozen.filter (fun x => decide (x.1 ≠ 11)),
                                 notices := s.dike.notices.filter (fun x => decide (x.mcls ≠ 11)) } }

/-- A token is accepted or refused (R446); TSEQ is an MRAM write, for which the token waits under PWR_FAIL_N (R500). -/
def State.dbgAuth (s : State) (l : List Byte) : State :=
  if !s.tokenOk l then s.incFld F.LCS_DBG_REFUSED
  else
    let s1 := ((((s.setFld F.LCS_DBG_SEQ_TSEQ (leAt l 24 8)).setFld F.LCS_DBG_AUTH 1).setFld F.LCS_DBG_STANDING 0).setFld
      F.LCS_DBG_EXP_EXPIRY (leAt l 32 8)).setFld F.LCS_DBG_SCOPE (leAt l 6 1)
    (s1.dbgPolders (leAt l 40 32)).thawPort

/-- DBG_AUTH (R444, R446): in SCRAPPED it acts as BYPASS. -/
def execDbgAuth (token : List Byte) (s : State) : Out :=
  .next (s.unreset fun s =>
    if s.lcs = 4 then s.bypass (token.flatMap (fun b => (List.range 8).map (fun i => b.getLsbD i)))
    else if s.power.pwrFail ∨ s.tamperFrozen then s.tapInstr 4
    else (s.tapInstr 4).dbgAuth token)

/-- DEBUG_TOKEN_EXPIRY (R447): at its expiry edge, or in LOST or NOREF, a token's authorisation ends. -/
def execDebugTokenExpiry (s : State) : Out :=
  .next (s.unreset fun s =>
    let st := s.fld F.EPC_STATUS_STATE
    if st = 0 ∨ st = 4 ∨ s.fld F.LCS_DBG_EXP_EXPIRY ≤ s.tick then s.endToken else s)

end Sys2Proof.Machine
end

