-- ==== Sys2Proof/Machine/Epoch.lean ====
section
/-!
DEFINITION. Sys2Proof/Machine/Epoch.lean: the epoch unit: its sources, the states of R117, and the commands of R112 to R122.
-/

namespace Sys2Proof.Machine

/-- EPC_STATUS.STATE is set. -/
def State.setEpc (s : State) (st : Nat) : State :=
  (s.setFld F.EPC_STATUS_STATE st).setFld F.EPC_STATUS_LOCK (if st = 2 then 1 else 0)

/-- The tick period in nanoseconds (R112). -/
def State.tickNs (s : State) : Nat := s.fld F.EPC_TICK_US * 1000

/-! ## Configuration (R112, R122) -/

/-- EPC_ENABLE (R122). -/
def execEpcEnable (s : State) : Out := .next (s.unreset fun s => s.setFld F.EPC_CTRL_ENABLE 1)

/-- A write of EPC_TICK (R112). -/
def State.writeTick (s : State) (v : Nat) : State :=
  if s.fld F.EPC_CTRL_ENABLE = 1 ∨ ¬(10 ≤ v ∧ v ≤ 1000000 ∧ 1000000 % v = 0) then s.setFld F.EPC_STATUS_CFG_ERR 1
  else s.setFld F.EPC_TICK_US v

/-- EPC_TICK_WRITE (R112). -/
def execEpcTickWrite (v : BitVec 20) (s : State) : Out := .next (s.unreset fun s => s.writeTick v.toNat)

/-- The selection that EPC_SRC and EPC_PTP show. -/
def State.shownSel (s : State) : EpcSource :=
  { src := s.fld F.EPC_SRC_SRC, port := s.fld F.EPC_SRC_PORT, vlanEn := decide (s.fld F.EPC_PTP_VLAN_EN = 1), vid := s.fld F.EPC_PTP_VID,
    delay := decide (s.fld F.EPC_PTP_DELAY = 1), transport := s.fld F.EPC_PTP_TRANSPORT, domain := s.fld F.EPC_PTP_DOMAIN }

/-- A write that changes SRC to 0 takes effect at once (R122). -/
def State.disableSrc (s : State) : State :=
  if s.fld F.EPC_SRC_SRC = 0 then s
  else
    let e := { s.epoch with cur := { s.epoch.cur with src := 0 }, staged := none, rx := {}, stagedRx := {} }
    let e1 := { e with good := 0, irigAt := none, irigBad := 0, ppsAt := none, behindTo := 0 }
    let s1 := ((({ s with epoch := e1 }).setFld F.EPC_SRC_SRC 0).setFld F.EPC_STATUS_SRC_PENDING 0).setFld F.EPC_STATUS_BEHIND 0
    (s1.setEpc 0).endToken

/-- EPC_SRC_DISABLE (R122). -/
def execEpcSrcDisable (s : State) : Out := .next (s.unreset fun s => s.disableSrc)

/-- A write that changes the selection is staged (R122). -/
def State.stageIf (s0 s : State) : State :=
  if s.shownSel = s0.shownSel then s
  else ({ s with epoch := { s.epoch with staged := some s.shownSel, stagedRx := {} } }).setFld F.EPC_STATUS_SRC_PENDING 1

/-- A write of EPC_SRC or EPC_PTP (R122). -/
def State.writeSel (s : State) (w : EpcSel) : State :=
  match w with
  | .src port src =>
    if src = 0 ∧ s.fld F.EPC_SRC_SRC ≠ 0 then (s.disableSrc).setFld F.EPC_SRC_PORT port
    else s.stageIf ((s.setFld F.EPC_SRC_PORT port).setFld F.EPC_SRC_SRC src)
  | .ptp vlanEn vid delay transport domain =>
    let s1 := (((s.setFld F.EPC_PTP_VLAN_EN (b2n vlanEn)).setFld F.EPC_PTP_VID vid.toNat).setFld F.EPC_PTP_DELAY (b2n delay)).setFld
      F.EPC_PTP_DOMAIN domain.toNat
    let s2 := if transport = 3 then s1.setFld F.EPC_STATUS_CFG_ERR 1 else s1.setFld F.EPC_PTP_TRANSPORT transport
    s.stageIf s2

/-- EPC_SRC_STAGE (R122). -/
def execEpcSrcStage (w : EpcSel) (s : State) : Out := .next (s.unreset fun s => s.writeSel w)

/-! ## Measurements (R117, R119 to R121) -/

/-- The first time NOREF is left, the intervals of the in-service test begin (R432); every time, open segments of tables with a window
take the window the counter is in (R309). -/
def State.leaveNoref (s : State) : State :=
  let n := s.tick
  let s1 := if s.epoch.leftNoref then s
    else (List.range 11).foldl (fun s i => s.setFld (F.TST_LAST_TICK i) n) { s with epoch := { s.epoch with leftNoref := true } }
  let seg := fun (w : Nat) (g : Seg) => if g.st = .opened ∧ g.win = none ∧ w > 0 then { g with win := some (n / w) } else g
  s1.col.tables.foldl (fun s x => s.setTable x.1 { x.2 with segs := x.2.segs.map (seg (tblWindow x.2.desc)) }) s1

/-- What a measurement found: a forward step, a reference behind the counter, or neither. -/
inductive Meas where
  | step | behind | near
  deriving DecidableEq, Repr

/-- An offset's case (R119). -/
def measOf (per : Nat) (off : Int) : Meas :=
  if off > (per : Int) then .step else if off < -(per : Int) then .behind else .near

/-- R119 acts on the counter: a reference time of `ref` nanoseconds with offset `off`. -/
def State.discipline (s : State) (ref : Nat) (off : Int) : State :=
  let s1 := s.setFld F.EPC_OFFSET_OFFSET (wrap 64 off)
  match measOf s.tickNs off with
  | .step => ((s1.setTick (ref / s.tickNs)).incFld F.EPC_STEPS_STEPS).setFld F.EPC_STATUS_BEHIND 0
  | .behind =>
    ({ s1 with epoch := { s1.epoch with behindTo := s.tick - ref / s.tickNs } }).setFld F.EPC_STATUS_BEHIND 1
  | .near => s1.setFld F.EPC_STATUS_BEHIND 0

/-- The state a measurement leads to (R117, R120): from the state before, whether it lies within the threshold and is near, and the
consecutive such measurements with it. -/
def epcNext (st : Nat) (ok : Bool) (good : Nat) : Nat :=
  if st = 1 then (if good ≥ 4 then 2 else 1) else if st = 2 then (if ok then 2 else 1) else 1

/-- HOLDOVER has lasted its limit: LOST, and bit 21 (R117, R120). -/
def State.loseHoldover (s : State) : State := if s.holdoverDue then ((s.setEpc 4).latchHw 21).endToken else s

/-- One measurement (R119): the source gives `ref` nanoseconds while the counter is `phase` nanoseconds into its tick. A HOLDOVER whose
limit has come is LOST first (R120). -/
def State.measure (s0 : State) (ref phase : Nat) : State :=
  let s := s0.loseHoldover
  let st := s.fld F.EPC_STATUS_STATE
  let off : Int := (ref : Int) - ((s.tick * s.tickNs + phase : Nat) : Int)
  let ok := decide (measOf s.tickNs off = .near) && decide (off.natAbs ≤ s.fld F.EPC_LOCKTHR_NS)
  let good := if ok then s.epoch.good + 1 else 0
  let s1 := ({ s with epoch := { s.epoch with good := good } }).discipline ref off
  let s2 := s1.setEpc (epcNext st ok good)
  if st = 0 then s2.leaveNoref else s2

/-- The staged source takes over (R122). -/
def State.takeOver (s : State) : State :=
  match s.epoch.staged with
  | none => s
  | some x =>
    ({ s with epoch := { s.epoch with cur := x, staged := none, rx := s.epoch.stagedRx, stagedRx := {}, good := 0 } }).setFld
      F.EPC_STATUS_SRC_PENDING 0

/-- The selection, the staged one or the one in force, is on source `src`, and the unit is enabled (R113, R122). -/
def State.takes (s : State) (staged : Bool) (src : Nat) : Bool :=
  decide (s.fld F.EPC_CTRL_ENABLE = 1) &&
    (if staged then decide (s.epoch.staged.map (·.src) = some src) else decide (s.epoch.cur.src = src))

/-- The selection that measures, with a source that needs no more than its inputs: the staged one first (R122). -/
def State.measureSrc (s : State) (src ref phase : Nat) : State :=
  if s.takes true src then s.takeOver.measure ref phase else if s.takes false src then s.measure ref phase else s

/-! ## PTP (R113, R114)

What the spec names by IEEE 1588-2019 alone, the order of the default BMCA, when a transmitter is qualified and how two messages give the
path delay, is taken from that standard (PRESUMED, log entry 70). -/

/-- A message comes on a selection's port, transport and VLAN. -/
def ptpOn (m : PtpMsg) (x : EpcSource) : Bool :=
  decide (m.port.val = x.port) && decide (m.transport.val = x.transport) &&
    decide (m.vid.map (·.toNat) = if x.vlanEn then some x.vid else none)

/-- A message that R114 drops and counts, by the transmitters whose timescale flag is clear. -/
def ptpDropped (m : PtpMsg) (x : EpcSource) (r : PtpRx) : Bool :=
  decide (m.kind = .management) || decide (m.kind = .signaling) || decide (m.domain.toNat ≠ x.domain) || decide (m.version ≠ 2) ||
    (if m.kind = .announce then !m.timescale else r.arb.contains m.sender)

/-- The nanoseconds of a logMessageInterval. -/
def intervalNs (l : BitVec 8) : Nat := if l.toInt ≥ 0 then 1000000000 * 2 ^ l.toInt.toNat else 1000000000 / 2 ^ (-l.toInt).toNat

/-- What the default BMCA compares, in its order. -/
def Foreign.rank (f : Foreign) : List Nat :=
  [f.clock.prio1.toNat, f.clock.cls.toNat, f.clock.accuracy.toNat, f.clock.variance.toNat, f.clock.prio2.toNat, f.clock.gm.toNat,
    f.clock.steps.toNat, f.sender]

/-- Two Announces in the last four announce intervals, and fewer than 255 steps, qualify a transmitter. -/
def Foreign.qualified (f : Foreign) (t : Nat) : Bool :=
  decide (f.clock.steps.toNat < 255) &&
    (match f.prev with | some p => decide (t ≤ p + 4 * f.interval) | none => false)

/-- The best of some transmitters. -/
def bestOf : List Foreign → Option Foreign
  | [] => none
  | f :: l => match bestOf l with
    | none => some f
    | some g => some (if g.rank < f.rank then g else f)

/-- The best qualified transmitter at `t`, other than those `skip` names. -/
def PtpRx.best (r : PtpRx) (t : Nat) (skip : Option Nat) : Option Nat :=
  (bestOf (r.foreign.filter fun f => f.qualified t && !decide (skip = some f.sender))).map (·.sender)

/-- The selected transmitter changes: nothing of the one before counts on. -/
def PtpRx.select (r : PtpRx) (x : Option Nat) : PtpRx :=
  if r.sender = x then r else { r with sender := x, syncAt := none, pend := none, lastSync := none, req := none, resp := none }

/-- An Announce at `t`: its data is kept, and the default BMCA chooses. -/
def PtpRx.announce (r : PtpRx) (m : PtpMsg) (t : Nat) : PtpRx :=
  let old := r.foreign.find? fun f => f.sender == m.sender
  let f : Foreign := { sender := m.sender, clock := m.clock, interval := intervalNs m.interval, last := t, prev := old.map (·.last) }
  let r1 := { r with foreign := f :: r.foreign.filter (fun f => f.sender != m.sender), arb := r.arb.filter (· != m.sender) }
  match r1.best t none with
  | none => r1
  | some b => r1.select (some b)

/-- Half of a round trip, never below zero. -/
def halfTrip (x : Int) : Nat := (x / 2).toNat

/-- A Sync of the selected transmitter at `t`, with its own time or, two-step, before its Follow_Up. -/
def PtpRx.sync (r : PtpRx) (m : PtpMsg) (t : Nat) : PtpRx × Option Nat :=
  let r1 := { r with interval := intervalNs m.interval }
  if m.twoStep then ({ r1 with pend := some (m.seq.toNat, t) }, none)
  else ({ r1 with syncAt := some t, lastSync := some (m.refNs, t), pend := none }, some (m.refNs + r.delay))

/-- A Follow_Up of the selected transmitter: it measures with the Sync it belongs to, and with no other. -/
def PtpRx.followUp (r : PtpRx) (m : PtpMsg) (t : Nat) : PtpRx × Option Nat :=
  match r.pend with
  | some (q, t0) =>
    if q = m.seq.toNat then
      ({ r with syncAt := some t0, lastSync := some (m.refNs, t0), pend := none }, some (m.refNs + r.delay + (t - t0)))
    else (r, none)
  | none => (r, none)

/-- A Delay_Resp: the end-to-end path delay, from the last Sync and the request it answers. -/
def PtpRx.delayResp (r : PtpRx) (m : PtpMsg) : PtpRx :=
  match r.req, r.lastSync with
  | some (q, t3), some (t1, t2) =>
    if q = m.seq.toNat then { r with delay := halfTrip (((t2 : Int) - t1) + ((m.refNs : Int) - t3)), req := none } else r
  | _, _ => r

/-- A Pdelay_Resp at `t`: the path delay from its turnaround, or, two-step, from its Pdelay_Resp_Follow_Up to come. -/
def PtpRx.pdelayResp (r : PtpRx) (m : PtpMsg) (t : Nat) : PtpRx :=
  match r.req with
  | some (q, t1) =>
    if q ≠ m.seq.toNat then r
    else if m.twoStep then { r with resp := some (m.refNs, t) }
    else { r with delay := halfTrip (((t : Int) - t1) - m.refNs), req := none }
  | none => r

/-- A Pdelay_Resp_Follow_Up: the path delay of a two-step answer. -/
def PtpRx.pdelayFollowUp (r : PtpRx) (m : PtpMsg) : PtpRx :=
  match r.req, r.resp with
  | some (q, t1), some (t2, t4) =>
    if q = m.seq.toNat then { r with delay := halfTrip (((t4 : Int) - t1) - ((m.refNs : Int) - t2)), req := none, resp := none } else r
  | _, _ => r

/-- A message that is not dropped, for one selection: what is kept, and the time it gives. -/
def PtpRx.take (r : PtpRx) (x : EpcSource) (m : PtpMsg) (t : Nat) : PtpRx × Option Nat :=
  let mine := decide (r.sender = some m.sender)
  match m.kind with
  | .announce => (r.announce m t, none)
  | .sync => if mine then r.sync m t else (r, none)
  | .followUp => if mine then r.followUp m t else (r, none)
  | .delayResp => (if mine && !x.delay then r.delayResp m else r, none)
  | .pdelayReq => (if x.delay then { r with owed := r.owed ++ [m.seq.toNat] } else r, none)
  | .pdelayResp => (if x.delay then r.pdelayResp m t else r, none)
  | .pdelayFollowUp => (if x.delay then r.pdelayFollowUp m else r, none)
  | .management => (r, none)
  | .signaling => (r, none)

/-- What a dropped message leaves: an Announce with the timescale flag clear names its transmitter (R114). -/
def PtpRx.drop (r : PtpRx) (x : EpcSource) (m : PtpMsg) : PtpRx :=
  if m.kind = .announce ∧ m.version = 2 ∧ m.domain.toNat = x.domain ∧ m.timescale = false then
    let r1 := { r with arb := m.sender :: r.arb.filter (· != m.sender), foreign := r.foreign.filter (fun f => f.sender != m.sender) }
    if r.sender = some m.sender then r1.select none else r1
  else r

/-- A selection's source and what it keeps. -/
def Epoch.rxOf (e : Epoch) (staged : Bool) : EpcSource × PtpRx :=
  if staged then (e.staged.getD {}, e.stagedRx) else (e.cur, e.rx)

/-- What a selection keeps is replaced. -/
def State.setRx (s : State) (staged : Bool) (r : PtpRx) : State :=
  { s with epoch := if staged then { s.epoch with stagedRx := r } else { s.epoch with rx := r } }

/-- The time of an event, `phaseNs` into the tick, on the local oscillator. -/
def State.oscAt (s : State) (phaseNs : Nat) : Nat := s.epoch.clock + phaseNs

/-- A message for one selection: the state after it, whether it came there at all, was taken, and measured. -/
def State.ptpFor (s : State) (staged : Bool) (m : PtpMsg) : State × Bool × Bool × Bool :=
  let (x, r) := s.epoch.rxOf staged
  if !(s.takes staged 1 && ptpOn m x) then (s, false, false, false)
  else if ptpDropped m x r then (s.setRx staged (r.drop x m), true, false, false)
  else
    let (r1, ref) := r.take x m (s.oscAt m.phaseNs)
    let s1 := s.setRx staged r1
    match ref with
    | none => (s1, true, true, false)
    | some n => ((if staged then s1.takeOver else s1).measure n m.phaseNs, true, true, true)

/-- PTP_MESSAGE (R113, R114): the staged selection sees it first; a measurement there ends the one in force (R122). A message that no
selection on its port takes is dropped and counted. -/
def execPtpMessage (m : PtpMsg) (s : State) : Out :=
  .next (s.unreset fun s =>
    let (s1, on1, got1, meas1) := s.ptpFor true m
    if meas1 then s1
    else
      let (s2, on2, got2, _) := s1.ptpFor false m
      if (on1 || on2) && !(got1 || got2) then s2.incFld F.EPC_DROP_PTP else s2)

/-- PTP_DELAY_REQUEST_SEND (R114): Delay_Req end-to-end to a selected transmitter; Pdelay_Req peer-to-peer or, where `answer` says so, the
Pdelay_Resp to the oldest Pdelay_Req not answered. -/
def execPtpDelayRequestSend (x : PtpSend) (s : State) : Out :=
  .next (s.unreset fun s =>
    let (c, r) := s.epoch.rxOf x.staged
    if !s.takes x.staged 1 then s
    else if x.answer then
      match r.owed with
      | q :: l => if c.delay then (s.setRx x.staged { r with owed := l }).send (.ptp .pdelayResp c q) else s
      | [] => s
    else if !c.delay ∧ r.sender = none then s
    else
      let q := s.epoch.seq
      let s1 := s.setRx x.staged { r with req := some (q, s.oscAt x.phaseNs), resp := none }
      ({ s1 with epoch := { s1.epoch with seq := (q + 1) % 65536 } }).send (.ptp (if c.delay then .pdelayReq else .delayReq) c q))

/-! ## The loss of the reference (R118, R120) -/

/-- The reference is lost: HOLDOVER from ACQUIRING or LOCKED, and bit 20 (R117). -/
def State.loseRef (s : State) : State :=
  let st := s.fld F.EPC_STATUS_STATE
  let s1 := { s with epoch := { s.epoch with good := 0, rx := s.epoch.rx.select none } }
  if st = 1 ∨ st = 2 then
    ((({ s1 with epoch := { s1.epoch with holdStart := s.tick } }).setEpc 3).setFld F.EPC_STATUS_BEHIND 0).latchHw 20
  else s1

/-- The time by which the source in force had to give its next input (R118): three announced sync intervals, two frames of one second, 1.1 s.
With no input ever accepted there is no such time. -/
def State.lossAt (s : State) : Option Nat :=
  match s.epoch.cur.src with
  | 1 => s.epoch.rx.syncAt.map (· + 3 * s.epoch.rx.interval)
  | 2 => s.epoch.irigAt.map (· + 2000000000)
  | 3 => s.epoch.ppsAt.map (· + 1100000000)
  | _ => none

/-- REFERENCE_LOSS (R118): the limit of the source in force has passed. PTP with another qualified transmitter goes on with the best of
them, whose three intervals begin here. -/
def execReferenceLoss (phaseNs : Nat) (s : State) : Out :=
  .next (s.unreset fun s =>
    let t := s.oscAt phaseNs
    match s.lossAt with
    | none => s
    | some n =>
      if t < n then s
      else if s.epoch.cur.src = 1 then
        match s.epoch.rx.best t s.epoch.rx.sender with
        | some b => s.setRx false { s.epoch.rx.select (some b) with syncAt := some t }
        | none => s.loseRef
      else s.loseRef)

/-- HOLDOVER_EXPIRY (R117, R120): LOST, and bit 21. -/
def execHoldoverExpiry (s : State) : Out := .next (s.unreset fun s => s.loseHoldover)

/-! ## IRIG-B and 1PPS (R113, R115, R116)

The places of the elements in a frame are those of IRIG Standard 200, which R113 names (PRESUMED, log entry 71). -/

/-- The position markers of a frame are where they must be, and nowhere else: the reference element 0 and every element 9 of ten. -/
def irigMarkers (f : IrigFrame) : Bool := (List.range 100).all fun i => (f.elems.getD i 0 == 2) == (i == 0 || i % 10 == 9)

/-- `n` elements from `lo` as a number, the least significant first. -/
def irigDigit (f : IrigFrame) (lo n : Nat) : Nat := (List.range n).foldl (fun v k => v + (f.elems.getD (lo + k) 0).val * 2 ^ k) 0

/-- A BCD field: units at `lo`, with `n` elements of tens at `lo + 5`. -/
def irigPair (f : IrigFrame) (lo n : Nat) : Option Nat :=
  let u := irigDigit f lo 4
  let d := irigDigit f (lo + 5) n
  if u ≤ 9 ∧ d ≤ 9 then some (10 * d + u) else none

/-- The year of a frame: its BCD year, or EPC_YEAR (R113). -/
def State.irigYear (s : State) (f : IrigFrame) : Option Nat :=
  if f.withYear then (irigPair f 50 4).map (2000 + ·) else some (s.fld F.EPC_YEAR_YEAR)

/-- The TAI time of an IRIG-B frame in nanoseconds, or none for a frame that R115 discards: its fields' ranges are those of a time of year,
with second 60 in the last minute of a day (R113). -/
def State.irigNs (s : State) (f : IrigFrame) : Option Nat := do
  let sec ← irigPair f 1 3
  let mn ← irigPair f 10 3
  let hr ← irigPair f 20 2
  let dd ← irigPair f 30 4
  let y ← s.irigYear f
  let day := dd + 100 * irigDigit f 40 2
  if irigMarkers f ∧ mn ≤ 59 ∧ hr ≤ 23 ∧ 1 ≤ day ∧ day ≤ 365 + b2n (leapYear y) ∧ (sec ≤ 59 ∨ (sec = 60 ∧ mn = 59 ∧ hr = 23)) then
    some (((daysTo y + day - 1) * 86400 + hr * 3600 + mn * 60 + sec + s.fld F.EPC_UTC_OFFSET_SECONDS) * 1000000000)
  else none

/-- IRIGB_FRAME (R115, R118): two bad frames in a row lose the reference. -/
def execIrigbFrame (f : IrigFrame) (s : State) : Out :=
  .next (s.unreset fun s =>
    if !(s.takes true 2 || s.takes false 2) then s
    else
      match s.irigNs f with
      | some ns => ({ s with epoch := { s.epoch with irigBad := 0, irigAt := some (s.oscAt f.phaseNs) } }).measureSrc 2 ns f.phaseNs
      | none =>
        let n := s.epoch.irigBad + 1
        let s1 := ({ s with epoch := { s.epoch with irigBad := n } }).incFld F.EPC_DROP_INVALID
        if n ≥ 2 ∧ s.takes false 2 then s1.loseRef else s1)

/-- PPS_EDGE (R115, R116): an edge `us` microseconds and `ns` nanoseconds into the counter's tick. -/
def execPpsEdge (us ns : Nat) (s : State) : Out :=
  .next (s.unreset fun s =>
    let phaseNs := 1000 * us + ns
    let t := s.oscAt phaseNs
    if !(s.takes true 3 || s.takes false 3) ∨ s.fld F.EPC_NEXT_SEC_SECONDS = 0 then s
    else if s.epoch.ppsAt.any (fun p => decide (t < p + 900000000)) then s.incFld F.EPC_DROP_INVALID
    else
      let sec := if s.epoch.ppsWritten then s.fld F.EPC_NEXT_SEC_SECONDS else s.epoch.ppsSec + 1
      ({ s with epoch := { s.epoch with ppsSec := sec, ppsWritten := false, ppsAt := some t } }).measureSrc 3 (sec * 1000000000) phaseNs)

end Sys2Proof.Machine
end

