-- ==== Sys2Proof/Machine/Card.lean ====
section
/-!
DEFINITION. Sys2Proof/Machine/Card.lean: the removable card port: initialisation and modes (R462 to R465), jobs (R466, R467), removal
(R468, R469), the journal (R470 to R472) and replay-protected storage (R473 to R475).
-/

namespace Sys2Proof.Machine

/-- The card port's state (R476). -/
def State.crd (s : State) : Nat := s.fld F.CRD_STATUS_STATE

/-- The state with the card port's state replaced. -/
def State.setCrd (s : State) (st : Nat) : State := s.setFld F.CRD_STATUS_STATE st

/-! ## Initialisation (R462 to R464) -/

/-- What CRD_STATUS shows of a card is cleared. -/
def State.clearCard (s : State) : State :=
  let z := { s with card := { s.card with log := [], jid := 0 } }
  ((((z.setFld F.CRD_STATUS_BOUND 0).setFld F.CRD_STATUS_JNL 0).setFld F.CRD_STATUS_TYPE 0).setFld F.CRD_STATUS_V18 0).setFld
    F.CRD_STATUS_MODE 0

/-- Initialisation starts where the port is enabled and the socket holds a card (R463). -/
def State.startCard (s : State) : State :=
  match s.card.medium with
  | some _ => if s.fld F.CRD_CTRL_EN = 1 then s.clearCard.setCrd 1 else s.clearCard.setCrd 0
  | none => s.clearCard.setCrd 0

/-- CARD_INSERTION (R463). -/
def execCardInsertion (m : CardMedium) (s : State) : Out :=
  .next (s.unreset fun s => (State.startCard { s with card := { s.card with medium := some m } }))

/-- REINIT (R463). -/
def execReinit (s : State) : Out := .next (s.unreset fun s => s.startCard)

/-- A mode that needs tuning (R462). -/
def needsTuning (mode : Nat) : Bool := decide (mode = 2) || decide (mode = 4) || decide (mode = 11)

/-- The highest mode at or below one that needs no tuning or passes it (R464); bit `k` of `tuned` says that mode `k` finds its window. -/
def tunedMode (low tuned : Nat) : Nat → Option Nat
  | 0 => if low = 0 then some 0 else none
  | m + 1 => if m + 1 < low then none else if !needsTuning (m + 1) || bit tuned (m + 1) then some (m + 1) else tunedMode low tuned m

/-- The I/O of a card is at 1.8 V after initialisation (R463). -/
def State.cardV18 (s : State) (m : CardMedium) (switchOk : Bool) : Bool :=
  if m.sd then decide (s.fld F.CRD_CTRL_SD_MAX > 1) && m.s18a && switchOk else decide (s.fld F.CRD_CTRL_MMC18 = 1)

/-- The highest mode both sides allow (R463). -/
def State.cardTop (s : State) (m : CardMedium) (v18 : Bool) : Nat :=
  if m.sd then min m.maxMode (if v18 then s.fld F.CRD_CTRL_SD_MAX else min 1 (s.fld F.CRD_CTRL_SD_MAX))
  else max 8 (min m.maxMode (min (8 + s.fld F.CRD_CTRL_MMC_MAX) (if v18 then 11 else 10)))

/-- The card is UNUSABLE, and bit 26 latches (R462, R464). -/
def State.cardUnusable (s : State) : State := (s.clearCard.setCrd 5).latchHw 26

/-- CARD_INIT_COMPLETE (R463, R464, R469): whether the card answers and its voltage switch succeeds, and the modes that tune. -/
def execCardInitComplete (answers switchOk : Bool) (tuned : BitVec 12) (s : State) : Out :=
  .next (s.unreset fun s =>
    match s.card.medium with
    | none => s
    | some m =>
      if s.crd ≠ 1 ∨ s.power.pwrFail then s
      else if !answers ∨ !m.usable then s.cardUnusable
      else
        let v := s.cardV18 m switchOk
        match tunedMode (if m.sd then 0 else 8) tuned.toNat (s.cardTop m v) with
        | none => s.cardUnusable
        | some k =>
          let s1 := ({ s with card := { s.card with tunedAt := s.tick } }).setFld F.CRD_STATUS_MODE k
          ((s1.setFld F.CRD_STATUS_V18 (b2n v)).setFld F.CRD_STATUS_TYPE (if m.sd then 1 else 2)).setCrd 2)

/-- CARD_RETUNE (R464): at the interval, on a data CRC error, or at the card's request. -/
def execCardRetune (cause : Fin 3) (tuned : BitVec 12) (s : State) : Out :=
  .next (s.unreset fun s =>
    let due := decide (s.fld F.CRD_TIMERS_RETUNE ≠ 0) && decide (s.tick - s.card.tunedAt ≥ s.fld F.CRD_TIMERS_RETUNE)
    if (s.crd ≠ 3 ∧ s.crd ≠ 4) ∨ (cause = 0 ∧ !due) ∨ s.power.pwrFail then s
    else
      let s1 := if cause = 1 then s.incFld F.CRD_ERRCNT_CRC else s
      let s2 := { s1 with card := { s1.card with tunedAt := s.tick } }
      match tunedMode (if s.fld F.CRD_STATUS_TYPE = 1 then 0 else 8) tuned.toNat (s.fld F.CRD_STATUS_MODE) with
      | none => s2.cardUnusable
      | some k => s2.setFld F.CRD_STATUS_MODE k)

/-- CARD_SLEEP (R465). -/
def execCardSleep (s : State) : Out :=
  .next (s.unreset fun s =>
    let t := s.fld F.CRD_TIMERS_IDLE
    if s.crd = 3 ∧ !s.power.pwrFail ∧ s.card.jobs.isEmpty ∧ t ≠ 0 ∧ s.tick - s.card.idleFrom ≥ t then s.setCrd 4 else s)

/-! ## Blocks -/

/-- One block of a card. -/
def cardBlock (m : CardMedium) (lba : Nat) : List Byte := fitLen 512 (tget (fun _ => []) m.blocks lba)

/-- A card with blocks written from `lba`; a block of zeros is not listed. -/
def cardPut (m : CardMedium) (lba : Nat) (l : List Byte) : CardMedium :=
  (List.range (cdiv l.length 512)).foldl (fun m i =>
    let b := bytesAt l (512 * i) 512
    { m with blocks := tset (fun _ => []) m.blocks (lba + i) (if b.all (· = 0) then [] else b) }) m

/-- The state with the card replaced. -/
def State.setMedium (s : State) (m : CardMedium) : State := { s with card := { s.card with medium := some m } }

/-! ## The journal's records (R470) -/

/-- The header block of a record. -/
def jnlHeader (kind jid seq len now : Nat) : List Byte :=
  fitLen 512 ([0x4A, 0x4E, 0x4C, 0x52, 0x01] ++ leBytes 1 kind ++ leBytes 2 0 ++ leBytes 8 jid ++ leBytes 8 seq ++ leBytes 4 len ++
    leBytes 4 (cdiv len 512) ++ leBytes 8 now)

/-- The commit block of a record over its header and data blocks. -/
def jnlCommit (jid seq : Nat) (body : List Byte) : List Byte :=
  fitLen 512 ([0x4A, 0x4E, 0x4C, 0x43] ++ leBytes 4 0 ++ leBytes 8 jid ++ leBytes 8 seq ++ sha3 body)

/-- A record as it stands on the card: header, data blocks padded with zeros, commit. -/
def jnlRecord (kind jid seq now : Nat) (data : List Byte) : List Byte :=
  let body := jnlHeader kind jid seq data.length now ++ fitLen (cdiv data.length 512 * 512) data
  body ++ jnlCommit jid seq body

/-- What a header block says: kind, JID, SEQ, LEN; none where it is no header. -/
def jnlParse (h : List Byte) : Option (Nat × Nat × Nat × Nat) :=
  if bytesAt h 0 4 = [0x4A, 0x4E, 0x4C, 0x52] ∧ leAt h 4 1 = 1 then some (leAt h 5 1, leAt h 8 8, leAt h 16 8, leAt h 24 4) else none

/-- The record at an offset of the journal, if it is whole within `room` blocks (R472): kind, JID, SEQ, LEN. -/
def jnlAt (m : CardMedium) (lba room : Nat) : Option (Nat × Nat × Nat × Nat) :=
  match jnlParse (cardBlock m lba) with
  | none => none
  | some (kind, jid, seq, len) =>
    let n := cdiv len 512
    if n + 2 > room then none
    else
      let body := cardBytes m lba (512 * (n + 1))
      let c := cardBlock m (lba + n + 1)
      if bytesAt c 0 4 = [0x4A, 0x4E, 0x4C, 0x43] ∧ leAt c 8 8 = jid ∧ leAt c 16 8 = seq ∧ bytesAt c 24 32 = sha3 body then
        some (kind, jid, seq, len)
      else none

/-- The scan from an offset: the records that belong to the log, and the offset after the last (R472). -/
def jnlScan (m : CardMedium) (base len jid : Nat) : Nat → Nat → Nat → List (Nat × Nat × Nat × Nat) → List (Nat × Nat × Nat × Nat) × Nat
  | 0, o, _, acc => (acc, o)
  | f + 1, o, seq, acc =>
    match jnlAt m (base + o) (len - o) with
    | some (k, j, q, n) =>
      if j = jid ∧ q = seq then jnlScan m base len jid f (o + cdiv n 512 + 2) (seq + 1) (acc ++ [(o, q, n, k)]) else (acc, o)
    | none => (acc, o)

/-- The mount scan reads the journal (R472). -/
def State.mountJournal (s : State) (m : CardMedium) : State :=
  let base := s.fld F.CRD_JNL_BASE_LBA
  let len := s.fld F.CRD_JNL_LEN_BLOCKS
  if len = 0 then s.setFld F.CRD_STATUS_JNL 0
  else
    match jnlAt m base len with
    | some (0, jid, 0, 0) =>
      let r := jnlScan m base len jid len 2 1 []
      let s1 := { s with card := { s.card with jid := jid, log := r.1 } }
      ((s1.setFld F.CRD_STATUS_JNL 1).setFld F.CRD_JNL_NEXT_OFFSET r.2).setFld F.CRD_JNL_SEQ_NEXT (r.1.length + 1)
    | _ => s.setFld F.CRD_STATUS_JNL 2

/-! ## Replay-protected units (R473 to R475) -/

/-- The RP key in force. -/
def State.rpKeyNow (s : State) : List Byte := fitLen 32 (Config.rpKey s.card.rpSalt)

/-- What CRD_BIND holds of a card's CID (R476). -/
def cidHash (cid : List Byte) : Nat := leNat ((sha3 cid).take 8)

/-- The inserted card is bound (R473, R475). -/
def State.cardBound (s : State) (m : CardMedium) : Bool :=
  if m.sd then decide (s.fld F.CRD_BIND_CID ≠ 0) && decide (s.fld F.CRD_BIND_CID = cidHash m.cid) else decide (m.rpmbKey = s.rpKeyNow)

/-- A unit's counter (R474). -/
def State.rpCounter (s : State) (u : Nat) : Nat := tget (fun _ => 0) s.card.counters u

/-- The state with a unit's counter replaced. -/
def State.setRpCounter (s : State) (u v : Nat) : State :=
  { s with card := { s.card with counters := tset (fun _ => 0) s.card.counters u v } }

/-- A unit block of an SD card (R474). -/
def State.rpBlock (s : State) (m : CardMedium) (u cnt : Nat) (data : List Byte) : List Byte :=
  let b := fitLen 288 (fitLen 256 data ++ leBytes 8 cnt ++ leBytes 1 u)
  fitLen 512 (b ++ fitLen 32 (Config.hmac 2 s.rpKeyNow (b ++ m.cid)))

/-- The counter of a unit's block, where its MAC verifies (R474). -/
def State.rpValid (s : State) (m : CardMedium) (u : Nat) : Option Nat :=
  let b := cardBlock m (s.fld F.CRD_RPA_BASE_LBA + u)
  if bytesAt b 288 32 = fitLen 32 (Config.hmac 2 s.rpKeyNow (b.take 288 ++ m.cid)) ∧ leAt b 264 1 = u then some (leAt b 256 8) else none

/-- Reconciliation of a pending record with a bound card (R475). -/
def State.reconcile (s : State) (m : CardMedium) : State :=
  match s.card.pend with
  | none => s
  | some (u, p) =>
    if !s.cardBound m then s
    else
      let s1 := { s with card := { s.card with pend := none } }
      if m.sd then
        if s.rpValid m u = some p then s1.setRpCounter u p
        else if s.rpValid m u = some (s.rpCounter u) then { s1 with card := { s1.card with skip := s1.card.skip ++ [u] } }
        else s1.setRpCounter u p
      else if m.rpmbCnt = s.card.mmcE + 1 then { s1 with card := { s1.card with mmcE := s.card.mmcE + 1 } }
      else if m.rpmbCnt = s.card.mmcE then s1
      else ({ s1 with card := { s1.card with rpBad := true } }).latchHw 26

/-- MOUNT_SCAN (R472, R475): the card is READY after it. The scan of a journal waits for a digest context and an online hash core (R534). -/
def execMountScan (s : State) : Out :=
  .next (s.unreset fun s =>
    match s.card.medium with
    | none => s
    | some m =>
      if s.crd ≠ 2 ∨ s.power.pwrFail ∨ (s.fld F.CRD_JNL_LEN_BLOCKS ≠ 0 ∧ !s.hwDigest 0) then s
      else
        let s1 := (s.mountJournal m).reconcile m
        ({ s1 with card := { s1.card with idleFrom := s.tick } }.setFld F.CRD_STATUS_BOUND (b2n (s1.cardBound m))).setCrd 3)

/-! ## Jobs (R466, R467) -/

/-- A card job ends: the descriptor's header as R61 has it, CPL, and the interrupt (R466). -/
def State.cardDone (s : State) (desc st detail outlen : Nat) (readable : Bool) : State :=
  let s1 := if readable then
      (((s.store 0 desc (leBytes 1 st)).store 0 (desc + 2) (leBytes 2 detail)).store 0 (desc + 4)
        (leBytes 4 (if st ≤ 1 then outlen else 0))).store 0 (desc + 1) [1]
    else s
  let s2 := ({ s1 with card := { s1.card with idleFrom := s.tick } }).setFld F.CRD_STATUS_CPL 1
  if s.fld F.CRD_CTRL_IRQ_EN = 1 then s2.msix0 else s2

/-- The head of the queue ends. -/
def State.endHead (s : State) (st detail outlen : Nat) (readable : Bool) : State :=
  match s.card.jobs with
  | [] => s
  | d :: t => ({ s with card := { s.card with jobs := t } }).cardDone d st detail outlen readable

/-- The status with which the length of an operation is in range (R467). -/
def cardLenOk (opc len : Nat) : Bool :=
  match opc with
  | 1 => decide (len % 512 = 0) && decide (len ≤ 67108864)
  | 2 => decide (len % 512 = 0) && decide (len ≤ 67108864)
  | 3 => decide (1 ≤ len) && decide (len ≤ 67108864)
  | 4 => true
  | 5 => decide (len = 0)
  | 6 => decide (len = 256)
  | 7 => decide (len = 256)
  | 8 => decide (len = 0)
  | _ => false

/-- The checks of R467 that the descriptor alone decides; none where they pass. -/
def cardCheck (d : List Byte) : Option Nat :=
  let opc := leAt d 28 1
  if hdrHreq d = 3 then some 0x13
  else if !hdrOk d ∨ hdrSv d ∨ hdrHreq d ≠ 0 ∨ !zeroAt d 22 23 ∨ !zeroAt d 30 31 ∨ !zeroAt d 40 63 ∨ !cardLenOk opc (leAt d 24 4) then some 0x12
  else if (opc = 6 ∨ opc = 7) ∧ leAt d 32 8 > 255 then some 0x12
  else none

/-- A descriptor is read and its completion writes are checked (R531). -/
def State.cardDesc (s : State) (a : Nat) : Acc × List Byte × State :=
  let r := s.unitRead mgmtMaster (hwCtrl s 0 15) a 64
  if r.1 ≠ .ok then r
  else
    let w := r.2.2.unitCheckW mgmtMaster (hwCtrl s 0 15) a 64 false
    (w.1, r.2.1, w.2)

/-- The status of an access that fails, with its DETAIL (R160, R533). -/
def accStatus (a : Acc) : Nat × Nat := if a = .poison then (0x16, 0xFFFD) else (0x0D, 0)

/-- Jobs at the head whose descriptor fails its checks end; then the head's descriptor (R466, R467). -/
def State.cardHead (s : State) : Nat → Option (Nat × List Byte) × State
  | 0 => (none, s)
  | f + 1 =>
    match s.card.jobs with
    | [] => (none, s)
    | a :: _ =>
      let r := s.cardDesc a
      if r.1 ≠ .ok then (r.2.2.endHead (accStatus r.1).1 (accStatus r.1).2 0 false).cardHead f
      else
        match cardCheck r.2.1 with
        | some st => (r.2.2.endHead st 0 0 true).cardHead f
        | none => (some (a, r.2.1), r.2.2)

/-- What a job's work gives: its status, DETAIL and OUTLEN, or that it waits. -/
inductive CardRes where
  | done (st detail outlen : Nat) (s : State)
  | wait (s : State)
  deriving DecidableEq, Repr

/-- The head of the queue runs as the operation named, once the card is READY or wakes (R465, R466, R469). -/
def State.cardJob (s : State) (opc : Nat) (work : State → CardMedium → Nat → List Byte → CardRes) : State :=
  match s.card.medium with
  | none => s
  | some m =>
    if (s.crd ≠ 3 ∧ s.crd ≠ 4) ∨ s.power.pwrFail then s
    else
      let h := s.cardHead (s.card.jobs.length + 1)
      match h.1 with
      | none => h.2
      | some (a, d) =>
        if leAt d 28 1 ≠ opc then h.2
        else
          match work (h.2.setCrd 3) m a d with
          | .done st detail outlen t => t.endHead st detail outlen true
          | .wait t => t

/-- A job's buffer is read (R467). -/
def State.cardRead (s : State) (d : List Byte) (len : Nat) : Acc × List Byte × State :=
  s.unitRead mgmtMaster (hwCtrl s 0 15) (leAt d 16 8) len

/-- A job's output is written to its buffer, and it ends with OK. -/
def State.cardOut (s : State) (d l : List Byte) : CardRes :=
  let w := s.unitCheckW mgmtMaster (hwCtrl s 0 15) (leAt d 16 8) l.length false
  if w.1 ≠ .ok then .done (accStatus w.1).1 (accStatus w.1).2 0 w.2 else .done 0 0 l.length (w.2.store 0 (leAt d 16 8) l)

/-- CARD_READ (R467). -/
def execCardRead (s : State) : Out :=
  .next (s.unreset fun s => s.cardJob 1 fun s m _ d => s.cardOut d (cardBytes m (leAt d 32 8) (leAt d 24 4)))

/-- Two runs of blocks meet. -/
def runsMeet (a n b k : Nat) : Bool := decide (0 < n) && decide (0 < k) && decide (a < b + k) && decide (b < a + n)

/-- Blocks a WRITE may not touch (R467). -/
def State.writeBarred (s : State) (m : CardMedium) (lba n : Nat) : Bool :=
  runsMeet lba n (s.fld F.CRD_JNL_BASE_LBA) (s.fld F.CRD_JNL_LEN_BLOCKS) || (m.sd && runsMeet lba n (s.fld F.CRD_RPA_BASE_LBA) 256)

/-- CARD_WRITE (R467). -/
def execCardWrite (s : State) : Out :=
  .next (s.unreset fun s => s.cardJob 2 fun s m _ d =>
    let lba := leAt d 32 8
    let len := leAt d 24 4
    if s.writeBarred m lba (len / 512) then .done 0x12 0 0 s
    else
      let r := s.cardRead d len
      if r.1 ≠ .ok then .done (accStatus r.1).1 (accStatus r.1).2 0 r.2.2 else .done 0 0 0 (r.2.2.setMedium (cardPut m lba r.2.1)))

/-- JNL_APPEND (R467, R470, R471). -/
def execJnlAppend (s : State) : Out :=
  .next (s.unreset fun s => s.cardJob 3 fun s m a d =>
    let len := leAt d 24 4
    let o := s.fld F.CRD_JNL_NEXT_OFFSET
    let seq := s.fld F.CRD_JNL_SEQ_NEXT
    if s.fld F.CRD_STATUS_JNL ≠ 1 then .done 0x12 0 0 s
    else if o + cdiv len 512 + 2 > s.fld F.CRD_JNL_LEN_BLOCKS then .done 4 0 0 s
    else
      let r := s.cardRead d len
      if r.1 ≠ .ok then .done (accStatus r.1).1 (accStatus r.1).2 0 r.2.2
      else
        let m1 := cardPut m (s.fld F.CRD_JNL_BASE_LBA + o) (jnlRecord (leAt d 29 1) s.card.jid seq s.tick r.2.1)
        let s1 := r.2.2.setMedium m1
        let s2 := { s1 with card := { s1.card with log := s1.card.log ++ [(o, seq, len, leAt d 29 1)] } }
        let s3 := (s2.setFld F.CRD_JNL_NEXT_OFFSET (o + cdiv len 512 + 2)).setFld F.CRD_JNL_SEQ_NEXT (seq + 1)
        .done 0 0 0 (s3.store 0 (a + 32) (leBytes 8 seq)))

/-- JNL_READ (R467). -/
def execJnlRead (s : State) : Out :=
  .next (s.unreset fun s => s.cardJob 4 fun s m a d =>
    match s.card.log.find? (fun x => decide (x.2.1 = leAt d 32 8)) with
    | none => .done 0x12 0 0 s
    | some (o, _, len, kind) =>
      if s.fld F.CRD_STATUS_JNL ≠ 1 then .done 0x12 0 0 s
      else if len > leAt d 24 4 then .done 4 0 0 s
      else
        match s.cardOut d (cardBytes m (s.fld F.CRD_JNL_BASE_LBA + o + 1) len) with
        | .done 0 x y t => .done 0 x y (t.store 0 (a + 29) (leBytes 1 kind))
        | r => r)

/-- JNL_FORMAT (R470): it waits while DRBG 30 cannot give the identifier. -/
def execJnlFormat (s : State) : Out :=
  .next (s.unreset fun s => s.cardJob 5 fun s m _ _ =>
    if s.fld F.CRD_JNL_LEN_BLOCKS < 2 then .done 4 0 0 s
    else if !s.drbgReady 30 then .wait s
    else
      let r := s.draw 30 8
      let jid := leNat r.1
      let s1 := r.2.setMedium (cardPut m (s.fld F.CRD_JNL_BASE_LBA) (jnlRecord 0 jid 0 s.tick []))
      let s2 := { s1 with card := { s1.card with jid := jid, log := [] } }
      .done 0 0 0 (((s2.setFld F.CRD_STATUS_JNL 1).setFld F.CRD_JNL_NEXT_OFFSET 2).setFld F.CRD_JNL_SEQ_NEXT 1))

/-- RP_READ (R473, R474). -/
def execRpRead (s : State) : Out :=
  .next (s.unreset fun s => s.cardJob 6 fun s m _ d =>
    let u := leAt d 32 8
    if !s.cardBound m then .done 8 0 0 s
    else if s.card.rpBad then .done 7 0 0 s
    else if m.sd then
      if s.rpValid m u = some (s.rpCounter u) then s.cardOut d ((cardBlock m (s.fld F.CRD_RPA_BASE_LBA + u)).take 256) else .done 7 0 0 s
    else s.cardOut d (fitLen 256 (tget (fun _ => []) m.rpmb u)))

/-- The counter of the next write of a unit: the write after an uncertain one skips a count (R474, R475). -/
def State.rpNext (s : State) (u : Nat) : Nat := s.rpCounter u + (if s.card.skip.contains u then 2 else 1)

/-- RP_WRITE (R473, R474). -/
def execRpWrite (s : State) : Out :=
  .next (s.unreset fun s => s.cardJob 7 fun s m _ d =>
    let u := leAt d 32 8
    if !s.cardBound m then .done 8 0 0 s
    else if s.card.rpBad ∨ (!m.sd ∧ m.rpmbCnt ≠ s.card.mmcE) then .done 7 0 0 s
    else
      let r := s.cardRead d 256
      if r.1 ≠ .ok then .done (accStatus r.1).1 (accStatus r.1).2 0 r.2.2
      else if m.sd then
        let n := s.rpNext u
        let s1 := (r.2.2.setMedium (cardPut m (s.fld F.CRD_RPA_BASE_LBA + u) (s.rpBlock m u n r.2.1))).setRpCounter u n
        .done 0 0 0 { s1 with card := { s1.card with skip := s1.card.skip.filter (· ≠ u), pend := none } }
      else
        let b := if r.2.1.all (· = 0) then [] else r.2.1
        let s1 := r.2.2.setMedium { m with rpmbCnt := m.rpmbCnt + 1, rpmb := tset (fun _ => []) m.rpmb u b }
        .done 0 0 0 { s1 with card := { s1.card with mmcE := m.rpmbCnt + 1, pend := none } })

/-- RP_BIND (R475). -/
def execRpBind (s : State) : Out :=
  .next (s.unreset fun s => s.cardJob 8 fun s m _ _ =>
    let s1 := { s with card := { s.card with rpBad := false, pend := none } }
    if m.sd then
      let s2 := { s1 with card := { s1.card with counters := [], skip := [] } }
      .done 0 0 0 ((s2.setFld F.CRD_BIND_CID (cidHash m.cid)).setFld F.CRD_STATUS_BOUND 1)
    else if m.rpmbKey = [] ∨ m.rpmbKey = s.rpKeyNow then
      let s2 := s1.setMedium { m with rpmbKey := s.rpKeyNow }
      .done 0 0 0 (({ s2 with card := { s2.card with mmcE := m.rpmbCnt } }).setFld F.CRD_STATUS_BOUND 1)
    else .done 7 0 0 s)

/-- A submission (R466, R468): an empty socket ends the job at once. -/
def State.cardSubmit (s : State) (a : Nat) : State :=
  if s.fld F.CRD_CTRL_EN = 0 ∨ a % 64 ≠ 0 ∨ s.card.jobs.length ≥ 16 then s.setFld F.CRD_STATUS_CFG_ERR 1
  else
    let s1 := { s with card := { s.card with jobs := s.card.jobs ++ [a] } }
    if s.card.medium.isSome then s1
    else
      let r := s1.cardDesc a
      r.2.2.endHead 0x0F 0 0 (decide (r.1 = .ok))

/-- CRD_SUBMIT (R466). -/
def execCrdSubmit (addr : BitVec 48) (s : State) : Out := .next (s.unreset fun s => s.cardSubmit addr.toNat)

/-! ## Removal (R468) -/

/-- Every queued job ends with CARD_REMOVED (R468). -/
def State.flushCard (s : State) : Nat → State
  | 0 => s
  | f + 1 =>
    match s.card.jobs with
    | [] => s
    | a :: _ =>
      let r := s.cardDesc a
      (r.2.2.endHead 0x0F 0 0 (decide (r.1 = .ok))).flushCard f

/-- An operation that writes blocks (R468). -/
def cardWrites (m : CardMedium) (opc : Nat) : Bool :=
  decide (opc = 2) || decide (opc = 3) || decide (opc = 5) || decide (opc = 7) || (decide (opc = 8) && !m.sd)

/-- The job in progress ends with the removal, after its first data bit (R468); an interrupted RP_WRITE leaves its pending record (R473,
R474). -/
def State.cutJob (s : State) (m : CardMedium) : State :=
  let h := s.cardHead (s.card.jobs.length + 1)
  match h.1 with
  | none => h.2
  | some (_, d) =>
    if cardWrites m (leAt d 28 1) then
      let u := leAt d 32 8
      let s1 := if leAt d 28 1 = 7 ∧ h.2.cardBound m then
          { h.2 with card := { h.2.card with pend := some (u, if m.sd then h.2.rpNext u else m.rpmbCnt + 1) } }
        else h.2
      ((s1.endHead 0x10 0 0 true).incFld F.CRD_ERRCNT_INDET).latchHw 26
    else h.2.endHead 0x0F 0 0 true

/-- CARD_REMOVAL (R468): `started` says that the job in progress has passed its first data bit. -/
def execCardRemoval (started : Bool) (s : State) : Out :=
  .next (s.unreset fun s =>
    match s.card.medium with
    | none => s
    | some m =>
      let s1 := if started ∧ (s.crd = 3 ∨ s.crd = 4) then s.cutJob m else s
      let s2 := s1.flushCard 17
      (State.clearCard { s2 with card := { s2.card with medium := none } }).setCrd 0)

/-! ## Register writes of the card port (R476) -/

/-- A write of CRD_CTRL: EN starts the card, or empties the port. -/
def State.writeCrdCtrl (s : State) (v : Nat) : State :=
  let on := bit v 0
  let was := decide (s.fld F.CRD_CTRL_EN = 1)
  let s1 := (s.setFld F.CRD_CTRL_MMC_MAX (bits v 11 10)).setFld F.CRD_CTRL_MMC18 (bits v 3 3)
  let s2 := if bits v 9 7 ≤ 4 then s1.setFld F.CRD_CTRL_SD_MAX (bits v 9 7) else s1.setFld F.CRD_STATUS_CFG_ERR 1
  let s3 := (s2.setFld F.CRD_CTRL_IRQ_EN (bits v 2 2)).setFld F.CRD_CTRL_EN (b2n on)
  if on ∧ (!was ∨ bit v 1) then s3.startCard
  else if was ∧ !on then (s3.flushCard 17).clearCard.setCrd 0
  else s3

/-- The regions of the journal and of the SD units do not meet each other or the boot image's blocks. -/
def regionsOk (base len rpa : Nat) : Bool :=
  !runsMeet base len rpa 256 && !runsMeet base len 2048 131072 && !runsMeet rpa 256 2048 131072

/-- A write of CRD_JNL_BASE, CRD_JNL_LEN or CRD_RPA_BASE. -/
def State.writeCrdRegion (s : State) (off v : Nat) : State :=
  let x := v % 2 ^ 32
  let get := fun (f : Fld) => if f.off = off then x else s.fld f
  if s.fld F.CRD_CTRL_EN = 1 ∨ !regionsOk (get F.CRD_JNL_BASE_LBA) (get F.CRD_JNL_LEN_BLOCKS) (get F.CRD_RPA_BASE_LBA) then
    s.setFld F.CRD_STATUS_CFG_ERR 1
  else s.setReg off (BitVec.ofNat 64 x)

end Sys2Proof.Machine
end

