-- ==== Sys2Proof/Machine/Power.lean ====
section
/-!
DEFINITION. Sys2Proof/Machine/Power.lean: the reset inputs (R491), the boot sources (R495 to R499), power fail (R500), the power cap (R501,
R504), and the SMBus target (R525).
-/

namespace Sys2Proof.Machine

/-! ## Resets and boot -/

/-- PORST_RELEASE (R493, R494, R515): the straps are sampled, and the boot runs. `nor` is what the NOR device holds and `cxl` the capacities of the
CXL devices in GiB. -/
def execPorstRelease (straps : Fin 4) (nor : List Byte) (cxl : List (BitVec 32)) (s : State) : Out :=
  .next (
    if s.power.thermtrip then s
    else
      let z := s.chipReset
      let p := { z.power with porst := true, main := true, straps := straps, nor := nor, cxl := cxl.map (·.toNat) }
      let b := State.boot { z with power := p }
      (if b.power.hot then b.trip else b).repin)

/-- PORST_ASSERT (R491, R515): every block but the Embankment is held in reset, and a THERMTRIP_N hold ends. -/
def execPorstAssert (s : State) : Out :=
  .next (let z := s.chipReset
    State.repin { z with power := { z.power with porst := false, thermtrip := false } })

/-- PERST (R491): Function Level Reset of the endpoint's polders, and its link trains again. -/
def execPerst (ep : Fin 2) (s : State) : Out :=
  .next (s.live fun s =>
    let s0 := s.linkLost ep
    let s1 := (s0.poldersOf ep).foldl (fun s n => s.flrPolder n) (s0.setEp ep { s0.ep ep with flr := true, d3 := false, ur := false })
    s1.flrSettle ep)

/-- A host boot may start: the host is the source and nothing has come yet, or the boot has failed; once per chip reset (R496, R499). -/
def State.goAllowed (s : State) : Bool :=
  let st := s.fld F.PWR_BOOT_STATE
  s.power.step4 && (decide (st = 1 ∧ s.fld F.PWR_BOOT_SRC = 1) || decide (st = 5)) && !s.power.tried.contains 1

/-- A host boot from an image (R496, R499). -/
def State.hostBoot (s : State) (l : List Byte) : State :=
  if !s.goAllowed then s
  else
    let s1 := ({ s with power := { s.power with tried := s.power.tried ++ [1] } }).setFld F.PWR_BOOT_SRC 1
    match s1.bootCheck l with
    | none => s1.bootWith l
    | some st => s1.bootFails st

/-- PWR_BOOT_GO (R496): `image` is what the host's memory holds from PWR_BOOT_ADDR. -/
def execPwrBootGo (ep : Fin 2) (image : List Byte) (s : State) : Out :=
  .next (s.live fun s =>
    if (s.ep ep).up then
      State.hostBoot (if s.goAllowed then s.send (.hostRead { ep := ep, pasid := none } (s.fld F.PWR_BOOT_ADDR_ADDR * 4096)
        (s.fld F.PWR_BOOT_LEN_LEN)) else s) (image.take (s.fld F.PWR_BOOT_LEN_LEN))
    else s)

/-- BOOT_SOURCE_TIMEOUT (R499): straps 0b11 try the card once after the NOR device. -/
def execBootSourceTimeout (s : State) : Out :=
  .next (s.unreset fun s =>
    if s.fld F.PWR_BOOT_STATE ≠ 1 then s
    else if s.power.straps = 3 ∧ s.fld F.PWR_BOOT_SRC = 0 ∧ !s.power.tried.contains 2 then s.bootFrom 2 false
    else
      let src := s.fld F.PWR_BOOT_SRC
      State.bootFails { s with power := { s.power with tried := s.power.tried ++ [src] } } 5)

/-- PCIE_CONFIG_REQUEST (R495, R499). -/
def execPcieConfigRequest (ep : Fin 2) (s : State) : Out :=
  .next (s.unreset fun s =>
    let st := s.fld F.PWR_BOOT_STATE
    let ok := decide (st = 4) || decide (st = 5) || (s.power.step4 && (decide (s.fld F.PWR_BOOT_SRC = 1) || decide (s.lcs = 4)))
    if (s.ep ep).up then s.send (.configReply ep !ok) else s)

/-! ## Supplies (R209, R500) -/

/-- POWER_LOSS (R209, R454, R457): main power collapses; `vbat` says that the battery carries the Embankment. -/
def execPowerLoss (vbat : Bool) (s : State) : Out := .next (if s.power.main then (s.powerLoss vbat).repin else s)

/-- PWR_FAIL_ASSERT (R209, R500): bit 36, and the floor of every stateful slot is committed at its cursor. -/
def execPwrFailAssert (s : State) : Out :=
  .next (s.unreset fun s =>
    if s.power.pwrFail then s
    else
      let floors := (s.keys.slots.filter (fun e => e.2.stateful)).foldl (fun s e => s.setKey e.1 { e.2.commit e.2.cursor e.2.limit with pendFloor := none }) s
      (({ floors with power := { floors.power with pwrFail := true } }).setFld F.PWR_STATUS_HOLDUP 1).latchHw 36)

/-! ## The power cap (R501, R504) -/

/-- What the three stages do with an excess over the cap: the stage reached, and the core clock in 100 MHz units (R501). -/
def throttle (excess engines scan cores : Nat) : Nat × Nat :=
  let r1 := excess - engines * 3 / 4
  let r2 := r1 - scan * 3 / 4
  let clk := max 8 (16 - cdiv (r2 * 16) (max 1 cores))
  if excess = 0 then (0, 16) else if r1 = 0 then (1, 16) else if r2 = 0 then (2, 16) else (3, clk)

/-- POWER_ESTIMATE (R501, R503): the cap written comes into force, and the estimate in watts of what the device would draw without throttling. -/
def execPowerEstimate (engines scan cores total : BitVec 16) (s : State) : Out :=
  .next (s.unreset fun s =>
    let s1 := (((s.setFld F.PWR_EST_ENGINES engines.toNat).setFld F.PWR_EST_SCAN scan.toNat).setFld F.PWR_EST_CORES cores.toNat).setFld
      F.PWR_EST_TOTAL total.toNat
    let s2 := { s1 with power := { s1.power with capMode := s.fld F.PWR_CAP_MODE, capWatts := s.fld F.PWR_CAP_WATTS } }
    let excess := if s.fld F.PWR_CAP_MODE = 1 then total.toNat - s.fld F.PWR_CAP_WATTS else 0
    let t := throttle excess engines.toNat scan.toNat cores.toNat
    (s2.setFld F.PWR_STATUS_STAGE t.1).setFld F.PWR_STATUS_CORE_CLK t.2)

/-- A write of PWR_CAP (R504). -/
def State.writeCap (s : State) (v : Nat) : State :=
  if 250 ≤ bits v 9 0 ∧ bits v 9 0 ≤ 500 then (s.setFld F.PWR_CAP_MODE (bits v 10 10)).setFld F.PWR_CAP_WATTS (bits v 9 0)
  else s.setFld F.PWR_STATUS_CFG_ERR 1

/-- PWR_CAP_WRITE (R504). -/
def execPwrCapWrite (v : BitVec 11) (s : State) : Out := .next (s.unreset fun s => s.writeCap v.toNat)

/-! ## SMBus (R525) -/

/-- The answer to a read: all-ones bytes until boot step 4 has ended. -/
def State.smbus (s : State) (n v : Nat) : State :=
  if !s.power.main then s else s.send (.smbData (if s.power.step4 then leBytes n v else List.replicate n 0xFF#8))

/-- SMB_READ_ID: GLB_ID bits 63 to 16 (R525). -/
def execSmbReadId (s : State) : Out := .next (s.smbus 6 ((s.reg F.GLB_ID_VENDOR.off).toNat / 2 ^ 16))

/-- SMB_READ_TEMPERATURE: at every time, reset included (R525). -/
def execSmbReadTemperature (s : State) : Out := .next (if s.power.main then s.send (.smbData (leBytes 2 (wrap 16 s.power.temp))) else s)

/-- SMB_READ_POWER (R525). -/
def execSmbReadPower (s : State) : Out := .next (s.smbus 2 (s.fld F.PWR_EST_TOTAL))

/-- SMB_READ_FAULTS (R525). -/
def execSmbReadFaults (s : State) : Out := .next (s.smbus 5 (s.fld F.FCL_STATUS_FAULT))

/-- SMB_READ_LCS (R525). -/
def execSmbReadLcs (s : State) : Out := .next (s.smbus 1 s.lcs)

/-- SMB_READ_BOOT_STATE (R525). -/
def execSmbReadBootState (s : State) : Out := .next (s.smbus 1 (s.fld F.PWR_BOOT_STATE))

/-- SMB_WRITE_REFUSED (R525): a write, or a command not listed. -/
def execSmbWriteRefused (s : State) : Out := .next (if s.power.main then s.send .smbNack else s)

end Sys2Proof.Machine
end

