-- ==== Sys2Proof/Machine/DikeCmd.lean ====
section
/-!
DEFINITION. Sys2Proof/Machine/DikeCmd.lean: the rule changes of Dike, the thaw of a master, and the notice queue (R410, R413 to R417).
-/

namespace Sys2Proof.Machine

/-- A register of the staged set of regions (R418). -/
def regionReg (off : Nat) : Bool :=
  (decide (0x401000 ≤ off) && decide (off < 0x401400)) || (decide (0x410000 ≤ off) && decide (off < 0x450000))

/-- The staged set (R416). -/
def State.stagedSet (s : State) : Tbl Word := s.regs.filter (fun e => regionReg e.1)

/-- A region's address word is valid and refuses a commit (R416). -/
def badRegion (a : Nat) : Bool :=
  bit a 63 && (decide (bits a 53 48 < 12) || decide (48 < bits a 53 48) || decide (bits a 47 12 * 4096 % 2 ^ bits a 53 48 ≠ 0))

/-- A set comes into force as the next generation (R416). -/
def State.enforce (s : State) (set : Tbl Word) : State :=
  (({ s with dike := { s.dike with force := set, committed := none } }).incFld F.DKE_GEN_STATUS_CUR).setFld F.DKE_GEN_STATUS_PENDING 0

/-- A write of DKE_GEN_CTRL.COMMIT (R416, R417). -/
def State.commitSet (s : State) : State :=
  let set := s.stagedSet
  let st := s.fld F.EPC_STATUS_STATE
  if !s.applied then s.setFld F.DKE_STATUS_CFG_ERR 1
  else if set.any (fun e => decide (e.1 % 16 = 0) && badRegion e.2.toNat) then (s.setFld F.DKE_STATUS_BADRGN 1).setFld F.DKE_STATUS_CFG_ERR 1
  else if st = 0 ∨ st = 4 then s.enforce set
  else ({ s with dike := { s.dike with committed := some set } }).setFld F.DKE_GEN_STATUS_PENDING 1

/-- DKE_COMMIT (R416, R417). -/
def execDkeCommit (s : State) : Out := .next (s.unreset fun s => s.commitSet)

/-- DIKE_GENERATION_EDGE (R416): the tick edge at which a pending set takes effect. -/
def execDikeGenerationEdge (s : State) : Out :=
  .next (s.unreset fun s => match s.dike.committed with | some set => s.enforce set | none => s)

/-- The address that the notice of a master names; 0 where it has been discarded. -/
def State.noticeAddr (s : State) (mcls unit : Nat) : Word :=
  match s.dike.notices.find? (fun x => decide (x.mcls = mcls) && decide (x.unit = unit)) with
  | some x => BitVec.ofNat 64 (x.data.toNat % 2 ^ 48)
  | none => 0

/-- A worker's task fails: the run of an operator's task, or the task itself (R366, R410). -/
def State.endWorkerTask (s : State) (w st cause : Nat) (xaddr : Word) : State :=
  match (s.worker w).task with
  | none => s
  | some t =>
    match (s.task t).kind with
    | .operator e _ _ _ => s.failRun e st 0
    | _ => s.killTask t w st cause xaddr

/-- What a thaw does with the work of a master (R410). -/
def State.endFrozen (s : State) (endTask : Bool) (mcls unit : Nat) (xaddr : Word) : State :=
  if mcls = 0 then (if endTask then s.endWorkerTask unit 0x0D 0 xaddr else s)
  else if mcls = 8 then
    match s.sqr 4 unit with
    | some q =>
      match q.rom, (s.task q.work).kind with
      | false, .operator e _ _ _ => (s.dropSqr 4 unit).failRun e 0x0D 0
      | _, _ => s.endWorkerTask (unit + 64) 0x0D 0 xaddr
    | none => s.endWorkerTask (unit + 64) 0x0D 0 xaddr
  else if mcls = 9 then
    ((s.pq unit).inflight.filter (·.frozen)).foldl (fun s e => s.endEntry unit e 0x0D 0 []) s
  else
    (s.liveJobs.filter (fun e => decide ((s.job e).st = .frozen) && decide (clsMaster (s.job e).cls = mcls) &&
      decide ((s.job e).engine = some unit))).foldl (fun s e => s.finish e 0x0D 0 0 []) s

/-- A write of DKE_THAW (R410, R414). -/
def State.thaw (s : State) (endTask : Bool) (mcls unit : Nat) : State :=
  if mcls = 11 ∨ !s.frozen mcls unit then s.setFld F.DKE_STATUS_CFG_ERR 1
  else
    let s1 := { s with dike := { s.dike with frozen := s.dike.frozen.filter (fun x => !(decide (x.1 = mcls) && decide (x.2.1 = unit))) } }
    s1.endFrozen endTask mcls unit (s.noticeAddr mcls unit)

/-- DKE_THAW (R414). -/
def execDkeThaw (endTask : Bool) (mcls : Fin 16) (unit : Fin 256) (s : State) : Out := .next (s.live fun s => s.thaw endTask mcls unit)

/-- DKE_NTC_POP (R413). -/
def execDkeNtcPop (s : State) : Out := .next (s.unreset fun s => { s with dike := { s.dike with notices := s.dike.notices.drop 1 } })

end Sys2Proof.Machine
end

