-- ==== Sys2Proof/Machine/Faults.lean ====
section
/-!
DEFINITION. Sys2Proof/Machine/Faults.lean: resolution groups and reactions (R421 to R424), the collector's registers (R9, R425 to R427),
links and temperature (R419, R514, R515), and the in-service test (R428 to R432).
-/

namespace Sys2Proof.Machine

/-! ## Block resets (R419, R423) -/

/-- Units of an engine class go on or off line. -/
def State.setOnline (s : State) (cls k : Nat) (on : Bool) : State :=
  let f := if cls = 5 then F.CMP_ONLINE_ONLINE else if cls = 3 then F.DIG_CORE_ONLINE_ONLINE else F.ENG_ONLINE_ONLINE cls
  if cls = 3 ∧ k = 32 then { s with mcs := { s.mcs with cmpOff := !on } } else s.setFld f (putBits (s.fld f) k 1 (b2n on))

/-- A worker comes on line. -/
def State.workerOnline (s : State) (w : Nat) : State := s.writeWoff (w / 64) (putBits (s.fld (F.PMP_WOFF_OFF (w / 64))) (w % 64) 1 0)

/-- An engine, hash core or lane is reset: its job ends with ABORTED, and its state is zeroised (R423). -/
def State.resetEngine (s : State) (cls k : Nat) : State :=
  let s1 := s.setOnline cls k false
  let mine := s1.liveJobs.filter (fun e => decide ((s1.job e).cls = cls) && decide ((s1.job e).engine = some k) &&
    (decide ((s1.job e).st = .running) || decide ((s1.job e).st = .frozen)) && !(s1.job e).slotBegun)
  let s2 := mine.foldl (fun s e => s.finish e 0x16 0xFFFF 0 []) s1
  { s2 with jobs := { s2.jobs with lastKey := tset (fun _ => []) s2.jobs.lastKey (32 * cls + k) [] },
            mcs := { s2.mcs with seqs := s2.mcs.seqs.filter (fun x => decide (cls = 5) || decide (x.1 ≠ 256 * cls + k)) } }

/-- The functions that hash cores have written back end with the reset of the contexts (R247, R423). -/
def State.resetParked (s : State) : State :=
  s.mcs.parked.foldl (fun s q => (s.finish q.work 0x16 0xFFFF 0 []).dropSeqs q.work) s

/-- What runs on an operator unit is lost with it: a UDO's run fails (R366, R423). -/
def State.resetUdo (s : State) (k : Nat) : State :=
  match s.sqr 4 k with
  | some q =>
    let s1 := s.dropSqr 4 k
    match (s1.task q.work).kind with
    | .operator e _ _ _ => if q.rom then s1 else s1.failRun e 0x16 0xFFFF
    | _ => s1
  | none => s

/-- A worker is reset: a run on it fails, another task ends with a record (R71, R366, R423). -/
def State.resetWorker (s : State) (w : Nat) : State :=
  let s1 := (if w < 64 then s else s.resetUdo (w - 64)).workerOffline w
  let s2 :=
    match (s1.worker w).task with
    | none => s1
    | some t =>
      match (s1.task t).kind with
      | .operator e _ _ _ => s1.failRun e 0x16 0xFFFF
      | _ => (s1.bump).killTask t w 0x16 (Config.resetCause s1.free).toNat 0
  if w < 64 then s2.setCore w (coreReset w) else s2

/-- Units enter a block reset, under the number of their class's source. -/
def State.enterReset (s : State) (src : Nat) (us : List Nat) : State :=
  let old := tget (fun _ => []) s.fcl.resets src
  let fresh := us.filter (fun u => !old.contains u)
  if fresh.isEmpty then s
  else
    let s1 := { s with fcl := { s.fcl with resets := tset (fun _ => []) s.fcl.resets src (old ++ fresh) } }
    if src = 1 then fresh.foldl (fun s p => s.setFld F.MEM_STATUS_CXL_UP (putBits (s.fld F.MEM_STATUS_CXL_UP) p 1 0)) s1
    else if src = 4 then fresh.foldl (fun s c => s.resetWorker c) s1
    else if 11 ≤ src ∧ src ≤ 13 then fresh.foldl (fun s u => s.resetWorker (u + 64)) s1
    else if 5 ≤ src ∧ src ≤ 10 then
      let s2 := fresh.foldl (fun s k => s.resetEngine (src - 5) k) s1
      if src = 8 then (s2.ctxs.foldl (fun s x => s.dropCtx x.1) s2).resetParked else s2
    else s1

/-- Units of an operator class. -/
def unitsOf (cls : Nat) : List Nat := (List.range 152).filter (fun u => decide (workerClass (u + 64) = cls))

/-- Every unit of an engine class or operator class, by its source. -/
def classBlock (src : Nat) : Nat × List Nat :=
  if 11 ≤ src then (src, unitsOf (src - 10)) else (src, List.range (if src = 8 then 33 else engineCount (src - 5)))

/-- The source whose class a control store serves (R241). -/
def storeSource (m u : Nat) : Nat := if m = 4 then 10 + workerClass (u + 64) else 5 + m

/-- Units served by the copy that a record of source 24 names (R264). -/
def copyBlocks (data : Nat) : List (Nat × List Nat) :=
  let m := data % 2 ^ 48 / 2 ^ 24
  let copy := data / 2 ^ 16 % 256
  let us := (List.range (unitCount m)).filter (fun u => decide (unitTile m u = copy))
  ((us.map (storeSource m)).eraseDups).map (fun src => (src, us.filter (fun u => decide (storeSource m u = src))))

/-- The CXL port that a record of source 1 names. -/
def portOf (data : Nat) : Nat := (data % 2 ^ 48 - 0x100000000000) / 2 ^ 40 % 4

/-- What a failing item of the in-service test resets (R419). -/
def itemBlocks (item : Nat) : List (Nat × List Nat) :=
  if item ≤ 5 then [classBlock (5 + item)]
  else if item = 6 then [classBlock 11, classBlock 12, classBlock 13]
  else if item = 9 then [classBlock 5, classBlock 6, classBlock 7, classBlock 8, classBlock 9]
  else []

/-- The units that source `k` resets; `recs` are the group's records. -/
def blocksOf (k : Nat) (recs : List FRec) : List (Nat × List Nat) :=
  let mine := recs.filter (fun r => decide (r.bit = k))
  if k = 1 then mine.map (fun r => (1, [portOf r.data.toNat]))
  else if k = 4 then mine.map (fun r => (4, [r.unit]))
  else if 5 ≤ k ∧ k ≤ 13 then [classBlock k]
  else if k = 22 then mine.flatMap (fun r => itemBlocks r.unit)
  else if k = 24 then mine.flatMap (fun r => copyBlocks r.data.toNat)
  else []

/-- An Ethernet port loses its link, and trains again (R419). -/
def State.portDown (s : State) (p : Nat) : State := s.setFld F.NET_STATUS_LINK (putBits (s.fld F.NET_STATUS_LINK) p 1 0)

/-- A block reset of source `k` (R419, R423): the Well and the card port start again, a port or a link retrains, the management core restarts its
firmware, and the units of other blocks are reset. -/
def State.blockReset (s : State) (recs : List FRec) (k : Nat) : State :=
  if k = 18 ∨ k = 19 then s.startup
  else if k = 26 then s.startCard
  else if k = 28 then (recs.filter (fun r => decide (r.bit = 28))).foldl (fun s r => s.portDown r.unit) s
  else if k = 29 then (recs.filter (fun r => decide (r.bit = 29))).foldl (fun s r => s.linkReset r.unit) s
  else if k = 34 then s.send .mgmtRestart
  else (blocksOf k recs).foldl (fun s b => s.enterReset b.1 b.2) s

/-- The item of the in-service test that holds the known-answer tests of a source's units; 11 for none (R419, R428). -/
def itemOfSource (src : Nat) : Nat := if 5 ≤ src ∧ src ≤ 10 then src - 5 else if 11 ≤ src ∧ src ≤ 13 then 6 else 11

/-- BLOCK_RESET_UNIT_RETURN (R423): unit `unit` of a block in reset has run its known-answer tests. -/
def execBlockResetUnitReturn (src : Fin 37) (unit : Fin 256) (pass : Bool) (s : State) : Out :=
  .next (s.live fun s =>
    if !s.inReset src unit then s
    else
      let l := (tget (fun _ => []) s.fcl.resets src).filter (· ≠ unit.val)
      let s1 := { s with fcl := { s.fcl with resets := tset (fun _ => []) s.fcl.resets src l } }
      if !pass then s1.latchUnit 22 (itemOfSource src)
      else if src = 1 then s1.setFld F.MEM_STATUS_CXL_UP (setBit (s1.fld F.MEM_STATUS_CXL_UP) unit)
      else if src = 4 then s1.workerOnline unit
      else if 11 ≤ src.val then s1.workerOnline (unit + 64)
      else s1.setOnline (src - 5) unit true)

/-! ## Reactions (R421, R422, R424) -/

/-- The 48-byte payload of a fault record's CQ entry (R427). -/
def FRec.entry (x : FRec) : List Byte := cqBytes 0 0xFF 0 3 0 0 x.bytes

/-- The records of the open group take EXEC and GROUP. -/
def closeRecs (exec n : Nat) (l : List FRec) : List FRec :=
  l.map (fun r => if r.open_ then { r with exec := exec, group := n, open_ := false } else r)

/-- Reactions 1 and 2: records to polder 0, MSI-X vector 0, the interrupt and the trap (R421). -/
def State.report (s : State) (exec k : Nat) (recs : List FRec) : State :=
  if exec = 0 then s
  else
    let s1 := (((recs.filter (·.queued)).foldl (fun s r => s.postRecord 0 r.entry) s).msix0).send (.mgmtInterrupt k)
    if exec ≥ 2 then s1.send (.mgmtTrap k) else s1

/-- FAULT_GROUP_RESOLVE (R422): the highest reaction of the group is executed once. -/
def execFaultGroupResolve (s : State) : Out :=
  .next (s.live fun s =>
    match s.fcl.group with
    | [] => s
    | (k, _) :: _ =>
      let g := s.fcl.group
      let exec := (g.map (fun x => effReact x.1 x.2)).foldl max 0
      let recs := closeRecs exec g.length s.fcl.groupRecs
      let s1 := { s with fcl := { s.fcl with group := [], groupRecs := [], recs := closeRecs exec g.length s.fcl.recs } }
      let s2 := s1.report exec k recs
      if exec = 3 then (g.filter (fun x => decide (effReact x.1 x.2 = 3))).foldl (fun s x => s.blockReset recs x.1) s2
      else if exec = 4 then s2.restart
      else s2)

/-! ## The collector's registers (R9, R425 to R427, R433) -/

/-- The cause of a source persists (R9, R117, R233, R419, R432). -/
def State.causePersists (s : State) (k : Nat) : Bool :=
  match k with
  | 18 => decide (s.ent.readyBad ≠ 0)
  | 19 => decide (s.ent.startBad ≠ 0) || s.ent.katBad
  | 20 => decide (s.fld F.EPC_STATUS_STATE = 3)
  | 21 => decide (s.fld F.EPC_STATUS_STATE = 4)
  | 23 => decide (s.fld F.TST_OVERDUE_ITEM ≠ 0)
  | 27 => (List.range 2).any (fun e => !(s.ep e).up)
  | 28 => (List.range 32).any (fun p => decide (s.fld (F.NET_PORT_CFG_EN p) = 1) && !bit (s.fld F.NET_STATUS_LINK) p)
  | 29 => (List.range 16).any (fun l => decide (s.fld (F.PER_CFG_EN l) = 1) && decide (s.linkState l ≠ 3))
  | 30 => s.power.warm
  | 31 => s.power.hot
  | 35 => s.keys.slots.any (fun e => e.2.stateful && decide (e.2.limit + 1 - e.2.cursor < s.fld F.DIG_LMS_LOW_LEAVES))
  | 36 => s.power.pwrFail
  | _ => false

/-- A write of 1s to FCL_STATUS: bits clear, and those whose cause persists latch again (R9, R426). -/
def State.clearStatus (s : State) (v : Nat) : State :=
  let old := s.fld F.FCL_STATUS_FAULT
  let gone := (List.range 37).filter (fun k => bit old k && bit v k)
  let s1 := s.setFld F.FCL_STATUS_FAULT (gone.foldl (fun m k => m - 2 ^ k) old)
  gone.foldl (fun s k => if s.causePersists k then s.latchHw k else s) s1

/-- FCL_STATUS_CLEAR (R426). -/
def execFclStatusClear (v : Word) (s : State) : Out := .next (s.unreset fun s => s.clearStatus v.toNat)

/-- A write of 1 to FCL_ERRN.ASSERTED (R426); the MRAM write waits for PWR_FAIL_N (R500). -/
def State.clearErrn (s : State) : State :=
  if s.fld F.FCL_STATUS_FAULT &&& s.fld F.FCL_ERRN_EN_EN ≠ 0 then s
  else if s.power.pwrFail then s.holdReg F.FCL_ERRN_ASSERTED.off 1
  else s.setFld F.FCL_ERRN_ASSERTED 0

/-- FCL_ERRN_CLEAR (R426). -/
def execFclErrnClear (s : State) : Out := .next (s.unreset fun s => s.clearErrn)

/-- FCL_REC_POP (R433). -/
def execFclRecPop (s : State) : Out := .next (s.unreset fun s => { s with fcl := { s.fcl with recs := s.fcl.recs.drop 1 } })

/-- What a write of FCL_REACTj leaves: a field of 5 to 7 keeps its value, and sources from 37 on are reserved (R421, R433). -/
def reactMerge (j old new : Nat) : Nat :=
  ((List.range 16).map (fun i =>
    let v := new / 2 ^ (4 * i) % 8
    if 16 * j + i ≥ 37 then 0 else (if v > 4 then old / 2 ^ (4 * i) % 8 else v) * 2 ^ (4 * i))).sum

/-- A write of FCL_REACTj (R421). -/
def State.writeReact (s : State) (j v : Nat) : State :=
  let f := F.FCL_REACT_REACT j
  let bad := (List.range 16).any (fun i => decide (16 * j + i < 37) && decide (v / 2 ^ (4 * i) % 8 > 4))
  let s1 := s.setReg f.off (BitVec.ofNat 64 (reactMerge j (s.reg f.off).toNat v))
  if bad then s1.setFld F.FCL_LOST_CFG_ERR 1 else s1

/-- FCL_REACT_WRITE (R421). -/
def execFclReactWrite (j : Fin 4) (v : Word) (s : State) : Out := .next (s.unreset fun s => s.writeReact j v.toNat)

/-! ## Links, the watchdog and temperature (R419, R514, R515) -/

/-- CXL_LINK_DOWN (R419): an error, or the loss of the link. The record names the port by its base address. -/
def execCxlLinkDown (p : Fin 4) (error : Bool) (s : State) : Out :=
  .next (s.unreset fun s =>
    let up := s.fld F.MEM_STATUS_CXL_UP
    let s1 := if error then s else s.setFld F.MEM_STATUS_CXL_UP (putBits up p 1 0)
    if bit up p then s1.latch 1 (hwCtrl s 0 1) (dataAddress (0x100000000000 + p * 2 ^ 40)) else s)

/-- MANAGEMENT_WATCHDOG_EXPIRY (R419). -/
def execManagementWatchdogExpiry (s : State) : Out := .next (s.unreset fun s => s.latchHw 34)

/-- The least and greatest junction temperature of the grade, in 1/16 °C (R1). -/
def State.tempRange (s : State) : Int × Int := if s.fld F.GLB_ID_GRADE = 2 then (-640, 1680) else (0, 1520)

/-- The temperature is beyond the range, or was and has not come back by 3 °C (R514). -/
def State.warmAt (s : State) (temp : Int) : Bool :=
  let r := s.tempRange
  let h : Int := if s.power.warm then 48 else 0
  decide (temp < r.1 + h) || decide (temp > r.2 - h)

/-- A source fires by its level: while the device is held in reset it latches into FCL_STICKY alone (R422). -/
def State.fireLevel (s : State) (k : Nat) : State := if s.running then s.latchHw k else s.stick k

/-- The sensors give a temperature, in reset too; the warning fires as it is crossed (R514). -/
def State.sense (s : State) (temp : Int) : State :=
  let s1 := { s with power := { s.power with temp := temp, warm := s.warmAt temp, hot := decide (temp > s.tempRange.2 + 160) } }
  if s1.power.warm && !s.power.warm then s1.fireLevel 30 else s1

/-- THERMAL_WARNING (R514). -/
def execThermalWarning (temp : Int) (s : State) : Out := .next (if s.power.main then (s.sense temp).repin else s)

/-- THERMAL_CRITICAL (R515): FCL_STICKY is written, THERMTRIP_N is driven, and every block is held in reset. -/
def execThermalCritical (temp : Int) (s : State) : Out :=
  .next (if !s.power.main then s else
    let s1 := s.sense temp
    if !s1.power.hot then s1.repin
    else if !s.running then (s1.stick 31).repin
    else s1.trip.repin)

/-! ## The in-service test (R428 to R432) -/

/-- The engine class and unit that a unit of an item is; item 9 counts them through (R428). -/
def testUnit (item unit : Nat) : Option (Nat × Nat) :=
  if item ≤ 5 then some (item, unit)
  else if item = 9 then
    if unit < 32 then some (0, unit) else if unit < 36 then some (1, unit - 32) else if unit < 52 then some (2, unit - 36)
    else if unit < 84 then some (3, unit - 52) else if unit < 100 then some (4, unit - 84)
    else if unit = 100 then some (3, 32) else none
  else none

/-- Units of an item; a bank is 32 times its slice plus its number. -/
def itemUnits (item : Nat) : List Nat :=
  match item with
  | 0 => List.range 32
  | 1 => List.range 4
  | 2 => List.range 16
  | 3 => List.range 32
  | 4 => List.range 16
  | 5 => List.range 8
  | 6 => List.range 152
  | 7 => (List.range 512).filter (fun b => decide (b % 32 < 17))
  | 8 => List.range 10
  | 9 => List.range 101
  | 10 => List.range 8
  | _ => []

/-- A unit of an item is out of use, and a pass does not wait for it. -/
def State.itemOff (s : State) (item u : Nat) : Bool :=
  match testUnit item u with
  | some (cls, k) => !bit (s.onlineMask cls) k
  | none =>
    if item = 6 then s.workerOff (u + 64)
    else if item = 7 then decide (s.fld (F.TST_BANK_RETIRED (u / 32)) = 1)
    else if item = 10 then !bit (s.fld F.RNG_STATUS_HEALTHY) u
    else false

/-- An item is overdue once its edge has come without a pass: bit 23 latches (R432). -/
def State.overdueNow (s : State) (item : Nat) : State :=
  let iv := s.fld (F.TST_INTERVAL_TICKS item)
  if iv ≠ 0 ∧ s.epoch.leftNoref ∧ s.counting ∧ s.tick ≥ s.fld (F.TST_LAST_TICK item) + iv ∧ !bit (s.fld F.TST_OVERDUE_ITEM) item then
    (s.setFld F.TST_OVERDUE_ITEM (setBit (s.fld F.TST_OVERDUE_ITEM) item)).latchHw 23
  else s

/-- A unit passes; once every unit of the item has, the pass is complete; one completed after the overdue edge finds bit 23 latched (R432). -/
def State.testPass (s : State) (item u : Nat) : State :=
  let l := tget (fun _ => []) s.test.passDone item
  let l1 := if l.contains u then l else l ++ [u]
  let full := (itemUnits item).all (fun x => l1.contains x || s.itemOff item x)
  let s1 := { s with test := { s.test with passDone := tset (fun _ => []) s.test.passDone item (if full then [] else l1) } }
  if full then
    let s2 := s1.overdueNow item
    (s2.setFld (F.TST_LAST_TICK item) s.tick).setFld F.TST_OVERDUE_ITEM (putBits (s2.fld F.TST_OVERDUE_ITEM) item 1 0)
  else s1

/-- TST_FAIL takes the first failure (R431, R434). -/
def State.testFail (s : State) (item u : Nat) : State :=
  if s.fld F.TST_FAIL_V = 1 then s
  else ((s.setFld F.TST_FAIL_V 1).setFld F.TST_FAIL_ITEM item).setFld F.TST_FAIL_UNIT (if item = 6 then u + 64 else u)

/-- A unit fails its test (R431). -/
def State.testFails (s : State) (item u : Nat) : State :=
  let s1 := s.testFail item u
  if item = 10 then s1.excludeSource u
  else if item = 8 then s1.selfResult u false
  else
    let s2 := match testUnit item u with
      | some (cls, k) => s1.setOnline cls k false
      | none => if item = 6 then s1.workerOffline (u + 64) else s1
    s2.latchUnit 22 item

/-- A unit is idle and has nothing to do (R428). -/
def State.testIdle (s : State) (item u : Nat) : Bool :=
  match testUnit item u with
  | some (cls, k) => (s.jobQueue cls).isEmpty && s.engineFree cls k
  | none =>
    if item = 6 then (s.worker (u + 64)).task.isNone && !s.workerOff (u + 64) && !s.workerFrozen (u + 64) else true

/-- A test job runs on an engine, or has ended. -/
def State.setTesting (s : State) (item u : Nat) (on : Bool) : State :=
  match testUnit item u with
  | none => s
  | some p =>
    let l := s.test.running.filter (· ≠ p)
    { s with test := { s.test with running := if on then l ++ [p] else l } }

/-- TEST_ITEM_RUN (R428, R431): a test starts on an idle unit, or with `result` ends there. Item 7 is BANK_ROTATION_STEP's. -/
def execTestItemRun (item : Fin 11) (unit : Fin 256) (result : Option Bool) (s : State) : Out :=
  .next (s.unreset fun s =>
    let on := match testUnit item unit with | some p => s.test.running.contains p | none => false
    if s.fld F.TST_CTRL_EN = 0 ∨ item = 7 ∨ !(itemUnits item).contains unit ∨ !(on || s.testIdle item unit) ∨ s.itemOff item unit then s
    else
      match result with
      | none => s.setTesting item unit true
      | some p =>
        let s1 := s.setTesting item unit false
        if p then (if item = 8 then s1.selfResult unit true else s1).testPass item unit else s1.testFails item unit)

/-- TEST_ABANDON (R429): a test job yields to a job queued for its class. -/
def execTestAbandon (cls : Fin 8) (unit : Fin 32) (s : State) : Out :=
  .next (s.unreset fun s =>
    if s.test.running.contains (cls.val, unit.val) ∧ cls.val ≠ 4 ∧ cls.val ≠ 5 ∧ !(s.jobQueue cls).isEmpty ∧ (s.engineFor cls).isNone then
      ({ s with test := { s.test with running := s.test.running.filter (· ≠ (cls.val, unit.val)) } }).incFld F.TST_ABANDON_COUNT
    else s)

/-- BANK_ROTATION_STEP (R430): the spare of slice `k` takes over a bank, which is tested. -/
def execBankRotationStep (k : Fin 16) (bank : Fin 17) (pass : Bool) (s : State) : Out :=
  .next (s.unreset fun s =>
    if s.fld F.TST_CTRL_EN = 0 ∨ s.fld (F.TST_BANK_RETIRED k) = 1 ∨ s.fld (F.TST_BANK_SPARE k) = bank then s
    else
      let s1 := s.setFld (F.TST_BANK_SPARE k) bank
      if pass then s1.testPass 7 (32 * k + bank)
      else ((s1.setFld (F.TST_BANK_RETIRED k) 1).testFail 7 k).latchUnit 22 7)

/-- TEST_OVERDUE (R432). -/
def execTestOverdue (item : Fin 11) (s : State) : Out :=
  .next (s.unreset fun s => s.overdueNow item)

end Sys2Proof.Machine
end

