-- ==== Sys2Proof/Machine/Operators.lean ====
section
/-!
DEFINITION. Sys2Proof/Machine/Operators.lean: the operators of pipelines (R347 to R401): what each does with a block or a batch, what it
emits once its input has ended, and the pipeline runtime's own steps (R354 to R356, R366, R372).
-/

namespace Sys2Proof.Machine

/-- An operator's task works; entries it has freed may be granted to peers again (R394). -/
def State.opStep (s : State) (w code : Nat) (work : OpEnv → JobM OpOut) : State :=
  match s.opTask w code with
  | none => s
  | some _ => (s.workOp w code work).exAll

/-- A change of the operator's own state. -/
def opUpd (v : OpEnv) (f : OpRun → OpRun) : JobM Unit := act (fun s => s.setOpRun v.e v.op (f (s.opRun v.e v.op)))

/-! ## Strings (R314, R352) -/

/-- The string of a code in the dictionary at address `d` (R314, R352); `rd` reads. -/
def readStr (rd : Nat → Nat → JobM (List Byte)) (d code : Nat) : JobM (List Byte) := do
  let n ← rd (d - 180) 4
  let o ← rd (d + 4 * code) 8
  rd (d + 4 * (leAt n 0 4 + 1) + leAt o 0 4) (leAt o 4 4 - leAt o 0 4)

/-- The strings of a list of codes. -/
def readStrs (rd : Nat → Nat → JobM (List Byte)) (d : Nat) : List Nat → JobM (List (List Byte))
  | [] => pure []
  | c :: t => do
    let x ← readStr rd d c
    let r ← readStrs rd d t
    pure (x :: r)

/-- Which of a column's values a predicate accepts (R360). -/
def predCol (rd rdK : Nat → Nat → JobM (List Byte)) (p : Pred) (ty dict : Nat) (vals : List Nat) : JobM (List Bool) := do
  if ty = 13 then
    let k ← rdK p.k1 p.slen
    let strs ← readStrs rd dict vals
    pure (strs.map (fun x => p.holdsStr x k))
  else pure (vals.map (p.holds ty))

/-- The truths of every predicate, element by element; `col` gives a predicate's column as type, dictionary and values. -/
def predCols (rd rdK : Nat → Nat → JobM (List Byte)) (col : Nat → Nat × Nat × List Nat) : List Pred → JobM (List (List Bool))
  | [] => pure []
  | p :: t => do
    let c := col p.column
    let x ← predCol rd rdK p c.1 c.2.1 c.2.2
    let r ← predCols rd rdK col t
    pure (x :: r)

/-! ## SCAN (R361 to R364) -/

/-- What a SCAN reads of a block's column: type, dictionary address, values. -/
structure ScanCol where
  col : Nat
  ty : Nat
  dict : Nat
  vals : List Nat
  deriving DecidableEq, Repr

/-- A SCAN's read for a block (R363, R364, R410): an uncorrectable error gives none, and latches its source with the block's data word. -/
def scanRead (v : OpEnv) (data : Word) (a len : Nat) : JobM (Option (List Byte)) := do
  if len = 0 then return some []
  let s ← get
  match s.dikeCheck v.m a len .read false with
  | some p =>
    set (s.refuse v.m v.ctrl .read p true true)
    throw .frozen
  | none =>
    match s.poisoned a len with
    | some w =>
      set (s.latch (eccSource w) v.ctrl data)
      pure none
    | none => pure (some (s.bytes a len))

/-- A read of a SCAN's block; a lost block ends the scan of it, by the status 0xFF that `scanBlock` takes up. -/
def scanNeed (v : OpEnv) (data : Word) (a len : Nat) : JobM (List Byte) := do
  match ← scanRead v data a len with
  | some l => pure l
  | none => throw (.status 0xFF 0)

/-- No value of a FOR or DICT block can meet a predicate (R363). -/
def cannotHold (p : Pred) (ty : Nat) (hdr : List Byte) (dict : List Nat) : Bool :=
  let enc := leAt hdr 0 1
  let w := leAt hdr 1 1
  let base := elemInt ty (leAt hdr 8 8 % 2 ^ (8 * natWidth ty))
  let top := base + (2 ^ w : Nat) - 1
  let k := elemInt ty (p.k1 % 2 ^ (8 * natWidth ty))
  let k2 := elemInt ty (p.k2 % 2 ^ (8 * natWidth ty))
  if ty = 13 ∨ p.neg then false
  else if enc = 2 ∧ !tyFloat ty then
    match p.op with
    | 0 => decide (k < base) || decide (k > top)
    | 2 => decide (base ≥ k)
    | 3 => decide (base > k)
    | 4 => decide (top ≤ k)
    | 5 => decide (top < k)
    | 6 => decide (top < k) || decide (base > k2)
    | _ => false
  else if enc = 5 then dict.all (fun x => !p.holds ty x)
  else false

/-- A DBS block is decoded by a compression lane, as a job that is waited for while no lane takes work (R343, R346, R363). -/
def laneDecode (len : Nat) : JobM Unit := do
  let s ← get
  if (s.engineFor 5).isNone then throw .wait
  act (fun s => (s.incFld F.CMP_COMPLETED_COUNT).addFld F.CMP_BYTES_COUNT len)

/-- One column of a block (R298, R314 to R316, R362): the PLAIN form of an open segment or the block of a column segment; none for a
LOST block. -/
def scanColumn (v : OpEnv) (x : Table) (g : Seg) (t c i : Nat) : JobM (Option ScanCol) := do
  let data := dataBlock t c g.num i
  let ty := x.ty c
  if g.enc.isEmpty then
    let n := rowsOf g.rows i
    let l ← scanNeed v data (g.plainAt x c (4096 * i)) (n * natWidth ty)
    act (fun s => s.addFld F.OPU_BYTES_COUNT l.length)
    pure (some { col := c, ty := ty, dict := if ty = 13 then g.colBase c + openDict + 192 else 0,
                 vals := unpack (8 * natWidth ty) n (leNat l) })
  else
    let base := (g.enc.getD c ([], 0)).1.headD 0
    let hdr ← scanNeed v data base 192
    let h := parseCol hdr
    let dl := if ty = 13 then 0 else h.dictLen * natWidth ty
    let dict ← scanNeed v data (base + 192) dl
    let e := h.dir.getD i (0, 0)
    let b ← scanNeed v data (base + e.1) e.2
    act (fun s => s.addFld F.OPU_BYTES_COUNT b.length)
    if leAt b 0 1 = 6 then laneDecode b.length
    match (if leAt b 0 1 = 7 then none else decBlock h.ty (numDictOf (hdr ++ dict) h) b) with
    | some vs => pure (some { col := c, ty := ty, dict := if ty = 13 then base + 192 else 0, vals := vs })
    | none => pure none

/-- Several columns of a block; none where one is LOST. -/
def scanColumns (v : OpEnv) (x : Table) (g : Seg) (t i : Nat) : List Nat → JobM (Option (List ScanCol))
  | [] => pure (some [])
  | c :: r => do
    match ← scanColumn v x g t c i with
    | none => pure none
    | some a =>
      match ← scanColumns v x g t i r with
      | none => pure none
      | some l => pure (some (a :: l))

/-- A block is skipped where a predicate that stands alone in its clause cannot hold in it (R363). -/
def scanSkips (v : OpEnv) (x : Table) (g : Seg) (t i : Nat) (preds : List Pred) : List Pred → JobM Bool
  | [] => pure false
  | p :: r => do
    let alone := decide ((preds.filter (fun q => decide (q.clause = p.clause))).length = 1)
    if g.enc.isEmpty || !alone || p.neg then scanSkips v x g t i preds r
    else
      let data := dataBlock t p.column g.num i
      let ty := x.ty p.column
      let base := (g.enc.getD p.column ([], 0)).1.headD 0
      let hdr ← scanNeed v data base 192
      let h := parseCol hdr
      let bh ← scanNeed v data (base + (h.dir.getD i (0, 0)).1) 16
      let dict ← if leAt bh 0 1 = 5 ∧ ty ≠ 13 then scanNeed v data (base + 192) (h.dictLen * natWidth ty) else pure []
      if cannotHold p ty bh (numDictOf (hdr ++ dict) h) then
        act (fun s => s.addFld F.OPU_BYTES_COUNT 16)
        pure true
      else scanSkips v x g t i preds r

/-- Columns in order, each once. -/
def onceEach (l : List Nat) : List Nat := l.foldl (fun a c => if a.contains c then a else a ++ [c]) []

/-- The rows of a block of a segment whose APPEND has completed (R307, R362). -/
def visibleRows (g : Seg) (i n : Nat) : List Nat :=
  (List.range n).filter (fun r => !g.hidden.any (fun h => decide (h.2.1 ≤ 4096 * i + r) && decide (4096 * i + r < h.2.1 + h.2.2)))

/-- A SCAN's block, once its columns are read: the predicates, and the batch (R352, R360, R363). -/
def scanEmit (v : OpEnv) (p : ScanPar) (g : Seg) (i : Nat) (cols : List ScanCol) : JobM OpOut := do
  let col := fun (c : Nat) => match cols.find? (fun x => decide (x.col = c)) with | some x => (x.ty, x.dict, x.vals) | none => (1, 0, [])
  let n := rowsOf g.rows i
  let truth ← predCols (scanNeed v (dataBlock p.table 0 g.num i)) (readOp v.m v.ctrl) col p.preds
  let sel := (visibleRows g i n).filter (fun r => selected p.preds (fun k => (truth.getD k []).getD r false))
  if sel.isEmpty then pure (none, [])
  else
    let mk : Nat → BCol := fun c =>
      let x := col c
      { src := c, ty := x.1, dict := x.2.1, vals := if p.dense then sel.map (fun r => x.2.2.getD r 0) else x.2.2 }
    pure (some { coord := (dataBlock p.table 0 g.num i).toNat, rows := n, sel := sel, dense := p.dense, cols := p.out.map mk }, [])

/-- A SCAN task's block (R363), of the segment in its form at the task's dispatch (R15, R362). -/
def scanBlock (v : OpEnv) : JobM OpOut := do
  let p := parseScan v.o.params
  let s ← get
  let x := s.table p.table
  let i := v.item % 16
  let snap := (s.run v.e).snaps.find? (fun y => decide (y.1 = 256 * v.item + v.op))
  match (snap.map (fun y => y.2)).or (x.seg (v.item / 16)) with
  | none => pure (none, [])
  | some g =>
    if ← scanSkips v x g p.table i p.preds p.preds then pure (none, [])
    else
      match ← scanColumns v x g p.table i (onceEach (p.preds.map (·.column) ++ p.out)) with
      | some cols => scanEmit v p g i cols
      | none => throw (.status 0xFF 0)

/-- A lost or unreadable block: skipped and counted with SKIPLOST, else the run fails (R364, R365). -/
def scanWork (v : OpEnv) : JobM OpOut := do
  let s ← get
  let r := (scanBlock v).run.run s
  set r.2
  match r.1 with
  | .ok o => pure o
  | .error (.status 0xFF _) =>
    if (parseScan v.o.params).skipLost then
      act (fun s => let a := s.run v.e; (s.setRun v.e { a with skipped := a.skipped + 1 }).incFld F.OPU_SKIPPED_LOSTBLK)
      pure (none, [])
    else throw (.status 0x16 0xFFFC)
  | .error x => throw x

/-- SCAN (R363). -/
def execScan (w : WorkerId) (s : State) : Out := .next (s.unreset fun s => s.opStep w 1 scanWork)

/-! ## FILTER, PROJECT, SINK, SEAL (R367 to R370) -/

/-- FILTER's work (R367). -/
def filterWork (v : OpEnv) : JobM OpOut := do
  let b ← readBatch v
  need (filterOk v.o.params (some b.types)) 0x12
  let ps := (List.range (leAt v.o.params 0 1)).map (fun i => parsePred v.o.params (16 + 32 * i))
  let col := fun (c : Nat) => let x := b.cols.getD c { src := 0xFF, ty := 1, vals := [] }; (x.ty, x.dict, x.vals)
  let truth ← predCols (readOp v.m v.ctrl) (readOp v.m v.ctrl) col ps
  let keep := fun (e : Nat) => selected ps (fun k => (truth.getD k []).getD e false)
  let ids := List.range b.sel.length
  let kept := ids.filter (fun i => keep (if b.dense then i else b.sel.getD i 0))
  if kept.isEmpty then pure (none, [])
  else
    let cut : BCol → BCol := fun c => if b.dense then { c with vals := kept.map (fun i => c.vals.getD i 0) } else c
    pure (some { b with sel := kept.map (fun i => b.sel.getD i 0), cols := b.cols.map cut }, [])

/-- FILTER (R367). -/
def execFilter (w : WorkerId) (s : State) : Out := .next (s.unreset fun s => s.opStep w 2 filterWork)

/-- One output column of a PROJECT, over the selected rows (R368). -/
def projColumn (b : Batch) (p : ProjItem) : BCol :=
  let ca := b.cols.getD p.a { src := 0xFF, ty := 1, vals := [] }
  let va := b.colSel ca
  let vb := if p.b = 0xFF then va.map (fun _ => p.k % 2 ^ (8 * natWidth p.ty))
    else let cb := b.cols.getD p.b { src := 0xFF, ty := 1, vals := [] }; (b.colSel cb).map (convTo cb.ty p.ty)
  if p.ty = 13 then { src := ca.src, ty := 13, dict := ca.dict, vals := va }
  else if p.fn = 0 ∨ p.fn = 7 then { src := if p.fn = 0 ∧ ca.ty = p.ty then ca.src else 0xFF, ty := p.ty, vals := va.map (convTo ca.ty p.ty) }
  else { src := 0xFF, ty := p.ty, vals := (va.zip vb).map (fun q => projFn p.fn p.ty (convTo ca.ty p.ty q.1) q.2) }

/-- PROJECT's work (R368). -/
def projectWork (v : OpEnv) : JobM OpOut := do
  let b ← readBatch v
  need (projOk v.o.params (some b.types)) 0x12
  let cols := (parseProj v.o.params).map (projColumn b)
  if b.sel.isEmpty then pure (none, []) else pure (some { b with dense := true, cols := cols }, [])

/-- PROJECT (R368). -/
def execProject (w : WorkerId) (s : State) : Out := .next (s.unreset fun s => s.opStep w 3 projectWork)

/-- The batch in DENSE form (R352, R369). -/
def Batch.toDense (b : Batch) : Batch := { b with dense := true, cols := b.cols.map (fun c => { c with vals := b.colSel c }) }

/-- SINK's work (R369). -/
def sinkWork (v : OpEnv) : JobM OpOut := do
  let b ← readBatch v
  let s ← get
  let r := s.run v.e
  let l := b.toDense.bytes
  need (decide (r.sinkUsed + l.length ≤ r.sinkCap)) 0x04
  checkOut v.m v.ctrl (r.sinkAddr + r.sinkUsed) l.length
  act (fun s => let r := s.run v.e; (s.store r.polder (r.sinkAddr + r.sinkUsed) l).setRun v.e { r with sinkUsed := r.sinkUsed + l.length })
  pure (none, [])

/-- SINK (R369). -/
def execSink (w : WorkerId) (s : State) : Out := .next (s.unreset fun s => s.opStep w 13 sinkWork)

/-- SEAL (R370): the task issues a TBL_SEAL, and ends when that job completes; with the job table full it tries again. -/
def execSeal (w : WorkerId) (s : State) : Out :=
  .next (s.unreset fun s =>
    match s.opTask w 17 with
    | none => s
    | some v =>
      if !(s.taskJobs v.t).isEmpty then s else
      match s.freeEntry with
      | none => s
      | some e => s.enqueue e { s.newJob w v.t 5 0x43 31 0 (leAt v.o.params 0 2) with inner := true, worker := w })

/-! ## Joins (R374, R380 to R383) -/

/-- The key values of a row, canonical (R374). -/
def keyOf (tys key row : List Nat) : List Nat := key.map (fun c => canon (tys.getD c 0) (row.getD c 0))

/-- The hash of key values (R375). -/
def hashOf (tys key kv : List Nat) : Nat := keyHash (keyBytes (key.map (fun c => tys.getD c 0)) kv)

/-- Bytes of a build entry (R380). -/
def buildSize (tys : List Nat) (p : AggPar) : Nat :=
  alignUp (8 + 8 * cdiv (keyWidth tys p.key) 8 + (p.pay.map (fun c => natWidth (tys.getD c 0))).sum) 8

/-- The first spilled partition by the stage of a spill: 16 for none (R382). -/
def spillFrom (stage : Nat) : Nat := match stage with | 0 => 16 | 1 => 8 | 2 => 4 | 3 => 2 | 4 => 1 | _ => 0

/-- A hash lies in a spilled partition. -/
def spilledAt (stage h : Nat) : Bool := decide (spillFrom stage ≤ bits h 59 56)

/-- The entries of a build or a group that are resident in a slice. -/
def residentIn (l : List Grp) (stage slice : Nat) : Nat :=
  (l.filter (fun g => !spilledAt stage g.hash && decide (bits g.hash 63 60 = slice))).length

/-- The table granules of every slice are there for the resident entries; none at the first refusal (R379). -/
def State.growAll (s : State) (v : OpEnv) (l : List Grp) (stage size : Nat) : Option State :=
  (List.range 16).foldl (fun o k =>
    match o with
    | none => none
    | some s => s.growTable (s.run v.e).polder v.e v.op k (residentIn l stage k * size)) (some s)

/-- HBUILD's table after a batch: partitions are spilled until the rest is granted, and their entries move to AREA (R382). -/
def buildGrow (v : OpEnv) (p : AggPar) (size : Nat) : Nat → JobM Unit
  | 0 => throw (.status 0x04 0)
  | f + 1 => do
    let s ← get
    let x := s.opRun v.e v.op
    match s.growAll v x.groups x.spilled size with
    | some s1 => set s1
    | none =>
      let moved := x.groups.filter (fun g => !spilledAt x.spilled g.hash && spilledAt (x.spilled + 1) g.hash)
      opUpd v (fun x => { x with spilled := x.spilled + 1 })
      let _ ← moved.mapM (fun g => areaPut v p (fitLen size (g.key.flatMap (leBytes 8) ++ g.row.flatMap (leBytes 8))))
      buildGrow v p size f

/-- One row enters HBUILD's table: with DUP 0 the greatest payload of a key stays (R380). -/
def buildRow (v : OpEnv) (tys : List Nat) (p : AggPar) (size : Nat) (row : List Nat) : JobM Unit := do
  let kv := keyOf tys p.key row
  let h := hashOf tys p.key kv
  let pt := p.pay.map (fun c => tys.getD c 0)
  let pay := p.pay.map (fun c => row.getD c 0)
  let s ← get
  let x := s.opRun v.e v.op
  if spilledAt x.spilled h then areaPut v p (fitLen size (kv.flatMap (leBytes 8) ++ pay.flatMap (leBytes 8)))
  let old := x.groups.find? (fun g => decide (g.key = kv))
  match old with
  | some g =>
    if p.flags = 0 then
      let best := if bytesLt (rowBytes pt g.row) (rowBytes pt pay) then pay else g.row
      opUpd v (fun x => { x with dropped := x.dropped + 1, groups := x.groups.map (fun y => if y.key = kv then { y with row := best } else y) })
    else opUpd v (fun x => { x with groups := x.groups ++ [{ key := kv, hash := h, row := pay }] })
  | none => opUpd v (fun x => { x with groups := x.groups ++ [{ key := kv, hash := h, row := pay }] })

/-- Rows are taken one after another. -/
def eachRow (f : List Nat → JobM Unit) : List (List Nat) → JobM Unit
  | [] => pure ()
  | r :: t => do
    f r
    eachRow f t

/-- HBUILD's work (R374, R380, R382). -/
def hbuildWork (v : OpEnv) : JobM OpOut := do
  let b ← readBatch v
  checkTypes v b (aggTypesOk 4 v.o.params)
  let p := parseAgg v.o.params
  let size := buildSize b.types p
  eachRow (buildRow v b.types p size) b.rowList
  buildGrow v p size 6
  pure (none, [])

/-- HBUILD (R380). -/
def execHbuild (w : WorkerId) (s : State) : Out := .next (s.unreset fun s => s.opStep w 4 hbuildWork)

/-- The rows a probe row emits against the matching payloads; `zero` is a payload of zeros (R381). -/
def probeRows (join : Nat) (zero row : List Nat) (hits : List (List Nat)) : List (List Nat) :=
  match join with
  | 0 => hits.map (fun p => row ++ p)
  | 1 => if hits.isEmpty then [] else [row]
  | 2 => if hits.isEmpty then [row] else []
  | _ => if hits.isEmpty then [row ++ zero ++ [0]] else hits.map (fun p => row ++ p ++ [1])

/-- The output types of an HPROBE (R381). -/
def probeTypes (join : Nat) (tys pay : List Nat) : List Nat :=
  if join = 0 then tys ++ pay else if join = 3 then tys ++ pay ++ [12] else tys

/-- Types that a build's payload has; the payload of a build without input has none. -/
def payTypes (build : OpRun) (q : AggPar) : List Nat := let t := build.types.getD []; q.pay.map (fun c => t.getD c 1)

/-- One probe row: emitted rows, or it goes to AREA where its partition is spilled (R381, R382). -/
def probeRow (v : OpEnv) (tys : List Nat) (p : AggPar) (build : OpRun) (zero row : List Nat) : JobM (List (List Nat)) := do
  let kv := keyOf tys p.key row
  if spilledAt build.spilled (hashOf tys p.key kv) then
    areaPut v p (rowBytes tys row)
    opUpd v (fun x => { x with area := x.area ++ [row] })
    pure []
  else pure (probeRows p.flags zero row ((build.groups.filter (fun g => decide (g.key = kv))).map (·.row)))

/-- Rows of several inputs, one after another. -/
def mapRows (f : List Nat → JobM (List (List Nat))) : List (List Nat) → JobM (List (List Nat))
  | [] => pure []
  | r :: t => do
    let a ← f r
    let b ← mapRows f t
    pure (a ++ b)

/-- The build key's types equal the probe key's (R381). -/
def keysMatch (tys key btys bkey : List Nat) : Bool := decide (key.map (fun c => tys.getD c 0) = bkey.map (fun c => btys.getD c 0))

/-- The build side of an HPROBE: its state and block. -/
def buildSide (v : OpEnv) : JobM (OpRun × AggPar) := do
  let s ← get
  let r := s.run v.e
  let q := match opAt r.ops v.o.in1 with | some b => parseAgg b.params | none => parseAgg []
  pure (r.op v.o.in1, q)

/-- HPROBE's work (R381). -/
def hprobeWork (v : OpEnv) : JobM OpOut := do
  let b ← readBatch v
  checkTypes v b (aggTypesOk 5 v.o.params)
  let p := parseAgg v.o.params
  let side ← buildSide v
  need ((match side.1.types with | some t => keysMatch b.types p.key t side.2.key | none => true) &&
    decide ((probeTypes p.flags b.types (payTypes side.1 side.2)).length ≤ 32)) 0x12
  let rows ← mapRows (probeRow v b.types p side.1 (side.2.pay.map (fun _ => 0))) b.rowList
  rowsOut v (probeTypes p.flags b.types (payTypes side.1 side.2)) rows

/-- HPROBE (R381). -/
def execHprobe (w : WorkerId) (s : State) : Out := .next (s.unreset fun s => s.opStep w 5 hprobeWork)

/-- Bytes of a stored reference row (R383). -/
def refSize (tys : List Nat) (nkey : Nat) : Nat :=
  16 + 8 * cdiv ((tys.take nkey).map natWidth).sum 8 + alignUp ((tys.drop (nkey + 1)).map natWidth).sum 8

/-- One reference row of an ASOF (R383): `row` of the entry is the time and the payload. -/
def refRow (v : OpEnv) (tys : List Nat) (n : Nat) (row : List Nat) : JobM Unit := do
  let key := List.range n
  let kv := keyOf tys key row
  let h := hashOf tys key kv
  let s ← get
  let x := s.opRun v.e v.op
  let rest := row.drop n
  let pt := tys.drop (n + 1)
  match x.groups.find? (fun g => decide (g.key = kv) && decide (g.row.headD 0 = rest.headD 0)) with
  | some g =>
    let best := if bytesLt (rowBytes pt (g.row.drop 1)) (rowBytes pt (rest.drop 1)) then rest else g.row
    opUpd v (fun x => { x with dropped := x.dropped + 1, groups := x.groups.map (fun y => if y.key = kv ∧ y.row.headD 0 = rest.headD 0 then { y with row := best } else y) })
  | none => opUpd v (fun x => { x with groups := x.groups ++ [{ key := kv, hash := h, row := rest }] })

/-- The stored row a probe row matches: the latest at or before its time, within TOL (R383). -/
def asofMatch (tty tol : Nat) (t : Int) (l : List Grp) : Option Grp :=
  let ok := l.filter (fun g => let r := elemInt tty (g.row.headD 0); decide (r ≤ t) && (decide (tol = 2 ^ 64 - 1) || decide (t - r ≤ tol)))
  ok.foldl (fun b g =>
    match b with
    | none => some g
    | some c => if elemInt tty (c.row.headD 0) < elemInt tty (g.row.headD 0) then some g else b) none

/-- One probe row of an ASOF (R383). -/
def asofRow (v : OpEnv) (tys : List Nat) (p : AggPar) (zero row : List Nat) : JobM (List (List Nat)) := do
  let s ← get
  let x := s.opRun v.e v.op
  let kv := keyOf tys p.key row
  let tty := tys.getD p.tcol 0
  match asofMatch tty p.p0 (elemInt tty (row.getD p.tcol 0)) (x.groups.filter (fun g => decide (g.key = kv))) with
  | some g => pure [row ++ g.row ++ (if p.flags = 1 then [1] else [])]
  | none =>
    if p.flags = 1 then pure [row ++ zero ++ [0]]
    else
      opUpd v (fun x => { x with dropped := x.dropped + 1 })
      pure []

/-- Both sides' types fit each other, as far as both are known (R383). -/
def asofFits (p : AggPar) (t0 t1 : Option (List Nat)) : Bool :=
  match t0, t1 with
  | some a, some b => decide ((p.key ++ [p.tcol]).map (fun c => a.getD c 0) = b.take (p.nkey + 1)) && decide (a.length + (b.length - p.nkey) + p.flags ≤ 32)
  | _, _ => true

/-- ASOF's work: reference batches on IN1, probe batches on IN0 (R383). -/
def asofWork (v : OpEnv) : JobM OpOut := do
  let b ← readBatch v
  let p := parseAgg v.o.params
  let ref := decide (v.item ≥ 256)
  checkTypes v b (fun t => if ref then decide (p.nkey + 1 ≤ t.length) && decide (((t.take p.nkey).map natWidth).sum ≤ 32)
    else aggTypesOk 6 v.o.params t)
  let s ← get
  let x := s.opRun v.e v.op
  need (asofFits p x.types x.types1) 0x12
  if ref then
    eachRow (refRow v b.types p.nkey) b.rowList
    let s1 ← get
    let y := s1.opRun v.e v.op
    match s1.growAll v y.groups 0 (refSize b.types p.nkey) with
    | some s2 =>
      set s2
      pure (none, [])
    | none => throw (.status 0x04 0)
  else
    let t1 := x.types1.getD (((p.key ++ [p.tcol]).map (fun c => b.types.getD c 0)))
    let extra := t1.drop p.nkey
    let rows ← mapRows (asofRow v b.types p (extra.map (fun _ => 0))) b.rowList
    rowsOut v (b.types ++ extra ++ (if p.flags = 1 then [12] else [])) rows

/-- ASOF (R383). -/
def execAsof (w : WorkerId) (s : State) : Out := .next (s.unreset fun s => s.opStep w 6 asofWork)

/-! ## Grouping (R384 to R389) -/

/-- The value of least or greatest order that MIN and MAX keep; a NaN only until a value comes (R384). -/
def minMax (big : Bool) (ty old new : Nat) : Nat :=
  let nan := fun v => tyFloat ty && fpNan ty v
  if nan new then old
  else if nan old then new
  else if (if big then decide (ordVal ty new old > 0) else decide (ordVal ty new old < 0)) then new else old

/-- A sum takes a value (R384). -/
def sumAdd (ty acc v : Nat) : Nat := if tyFloat ty then fpAdd 10 acc (convTo ty 10 v) else wrap 64 (sx 64 acc + elemInt ty v)

/-- An aggregate's accumulator takes a row (R384). -/
def aggStep (tys : List Nat) (it : Nat × Nat × Nat) (acc row : List Nat) : List Nat :=
  let ta := tys.getD it.2.1 0
  let tb := tys.getD it.2.2 0
  let a := row.getD it.2.1 0
  let b := row.getD it.2.2 0
  let c := acc.getD 0 0
  match it.1 with
  | 0 => [(c + 1) % 2 ^ 64]
  | 1 => [sumAdd ta c a]
  | 2 => if acc.isEmpty then [a] else [minMax false ta c a]
  | 3 => if acc.isEmpty then [a] else [minMax true ta c a]
  | 4 => [sumAdd ta c a, (acc.getD 1 0 + 1) % 2 ^ 64]
  | 5 =>
    let t := acc.getD 1 0
    if acc.isEmpty ∨ elemInt tb b < elemInt tb t ∨ (b = t ∧ a < c) then [a, b] else acc
  | 6 =>
    let t := acc.getD 1 0
    if acc.isEmpty ∨ elemInt tb b > elemInt tb t ∨ (b = t ∧ a > c) then [a, b] else acc
  | _ => [(c + (elemInt ta a - elemInt ta b).natAbs) % 2 ^ 64]

/-- An aggregate's outputs (R384, R386). -/
def aggOut (it : Nat × Nat × Nat) (acc : List Nat) : List Nat :=
  if it.1 = 4 then [acc.getD 0 0, acc.getD 1 0] else [acc.getD 0 0]

/-- Bytes of a group entry (R385, R387). -/
def groupSize (tys : List Nat) (p : AggPar) (window : Bool) : Nat :=
  alignUp (8 + 8 * cdiv (keyWidth tys p.key) 8 + (p.items.map (fun it => aggBytes it.1)).sum) 16 + if window then 8 else 0

/-- Bytes of a PSAD entry (R389). -/
def psadSize (tys : List Nat) (p : AggPar) : Nat :=
  alignUp (16 + 8 * cdiv (keyWidth tys p.key) 8 + p.limit * natWidth (tys.getD p.vcol 0) + 8 * cdiv p.limit 64) 16

/-- A group takes a row: its accumulators (R384). -/
def groupTake (tys : List Nat) (p : AggPar) (row : List Nat) (g : Grp) : Grp :=
  { g with accs := (List.range p.items.length).map (fun i => aggStep tys (p.items.getD i (0, 0, 0)) (g.accs.getD i []) row) }

/-- Bytes of the extension: one quarter of the table partition of the mode in force (R385). -/
def State.extLimit (s : State) : Nat := cisSize s.cisMode 0 * 16 * cisGran / 4

/-- An extension entry is written at its place at the start of AREA (R385). -/
def extPut (v : OpEnv) (p : AggPar) (k size : Nat) (g : Grp) : JobM Unit := do
  checkOut v.m v.ctrl (p.area + k * size) size
  act (fun s => s.store (v.m.acts.headD 0) (p.area + k * size) (fitLen size (g.key.flatMap (leBytes 8) ++ g.accs.flatten.flatMap (leBytes 8))))

/-- A row goes where its key's first row went (R385): resident, the extension, or AREA by partition; a new key is placed. -/
def groupRow (v : OpEnv) (tys : List Nat) (p : AggPar) (size win : Nat) (take : List Nat → Grp → Grp) (row : List Nat) : JobM Unit := do
  let kv := keyOf tys p.key row
  let h := hashOf tys p.key kv
  let s ← get
  let x := s.opRun v.e v.op
  let same := fun (g : Grp) => decide (g.key = kv) && decide (g.win = win)
  let upd := fun (g : Grp) => if same g then take row g else g
  if x.groups.any same then opUpd v (fun x => { x with groups := x.groups.map upd })
  else if x.ext.any same then
    opUpd v (fun x => { x with ext := x.ext.map upd })
    extPut v p (x.ext.findIdx same) size ((x.ext.map upd).getD (x.ext.findIdx same) { key := [] })
  else if x.area.any (fun a => decide (a.headD 0 = win) && decide (keyOf tys p.key (a.drop 1) = kv)) then
    areaPut v p (rowBytes tys row)
    opUpd v (fun x => { x with area := x.area ++ [win :: row] })
  else
    let g := take row { key := kv, win := win, hash := h }
    let slice := bits h 63 60
    match s.growTable (s.run v.e).polder v.e v.op slice ((residentIn x.groups 0 slice + 1) * size) with
    | some s1 =>
      set s1
      opUpd v (fun x => { x with groups := x.groups ++ [g] })
    | none =>
      if x.area.isEmpty ∧ (x.ext.length + 1) * size ≤ s.extLimit ∧ x.areaUsed + size ≤ p.cap then
        extPut v p x.ext.length size g
        opUpd v (fun x => { x with ext := x.ext ++ [g], areaUsed := x.areaUsed + size })
      else
        areaPut v p (rowBytes tys row)
        opUpd v (fun x => { x with area := x.area ++ [win :: row] })

/-- GROUP's work (R385). -/
def groupWork (v : OpEnv) : JobM OpOut := do
  let b ← readBatch v
  checkTypes v b (aggTypesOk 7 v.o.params)
  let p := parseAgg v.o.params
  eachRow (groupRow v b.types p (groupSize b.types p false) 0 (groupTake b.types p)) b.rowList
  pure (none, [])

/-- GROUP (R385). -/
def execGroup (w : WorkerId) (s : State) : Out := .next (s.unreset fun s => s.opStep w 7 groupWork)

/-- The number of windows whose closing edge has come (R388). -/
def State.windowsDue (s : State) (p : AggPar) : Nat :=
  if p.p2 = 2 ^ 64 - 1 ∨ s.fld F.EPC_STATUS_STATE = 0 ∨ s.tick < p.p0 + p.p2 then 0 else (s.tick - p.p0 - p.p2) / p.p1 + 1

/-- The windows that cover a time (R387). -/
def windowsOf (p : AggPar) (t : Nat) : List Nat :=
  let hi := t / p.p1
  let lo := if t < p.p0 then 0 else (t - p.p0) / p.p1 + 1
  (List.range (hi + 1 - lo)).map (fun i => lo + i)

/-- A row in each of its windows. -/
def eachWindow (f : Nat → JobM Unit) : List Nat → JobM Unit
  | [] => pure ()
  | k :: t => do
    f k
    eachWindow f t

/-- One row of a WINDOW: a negative time or a closed window drops it, and is counted once for the row (R387, R388). -/
def windowRow (v : OpEnv) (tys : List Nat) (p : AggPar) (row : List Nat) : JobM Unit := do
  let s ← get
  let x := s.opRun v.e v.op
  let t := elemInt (tys.getD p.tcol 0) (row.getD p.tcol 0)
  let closed := max x.closedTo (s.windowsDue p)
  if t < 0 then opUpd v (fun x => { x with dropped := x.dropped + 1 })
  else
    let ks := windowsOf p t.toNat
    if ks.any (· < closed) then opUpd v (fun x => { x with dropped := x.dropped + 1 })
    eachWindow (fun k => groupRow v tys p (groupSize tys p true) k (groupTake tys p) row) (ks.filter (fun k => decide (closed ≤ k)))

/-- WINDOW's work (R387, R388). -/
def windowWork (v : OpEnv) : JobM OpOut := do
  let b ← readBatch v
  checkTypes v b (aggTypesOk 8 v.o.params)
  eachRow (windowRow v b.types (parseAgg v.o.params)) b.rowList
  pure (none, [])

/-- WINDOW (R387). -/
def execWindow (w : WorkerId) (s : State) : Out := .next (s.unreset fun s => s.opStep w 8 windowWork)

/-- A profile takes a row: the greatest value of a position, and the greatest selector (R389). An entry of `accs` is a position and its
value; `row` holds the selector. -/
def psadTake (tys : List Nat) (p : AggPar) (pos : Nat) (row : List Nat) (g : Grp) : Grp :=
  let ty := tys.getD p.vcol 0
  let val := row.getD p.vcol 0
  let sel := match p.pay with | c :: _ => row.getD c 0 | [] => 0
  let has := g.accs.any (fun a => decide (a.getD 0 0 = pos))
  { g with
    accs := if has then g.accs.map (fun a => if a.getD 0 0 = pos ∧ elemInt ty (a.getD 1 0) < elemInt ty val then [pos, val] else a)
      else g.accs ++ [[pos, val]]
    row := [max (g.row.headD 0) sel] }

/-- One row of a PSAD; a position beyond LEN or a selector at or above AUX drops it (R389). -/
def psadRow (v : OpEnv) (tys : List Nat) (p : AggPar) (row : List Nat) : JobM Unit := do
  let t := elemInt (tys.getD p.tcol 0) (row.getD p.tcol 0)
  let pos := (t - p.p1).fdiv p.p0
  let sel : Int := match p.pay with | c :: _ => elemInt (tys.getD c 0) (row.getD c 0) | [] => 0
  if pos < 0 ∨ pos ≥ p.limit ∨ sel < 0 ∨ sel ≥ p.aux then opUpd v (fun x => { x with dropped := x.dropped + 1 })
  else groupRow v tys p (psadSize tys p) 0 (psadTake tys p pos.toNat) row

/-- PSAD's work (R389). -/
def psadWork (v : OpEnv) : JobM OpOut := do
  let b ← readBatch v
  checkTypes v b (aggTypesOk 14 v.o.params)
  eachRow (psadRow v b.types (parseAgg v.o.params)) b.rowList
  pure (none, [])

/-- PSAD (R389). -/
def execPsad (w : WorkerId) (s : State) : Out := .next (s.unreset fun s => s.opStep w 14 psadWork)

/-! ## Sorting (R376, R390 to R392) -/

/-- Order of two rows by their sort keys, each reversed by its DESC bit. -/
def cmpKeys (tys : List Nat) (desc : Nat) (a b : List Nat) : List Nat → Nat → Int
  | [], _ => 0
  | c :: t, i =>
    let o := ordVal (tys.getD c 0) (a.getD c 0) (b.getD c 0)
    if o = 0 then cmpKeys tys desc a b t (i + 1) else if bit desc i then -o else o

/-- The total order of rows (R376): row `a` comes before row `b`. -/
def rowLt (tys key : List Nat) (desc : Nat) (a b : List Nat) : Bool :=
  let o := cmpKeys tys desc a b key 0
  if o = 0 then bytesLt (rowBytes tys a) (rowBytes tys b) else decide (o < 0)

/-- A row is put into its place. -/
def insertRow (lt : List Nat → List Nat → Bool) (r : List Nat) : List (List Nat) → List (List Nat)
  | [] => [r]
  | a :: t => if lt r a then r :: a :: t else a :: insertRow lt r t

/-- Rows in order. -/
def sortRows (lt : List Nat → List Nat → Bool) (l : List (List Nat)) : List (List Nat) := l.foldl (fun a r => insertRow lt r a) []

/-- SORT's work: the batch becomes a run (R390). -/
def sortWork (v : OpEnv) : JobM OpOut := do
  let b ← readBatch v
  checkTypes v b (aggTypesOk 9 v.o.params)
  let p := parseAgg v.o.params
  rowsOut v b.types (sortRows (rowLt b.types p.key p.desc) b.rowList)

/-- SORT (R390). -/
def execSort (w : WorkerId) (s : State) : Out := .next (s.unreset fun s => s.opStep w 9 sortWork)

/-- MERGE's work: runs are stored in AREA, which must hold twice the input (R391). -/
def mergeWork (v : OpEnv) : JobM OpOut := do
  let b ← readBatch v
  checkTypes v b (aggTypesOk 10 v.o.params)
  let p := parseAgg v.o.params
  let n := (b.rowList.map (fun r => (rowBytes b.types r).length)).sum
  let s ← get
  need (decide (2 * ((s.opRun v.e v.op).areaUsed + n) ≤ p.cap)) 0x04
  eachRow (fun r => do
    areaPut v p (rowBytes b.types r)
    opUpd v (fun x => { x with area := x.area ++ [r] })) b.rowList
  pure (none, [])

/-- MERGE (R391). -/
def execMerge (w : WorkerId) (s : State) : Out := .next (s.unreset fun s => s.opStep w 10 mergeWork)

/-- TOPK's work: the first K rows stay, the others are discarded (R392). -/
def topkWork (v : OpEnv) : JobM OpOut := do
  let b ← readBatch v
  checkTypes v b (aggTypesOk 11 v.o.params)
  let p := parseAgg v.o.params
  opUpd v (fun x =>
    let l := b.rowList.foldl (fun a r => insertRow (rowLt b.types p.key p.desc) r a) x.rows
    { x with rows := l.take p.limit, dropped := x.dropped + (l.length - p.limit) })
  pure (none, [])

/-- TOPK (R392). -/
def execTopk (w : WorkerId) (s : State) : Out := .next (s.unreset fun s => s.opStep w 11 topkWork)

/-! ## EXCHANGE, UDO, RECEIPT (R393 to R397) -/

/-- The device a row goes to (R375, R394). -/
def exDevice (p : ExPar) (tys row : List Nat) : Nat := (hashOf tys p.key (keyOf tys p.key row) % 2 ^ 32) * p.n / 2 ^ 32

/-- Rows for a peer join the batch that waits for it, up to 4,096. -/
def exQueue (x : OpRun) (l : Nat) (rows : List (List Nat)) : OpRun :=
  { x with ext := x.ext ++ (chunkRows (rows.length + 1) rows).map (fun c => ({ key := [l], accs := c } : Grp)) }

/-- EXCHANGE's work (R394). -/
def exchangeWork (v : OpEnv) : JobM OpOut := do
  let b ← readBatch v
  let p := parseEx v.o.params
  checkTypes v b (fun t => p.key.all (fun c => decide (c < t.length)) && decide (keyWidth t p.key ≤ 32))
  let s ← get
  let x := s.opRun v.e v.op
  need (match x.types1 with | some t => decide (t = b.types) | none => true) 0x12
  let dev := fun (r : List Nat) => exDevice p b.types r
  opUpd v (fun x => { x with outTypes := b.types })
  let others := (List.range p.n).filter (· ≠ p.self)
  opUpd v (fun x => others.foldl (fun x d => exQueue x (p.links.getD d 0xFF) (b.rowList.filter (fun r => decide (dev r = d)))) x)
  rowsOut v b.types (b.rowList.filter (fun r => decide (dev r = p.self)))

/-- EXCHANGE (R394). -/
def execExchange (w : WorkerId) (s : State) : Out := .next (s.unreset fun s => s.opStep w 12 exchangeWork)

/-- EXCHANGE_TIMEOUT (R394): a marker is missing at the edge TIMEOUT ticks after local input ended. -/
def execExchangeTimeout (e : SlotId) (op : Fin 255) (s : State) : Out :=
  .next (s.unreset fun s => s.exDue e op)

/-- UDO (R347, R395): the batch is handed to the join/aggregate unit of its slice, where the customer function starts between two of the unit's own
tasks; a busy unit is waited for. -/
def execUdo (w : WorkerId) (s : State) : Out :=
  .next (s.unreset fun s =>
    match s.opTask w 16 with
    | none => s
    | some v =>
      let a := (((s.run v.e).op v.producer).q.getD (v.item % 256) { addr := 0 }).addr
      let k := 128 + cisSliceOf a
      if s.unitCustom 4 k ∨ s.inUdo v.t ∨ (s.worker (k + 64)).task.isSome ∨ s.mcsHeld 4 0x80 ∨ !s.mcsRuns 4 k then s
      else if !s.udoReady then s.failRun v.e 0x13 0
      else
        let r := (do let b ← readBatch v; checkTypes v b (fun _ => true) : JobM Unit).run.run s
        match r.1 with
        | .ok _ => r.2.setSqr 4 k { work := v.t, fn := v.o.ufn, pc := 0x8000 + v.o.ufn }
        | .error (.status st detail) => r.2.failRun v.e st detail
        | .error _ => r.2)

/-- RECEIPT's work: the batch passes on unchanged, and its rows are kept in BUF (R374, R397). -/
def receiptWork (v : OpEnv) : JobM OpOut := do
  let b ← readBatch v
  checkTypes v b (fun _ => true)
  let p := parseRcpt v.o.params
  let s ← get
  let x := s.opRun v.e v.op
  let l := b.rowList.flatMap (rowBytes b.types)
  need (decide (x.rows.length + b.sel.length ≤ p.rlim) && decide (x.areaUsed + l.length ≤ p.bufCap)) 0x04
  checkOut v.m v.ctrl (p.buf + x.areaUsed) l.length
  act (fun s => s.store (v.m.acts.headD 0) (p.buf + x.areaUsed) l)
  opUpd v (fun x => { x with rows := x.rows ++ b.rowList, areaUsed := x.areaUsed + l.length })
  pure (if b.sel.isEmpty then none else some b, [])

/-- RECEIPT (R397). -/
def execReceipt (w : WorkerId) (s : State) : Out := .next (s.unreset fun s => s.opStep w 15 receiptWork)

/-! ## After the input has ended (R378, R382, R386, R388, R389, R391, R392) -/

/-- An operator at its end: no worker, the operator units acting for the polder. -/
def endEnv (s : State) (e : Nat) (o : OpDef) : OpEnv :=
  let r := s.run e
  { w := 0, t := 0, e := e, op := o.index, item := 0, out := 255, o := o, m := opuMaster r.polder,
    ctrl := ctrlWord r.polder r.program r.pipe o.index 0xFF s.lcs 15 none }

/-- Spilled rows are read back from AREA; an error there fails the run (R365). -/
def readArea (v : OpEnv) (p : AggPar) : JobM Unit := do
  let s ← get
  let n := (s.opRun v.e v.op).areaUsed
  if n ≠ 0 then
    let _ ← readOp v.m v.ctrl p.area n

/-- The groups of AREA's rows, one partition after another; a partition that does not fit fails the run (R382, R385). -/
def areaGroups (v : OpEnv) (tys : List Nat) (p : AggPar) (size : Nat) (take : List Nat → Grp → Grp) (rows : List (List Nat)) : JobM (List Grp) := do
  let add := fun (l : List Grp) (a : List Nat) =>
    let row := a.drop 1
    let kv := keyOf tys p.key row
    let same := fun (g : Grp) => decide (g.key = kv) && decide (g.win = a.headD 0)
    if l.any same then l.map (fun g => if same g then take row g else g)
    else l ++ [take row { key := kv, win := a.headD 0, hash := hashOf tys p.key kv }]
  let gs := rows.foldl add []
  let s ← get
  need (s.partsFit (s.run v.e).polder (s.opRun v.e v.op).gran (gs.map (·.hash)) size) 0x04
  pure gs

/-- A group's output row (R386, R387). -/
def groupOut (p : AggPar) (window : Bool) (g : Grp) : List Nat :=
  (if window then [g.win * p.p1 % 2 ^ 64] else []) ++ g.key ++ (List.range p.items.length).flatMap (fun i => aggOut (p.items.getD i (0, 0, 0)) (g.accs.getD i []))

/-- Groups of smaller windows first (R388). -/
def sortGroups (l : List Grp) : List Grp := l.foldl (fun a g => ins g a) []
where
  /-- A group after those of windows not beyond its own. -/
  ins (g : Grp) : List Grp → List Grp
    | [] => [g]
    | a :: t => if g.win < a.win then g :: a :: t else a :: ins g t

/-- Results are queued in lists of at most 4,096 rows. -/
def queueRows (v : OpEnv) (tys : List Nat) (rows : List (List Nat)) : JobM Unit :=
  opUpd v (fun x => { x with outTypes := tys, out := x.out ++ chunkRows (rows.length + 1) rows })

/-- The groups of GROUP, WINDOW or PSAD that satisfy a condition on their window are taken out and emitted (R386, R388). -/
def emitGroups (v : OpEnv) (p : AggPar) (window : Bool) (upTo : Option Nat) : JobM Unit := do
  let s ← get
  let x := s.opRun v.e v.op
  let tys := x.types.getD []
  let sel := fun (w : Nat) => match upTo with | some k => decide (w < k) | none => true
  if x.area ≠ [] then readArea v p
  let ag ← areaGroups v tys p (groupSize tys p window) (groupTake tys p) (x.area.filter (fun a => sel (a.headD 0)))
  let gs := sortGroups (x.groups.filter (fun g => sel g.win) ++ x.ext.filter (fun g => sel g.win) ++ ag)
  let gs1 := if gs.isEmpty ∧ p.nkey = 0 ∧ !window ∧ upTo.isNone then [{ key := [] }] else gs
  let outT := (if window then [4] else []) ++ p.key.map (fun c => tys.getD c 0) ++ p.items.flatMap (aggTypes tys)
  queueRows v outT (gs1.map (groupOut p window))
  opUpd v (fun x => { x with groups := x.groups.filter (fun g => !sel g.win), ext := x.ext.filter (fun g => !sel g.win),
                             area := x.area.filter (fun a => !sel (a.headD 0)) })

/-- A profile's sum of differences from its reference, and the count of its positions (R389). -/
def psadSum (ty w : Nat) (ref : List Byte) (g : Grp) : Nat :=
  (g.accs.map (fun a => (elemInt ty (a.getD 1 0) - elemInt ty (leAt ref (w * a.getD 0 0) w)).natAbs)).sum

/-- The output rows of profiles; each reads its reference profile (R389). -/
def psadOuts (v : OpEnv) (p : AggPar) (ty : Nat) : List Grp → JobM (List (List Nat))
  | [] => pure []
  | g :: t => do
    let w := natWidth ty
    let sel := g.row.headD 0
    let ref ← readOp v.m v.ctrl (p.p2 + sel * p.limit * w) (p.limit * w)
    let r ← psadOuts v p ty t
    pure ((g.key ++ [sel % 2 ^ 32, psadSum ty w ref g % 2 ^ 64, g.accs.length]) :: r)

/-- PSAD at its end (R389). -/
def emitProfiles (v : OpEnv) (p : AggPar) : JobM Unit := do
  let s ← get
  let x := s.opRun v.e v.op
  let tys := x.types.getD []
  if x.area ≠ [] then readArea v p
  let pos := fun (row : List Nat) => ((elemInt (tys.getD p.tcol 0) (row.getD p.tcol 0) - p.p1).fdiv p.p0).toNat
  let ag ← areaGroups v tys p (psadSize tys p) (fun row g => psadTake tys p (pos row) row g) x.area
  let rows ← psadOuts v p (tys.getD p.vcol 0) (x.groups ++ x.ext ++ ag)
  queueRows v (p.key.map (fun c => tys.getD c 0) ++ [3, 4, 3]) rows
  opUpd v (fun x => { x with groups := [], ext := [], area := [] })

/-- HPROBE at its end: spilled partitions are built and probed; the build's table is freed (R379, R382). -/
def emitSpilled (v : OpEnv) (p : AggPar) : JobM Unit := do
  let s ← get
  let x := s.opRun v.e v.op
  let tys := x.types.getD []
  let side ← buildSide v
  act (fun s =>
    let b := s.opRun v.e v.o.in1
    (s.cisDrop b.gran).setOpRun v.e v.o.in1 { b with gran := [] })
  if x.area ≠ [] then
    readArea v p
    let s1 ← get
    let spilled := side.1.groups.filter (fun g => spilledAt side.1.spilled g.hash)
    need (s1.partsFit (s1.run v.e).polder [] (spilled.map (·.hash)) (buildSize (side.1.types.getD []) side.2)) 0x04
  let zero := side.2.pay.map (fun _ => 0)
  let rows := x.area.flatMap (fun row => probeRows p.flags zero row ((side.1.groups.filter (fun g => decide (g.key = keyOf tys p.key row))).map (·.row)))
  queueRows v (probeTypes p.flags tys (payTypes side.1 side.2)) rows
  opUpd v (fun x => { x with area := [] })

/-- The final pass of a MERGE: sorted batches, each with the position of its first row in ORD (R391). -/
def ordRows : Nat → List (List (List Nat)) → List (List (List Nat))
  | _, [] => []
  | n, c :: t => c.map (fun r => r ++ [n]) :: ordRows (n + c.length) t

/-- MERGE at its end (R391). -/
def emitMerged (v : OpEnv) (p : AggPar) : JobM Unit := do
  let s ← get
  let x := s.opRun v.e v.op
  let tys := x.types.getD []
  if x.area ≠ [] then readArea v p
  let l := sortRows (rowLt tys p.key p.desc) x.area
  opUpd v (fun x => { x with outTypes := tys ++ [4], out := x.out ++ ordRows 0 (chunkRows (l.length + 1) l), area := [] })

/-! ## Receipts (R398 to R401) -/

/-- One level of the Merkle tree (R398). -/
def merkleLevel : List (List Byte) → List (List Byte)
  | a :: b :: t => sha3 ([(1 : Byte)] ++ a ++ b) :: merkleLevel t
  | l => l

/-- The root of a level; `fuel` levels suffice (R398). -/
def merkleRoot : Nat → List (List Byte) → List Byte
  | 0, l => l.headD (List.replicate 32 0)
  | f + 1, l => if l.length ≤ 1 then l.headD (List.replicate 32 0) else merkleRoot f (merkleLevel l)

/-- A leaf's hash (R398). -/
def leafHash (l : Leaf) : List Byte := sha3 ([(0 : Byte)] ++ leBytes 2 l.table ++ leBytes 4 l.seg ++ fitLen 32 l.digest)

/-- Byte strings in ascending order. -/
def sortBytes (l : List (List Byte)) : List (List Byte) := l.foldl (fun a r => ins r a) []
where
  /-- A string after those not above it. -/
  ins (r : List Byte) : List (List Byte) → List (List Byte)
    | [] => [r]
    | a :: t => if bytesLt r a then r :: a :: t else a :: ins r t

/-- The result digest (R399). -/
def resultDigest (tys : List Nat) (rows : List (List Nat)) : List Byte :=
  sha3 (leBytes 2 tys.length ++ leBytes 2 0 ++ leBytes 4 rows.length ++ padTo 8 (tys.flatMap (leBytes 1)) ++
    (sortBytes (rows.map (rowBytes tys))).flatten)

/-- An EXCHANGE stands before an operator in the graph (R400). -/
def exBefore (ops : List OpDef) : Nat → Nat → Bool
  | 0, _ => false
  | f + 1, i =>
    match opAt ops i with
    | none => false
    | some o => decide (o.code = 12) || o.ins.any (exBefore ops f)

/-- SIGALG of a receipt key (R400). -/
def rcptAlg (k : KeySlot) : Nat := if k.ty = 1 then (if k.alg = 0x12 then 1 else 2) else if k.alg = 0x80 then 4 else 3

/-- Signature bytes of a receipt key. -/
def rcptSigLen (k : KeySlot) : Nat :=
  match rcptAlg k with
  | 1 => sigLen 0x12
  | 2 => sigLen 0x13
  | 3 => slhSig k.alg
  | _ => hbsSigLen k.alg k.p1 k.p2 k.levels

/-- The context "PYRUDRIC-RCPT-1" (R401). -/
def rcptCtx : List Byte := [0x50, 0x59, 0x52, 0x55, 0x44, 0x52, 0x49, 0x43, 0x2D, 0x52, 0x43, 0x50, 0x54, 0x2D, 0x31]

/-- Bytes 0 to 255 of a receipt (R400). -/
def receiptBody (s : State) (v : OpEnv) (p : RcptPar) (key : KeySlot) : List Byte :=
  let r := s.run v.e
  let x := r.op v.op
  let tys := x.types.getD []
  let lo := match r.leaves with | a :: t => t.foldl (fun m l => min m l.emin) a.emin | [] => 0
  let hi := r.leaves.foldl (fun m l => max m l.emax) 0
  leBytes 4 0x54504352 ++ leBytes 2 1 ++ leBytes 1 (rcptAlg key) ++
    leBytes 1 (b2n (exBefore r.ops (r.ops.length + 1) v.op) + 2 * b2n (decide (r.skipped ≠ 0))) ++ s.unitId ++ leBytes 1 r.polder ++ leBytes 1 s.lcs ++
    leBytes 2 tys.length ++ leBytes 4 x.rows.length ++ fitLen 32 (s.prog r.polder r.program).digest ++
    merkleRoot 64 (r.leaves.map leafHash) ++ resultDigest tys x.rows ++ leBytes 8 lo ++ leBytes 8 hi ++ leBytes 8 r.emin ++ leBytes 8 r.emax ++
    leBytes 4 r.leaves.length ++ leBytes 4 r.skipped ++ leBytes 8 s.tick ++ keyId key.alg key.pubPart ++ p.nonce ++ List.replicate 32 (0 : Byte)

/-- A leaf list's bytes (R398). -/
def leafList (l : List Leaf) : List Byte := l.flatMap (fun x => leBytes 2 x.table ++ leBytes 2 0 ++ leBytes 4 x.seg ++ fitLen 32 x.digest)

/-- The unit that signs a receipt, as a class and the engine, or for the digest engine the context, that it takes; it waits for one, and for
randomness (R157, R193, R401). -/
def rcptUnit (n : Nat) (key : KeySlot) : JobM (Nat × Nat) := do
  let s ← get
  let cls := if rcptAlg key ≤ 2 then 0 else 3
  if !s.hwCan n [cls] then throw .wait
  let k := if cls = 0 then (s.engineFor 0).getD 0 else (s.freeContext).getD 0
  if !s.drbgReady (instFor cls k) then throw .rnd
  pure (cls, k)

/-- The signature over a receipt's body, at the effective level, pure and hedged, or under the leaf rules for LMS/HSS (R208, R401): a leaf not
below the committed floor is reserved first, and signs once the commit is made. -/
def rcptSign (slot : Nat) (key : KeySlot) (n : Nat) (body : List Byte) : JobM (List Byte) := do
  let s ← get
  need (bit key.usage useSign && !key.expired s) 0x09
  need (decide (rcptAlg key ≤ 2) || decide (key.hmin ≠ 2)) 0x09
  need (decide (rcptAlg key ≠ 4) || decide (key.cursor ≤ key.limit)) 0x11
  let u ← rcptUnit n key
  if rcptAlg key = 4 && (s.power.pwrFail || decide (key.floor ≤ key.cursor)) then
    act (fun s => if key.floor ≤ key.cursor then s.reserveLeaf slot else s)
    throw .wait
  drawMasks (instFor u.1 u.2) (if u.1 = 0 then s.effLevel n key.hmin 0 else 1)
  act (fun s => s.hwDid [u.1])
  let len := rcptSigLen key
  if rcptAlg key = 4 then
    let r := (← get).takeLeaf slot
    set r.2
    let rnd ← drawM (instFor 3 u.2) 32
    pure (fitLen len (Config.hbsSign key.alg key.p1 key.p2 key.levels key.secret r.1 body rnd))
  else if u.1 = 0 then
    act (fun s => s.noteKey 0 u.2 (some (slot, s.effLevel n key.hmin 0)))
    let rnd ← drawM (instFor 0 u.2) 32
    pure (fitLen len (Config.sign key.alg 0 key.secret body rcptCtx rnd))
  else
    let rnd ← drawM (instFor 3 u.2) (slhN key.alg)
    pure (fitLen len (Config.sign key.alg 0 (key.secret ++ key.pub) body rcptCtx rnd))

/-- RECEIPT at its end: the receipt is signed and written, then the leaf list (R397, R401). -/
def signReceipt (v : OpEnv) : JobM Unit := do
  let p := parseRcpt v.o.params
  let s ← get
  let r := s.run v.e
  match r.rslot with
  | none => throw (.status 0x08 0)
  | some slot =>
    let key := s.key slot
    need (s.ownsKey r.polder slot) 0x08
    let list := leafList r.leaves
    need (decide (264 + rcptSigLen key ≤ p.cap) && (decide (p.list = 0) || decide (list.length ≤ p.listCap))) 0x04
    let body := receiptBody s v p key
    if !s.hwDigest r.polder then throw .wait
    let sig ← rcptSign slot key r.polder body
    act (fun s => s.setJob v.e { s.job v.e with held := false })
    let out := body ++ leBytes 4 sig.length ++ leBytes 4 0 ++ sig
    checkOut v.m v.ctrl p.addr out.length
    act (fun s => s.store r.polder p.addr out)
    if p.list ≠ 0 then
      checkOut v.m v.ctrl p.list list.length
      act (fun s => s.store r.polder p.list list)

/-! ## The end of an operator (R378) -/

/-- What an operator does once its input has ended, apart from emitting what it has queued. -/
def finishWork (v : OpEnv) : JobM Unit := do
  let p := parseAgg v.o.params
  match v.o.code with
  | 5 => emitSpilled v p
  | 7 => emitGroups v p false none
  | 8 => emitGroups v p true none
  | 10 => emitMerged v p
  | 11 =>
    let x := (← get).opRun v.e v.op
    queueRows v (x.types.getD []) x.rows
  | 14 => emitProfiles v p
  | 15 => signReceipt v
  | _ => pure ()
  opUpd v (fun x => { x with ended := true })

/-- The statistics record's address of an operator; 0 for none (R377, R393). -/
def statsAddr (o : OpDef) : Nat := if o.code = 12 then (parseEx o.params).stats else if o.code = 15 then 0 else (parseAgg o.params).stats

/-- The statistics record is written (R378). -/
def writeStats (v : OpEnv) : JobM Unit := do
  let a := statsAddr v.o
  if a ≠ 0 then
    let s ← get
    let x := s.opRun v.e v.op
    checkOut v.m v.ctrl a 32
    act (fun s => s.store (s.run v.e).polder a (leBytes 8 x.rowsIn ++ leBytes 8 x.rowsOut ++ leBytes 8 x.nSpilled ++ leBytes 8 x.dropped))

/-- An EXCHANGE has ended: every batch sent is accepted and every peer's marker has come (R394). -/
def State.exEnded (s : State) (e : Nat) (o : OpDef) : Bool :=
  let x := s.opRun e o.index
  (parseEx o.params).peers.all (fun l => x.peersEnded.contains l && x.split.contains l && (s.peer l).retry.isEmpty && (get3 [] (s.peer l).txq 0).isEmpty) &&
    x.ext.isEmpty

/-- Work of an operator at its end is done, or waits for what it needs; a failure ends the run. -/
def State.endStep (s : State) (e : Nat) (w : JobM Unit) : State :=
  let r := w.run.run s
  match r.1 with
  | .ok _ => r.2
  | .error (.status st detail) => r.2.failRun e st detail
  | .error .frozen => r.2.failRun e 0x0D 0
  | .error .wait => r.2
  | .error .entropy => s
  | .error .rnd => s.holdJob e

/-- OPERATOR_FINAL_EMIT (R378, R382, R386, R401): waiting rows enter the operator's queue; once its input has ended it forms its results,
and when all are emitted it writes its statistics and has ended. -/
def execOperatorFinalEmit (e : SlotId) (op : Fin 255) (s : State) : Out :=
  .next (s.unreset fun s =>
    match opAt (s.run e).ops op with
    | none => s
    | some o =>
      if !s.runLive e || (s.opRun e op).emitted || s.tamperFrozen then s else
      let v := endEnv s e o
      let ended := s.inputEnded e op && needsFinal o.code
      let s1 := if ended && !(s.opRun e op).ended then s.endStep e (finishWork v) else s
      let s2 := if s1.runLive e then s1.emitOne e op else s1
      let x := s2.opRun e op
      if s2.runLive e && ended && x.ended && x.out.isEmpty && (decide (o.code ≠ 12) || s2.exEnded e o) then
        let free := fun (q : QEnt) => if q.st ≥ 4 then { q with st := 0 } else q
        s2.endStep e (do
          writeStats v
          opUpd v (fun x => { x with emitted := true, q := x.q.map free }))
      else s2.exAll)

/-- WINDOW_CLOSE (R388): windows whose closing edge has come are emitted in order of their index. -/
def execWindowClose (e : SlotId) (op : Fin 255) (s : State) : Out :=
  .next (s.unreset fun s =>
    match opAt (s.run e).ops op with
    | none => s
    | some o =>
      let p := parseAgg o.params
      let due := s.windowsDue p
      let x := s.opRun e op
      if o.code ≠ 8 ∨ !s.runLive e ∨ due ≤ x.closedTo then s
      else
        let v := endEnv s e o
        s.endStep e (do
          if x.types.isSome then emitGroups v p true (some due)
          opUpd v (fun x => { x with closedTo := due })))

/-! ## The runtime (R354 to R356) -/

/-- RUN_QUEUE_GRANT (R354): a run that waits starts when its queues can be taken. -/
def execRunQueueGrant (e : SlotId) (s : State) : Out :=
  .next (s.unreset fun s =>
    let r := s.run e
    if !r.ops.isEmpty ∧ r.waiting ∧ r.fail.isNone then
      let s1 := s.grantRun e
      if (s1.run e).waiting then s1 else s1.exStart e
    else s)

/-- An operator's reservation for a new task: an entry, none needed, or the queue is full (R355). -/
def State.reserve (s : State) (e : Nat) (o : OpDef) : Option (Nat × State) :=
  if !hasBatches o.code then some (255, s)
  else
    let x := s.opRun e o.index
    (x.freeEnt).map (fun k => (k, s.setOpRun e o.index { (x.mark k 1) with full := false }))

/-- The scan unit beside the pseudo-channel of an HBM address (R363). -/
def scanHome (a : Nat) : Option Nat := if a < 0x2400000000 then some (64 + a / 2 ^ 21 % 128) else none

/-- The address of a block of a column: of the PLAIN form, or in the column segment. -/
def State.blockAddr (s : State) (x : Table) (g : Seg) (c i : Nat) : Nat :=
  if g.enc.isEmpty then g.plainAt x c (4096 * i)
  else let base := (g.enc.getD c ([], 0)).1.headD 0; base + (((parseCol (s.bytes base 192)).dir.getD i (0, 0)).1)

/-- PRODUCER_TASK_CREATE (R355, R363): a SCAN's next block, once an entry is reserved. -/
def execProducerTaskCreate (e : SlotId) (op : Fin 255) (s : State) : Out :=
  .next (s.unreset fun s =>
    let r := s.run e
    match opAt r.ops op, r.blocks.find? (fun b => decide (b.op = op.val)) with
    | some o, some b =>
      if !s.runLive e then s else
      match s.reserve e o with
      | none => s.queueFull e op
      | some (k, s1) =>
        let p := parseScan o.params
        let x := s.table b.table
        let c := match p.preds with | q :: _ => q.column | [] => p.out.headD 0
        let home := match x.seg b.seg with | some g => scanHome (s.blockAddr x g c b.blk) | none => none
        let s2 := s1.setRun e { s1.run e with blocks := (s1.run e).blocks.erase b }
        s2.hwCreate (opTaskOf e r o (b.seg * 16 + b.blk) k (dataBlock b.table 0 b.seg b.blk) home)
    | _, _ => s)

/-- The home of a consumer's task (R356): the unit of the batch's slice, or none. -/
def consumerHome (code addr : Nat) : Option Nat :=
  match opClass code with
  | 2 => some (192 + cisSliceOf addr)
  | 3 => some (208 + cisSliceOf addr / 2)
  | _ => none

/-- The input an operator takes next (R356): its producer and the ready entry; the probe side waits for the build or reference side. -/
def State.nextInput (s : State) (e : Nat) (o : OpDef) : Option (Nat × Nat × Nat) :=
  let r := s.run e
  let head := fun (p : Nat) => ((r.op p).ready.head?)
  if o.code = 6 then
    match head o.in1 with
    | some k => some (o.in1, k, 256)
    | none =>
      if s.opDone e (r.ops.length + 1) o.in1 && (r.op o.in1).q.all (fun q => decide (q.st < 2)) then (head o.in0).map (fun k => (o.in0, k, 0)) else none
  else if o.code = 5 then
    if s.opDone e (r.ops.length + 1) o.in1 then (head o.in0).map (fun k => (o.in0, k, 0)) else none
  else (head o.in0).map (fun k => (o.in0, k, 0))

/-- CONSUMER_TASK_CREATE (R355, R356): a task for the oldest batch that waits. -/
def execConsumerTaskCreate (e : SlotId) (op : Fin 255) (s : State) : Out :=
  .next (s.unreset fun s =>
    let r := s.run e
    match opAt r.ops op with
    | none => s
    | some o =>
      if !s.runLive e ∨ o.ins.isEmpty then s else
      match s.nextInput e o with
      | none => s
      | some (p, k, plus) =>
        match s.reserve e o with
        | none => s.queueFull e op
        | some (out, s1) =>
          let y := s1.opRun e p
          let addr := (y.q.getD k { addr := 0 }).addr
          let s2 := s1.setOpRun e p { (y.mark k 3) with ready := y.ready.filter (· ≠ k) }
          s2.hwCreate (opTaskOf e r o (plus + k) out (BitVec.ofNat 64 (s.load addr 8)) (consumerHome o.code addr)))

/-- RUN_COMPLETE (R351, R365): every operator has ended, or the run has failed and its tasks have ended. -/
def execRunComplete (e : SlotId) (s : State) : Out :=
  .next (s.unreset fun s =>
    let r := s.run e
    if r.ops.isEmpty ∨ !(s.runTasks e).isEmpty then s else
    match r.fail with
    | some f => s.endRun e f.1 f.2 0
    | none =>
      if s.runLive e ∧ r.ops.all (fun o => s.opDone e (r.ops.length + 1) o.index) then s.endRun e 0 (min r.skipped 0xFFFE) r.sinkUsed
      else s)

/-- OPERATOR_UNIT_FAULT (R366): a parity error in an operator unit; `begun` tells that its task had begun to change a table. -/
def execOperatorUnitFault (w : WorkerId) (cause : BitVec 8) (begun : Bool) (s : State) : Out :=
  .next (s.unreset fun s => if 64 ≤ w.val then (s.dropSqr 4 (w - 64)).unitFault w cause.toNat begun (s.unitWork 4 (w - 64)) else s)

/-! ## Partition modes (R372) -/

/-- A write of OPU_CIS_MODE (R372): the mode in force cancels a change, another is staged. -/
def State.writeCisMode (s : State) (v : Nat) : State :=
  let s1 := s.setFld F.OPU_CIS_MODE_MODE v
  if v % 4 = s.cisMode then { s1.setFld F.OPU_CIS_STATUS_GEN_PENDING 0 with opu := { s1.opu with limits := none } }
  else
    let s2 := s1.setFld F.OPU_CIS_STATUS_GEN_PENDING 1
    if s.fld F.EPC_STATUS_STATE = 0 then { s2 with opu := { s2.opu with limits := some (v % 4) } } else s2

/-- OPU_CIS_MODE_WRITE (R372). -/
def execOpuCisModeWrite (mode : Fin 4) (s : State) : Out := .next (s.unreset fun s => s.writeCisMode mode)

/-- CIS_MODE_STAGING_EDGE (R372): from a tick edge the staged mode's tighter sizes hold; in LOST it waits. -/
def execCisModeStagingEdge (s : State) : Out :=
  .next (s.unreset fun s =>
    if s.fld F.OPU_CIS_STATUS_GEN_PENDING = 1 ∧ s.counting then { s with opu := { s.opu with limits := some (s.fld F.OPU_CIS_MODE_MODE) } } else s)

/-- CIS_MODE_APPLY (R372): every shrinking partition fits its new size in every slice, and the boundaries move. -/
def execCisModeApply (s : State) : Out :=
  .next (s.unreset fun s =>
    let m := s.fld F.OPU_CIS_MODE_MODE
    let fits := (List.range 3).all (fun p => decide (cisSize m p ≥ cisSize s.cisMode p) ||
      (List.range 16).all (fun k => decide (s.cisUsed p k ≤ cisSize m p)))
    if s.fld F.OPU_CIS_STATUS_GEN_PENDING = 1 ∧ s.opu.limits = some m ∧ fits then
      let s1 := (s.setFld F.OPU_CIS_STATUS_CUR m).setFld F.OPU_CIS_STATUS_GEN_PENDING 0
      { s1 with opu := { s1.opu with limits := none } }
    else s)

end Sys2Proof.Machine
end

