-- ==== Sys2Proof/Machine/Bus.lean ====
section
/-!
DEFINITION. Sys2Proof/Machine/Bus.lean: writes of registers (R6, R7, R32): what each register's access codes and its chapter's
rules do, which registers answer the host before the boot is READY (R438, R496, R499), and the writes that PWR_FAIL_N held (R500).
-/

namespace Sys2Proof.Machine

/-! ## The access codes (R7) -/

/-- A register's word after a write, by the access code of each bit (R7). -/
def writtenWord (r : RegRow) (old e : Word) : Word :=
  let rw := BitVec.ofNat 64 r.rw
  ((old &&& ~~~rw) ||| (e &&& rw) ||| (e &&& BitVec.ofNat 64 r.w1s)) &&& ~~~(e &&& BitVec.ofNat 64 r.w1c)

/-- A write with no effect but that of the access codes (R7); an offset that names no register ignores it (R32). -/
def State.writePlain (s : State) (off e : Nat) : State :=
  match rowAt off with
  | some r => s.setReg off (writtenWord r (s.reg off) (BitVec.ofNat 64 e))
  | none => s

/-- The 64-bit write that a write of `v` comes to (R6): the half that is not written keeps its RW bits, and its other bits are 0. `half` is
the half of a 32-bit write. -/
def State.widen (s : State) (off v : Nat) (half : Option Bool) : Nat :=
  let rw := match rowAt off with | some r => r.rw | none => 0
  let old := (s.readReg off).toNat &&& rw
  match half with
  | none => v % 2 ^ 64
  | some false => v % 2 ^ 32 + old / 2 ^ 32 * 2 ^ 32
  | some true => v % 2 ^ 32 * 2 ^ 32 + old % 2 ^ 32

/-- A write of a register of MRAM waits for PWR_FAIL_N (R500). -/
def State.unlessHeld (s : State) (off e : Nat) (k : State → State) : State := if s.power.pwrFail then s.holdReg off e else k s

/-! ## Polders (R128, R130, R149, R155) -/

/-- The configuration of a queue: SIZE only while EN is 0, and EN only where the queue may be enabled (R128, R131, R155, R438). -/
def State.writeQueue (s : State) (n e : Nat) (en size : Fld) (enOk : Bool) : State :=
  let on := decide (s.fld en = 1)
  let want := bit e 32
  let sz := bits e 4 0
  let badSize := (on && decide (sz ≠ s.fld size)) || decide (sz < 4) || decide (16 < sz)
  let s1 := if badSize then s.setFld (F.PLD_STATUS_CFG_ERR n) 1 else s.setFld size sz
  if want ∧ !on ∧ !enOk then s1.setFld (F.PLD_STATUS_CFG_ERR n) 1 else s1.setFld en (b2n want)

/-- The base of a queue: only while EN is 0 (R155). -/
def State.writeBase (s : State) (n off e : Nat) (en : Fld) : State :=
  if s.fld en = 1 then s.setFld (F.PLD_STATUS_CFG_ERR n) 1 else s.writePlain off e

/-- A write of PLD_CTRL (R149). -/
def State.writePldCtrl (s : State) (n e : Nat) : State :=
  let q := bit e 0
  let s1 := if q = decide (s.fld (F.PLD_CTRL_QUIESCE n) = 1) then s else s.writeQuiesce n q
  let s2 :=
    if bit e 3 then (s1.setFld (F.PLD_CTRL_ENABLE n) 1).tryEnable n
    else if s1.fld (F.PLD_STATUS_STATE n) = 0 then s1.setFld (F.PLD_CTRL_ENABLE n) 0 else s1
  s2.writeOp n (bits e 2 1)

/-- A write within the PLD page of polder `n` (R155). -/
def State.writePld (s : State) (off e : Nat) : State :=
  let n := (off - 0x100000) / 0x1000
  let p := off % 0x1000
  let may := decide (s.fld (F.PLD_PASID_VALID n) = 1) && decide (s.fld (F.PLD_STATUS_STATE n) ≠ 0) && decide (s.lcs ≠ 4)
  let q := (p - 0x40) / 16 % 4
  if 0x40 ≤ p ∧ p < 0x80 ∧ p % 16 = 0 then s.writeBase n off e (F.PLD_SQ_CFG_EN n q)
  else if 0x40 ≤ p ∧ p < 0x80 ∧ p % 16 = 8 then
    s.writeQueue n e (F.PLD_SQ_CFG_EN n q) (F.PLD_SQ_CFG_SIZE n q) (may && decide (s.fld (F.PLD_CQ_CFG_EN n) = 1))
  else if p = 0x80 then s.writeBase n off e (F.PLD_CQ_CFG_EN n)
  else if p = 0x88 then s.writeQueue n e (F.PLD_CQ_CFG_EN n) (F.PLD_CQ_CFG_SIZE n) may
  else if p = 0x800 then s.writePldCtrl n e
  else if p = 0x808 then s.writePasid n e
  else if p = 0x828 then (if bit e 0 then s.setFld (F.PLD_DPT_INV_PENDING n) 0 else s)
  else if p = 0x840 then (if bits e 1 0 = 1 ∨ bits e 1 0 = 2 then s.writePlain off e else s.setFld (F.PLD_STATUS_CFG_ERR n) 1)
  else if p = 0x850 then
    (if s.fld (F.PLD_DIRTY_CTRL_EN n) = 1 then s.setFld (F.PLD_STATUS_CFG_ERR n) 1 else s.writePlain off e)
  else if p = 0x868 then (let s1 := s.writePlain off e; if bit e 1 then s1.startSwap n else s1)
  else s.writePlain off e

/-! ## The other blocks -/

/-- The Pump and the epoch unit (R106, R112, R122). -/
def State.writeTime (s : State) (off e : Nat) : State :=
  if 0x200040 ≤ off ∧ off ≤ 0x200058 then s.writeWoff ((off - 0x200040) / 8) e
  else if off = 0x300008 then s.writeSel (.src (Fin.ofNat 32 (bits e 6 2)) (Fin.ofNat 4 (bits e 1 0)))
  else if off = 0x300010 then
    s.writeSel (.ptp (bit e 44) (BitVec.ofNat 12 (bits e 43 32)) (bit e 10) (Fin.ofNat 4 (bits e 9 8)) (BitVec.ofNat 8 e))
  else if off = 0x300018 then s.writeTick (bits e 19 0)
  else if off = 0x300050 then (let s1 := s.writePlain off e; { s1 with epoch := { s1.epoch with ppsWritten := true } })
  else s.writePlain off e

/-- Dike and the fault collector (R413 to R416, R421, R426, R427). -/
def State.writeGuard (s : State) (off e : Nat) (lo : Bool) : State :=
  if off = 0x400008 then (if bit e 0 then s.commitSet else s)
  else if off = 0x400018 then (if lo then s.thaw (bit e 16) (bits e 15 12) (bits e 7 0) else s)
  else if off = 0x400020 then (if bit e 0 then { s with dike := { s.dike with notices := s.dike.notices.drop 1 } } else s)
  else if off = 0x500000 then s.clearStatus e
  else if off = 0x500008 then s.unlessHeld off e (fun s => s.writePlain off e)
  else if 0x500010 ≤ off ∧ off ≤ 0x500028 then s.writeReact ((off - 0x500010) / 8) e
  else if off = 0x500038 then (if bit e 0 then s.clearErrn else s)
  else if off = 0x500050 then (if bit e 0 then { s with fcl := { s.fcl with recs := s.fcl.recs.drop 1 } } else s)
  else s.writePlain off e

/-- A write of RNG_CTRL (R233, R234). -/
def State.writeRngCtrl (s : State) (e : Nat) : State :=
  let s1 := s.setFld F.RNG_CTRL_STRICT (bits e 3 3)
  let s2 := if bits e 2 2 = s.fld F.RNG_CTRL_TESTSRC then s1 else s1.writeTestsrc (bit e 2)
  let s3 := if bit e 0 then s2.wellEnable else s2
  if bit e 1 then s3.startup else s3

/-- A write of MCS_CTRL (R258, R260, R261). -/
def State.writeMcsCtrl (s : State) (e : Nat) : State :=
  let s1 := if bits e 4 2 ≤ 4 then s.setFld F.MCS_CTRL_CLASS (bits e 4 2) else s.setFld F.MCS_STATUS_CFG_ERR 1
  let s2 := if bits e 0 0 = s.fld F.MCS_CTRL_CUST_EN then s1 else s1.writeCustEn (bit e 0)
  if bits e 9 8 = 1 then s2.mcsLoad else if bits e 9 8 = 2 then s2.mcsClear (bits e 4 2) else s2

/-- Entropy, keys, microcode and digests (R209, R234, R239, R240, R261). -/
def State.writeKeys (s : State) (off e : Nat) : State :=
  if off = 0x700000 then s.writeRngCtrl e
  else if off = 0x700028 ∨ off = 0x700030 then
    (if 1 ≤ bits e 20 0 ∧ bits e 20 0 ≤ 1048576 then s.writePlain off e else s.setFld F.RNG_STATUS_CFG_ERR 1)
  else if off = 0x800000 then (if bit e 21 then s.unlessHeld off e (fun s => s.writePlain off e) else s.writePlain off e)
  else if 0x801000 ≤ off ∧ off < 0x802000 then s.unlessHeld off e (fun s => s.writePlain off e)
  else if 0x802000 ≤ off ∧ off < 0x802800 then
    s.unlessHeld off e (fun s => s.writeRcpt ((off - 0x802000) / 8) (bit e 63) (bits e 13 0))
  else if off = 0x900000 then s.writeMcsCtrl e
  else if off = 0xA00018 then
    (if 1 ≤ bits e 10 0 ∧ bits e 10 0 ≤ 1024 then s.writePlain off e else s.setFld F.DIG_ERR_CFG_ERR 1)
  else if off = 0xA00020 then (s.writePlain off e).checkLows
  else s.writePlain off e

/-- A polder has sessions in HANDSHAKE or OPEN. -/
def State.sesBusy (s : State) (n : Nat) : Bool :=
  s.net.ses.any (fun x => decide (x.2.polder = n) && (decide (x.2.st = 1) || decide (x.2.st = 2)))

/-- A write of SES_PLD registers: while the polder has sessions, CELLS and the host ring may only be raised (R296). -/
def State.writeSesPld (s : State) (off e : Nat) : State :=
  let n := (off - 0xD04000) / 64
  let old := (s.reg off).toNat
  let raised :=
    if off % 64 = 16 then decide (bits old 23 0 ≤ bits e 23 0)
    else if off % 64 = 24 then decide (bits old 63 12 = bits e 63 12) && decide (bits old 4 4 ≤ bits e 4 4) && decide (bits old 3 0 ≤ bits e 3 0)
    else false
  if s.sesBusy n ∧ !raised then s.setFld F.SES_ERR_CFG_ERR 1 else s.writePlain off e

/-- The selected prefix-limiter entry takes a word; entry 0 stays valid (R275, R295). -/
def State.writeRl (s : State) (off e : Nat) : State :=
  let i := s.fld F.NET_RL_SEL_ENTRY
  let x := s.rlEntry i
  let c := bits e 63 62 * 2 ^ 62 + bits e 54 0
  let y := if off = 0xC02008 then (e, x.2.1, x.2.2) else if off = 0xC02010 then (x.1, e, x.2.2)
    else (x.1, x.2.1, if i = 0 then putBits c 63 1 1 else c)
  { s with net := { s.net with rl := tset (fun _ => (0, 0, 0)) s.net.rl i y } }

/-- The network, sessions, the column store and the operator units (R266, R269, R275, R280, R291, R296, R345, R372). -/
def State.writeData (s : State) (off e : Nat) : State :=
  if 0xC00100 ≤ off ∧ off < 0xC00200 then s.writePortCfg ((off - 0xC00100) / 8) e
  else if 0xC02008 ≤ off ∧ off ≤ 0xC02018 then s.writeRl off e
  else if off = 0xD00000 then s.writeSesMode (bit e 0)
  else if 0xD00040 ≤ off ∧ off < 0xD00060 then s.writePrivgrp ((off - 0xD00040) / 8) e
  else if 0xD01000 ≤ off ∧ off < 0xD03000 ∧ off % 32 < 24 then s.writeLsn ((off - 0xD01000) / 32) (off % 32 / 8) e
  else if 0xD04000 ≤ off ∧ off < 0xD08000 then s.writeSesPld off e
  else if off = 0xE00008 ∨ off = 0xE00010 then
    (if s.col.tables.any (fun t => !t.2.desc.isEmpty) then s.setFld F.COL_STATUS_CFG_ERR 1 else s.writePlain off e)
  else if off = 0xF00008 then s.writeCisMode (bits e 1 0)
  else s.writePlain off e

/-- A write of TMP_STATUS: FIRED of a source that still fires latches again (R9, R460). -/
def State.writeTmpStatus (s : State) (e : Nat) : State :=
  let s1 := s.writePlain 0x1200000 e
  s1.setFld F.TMP_STATUS_FIRED ((s.dbg.firing.filter (fun k => bit (s.fld F.TMP_STATUS_FIRED) k)).foldl setBit (s1.fld F.TMP_STATUS_FIRED))

/-- A write of TMP_CTRL (R450, R452, R460). Its monitor's test gives an open result. -/
def State.writeTmpCtrl (s : State) (e : Nat) : State :=
  let k := bits e 11 8
  let s1 := if k < 10 then s.setFld F.TMP_CTRL_SRC k else s.setFld F.TMP_STATUS_CFG_ERR 1
  let s2 := if bit e 1 then (s1.bump).selfTest k (Config.selfTest s1.free k) else s1
  if bit e 0 then s2.releaseFreeze else s2

/-- Life cycle, tamper and the Embankment (R441, R449, R450, R458, R461). -/
def State.writeCare (s : State) (off e : Nat) : State :=
  if off = 0x1100018 then
    (let s1 := if bit e 0 then s.nonceGen else s
     if bit e 1 then s1.submit (fun _ => true) none else s1)
  else if off = 0x1200000 then s.writeTmpStatus e
  else if off = 0x1200008 then s.writeResp (e % 2 ^ 40)
  else if off = 0x1200010 then s.writeTmpCtrl e
  else if off = 0x1300000 then s.writeEmbCfg (e % 16)
  else if off = 0x1300060 then (if bit e 0 then s.clearLog else s)
  else s.writePlain off e

/-- A link's registers (R478, R484, R487, R490). -/
def State.writeLink (s : State) (off e : Nat) (lo : Bool) : State :=
  let l := (off - 0x1501000) / 0x100
  let p := off % 0x100
  let on := decide (s.fld (F.PER_CFG_EN l) = 1)
  if p = 0 then
    let s1 := (s.setFld (F.PER_CFG_HALF l) (bits e 2 2)).writePeerEn l (bit e 0)
    if bit e 1 then s1.rekeyLink l else s1
  else if (0x10 ≤ p ∧ p < 0x30) ∨ p = 0x60 then
    if on ∨ (p = 0x60 ∧ bits e 2 0 = 7) then s.setFld F.PER_STATUS_CFG_ERR 1 else s.writePlain off e
  else if p = 0x58 then (if lo then s.writePerTx l (e % 2 ^ 48) else s)
  else if p = 0x68 then s.writeRxHead l (bits e 38 32)
  else s.writePlain off e

/-- The card port, the peer links and the power block (R466, R476, R490, R496, R504). -/
def State.writeIo (s : State) (off e : Nat) (lo : Bool) : State :=
  if off = 0x1400008 then s.writeCrdCtrl e
  else if off = 0x1400010 then (if lo then s.cardSubmit (e % 2 ^ 48) else s)
  else if off = 0x1400018 ∨ off = 0x1400020 ∨ off = 0x1400038 then s.writeCrdRegion off e
  else if 0x1501000 ≤ off ∧ off < 0x1502000 then s.writeLink off e lo
  else if off = 0x1600000 then s.writeCap (bits e 10 0)
  else if off = 0x1600030 then
    if bit e 0 then
      let len := s.fld F.PWR_BOOT_LEN_LEN
      let a := s.fld F.PWR_BOOT_ADDR_ADDR * 4096
      ((s.send (.hostRead { ep := 0, pasid := none } a len)).bump).hostBoot ((List.range len).map (fun i => Config.hostByte s.free (a + i)))
    else s
  else s.writePlain off e

/-- A 64-bit write of the register at an offset; `lo` says that its low half is among what is written. -/
def State.writeReg (s : State) (off e : Nat) (lo : Bool) : State :=
  match off / 0x100000 with
  | 1 => s.writePld off e
  | 2 => s.writeTime off e
  | 3 => s.writeTime off e
  | 4 => s.writeGuard off e lo
  | 5 => s.writeGuard off e lo
  | 7 => s.writeKeys off e
  | 8 => s.writeKeys off e
  | 9 => s.writeKeys off e
  | 10 => s.writeKeys off e
  | 12 => s.writeData off e
  | 13 => s.writeData off e
  | 14 => s.writeData off e
  | 15 => s.writeData off e
  | 17 => s.writeCare off e
  | 18 => s.writeCare off e
  | 19 => s.writeCare off e
  | 20 => s.writeIo off e lo
  | 21 => s.writeIo off e lo
  | 22 => s.writeIo off e lo
  | _ => s.writePlain off e

/-- A write by address within the register space: 64 bits, or an aligned 32-bit half; any other writes nothing (R6). -/
def State.busWrite (s : State) (off len v : Nat) : State :=
  if len = 8 ∧ off % 8 = 0 then s.writeReg off (s.widen off v none) true
  else if len = 4 ∧ off % 8 = 0 then s.writeReg off (s.widen off v (some false)) true
  else if len = 4 ∧ off % 8 = 4 then s.writeReg (off - 4) (s.widen (off - 4) v (some true)) false
  else s

/-! ## Writes by the host (R33, R129, R438, R496, R499) -/

/-- A block of BAR0 answers the host: all once READY; GLB, FCL, LCS and PWR from boot step 4 of a host boot and in FAILED; GLB, FCL, LCS and
EMB in SCRAPPED. -/
def State.barOpen (s : State) (off : Nat) : Bool :=
  let b := off / 0x100000
  let st := s.fld F.PWR_BOOT_STATE
  if !s.power.step4 then false
  else if s.lcs = 4 then decide (b ∈ [0, 5, 17, 19])
  else if st = 4 then true
  else if st = 5 ∨ s.fld F.PWR_BOOT_SRC = 1 then decide (b ∈ [0, 5, 17, 22])
  else false

/-- A write through BAR2 (R33, R129, R155). -/
def State.writeBar2 (s : State) (off v : Nat) (half : Option Bool) : State :=
  let n := off / 0x10000
  let p := off % 0x10000
  let r := 0x100000 + 0x1000 * n + p
  let d := match half with | none => v | _ => v % 2 ^ 32
  if s.fld F.PWR_BOOT_STATE ≠ 4 ∨ s.lcs = 4 ∨ 256 ≤ n then s
  else if p < 0x800 then s.writeReg r (s.widen r v half) (half ≠ some true)
  else if half = some true then s
  else if 0x1000 ≤ p ∧ p < 0x1020 then s.tailDoorbell n ((p - 0x1000) / 8) d
  else if p = 0x1020 then s.headDoorbell n d
  else s

/-- A read through BAR0: blocks that do not answer read 0 (R32, R438, R496, R499). -/
def State.bar0Read (s : State) (off len : Nat) : Nat := if s.barOpen off then s.busRead off len else 0

/-- A read through BAR2 (R33, R129, R155): the PLD page's mirror, both halves; every other offset reads 0. -/
def State.bar2Read (s : State) (off len : Nat) : Nat :=
  let n := off / 0x10000
  let p := off % 0x10000
  if s.fld F.PWR_BOOT_STATE ≠ 4 ∨ s.lcs = 4 ∨ 256 ≤ n ∨ 0x1000 < p + len then 0
  else s.busRead (0x100000 + 0x1000 * n + p) len

/-- REGISTER_WRITE (R6, R7, R32): `half` marks a 32-bit write; one that is not aligned, or of another size, writes nothing. -/
def execRegisterWrite (bar2 : Bool) (off : Nat) (half : Option Bool) (aligned : Bool) (v : Word) (s : State) : Out :=
  .next (s.live fun s =>
    if !aligned ∨ off % 8 ≠ 0 then s
    else if bar2 then s.writeBar2 off v.toNat half
    else if s.barOpen off then s.writeReg off (s.widen off v.toNat half) (half ≠ some true)
    else s)

/-! ## PWR_FAIL_N returns high (R500) -/

/-- PWR_FAIL_DEASSERT (R500): every held write of MRAM is made. -/
def execPwrFailDeassert (s : State) : Out :=
  .next (s.live fun s =>
    if !s.power.pwrFail then s
    else
      let p := s.power
      let s1 := ({ s with power := { p with pwrFail := false, heldSticky := 0, heldErrn := false, held := [], heldTamper := 0 } }).setFld
        F.PWR_STATUS_HOLDUP 0
      let s2 := s1.setFld F.FCL_STICKY_FAULT (s1.fld F.FCL_STICKY_FAULT ||| p.heldSticky)
      let s3 := if p.heldErrn then s2.setFld F.FCL_ERRN_ASSERTED 1 else s2
      let s4 := p.held.foldl (fun s x => if x.1 = F.PWR_BOOT_FLOOR_FLOOR.off then s.setReg x.1 x.2 else s.writeReg x.1 x.2.toNat true) s3
      s4.tamperMram p.heldTamper)

end Sys2Proof.Machine
end

