-- ==== Sys2Proof/Machine/Debug.lean ====
section
/-!
DEFINITION. Sys2Proof/Machine/Debug.lean: the debug access port behind the TAP's DAP instruction (R407, R410, R415, R437, R444 to R447).
-/

namespace Sys2Proof.Machine

/-- The polders the authorisation in force names (R445). -/
def State.dbgNamed (s : State) : List Nat :=
  (List.range 256).filter (fun n => bit (s.fld (F.LCS_DBG_POLDER_MASK (n / 64))) (n % 64))

/-- The debug port as a master (R403). -/
def State.debugMaster (s : State) : Master := { mcls := 11, unit := 0, acts := s.dbgNamed }

/-- A token's authorisation has ended: its expiry edge has come, or the epoch unit is in LOST or NOREF (R447). -/
def State.tokenOver (s : State) : Bool :=
  decide (s.fld F.EPC_STATUS_STATE = 0) || decide (s.fld F.EPC_STATUS_STATE = 4) || decide (s.fld F.LCS_DBG_EXP_EXPIRY ≤ s.tick)

/-- An authorisation is in force: a token's until it ends, or the standing one (R445, R447). -/
def State.dbgAuthorised (s : State) : Bool :=
  (decide (s.fld F.LCS_DBG_AUTH = 1) && !s.tokenOver) || decide (s.fld F.LCS_DBG_STANDING = 1)

/-- A scope bit of the authorisation in force: 0 HALT, 1 MEM, 2 REG (R445). -/
def State.dbgScope (s : State) (k : Nat) : Bool := s.dbgAuthorised && bit (s.fld F.LCS_DBG_SCOPE) k

/-- An access is turned away at the port. -/
def State.dapRefuse (s : State) : State := s.send .dapRefused

/-- The frame of a core as a debugger inspects it: g0 to g31, pc, p, XPC, XCAUSE, XADDR, XHND, EIX, s0 to s31, t0 to t7. -/
def Frame.view (f : Frame) (k : Fin 79) : List Byte :=
  if h : k.val < 32 then leBytes 8 (f.g[k.val]).toNat
  else if k.val = 32 then leBytes 8 f.pc.toNat
  else if k.val = 33 then leBytes 1 f.p.toNat
  else if k.val = 34 then leBytes 8 f.xpc.toNat
  else if k.val = 35 then leBytes 8 f.xcause.toNat
  else if k.val = 36 then leBytes 8 f.xaddr.toNat
  else if k.val = 37 then leBytes 8 f.xhnd.toNat
  else if k.val = 38 then leBytes 8 f.eix.toNat
  else if h2 : k.val < 71 then leBytes 32 (f.s[k.val - 39]).toNat
  else
    let t := f.t[k.val - 71]
    leBytes 6 t.base.toNat ++ leBytes 4 t.stride.toNat ++ leBytes 1 t.ew.toNat ++ leBytes 2 t.count.toNat

/-- The frame of a core, halted or not: its task's in U, the firmware context in P. -/
def State.coreFrame (s : State) (c : Nat) : Frame :=
  match s.curTask c with
  | some t => (s.task t).frame
  | none => if s.privileged c then (s.core c).pframe else {}

/-- A debugger may halt, step and inspect a core: the scope has HALT, and the core's task, if it runs one, is of a polder the authorisation
names (R407, R445, R447). -/
def State.coreDebuggable (s : State) (c : Nat) : Bool :=
  s.dbgScope 0 && (match s.curTask c with | some t => s.dbgNamed.contains (s.task t).polder | none => true)

/-- A refusal by Dike freezes the port, with a precise notice (R410, R412). -/
def State.dapViolation (s : State) (d : Dir) (p : Nat × Nat × Nat × Nat) : State :=
  (s.refuse s.debugMaster (hwCtrl s 0 15) d p true true).dapRefuse

/-- The scope an access needs: REG for a register, else MEM (R445). -/
def scopeOf (s : State) (a : Nat) : Nat := if spaceOf s a = .regs then 2 else 1

/-- An access of the port: without an authorisation it is refused and the port freezes (R447); without its scope it is turned away; Dike
then decides (R407). `k` performs it. -/
def State.dapAccess (s : State) (d : Dir) (a len : Nat) (k : State → State) : State :=
  if !s.dbgAuthorised then s.dapViolation d (a, a + len - 1, 3, 0xFFFF)
  else if !s.dbgScope (scopeOf s a) then s.dapRefuse
  else
    match s.dikeCheck s.debugMaster a len d false with
    | some p => s.dapViolation d p
    | none => k s

/-- A read through the port. -/
def State.dapRead (s : State) (a len : Nat) : State :=
  s.dapAccess .read a len (fun s =>
    if spaceOf s a = .regs then s.send (.dapData (leBytes len (s.busRead (a - 0x300000000000) len)))
    else
      let r := s.unitRead s.debugMaster (hwCtrl s 0 15) a len
      if r.1 = .ok then r.2.2.send (.dapData r.2.1) else r.2.2.dapRefuse)

/-- A write through the port. -/
def State.dapWrite (s : State) (a : Nat) (l : List Byte) : State :=
  s.dapAccess .write a l.length (fun s =>
    if spaceOf s a = .regs then s.busWrite (a - 0x300000000000) l.length (leNat l)
    else
      let r := s.unitCheckW s.debugMaster (hwCtrl s 0 15) a l.length false
      if r.1 = .ok then r.2.store (s.dbgNamed.headD 0) a l else r.2.dapRefuse)

/-- One operation of the debug access port. -/
def State.dapOp (s : State) (op : DapOp) : State :=
  match op with
  | .attach on =>
    if on && !s.dbgAuthorised then s.dapRefuse else { s with dbg := { s.dbg with attached := on } }
  | .halt c =>
    if s.coreDebuggable c then s.setCore c { s.core c with halted := true, stepping := false } else s.dapRefuse
  | .step c =>
    if !s.coreDebuggable c then s.dapRefuse
    else if (s.core c).halted then s.setCore c { s.core c with halted := false, stepping := true }
    else s
  | .resume c =>
    if !s.coreDebuggable c then s.dapRefuse
    else if (s.core c).halted then s.setCore c { s.core c with halted := false, stepping := false }
    else s
  | .inspect c what => if s.coreDebuggable c then s.send (.dapData ((s.coreFrame c).view what)) else s.dapRefuse
  | .read a len => if len = 0 then s.send (.dapData []) else s.dapRead a.toNat len
  | .write a l => if l.isEmpty then s else s.dapWrite a.toNat l

/-- DAP (R444, R447): in SCRAPPED the TAP bypasses; a port that Dike or a tamper freeze holds performs nothing. -/
def execDap (op : DapOp) (s : State) : Out :=
  .next (s.unreset fun s =>
    if s.lcs = 4 then s.tapInstr 0
    else
      let s1 := s.tapInstr 5
      if s1.frozen 11 0 ∨ s1.tamperFrozen then s1.dapRefuse else s1.dapOp op)

end Sys2Proof.Machine
end

