-- ==== Sys2Proof/Machine/Vec.lean ====
section
/-!
DEFINITION. Sys2Proof/Machine/Vec.lean: streams, short vectors and the short form of structure loads (R35, R78 to R85, R90).
-/

namespace Sys2Proof.Machine

/-! ## Elements -/

/-- Bits of an element (R79). -/
def ewBits (ew : Nat) : Nat := 8 * 2 ^ ew

/-- Bytes of an element (R79). -/
def ewBytes (ew : Nat) : Nat := 2 ^ ew

/-- The elements of a register, element 0 first (R78). -/
def elems (ew : Nat) (v : Vec) : List Nat :=
  (List.range (256 / ewBits ew)).map (fun j => v.toNat / 2 ^ (ewBits ew * j) % 2 ^ ewBits ew)

/-- A number of `w`-bit digits, the first least significant. -/
def joinDigits (w : Nat) : List Nat → Nat
  | [] => 0
  | x :: t => x % 2 ^ w + 2 ^ w * joinDigits w t

/-- The register that holds a list of elements (R78). -/
def ofElems (ew : Nat) (l : List Nat) : Vec := BitVec.ofNat 256 (joinDigits (ewBits ew) l)

/-- An element's value, signed or unsigned. -/
def elVal (w : Nat) (signed : Bool) (x : Nat) : Int := if signed then sx w x else (x % 2 ^ w : Nat)

/-- An integer limited to what `w` bits hold (R79, R83). -/
def saturate (w : Nat) (signed : Bool) (x : Int) : Int :=
  let lo : Int := if signed then -((2 ^ (w - 1) : Nat) : Int) else 0
  let hi : Int := if signed then ((2 ^ (w - 1) : Nat) : Int) - 1 else ((2 ^ w : Nat) : Int) - 1
  if x < lo then lo else if x > hi then hi else x

/-- The functions of opcode 0x10, FN 0 to 0xB, on one element (R83). -/
def elemOp (fn : Nat) (w : Nat) (signed : Bool) (a b : Nat) : Nat :=
  let x := elVal w signed a
  let y := elVal w signed b
  match fn with
  | 0 => wrap w (x + y)
  | 1 => wrap w (x - y)
  | 2 => (a &&& b) % 2 ^ w
  | 3 => (a ||| b) % 2 ^ w
  | 4 => (a ^^^ b) % 2 ^ w
  | 5 => wrap w (min x y)
  | 6 => wrap w (max x y)
  | 7 => wrap w (saturate w signed (x + y))
  | 8 => wrap w (saturate w signed (x - y))
  | 9 => wrap w ((x - y).natAbs : Nat)
  | 10 => wrap w (x * y)
  | _ => wrap w (x * y / ((2 ^ w : Nat) : Int))

/-- The comparisons of opcode 0x11, FN 0 to 2: all ones if true (R83). -/
def elemCmp (fn : Nat) (w : Nat) (signed : Bool) (a b : Nat) : Nat :=
  let x := elVal w signed a
  let y := elVal w signed b
  let c := match fn with
    | 0 => decide (x = y)
    | 1 => decide (x < y)
    | _ => decide (x ≤ y)
  if c then 2 ^ w - 1 else 0

/-- Two registers combined element by element. -/
def zipElems (ew : Nat) (op : Nat → Nat → Nat) (a b : Vec) : Vec := ofElems ew (List.zipWith op (elems ew a) (elems ew b))

/-! ## The instructions -/

/-- A vector instruction: in U only in a task with vector state (R35). -/
def State.withVec (s : State) (c : CoreId) (k : Frame → State) : State :=
  s.withFrame c fun f =>
    match s.curTask c with
    | some t => if (s.task t).vec then k f else s.raise c f 1 0 0 false
    | none => k f

/-- A result to a short-vector register. -/
def vecV (c : CoreId) (vd : Reg) (v : Frame → Vec) (s : State) : Out :=
  .next (s.onCore c fun s => s.withVec c fun f => s.setFrame c (f.setV vd (v f)).next)

/-- An element-wise function of opcode 0x10 (R83). -/
def vecOp (c : CoreId) (fn : Nat) (vd va vb : Reg) (ew : Fin 4) (sg : Bool) (s : State) : Out :=
  vecV c vd (fun f => zipElems ew (elemOp fn (ewBits ew) sg) (f.vr va) (f.vr vb)) s

/-- TLD (R80, R82). -/
def execTld (c : CoreId) (td : StreamId) (ga : Reg) (s : State) : Out :=
  .next (s.onCore c fun s => s.withVec c fun f =>
    let a := f.gr ga
    if a.toNat % 16 ≠ 0 then s.raise c f 3 0 a false
    else match s.coreRead c f a.toNat 16 with
      | .stop s1 => s1
      | .ok l s1 =>
        if leAt l 6 2 ≠ 0 ∨ leAt l 12 1 / 4 ≠ 0 ∨ leAt l 13 1 ≠ 0 then s1.raise c f 4 0 0 false
        else s1.setFrame c (f.setS td { base := BitVec.ofNat 48 (leAt l 0 6), stride := BitVec.ofNat 32 (leAt l 8 4),
                                        ew := BitVec.ofNat 2 (leAt l 12 1), count := BitVec.ofNat 16 (leAt l 14 2) }).next)

/-- The 16 bytes of a stream descriptor (R80). -/
def Stream.bytes (x : Stream) : List Byte :=
  leBytes 8 x.base.toNat ++ leBytes 4 x.stride.toNat ++ leBytes 1 x.ew.toNat ++ [0] ++ leBytes 2 x.count.toNat

/-- TST (R80, R82). -/
def execTst (c : CoreId) (td : StreamId) (ga : Reg) (s : State) : Out :=
  .next (s.onCore c fun s => s.withVec c fun f =>
    let a := f.gr ga
    if a.toNat % 16 ≠ 0 then s.raise c f 3 0 a false
    else (s.coreWrite c f a.toNat (f.st td).bytes false noBus).finish c f.next)

/-- TSET (R82). -/
def execTset (c : CoreId) (td : StreamId) (ga gb : Reg) (s : State) : Out :=
  .next (s.onCore c fun s => s.withVec c fun f =>
    let a := (f.gr ga).toNat
    let b := (f.gr gb).toNat
    if bits a 63 48 ≠ 0 ∨ bits b 47 34 ≠ 0 then s.raise c f 4 0 0 false
    else s.setFrame c (f.setS td { base := BitVec.ofNat 48 a, stride := BitVec.ofNat 32 b, ew := BitVec.ofNat 2 (bits b 33 32),
                                   count := BitVec.ofNat 16 (bits b 63 48) }).next)

/-- TADV (R82). -/
def execTadv (c : CoreId) (td : StreamId) (s : State) : Out :=
  .next (s.onCore c fun s => s.withVec c fun f =>
    let x := f.st td
    s.setFrame c (f.setS td { x with base := x.base + x.count.setWidth 48 * x.stride.signExtend 48 }).next)

/-- TCNT (R82). DEDUCED: the operand is a count, so a task that the exception ends carries LEN_INVALID (R69; log entry 16). -/
def execTcnt (c : CoreId) (td : StreamId) (ga : Reg) (s : State) : Out :=
  .next (s.onCore c fun s => s.withVec c fun f =>
    let a := (f.gr ga).toNat
    if a / 2 ^ 16 ≠ 0 then s.raise c f 4 0 0 true
    else s.setFrame c (f.setS td { f.st td with count := BitVec.ofNat 16 a }).next)

/-- VADD (R83). -/
def execVadd (c : CoreId) (vd va vb : Reg) (ew : Fin 4) (s : State) : Out := vecOp c 0 vd va vb ew false s
/-- VSUB (R83). -/
def execVsub (c : CoreId) (vd va vb : Reg) (ew : Fin 4) (s : State) : Out := vecOp c 1 vd va vb ew false s
/-- VAND (R83). -/
def execVand (c : CoreId) (vd va vb : Reg) (ew : Fin 4) (s : State) : Out := vecOp c 2 vd va vb ew false s
/-- VOR (R83). -/
def execVor (c : CoreId) (vd va vb : Reg) (ew : Fin 4) (s : State) : Out := vecOp c 3 vd va vb ew false s
/-- VXOR (R83). -/
def execVxor (c : CoreId) (vd va vb : Reg) (ew : Fin 4) (s : State) : Out := vecOp c 4 vd va vb ew false s
/-- VMIN (R83). -/
def execVmin (c : CoreId) (vd va vb : Reg) (ew : Fin 4) (sg : Bool) (s : State) : Out := vecOp c 5 vd va vb ew sg s
/-- VMAX (R83). -/
def execVmax (c : CoreId) (vd va vb : Reg) (ew : Fin 4) (sg : Bool) (s : State) : Out := vecOp c 6 vd va vb ew sg s
/-- VADDS (R83). -/
def execVadds (c : CoreId) (vd va vb : Reg) (ew : Fin 4) (sg : Bool) (s : State) : Out := vecOp c 7 vd va vb ew sg s
/-- VSUBS (R83). -/
def execVsubs (c : CoreId) (vd va vb : Reg) (ew : Fin 4) (sg : Bool) (s : State) : Out := vecOp c 8 vd va vb ew sg s
/-- VABSD (R83). -/
def execVabsd (c : CoreId) (vd va vb : Reg) (ew : Fin 4) (sg : Bool) (s : State) : Out := vecOp c 9 vd va vb ew sg s
/-- VMUL (R83). -/
def execVmul (c : CoreId) (vd va vb : Reg) (ew : Fin 4) (sg : Bool) (s : State) : Out := vecOp c 10 vd va vb ew sg s
/-- VMULH (R83). -/
def execVmulh (c : CoreId) (vd va vb : Reg) (ew : Fin 4) (sg : Bool) (s : State) : Out := vecOp c 11 vd va vb ew sg s

/-- VBSEL, bitwise; EW has no effect on it (R83). -/
def execVbsel (c : CoreId) (vd va vb : Reg) (ew : Fin 4) (s : State) : Out :=
  vecV c vd (fun f => match ew with
    | _ => (f.vr vd &&& f.vr va) ||| (~~~(f.vr vd) &&& f.vr vb)) s

/-- A comparison of opcode 0x11 (R83). -/
def vecCmp (c : CoreId) (fn : Nat) (vd va vb : Reg) (ew : Fin 4) (sg : Bool) (s : State) : Out :=
  vecV c vd (fun f => zipElems ew (elemCmp fn (ewBits ew) sg) (f.vr va) (f.vr vb)) s

/-- VCMPEQ (R83). -/
def execVcmpeq (c : CoreId) (vd va vb : Reg) (ew : Fin 4) (sg : Bool) (s : State) : Out := vecCmp c 0 vd va vb ew sg s
/-- VCMPLT (R83). -/
def execVcmplt (c : CoreId) (vd va vb : Reg) (ew : Fin 4) (sg : Bool) (s : State) : Out := vecCmp c 1 vd va vb ew sg s
/-- VCMPLE (R83). -/
def execVcmple (c : CoreId) (vd va vb : Reg) (ew : Fin 4) (sg : Bool) (s : State) : Out := vecCmp c 2 vd va vb ew sg s

/-- VTANY (R83). -/
def execVtany (c : CoreId) (px : Prd) (va : Reg) (s : State) : Out :=
  .next (s.onCore c fun s => s.withVec c fun f => s.setFrame c (f.setP px (f.vr va != 0)).next)
/-- VTALL (R83). -/
def execVtall (c : CoreId) (px : Prd) (va : Reg) (s : State) : Out :=
  .next (s.onCore c fun s => s.withVec c fun f => s.setFrame c (f.setP px (f.vr va == BitVec.allOnes 256)).next)

/-- A shift by the low log2(w) bits of the same element (R83). -/
def vecShift (c : CoreId) (vd va vb : Reg) (ew : Fin 4) (op : Nat → Nat → Nat → Nat) (s : State) : Out :=
  vecV c vd (fun f => zipElems ew (fun a b => op (ewBits ew) a (b % ewBits ew)) (f.vr va) (f.vr vb)) s

/-- VSLL (R83). -/
def execVsll (c : CoreId) (vd va vb : Reg) (ew : Fin 4) (s : State) : Out :=
  vecShift c vd va vb ew (fun w a n => a * 2 ^ n % 2 ^ w) s
/-- VSRL (R83). -/
def execVsrl (c : CoreId) (vd va vb : Reg) (ew : Fin 4) (s : State) : Out :=
  vecShift c vd va vb ew (fun _ a n => a / 2 ^ n) s
/-- VSRA (R83). -/
def execVsra (c : CoreId) (vd va vb : Reg) (ew : Fin 4) (s : State) : Out :=
  vecShift c vd va vb ew (fun w a n => wrap w (sx w a / ((2 ^ n : Nat) : Int))) s

/-- VPERM (R83). -/
def execVperm (c : CoreId) (vd va vb : Reg) (s : State) : Out :=
  vecV c vd (fun f => ofElems 0 ((elems 0 (f.vr vb)).map
    (fun k => if bit k 7 then 0 else (elems 0 (f.vr va)).getD (k % 32) 0))) s

/-- VMACC (R83). -/
def execVmacc (c : CoreId) (vd va vb : Reg) (ew : Fin 4) (s : State) : Out :=
  vecV c vd (fun f => zipElems ew (fun d p => (d + p) % 2 ^ ewBits ew) (f.vr vd)
    (zipElems ew (fun a b => a * b % 2 ^ ewBits ew) (f.vr va) (f.vr vb))) s

/-- Sums of `n` consecutive numbers. -/
def sumEvery (n : Nat) : Nat → List Nat → List Nat
  | 0, _ => []
  | k + 1, l => (l.take n).sum :: sumEvery n k (l.drop n)

/-- The absolute difference of two elements, exact (R83, R84). -/
def absDiff (w : Nat) (sg : Bool) (a b : Nat) : Nat := (elVal w sg a - elVal w sg b).natAbs

/-- VSAD (R84). -/
def execVsad (c : CoreId) (vd va vb : Reg) (ew : Fin 4) (sg : Bool) (s : State) : Out :=
  .next (s.onCore c fun s => s.withVec c fun f =>
    if ew = 3 then s.raise c f 1 0 0 false
    else
      let d := List.zipWith (absDiff (ewBits ew) sg) (elems ew (f.vr va)) (elems ew (f.vr vb))
      let acc := List.zipWith (fun x y => (x + y) % 2 ^ 64) (elems 3 (f.vr vd)) (sumEvery (64 / ewBits ew) 4 d)
      s.setFrame c (f.setV vd (ofElems 3 acc)).next)

/-- VRADD (R83). -/
def execVradd (c : CoreId) (vd va : Reg) (ew : Fin 4) (sg : Bool) (s : State) : Out :=
  vecV c vd (fun f => ofElems 3 [wrap 64 (((elems ew (f.vr va)).map (elVal (ewBits ew) sg)).sum)]) s

/-- VBCST (R83). -/
def execVbcst (c : CoreId) (vd ga : Reg) (ew : Fin 4) (s : State) : Out :=
  vecV c vd (fun f => ofElems ew (List.replicate (256 / ewBits ew) (f.gr ga).toNat)) s

/-- VINS: an index past the last element raises ILLEGAL_OPERAND (R83). -/
def execVins (c : CoreId) (vd ga : Reg) (idx : Fin 32) (ew : Fin 4) (s : State) : Out :=
  .next (s.onCore c fun s => s.withVec c fun f =>
    if idx.val ≥ 256 / ewBits ew then s.raise c f 4 0 0 false
    else s.setFrame c (f.setV vd (ofElems ew (setAt (elems ew (f.vr vd)) idx (f.gr ga).toNat))).next)

/-- VEXT (R83). -/
def execVext (c : CoreId) (rd va : Reg) (idx : Fin 32) (ew : Fin 4) (sg : Bool) (s : State) : Out :=
  .next (s.onCore c fun s => s.withVec c fun f =>
    if idx.val ≥ 256 / ewBits ew then s.raise c f 4 0 0 false
    else s.setFrame c (f.setG rd (BitVec.ofInt 64 (elVal (ewBits ew) sg ((elems ew (f.vr va)).getD idx 0)))).next)

/-- VMOV (R83). -/
def execVmov (c : CoreId) (vd va : Reg) (s : State) : Out := vecV c vd (fun f => f.vr va) s

/-- The address of VLD and VST (R85). -/
def vecAddr (f : Frame) (ga : Reg) (off : BitVec 15) : Word := f.gr ga + 32 * off.signExtend 64

/-- VLD (R85). -/
def execVld (c : CoreId) (vd ga : Reg) (off : BitVec 15) (s : State) : Out :=
  .next (s.onCore c fun s => s.withVec c fun f =>
    let a := vecAddr f ga off
    if a.toNat % 32 ≠ 0 then s.raise c f 3 0 a false
    else match s.coreRead c f a.toNat 32 with
      | .stop s1 => s1
      | .ok l s1 => s1.setFrame c (f.setV vd (BitVec.ofNat 256 (leNat l))).next)

/-- VST (R85). -/
def execVst (c : CoreId) (vs ga : Reg) (off : BitVec 15) (s : State) : Out :=
  .next (s.onCore c fun s => s.withVec c fun f =>
    let a := vecAddr f ga off
    if a.toNat % 32 ≠ 0 then s.raise c f 3 0 a false
    else (s.coreWrite c f a.toNat (leBytes 32 (f.vr vs).toNat) false noBus).finish c f.next)

/-- Field `k` of the records of a short structure load (R90). -/
def ldsField (n ew k : Nat) (l : List Byte) : Vec :=
  ofElems ew ((List.range (256 / ewBits ew)).map (fun j => leAt l ((j * n + k) * ewBytes ew) (ewBytes ew)))

/-- The short form of LDS with `n` fields (R90). -/
def State.ldsShort (s : State) (c : CoreId) (n : Nat) (vd ga : Reg) (ew : Fin 4) (off : BitVec 11) (f : Frame) : State :=
  let a := f.gr ga + 32 * off.signExtend 64
  if vd.val + n - 1 > 31 then s.raise c f 4 0 0 false
  else if a.toNat % 32 ≠ 0 then s.raise c f 3 0 a false
  else match s.coreRead c f a.toNat (32 * n) with
    | .stop s1 => s1
    | .ok l s1 =>
      let f1 := (List.range n).foldl (fun f k =>
        if h : vd.val + k < 32 then f.setV ⟨vd.val + k, h⟩ (ldsField n ew k l) else f) f
      s1.setFrame c f1.next

end Sys2Proof.Machine
end

