-- ==== Sys2Proof/Machine/LongVec.lean ====
section
/-!
DEFINITION. Sys2Proof/Machine/LongVec.lean: long vectors and structure loads (R81, R86 to R94). An instruction goes element
by element from EIX; what it has committed below a stop stays.
-/

namespace Sys2Proof.Machine

/-! ## Element accesses -/

/-- An element may lie here (R88): HBM, the CXL tier, the Cistern, the core's own scratch window, the host window. -/
def elemPlace (s : State) (c a : Nat) : Bool :=
  match spaceOf s a with
  | .hbm => true
  | .cxl => true
  | .cistern => true
  | .host => true
  | .scratch k => decide (k = c)
  | _ => false

/-- What an element access met (R93, R94, R538): the bytes; a fault at an address; an uncorrectable error in the scratch window; a refusal;
a reaction that takes the core. -/
inductive El where
  | ok (l : List Byte) (s : State)
  | elem (a : Nat) (s : State)
  | data (a : Nat) (s : State)
  | refused (a : Nat) (s : State)
  | taken (s : State)
  deriving DecidableEq, Repr

/-- The checks of one element access: translation, place and Dike (R88, R89, R93). -/
def State.elCheck (s : State) (c a n : Nat) (d : Dir) : El :=
  let host := decide (spaceOf s a = .host)
  let r := if host then s.translate (s.corePolder c) (hostAddr a / 4096) else (true, s)
  if !r.1 then .elem a r.2 else
  let s := r.2
  let m := s.coreMaster c
  let v := match s.dikeCheck m a n d false with
    | some p => some p
    | none => if elemPlace s c a then none else some (a, a + n - 1, 3, 0xFFFF)
  match v with
  | some p => .refused a (s.refuse m (s.coreCtrl c 15) d p true true)
  | none => .ok [] s

/-- One element read (R88, R93). An uncorrectable error in the scratch window is no ELEMENT: it is R538's other read of a core. -/
def State.elRead (s : State) (c a n : Nat) : El :=
  match s.elCheck c a n .read with
  | .ok _ s1 =>
    match s1.poisoned a n with
    | some w =>
      let k := eccSource w
      let s2 := s1.latchEcc c w
      if s1.bringsReset k then .taken s2 else if k = 4 then .data w s2 else .elem a s2
    | none => .ok (s1.bytes a n) (if spaceOf s1 a = .host then s1.bump else s1)
  | e => e

/-- An element write whose check has passed. -/
def State.elStore (s : State) (c a : Nat) (l : List Byte) : State := s.store (s.corePolder c) a l

/-- The address of element `i` of a stream (R80). -/
def Stream.addr (x : Stream) (i : Nat) : Nat := (x.base + BitVec.ofNat 48 i * x.stride.signExtend 48).toNat

/-- How the work on one element ended. -/
inductive Step1 where
  | ok (s : State) (f : Frame)
  | elem (a : Nat) (s : State)
  | data (a : Nat) (s : State)
  | refused (a : Nat) (s : State)
  | taken (s : State)
  deriving DecidableEq, Repr

/-- An element is read, and the work goes on with its value. -/
def State.elBind (s : State) (c a n : Nat) (k : Nat → State → Step1) : Step1 :=
  match s.elRead c a n with
  | .ok l s1 => k (leNat l) s1
  | .elem a s1 => .elem a s1
  | .data a s1 => .data a s1
  | .refused a s1 => .refused a s1
  | .taken s1 => .taken s1

/-- An element is checked and written. -/
def State.elPut (s : State) (c a n v : Nat) (k : State → Step1) : Step1 :=
  match s.elCheck c a n .write with
  | .ok _ s1 => k (s1.elStore c a (leBytes n v))
  | .elem a s1 => .elem a s1
  | .data a s1 => .data a s1
  | .refused a s1 => .refused a s1
  | .taken s1 => .taken s1

/-- Elements `i` on, `fuel` of them; at a stop the frame keeps what is committed and EIX names the element (R92 to R94). -/
def State.elLoop (c : CoreId) (body : Nat → State → Frame → Step1) : Nat → Nat → State → Frame → State
  | 0, _, s, f => s.setFrame c { f with eix := 0 }.next
  | fuel + 1, i, s, f =>
    match body i s f with
    | .ok s1 f1 => State.elLoop c body fuel (i + 1) s1 f1
    | .elem a s1 =>
      let f1 := { f with eix := BitVec.ofNat 64 i }
      (s1.setFrame c f1).raise c f1 5 0 (BitVec.ofNat 64 a) false
    | .data a s1 =>
      let f1 := { f with eix := BitVec.ofNat 64 i }
      (s1.setFrame c f1).raise c f1 9 0 (BitVec.ofNat 64 a) false
    | .refused a s1 =>
      let f1 := { f with eix := BitVec.ofNat 64 i }
      let s2 := s1.setFrame c f1
      if s2.privileged c then s2.raise c f1 0 0 (BitVec.ofNat 64 a) false else s2
    | .taken s1 => s1.setFrame c { f with eix := BitVec.ofNat 64 i }

/-- A stream's BASE and STRIDE are multiples of its width (R88); `stride` says that STRIDE is read. -/
def Stream.aligned (x : Stream) (stride : Bool) : Bool :=
  decide (x.base.toNat % ewBytes x.ew.toNat = 0) && (!stride || decide (x.stride.toNat % ewBytes x.ew.toNat = 0))

/-- The checks of R88 and the loop. `srcs` are the streams whose alignment counts, with whether STRIDE is read; `mismatch`
is a width mismatch. A VLEN of 0 performs nothing and clears EIX (R81). -/
def State.longVec (s : State) (c : CoreId) (f : Frame) (vlen : Nat) (mismatch : Bool) (streams : List (Stream × Bool))
    (body : Nat → State → Frame → Step1) : State :=
  if vlen = 0 then s.setFrame c { f with eix := 0 }.next
  else if mismatch then s.raise c f 4 0 0 false
  else if vlen > 4096 then s.raise c f 4 0 0 true
  else if f.eix.toNat ≥ vlen then s.raise c f 4 0 0 false
  else match streams.find? (fun x => !(x.1.aligned x.2)) with
    | some x => s.raise c f 3 0 (x.1.base.setWidth 64) false
    | none => State.elLoop c body (vlen - f.eix.toNat) f.eix.toNat s f

/-- Whether a function of opcode 0x10 has a signed form (R83). -/
def hasSigned (fn : Nat) : Bool := decide (5 ≤ fn)

/-- LV BinaryOps: td[i] ← ta[i] op tb[i] (R86). -/
def execLvBinary (c : CoreId) (td ta tb : StreamId) (fn : Fin 12) (sg : Bool) (s : State) : Out :=
  .next (s.onCore c fun s => s.withVec c fun f =>
    if sg ∧ !hasSigned fn then s.raise c f 1 0 0 false else
    let a := f.st ta
    let b := f.st tb
    let d := f.st td
    let n := ewBytes a.ew.toNat
    s.longVec c f a.count.toNat (a.ew != b.ew || a.ew != d.ew) [(a, true), (b, true), (d, true)] fun i s f =>
      s.elBind c (a.addr i) n fun x s => s.elBind c (b.addr i) n fun y s =>
        s.elPut c (d.addr i) n (elemOp fn (8 * n) sg x y) fun s => .ok s f)

/-- LV BinaryOps, scalar form (R86). -/
def execLvBinaryScalar (c : CoreId) (td ta : StreamId) (fn : Fin 12) (sv : Reg) (sg : Bool) (s : State) : Out :=
  .next (s.onCore c fun s => s.withVec c fun f =>
    if sg ∧ !hasSigned fn then s.raise c f 1 0 0 false else
    let a := f.st ta
    let d := f.st td
    let n := ewBytes a.ew.toNat
    let y := (f.vr sv).toNat % 2 ^ 64 % 2 ^ (8 * n)
    s.longVec c f a.count.toNat (a.ew != d.ew) [(a, true), (d, true)] fun i s f =>
      s.elBind c (a.addr i) n fun x s => s.elPut c (d.addr i) n (elemOp fn (8 * n) sg x y) fun s => .ok s f)

/-- Lane `k` of a register of four 64-bit lanes replaced. -/
def setLane (v : Vec) (k x : Nat) : Vec := ofElems 3 (setAt (elems 3 v) k x)

/-- Lane `k` of a register of four 64-bit lanes. -/
def lane (v : Vec) (k : Nat) : Nat := (elems 3 v).getD k 0

/-- LVSAD; S must be 0 (R86). -/
def execLvsad (c : CoreId) (ta tb : StreamId) (sv : Reg) (sg : Bool) (s : State) : Out :=
  .next (s.onCore c fun s => s.withVec c fun f =>
    if sg then s.raise c f 1 0 0 false else
    let a := f.st ta
    let b := f.st tb
    let n := ewBytes a.ew.toNat
    s.longVec c f a.count.toNat (a.ew != b.ew || a.ew == 3) [(a, true), (b, true)] fun i s f =>
      s.elBind c (a.addr i) n fun x s => s.elBind c (b.addr i) n fun y s =>
        .ok s (f.setV sv (setLane (f.vr sv) (i % 4) ((lane (f.vr sv) (i % 4) + absDiff (8 * n) false x y) % 2 ^ 64))))

/-- A reduction into lane 0 of a register (R86). -/
def lvReduce (c : CoreId) (ta : StreamId) (sv : Reg) (op : Nat → Nat → Nat → Nat) (s : State) : State :=
  s.withVec c fun f =>
    let a := f.st ta
    let n := ewBytes a.ew.toNat
    s.longVec c f a.count.toNat false [(a, true)] fun i s f =>
      s.elBind c (a.addr i) n fun x s => .ok s (f.setV sv (setLane (f.vr sv) 0 (op (8 * n) (lane (f.vr sv) 0) x)))

/-- LVSUM (R86). -/
def execLvsum (c : CoreId) (ta : StreamId) (sv : Reg) (sg : Bool) (s : State) : Out :=
  .next (s.onCore c fun s => lvReduce c ta sv (fun w acc x => wrap 64 ((acc : Int) + elVal w sg x)) s)

/-- LVMIN (R86). -/
def execLvmin (c : CoreId) (ta : StreamId) (sv : Reg) (sg : Bool) (s : State) : Out :=
  .next (s.onCore c fun s => lvReduce c ta sv (fun w acc x => wrap 64 (min (elVal 64 sg acc) (elVal w sg x))) s)

/-- LVMAX (R86). -/
def execLvmax (c : CoreId) (ta : StreamId) (sv : Reg) (sg : Bool) (s : State) : Out :=
  .next (s.onCore c fun s => lvReduce c ta sv (fun w acc x => wrap 64 (max (elVal 64 sg acc) (elVal w sg x))) s)

/-- LVCNT (R86). -/
def execLvcnt (c : CoreId) (ta : StreamId) (sv : Reg) (s : State) : Out :=
  .next (s.onCore c fun s => lvReduce c ta sv (fun _ acc x => (acc + b2n (x ≠ 0)) % 2 ^ 64) s)

/-- LVCPY, widths free (R86). -/
def execLvcpy (c : CoreId) (td ta : StreamId) (sg : Bool) (s : State) : Out :=
  .next (s.onCore c fun s => s.withVec c fun f =>
    let a := f.st ta
    let d := f.st td
    let n := ewBytes a.ew.toNat
    let m := ewBytes d.ew.toNat
    s.longVec c f a.count.toNat false [(a, true), (d, true)] fun i s f =>
      s.elBind c (a.addr i) n fun x s => s.elPut c (d.addr i) m (wrap (8 * m) (elVal (8 * n) sg x)) fun s => .ok s f)

/-- A long comparison; S must be 0 (R86). -/
def lvCmp (c : CoreId) (fn : Nat) (td ta tb : StreamId) (sg : Bool) (s : State) : State :=
  s.withVec c fun f =>
    if sg then s.raise c f 1 0 0 false else
    let a := f.st ta
    let b := f.st tb
    let d := f.st td
    let n := ewBytes a.ew.toNat
    s.longVec c f a.count.toNat (a.ew != b.ew || a.ew != d.ew) [(a, true), (b, true), (d, true)] fun i s f =>
      s.elBind c (a.addr i) n fun x s => s.elBind c (b.addr i) n fun y s =>
        s.elPut c (d.addr i) n (elemCmp fn (8 * n) false x y) fun s => .ok s f

/-- LVCMPEQ (R86). -/
def execLvcmpeq (c : CoreId) (td ta tb : StreamId) (sg : Bool) (s : State) : Out :=
  .next (s.onCore c fun s => lvCmp c 0 td ta tb sg s)
/-- LVCMPLT (R86). -/
def execLvcmplt (c : CoreId) (td ta tb : StreamId) (sg : Bool) (s : State) : Out :=
  .next (s.onCore c fun s => lvCmp c 1 td ta tb sg s)
/-- LVCMPLE (R86). -/
def execLvcmple (c : CoreId) (td ta tb : StreamId) (sg : Bool) (s : State) : Out :=
  .next (s.onCore c fun s => lvCmp c 2 td ta tb sg s)

/-- LVGATH: the index stream's elements count in elements of ta's width; ta.STRIDE is not read (R86). DESIGN CHOICE: a sum past 2^48 wraps,
as addresses are 48 bits (log entry 16). -/
def execLvgath (c : CoreId) (td ta tb : StreamId) (s : State) : Out :=
  .next (s.onCore c fun s => s.withVec c fun f =>
    let a := f.st ta
    let b := f.st tb
    let d := f.st td
    let n := ewBytes a.ew.toNat
    s.longVec c f a.count.toNat (a.ew != b.ew || a.ew != d.ew) [(a, false), (b, true), (d, true)] fun i s f =>
      s.elBind c (b.addr i) n fun k s => s.elBind c ((a.base.toNat + k * n) % 2 ^ 48) n fun x s =>
        s.elPut c (d.addr i) n x fun s => .ok s f)

/-- LVCOMP: the count reaches s[sx] after the last element (R86). -/
def execLvcomp (c : CoreId) (td ta tb : StreamId) (sv : Reg) (s : State) : Out :=
  .next (s.onCore c fun s => s.withVec c fun f =>
    let a := f.st ta
    let b := f.st tb
    let d := f.st td
    let n := ewBytes a.ew.toNat
    let vlen := a.count.toNat
    let f0 := if f.eix = 0 then { f with appended := 0 } else f
    s.longVec c f0 vlen (a.ew != b.ew || a.ew != d.ew) [(a, true), (b, true), (d, true)] fun i s f =>
      let last (f : Frame) : Frame :=
        if i + 1 = vlen then { f.setV sv (setLane (f.vr sv) 0 f.appended) with appended := 0 } else f
      s.elBind c (a.addr i) n fun x s => s.elBind c (b.addr i) n fun y s =>
        if y ≠ 0 then s.elPut c (d.addr f.appended) n x fun s => .ok s (last { f with appended := f.appended + 1 })
        else .ok s (last f))

/-! ## Structure loads -/

/-- The fields of a record are read, from byte offset `o` (R90). -/
def State.ldsReads (s : State) (c base : Nat) : List Stream → Nat → List Nat → (List Nat → State → Step1) → Step1
  | [], _, vs, k => k vs s
  | d :: ds, o, vs, k =>
    s.elBind c ((base + o) % 2 ^ 48) (ewBytes d.ew.toNat) fun v s =>
      s.ldsReads c base ds (o + ewBytes d.ew.toNat) (vs ++ [v]) k

/-- Every field write of a record is checked before any is made (R91). -/
def State.ldsChecks (s : State) (c i : Nat) : List Stream → (State → Step1) → Step1
  | [], k => k s
  | d :: ds, k =>
    match s.elCheck c (d.addr i) (ewBytes d.ew.toNat) .write with
    | .ok _ s1 => s1.ldsChecks c i ds k
    | .elem a s1 => .elem a s1
    | .data a s1 => .data a s1
    | .refused a s1 => .refused a s1
    | .taken s1 => .taken s1

/-- The field writes of a record (R90). -/
def State.ldsWrites (s : State) (c i : Nat) : List (Stream × Nat) → State
  | [] => s
  | (d, v) :: ds => (s.elStore c (d.addr i) (leBytes (ewBytes d.ew.toNat) v)).ldsWrites c i ds

/-- Field addresses in record 0 and the record size are multiples of each field's width (R91). -/
def ldsAligned (a : Stream) : List Stream → Nat → Bool
  | [], _ => true
  | d :: ds, o =>
    let n := ewBytes d.ew.toNat
    decide ((a.base.toNat + o) % n = 0) && decide (a.stride.toNat % n = 0) && ldsAligned a ds (o + n)

/-- The long form of LDS with `n` fields (R90, R91). DESIGN CHOICE (log entry 16): the form's own checks come before the VLEN of 0 that performs
nothing, and MISALIGN of a field or the record size gives ta.BASE in XADDR. -/
def State.ldsLong (s : State) (c : CoreId) (n : Nat) (td ta : StreamId) (f : Frame) : State :=
  let a := f.st ta
  let ds := (List.range n).map (fun k => if h : td.val + k < 8 then f.st ⟨td.val + k, h⟩ else {})
  let sum := (ds.map (fun d => ewBytes d.ew.toNat)).sum
  if td.val + n - 1 > 7 ∨ (td.val ≤ ta.val ∧ ta.val < td.val + n) ∨ sum > a.stride.toInt.natAbs then s.raise c f 4 0 0 false
  else if a.count.toNat ≠ 0 ∧ a.count.toNat ≤ 4096 ∧ a.ew = 0 ∧ f.eix.toNat < a.count.toNat ∧ !ldsAligned a ds 0 then
    s.raise c f 3 0 (a.base.setWidth 64) false
  else s.longVec c f a.count.toNat (a.ew != 0) (ds.map (fun d => (d, true))) fun i s f =>
    s.ldsReads c (a.addr i) ds 0 [] fun vs s => s.ldsChecks c i ds fun s => .ok (s.ldsWrites c i (ds.zip vs)) f

/-- A structure load of `n` fields in either form (R90). -/
def lds (c : CoreId) (n : Nat) (g : LdsForm) (s : State) : State :=
  s.withVec c fun f =>
    match g with
    | .short vd ga ew off => s.ldsShort c n vd ga ew off f
    | .long td ta => s.ldsLong c n td ta f

/-- LDS2 (R90). -/
def execLds2 (c : CoreId) (g : LdsForm) (s : State) : Out := .next (s.onCore c fun s => lds c 2 g s)
/-- LDS3 (R90). -/
def execLds3 (c : CoreId) (g : LdsForm) (s : State) : Out := .next (s.onCore c fun s => lds c 3 g s)
/-- LDS4 (R90). -/
def execLds4 (c : CoreId) (g : LdsForm) (s : State) : Out := .next (s.onCore c fun s => lds c 4 g s)

end Sys2Proof.Machine
end

