-- ==== Sys2Proof/Machine/MemCtl.lean ====
section
/-!
DEFINITION. Sys2Proof/Machine/MemCtl.lean: the LD, ST, BR, JMP/CALL and SYS classes (R36, R37, R45 to R50).
-/

namespace Sys2Proof.Machine

/-! ## Loads and stores -/

/-- Bytes of an access of size code SZ (R45). -/
def szBytes (sz : Fin 4) : Nat := 2 ^ sz.val

/-- The data address of LD and ST (R45). -/
def dataAddr (f : Frame) (ra : Reg) (off : BitVec 12) : Word := f.gr ra + off.signExtend 64

/-- The value a load gives (R45). -/
def loadValue (sz : Fin 4) (sx : Bool) (l : List Byte) : Word :=
  let v := leNat l
  if sx then BitVec.ofInt 64 (Sys2Proof.Machine.sx (8 * szBytes sz) v) else BitVec.ofNat 64 v

/-- LD (R45). -/
def execLd (c : CoreId) (rd ra : Reg) (sz : Fin 4) (sx : Bool) (off : BitVec 12) (s : State) : Out :=
  .next (s.onCore c fun s => s.withFrame c fun f =>
    let a := dataAddr f ra off
    if sx ∧ sz = 3 then s.raise c f 1 0 0 false
    else if a.toNat % szBytes sz ≠ 0 then s.raise c f 3 0 a false
    else match s.coreRead c f a.toNat (szBytes sz) with
      | .stop s1 => s1
      | .ok l s1 => s1.setFrame c (f.setG rd (loadValue sz sx l)).next)

/-- ST (R45, R49, R73). -/
def execSt (c : CoreId) (rs ra : Reg) (sz : Fin 4) (off : BitVec 12) (s : State) : Out :=
  .next (s.onCore c fun s => s.withFrame c fun f =>
    let a := dataAddr f ra off
    if a.toNat % szBytes sz ≠ 0 then s.raise c f 3 0 a false
    else (s.coreWrite c f a.toNat (leBytes (szBytes sz) (f.gr rs).toNat) false (fun o n v s => s.busWrite o n v)).finish c f.next)

/-- An atomic may be performed at an address: HBM, the Cistern, or the core's own scratch window (R46); in the session arena, which is HBM,
Dike refuses it (R29). -/
def State.atomicAt (s : State) (c a : Nat) : Bool :=
  match spaceOf s a with
  | .hbm => true
  | .arena => true
  | .cistern => true
  | .scratch k => decide (k = c)
  | _ => false

/-- An atomic read-modify-write (R46): `op old operand rd` gives the value to store, if one is stored. Both accesses are
checked before either is made. -/
def State.amo (s : State) (c : CoreId) (rd ra rb : Reg) (w64 : Bool) (op : Nat → Nat → Nat → Nat → Option Nat) : State :=
  s.withFrame c fun f =>
    let a := f.gr ra
    let n := if w64 then 8 else 4
    if a.toNat % n ≠ 0 then s.raise c f 3 0 a false
    else if !s.atomicAt c a.toNat then s.raise c f 4 0 0 false
    else match s.coreRead c f a.toNat n with
      | .stop s1 => s1
      | .ok l s1 =>
        let m := s1.coreMaster c
        match s1.dikeCheck m a.toNat n .write false with
        | some p =>
          let s2 := s1.refuse m (s1.coreCtrl c 15) .write p true true
          if m.priv then s2.raise c f 0 0 a false else s2
        | none =>
          let old := leNat l
          let w := 8 * n
          let s2 := match op w old ((f.gr rb).toNat % 2 ^ w) ((f.gr rd).toNat % 2 ^ w) with
            | some v => s1.put a.toNat (leBytes n v)
            | none => s1
          s2.setFrame c (f.setG rd (BitVec.ofNat 64 old)).next

/-- AMO SWAP (R46). -/
def execAmoSwap (c : CoreId) (rd ra rb : Reg) (w64 : Bool) (s : State) : Out :=
  .next (s.onCore c fun s => s.amo c rd ra rb w64 fun _ _ b _ => some b)

/-- AMO ADD (R46). -/
def execAmoAdd (c : CoreId) (rd ra rb : Reg) (w64 : Bool) (s : State) : Out :=
  .next (s.onCore c fun s => s.amo c rd ra rb w64 fun _ x b _ => some (x + b))

/-- AMO AND (R46). -/
def execAmoAnd (c : CoreId) (rd ra rb : Reg) (w64 : Bool) (s : State) : Out :=
  .next (s.onCore c fun s => s.amo c rd ra rb w64 fun _ x b _ => some (x &&& b))

/-- AMO OR (R46). -/
def execAmoOr (c : CoreId) (rd ra rb : Reg) (w64 : Bool) (s : State) : Out :=
  .next (s.onCore c fun s => s.amo c rd ra rb w64 fun _ x b _ => some (x ||| b))

/-- AMO XOR (R46). -/
def execAmoXor (c : CoreId) (rd ra rb : Reg) (w64 : Bool) (s : State) : Out :=
  .next (s.onCore c fun s => s.amo c rd ra rb w64 fun _ x b _ => some (x ^^^ b))

/-- AMO MAX, signed at the access width (R46). -/
def execAmoMax (c : CoreId) (rd ra rb : Reg) (w64 : Bool) (s : State) : Out :=
  .next (s.onCore c fun s => s.amo c rd ra rb w64 fun w x b _ => some (if sx w x < sx w b then b else x))

/-- AMO MIN, signed at the access width (R46). -/
def execAmoMin (c : CoreId) (rd ra rb : Reg) (w64 : Bool) (s : State) : Out :=
  .next (s.onCore c fun s => s.amo c rd ra rb w64 fun w x b _ => some (if sx w b < sx w x then b else x))

/-- AMO MAXU (R46). -/
def execAmoMaxu (c : CoreId) (rd ra rb : Reg) (w64 : Bool) (s : State) : Out :=
  .next (s.onCore c fun s => s.amo c rd ra rb w64 fun _ x b _ => some (max x b))

/-- AMO MINU (R46). -/
def execAmoMinu (c : CoreId) (rd ra rb : Reg) (w64 : Bool) (s : State) : Out :=
  .next (s.onCore c fun s => s.amo c rd ra rb w64 fun _ x b _ => some (min x b))

/-- AMO CAS: rb is stored only where the old value equals rd's, at the access width (R46). -/
def execAmoCas (c : CoreId) (rd ra rb : Reg) (w64 : Bool) (s : State) : Out :=
  .next (s.onCore c fun s => s.amo c rd ra rb w64 fun _ x b d => if x = d then some b else none)

/-! ## Branches and jumps -/

/-- The target of a relative branch or jump (R47). -/
def relTarget {w : Nat} (f : Frame) (off : BitVec w) : Word := f.pc + 4 * off.signExtend 64

/-- BR (R47). -/
def execBr (c : CoreId) (p : Prd) (sense : Bool) (off : BitVec 22) (s : State) : Out :=
  .next (s.onPlain c fun s => s.withFrame c fun f =>
    s.setFrame c (if f.pr p = sense then { f with pc := relTarget f off } else f.next))

/-- J (R47). -/
def execJ (c : CoreId) (off : BitVec 24) (s : State) : Out :=
  .next (s.onPlain c fun s => s.withFrame c fun f => s.setFrame c { f with pc := relTarget f off })

/-- CALL: the return address to g31 (R47). -/
def execCall (c : CoreId) (off : BitVec 24) (s : State) : Out :=
  .next (s.onPlain c fun s => s.withFrame c fun f => s.setFrame c { f.setG 31 (f.pc + 4) with pc := relTarget f off })

/-- JR: a target that is not 4-byte-aligned raises MISALIGN with XADDR the target (R47). -/
def execJr (c : CoreId) (ra : Reg) (s : State) : Out :=
  .next (s.onCore c fun s => s.withFrame c fun f =>
    let t := f.gr ra
    if t.toNat % 4 ≠ 0 then s.raise c f 3 0 t false else s.setFrame c { f with pc := t })

/-- CALLR (R47). -/
def execCallr (c : CoreId) (ra : Reg) (s : State) : Out :=
  .next (s.onCore c fun s => s.withFrame c fun f =>
    let t := f.gr ra
    if t.toNat % 4 ≠ 0 then s.raise c f 3 0 t false else s.setFrame c { f.setG 31 (f.pc + 4) with pc := t })

/-! ## SYS -/

/-- NOP (R48). -/
def execNop (c : CoreId) (s : State) : Out :=
  .next (s.onPlain c fun s => s.withFrame c fun f => s.setFrame c f.next)

/-- FENCE (R48, R49): every earlier access of the model has been performed, so only the program counter moves. -/
def execFence (c : CoreId) (s : State) : Out :=
  .next (s.onPlain c fun s => s.withFrame c fun f => s.setFrame c f.next)

/-- SELF (R36). -/
def State.selfWord (s : State) (c : Nat) : Nat :=
  match s.curTask c with
  | some t => (s.task t).program * 2 ^ 32 + (s.task t).polder * 2 ^ 24 + c * 2 ^ 16 + t
  | none => c * 2 ^ 16

/-- A system register's value (R36); none for a number not listed. -/
def State.sysreg (s : State) (c : Nat) (f : Frame) (num : Nat) : Option Word :=
  match num with
  | 0 => some (BitVec.ofNat 64 s.now)
  | 1 => some (s.reg F.EPC_COUNT_COUNT.off)
  | 2 => some (BitVec.ofNat 64 (s.selfWord c))
  | 3 => some (match s.curTask c with | some t => (s.task t).flags.setWidth 64 | none => 0)
  | 4 => some (match s.curTask c with
    | some t => BitVec.ofNat 64 (s.prog (s.task t).polder (s.task t).program).pdb
    | none => 0)
  | 8 => some f.xpc
  | 9 => some f.xcause
  | 10 => some f.xaddr
  | 11 => some f.xhnd
  | 12 => some f.eix
  | _ => none

/-- MFS (R36, R37, R48). The spec gives the firmware's reserved registers no contents: a read in P takes a free value. -/
def execMfs (c : CoreId) (r : Reg) (num : BitVec 15) (s : State) : Out :=
  .next (s.onCore c fun s => s.withFrame c fun f =>
    if num.toNat ≥ 0x100 then
      if s.privileged c then (s.bump).setFrame c (f.setG r (Config.firmwareReg s.free num)).next else s.raise c f 2 0 0 false
    else match s.sysreg c f num.toNat with
      | some v => s.setFrame c (f.setG r v).next
      | none => s.raise c f 1 0 0 false)

/-- MTS to the RW numbers (R36, R37, R48); any other number below 0x100 raises ILLEGAL_INSTR. -/
def execMts (c : CoreId) (r : Reg) (num : BitVec 15) (s : State) : Out :=
  .next (s.onCore c fun s => s.withFrame c fun f =>
    if num.toNat ≥ 0x100 then
      if s.privileged c then s.setFrame c f.next else s.raise c f 2 0 0 false
    else match num.toNat with
      | 8 => s.setFrame c { f with xpc := f.gr r }.next
      | 11 => s.setFrame c { f with xhnd := f.gr r }.next
      | 12 => s.setFrame c { f with eix := f.gr r }.next
      | _ => s.raise c f 1 0 0 false)

/-- TRAP (R48, R69). -/
def execTrap (c : CoreId) (num : BitVec 15) (s : State) : Out :=
  .next (s.onCore c fun s => s.withFrame c fun f => s.raise c f 7 (num.toNat % 256) 0 false)

/-- XRET (R48, R70): ILLEGAL_INSTR where XACT is 0. -/
def execXret (c : CoreId) (s : State) : Out :=
  .next (s.onCore c fun s => s.withFrame c fun f => if f.xact then s.setFrame c f.leave else s.raise c f 1 0 0 false)

/-- BKPT (R48, R69): with a debugger attached the core halts at it, else it raises BKPT. -/
def execBkpt (c : CoreId) (s : State) : Out :=
  .next (s.onCore c fun s => s.withFrame c fun f =>
    if s.debugAttached then s.setCore c { s.core c with halted := true } else s.raise c f 8 0 0 false)

/-- HALT (R37, R48): the core stops until the management core restarts it. -/
def execHalt (c : CoreId) (s : State) : Out :=
  .next (s.onCore c fun s => s.inP c fun f =>
    let s1 := s.setFrame c f.next
    s1.setCore c { s1.core c with halted := true })

/-- ERET (R37, R48): the core returns to the task it holds, in U; where it holds none, only the program counter moves. -/
def execEret (c : CoreId) (s : State) : Out :=
  .next (s.onCore c fun s => s.inP c fun f =>
    let s1 := s.setFrame c f.next
    if (s.worker c).task.isSome then s1.setCore c { s1.core c with mode := .U } else s1)

end Sys2Proof.Machine
end

