-- ==== Sys2Proof/Machine/Parsers.lean ====
section
/-!
DEFINITION. Sys2Proof/Machine/Parsers.lean: the supplied service program: its handshake (R289, R290, R327), its records, the compact-frame parser (R329 to
R332) and the IEC 60870-5-104 parser (R333 to R337); and DONE (R50, R58, R286). A task of a vendor service program that reaches DONE without having
run an instruction of its own before has run the supplied program, whole, in that one step (DESIGN CHOICE, log entry 83).
-/

namespace Sys2Proof.Machine

/-! ## Records of the supplied program -/

/-- An action of the supplied program: one record of a content type, bytes that it has built, INSTALL with keys of its own, or another of R286. -/
inductive SupAct where
  | record (ty : Nat) (l : List Byte)
  | raw (l : List Byte)
  | install (st suite : Nat) (keys : List Byte)
  | timer (ticks : Nat)
  | close
  | abort
  | move
  | discard
  deriving DecidableEq, Repr

/-- Bytes of a suite's key. -/
def suiteKeyLen (suite : Nat) : Nat := if suite = 0x1301 then 16 else 32

/-- The nonce of a record: its number in eight bytes, most significant first, on the IV (RFC 8446, RFC 9147). -/
def recordNonce (iv : List Byte) (n : Nat) : List Byte := List.zipWith (· ^^^ ·) (fitLen 12 iv) (beBytes 12 n)

/-- The number of a record that enters its nonce: without the epoch in DTLS (RFC 9147). -/
def Session.number (x : Session) (n : Nat) : Nat := if x.proto = 1 then n else n % 2 ^ 48

/-- A record of the session with its header: sealed once keys are installed (R174, R286; RFC 8446, RFC 9147). -/
def Session.seal (x : Session) (ty : Nat) (l : List Byte) : List Byte :=
  let n := x.number x.tseq
  if x.keyed then
    let body := l.length + 17
    let head := if x.proto = 1 then [(23 : Byte), 3, 3] ++ beBytes 2 body
      else beBytes 1 (0x2C + x.tseq / 2 ^ 48 % 4) ++ beBytes 2 (n % 2 ^ 16) ++ beBytes 2 body
    head ++ fitLen body (Config.aeadSeal (suiteAlg x.suite) x.wkey (recordNonce (x.ivs.drop 12) n) head (l ++ beBytes 1 ty))
  else if x.proto = 1 then beBytes 1 ty ++ [(3 : Byte), 3] ++ beBytes 2 l.length ++ l
  else beBytes 1 ty ++ beBytes 2 0xFEFD ++ beBytes 2 (x.tseq / 2 ^ 48) ++ beBytes 6 n ++ beBytes 2 l.length ++ l

/-- The content type and content of an opened record: the last byte that is not 0 is the type (RFC 8446). -/
def innerPlain (l : List Byte) : Option (Nat × List Byte) :=
  match l.reverse.dropWhile (· = 0) with
  | [] => none
  | t :: r => some (t.toNat, r.reverse)

/-- A record is opened under the session's read key; none where its tag fails (R174, R285, R290). -/
def Session.openRec (x : Session) (i : SesItem) : Option (Nat × List Byte) :=
  let head := i.data.take i.hdrLen
  let ct := i.data.drop i.hdrLen
  let nonce := recordNonce x.ivs (x.number i.rseq)
  if 16 ≤ ct.length ∧ Config.aeadOk (suiteAlg x.suite) x.rkey nonce head ct then
    innerPlain (fitLen (ct.length - 16) (Config.aeadPlain (suiteAlg x.suite) x.rkey nonce head ct))
  else none

/-- A fatal alert record's content (RFC 8446). -/
def fatal (code : Nat) : SupAct := .record 21 (beBytes 1 2 ++ beBytes 1 code)

/-- Bytes are put into the output buffer and sent (R286). -/
def Acts.sendBytes (a : Acts) (k out : Nat) (l : List Byte) : Acts :=
  ({ a with s := a.s.put out l }).send k (leBytes 1 1 ++ leBytes 3 0 ++ leBytes 4 l.length ++ leBytes 8 out)

/-- Keys that follow one another in the order of INSTALL, with the two IVs (R286). -/
def Session.installKeys (x : Session) (st suite : Nat) (l : List Byte) : Session :=
  let n := suiteKeyLen suite
  let part := fun (i : Nat) => bytesAt l (n * i) n
  x.install st suite (part 0) (part 1) (part 2) (part 3) (bytesAt l (4 * n) 24)

/-- An action of the supplied program is performed: those of R286 as the list's, INSTALL with the keys of its own slots. -/
def Acts.sup (a : Acts) (k : Nat) (i : SesItem) (out : Nat) (x : SupAct) : Acts :=
  if a.stop ∨ a.gone then a else
  match x with
  | .record ty l => a.sendBytes k out ((a.s.ses k).seal ty l)
  | .raw l => if l.isEmpty then a else a.sendBytes k out l
  | .install st suite l => { a with s := a.s.setSes k ((a.s.ses k).installKeys st suite l), installed := true }
  | .timer n => a.act k i out (leBytes 1 3 ++ leBytes 3 0 ++ leBytes 4 n ++ leBytes 8 0)
  | .close => a.act k i out (leBytes 16 4)
  | .abort => a.act k i out (leBytes 16 5)
  | .move => a.act k i out (leBytes 16 6)
  | .discard => a.act k i out (leBytes 16 7)

/-- The supplied program's actions (R286). -/
def supplied (l : List SupAct) (k : Nat) (r : SesRun) (s : State) : Acts :=
  l.foldl (fun (a : Acts) x => a.sup k r.item (s.outAt r) x) { s := s }

/-! ## The parsers' state at PDB (R328) -/

/-- A counter at PDB steps by an atomic add (R46, R328). -/
def State.bumpPdb (s : State) (pdb off n : Nat) : State := s.put (pdb + off) (leBytes 8 ((s.load (pdb + off) 8 + n) % 2 ^ 64))

/-- What a parser works with: its polder, PDB, the working copy of the program area, the item's ARRIVAL and the session's work as coordinate. -/
structure Parse where
  polder : Nat
  pdb : Nat
  area : Nat
  arrival : Nat
  coord : Word
  deriving DecidableEq, Repr

/-- ROWSEQ, a count of rows appended for the session (R327). -/
def State.rowSeq (s : State) (p : Parse) : Nat := s.load (p.area + 4) 4

/-- The unit identifier (R327). -/
def State.meterId (s : State) (p : Parse) : Nat := s.load p.area 4

/-! ## APPENDs of the parsers (R306 to R308) -/

/-- The entry number under which a parser's APPEND places its rows; no job-table entry has it. -/
def parserJob : Nat := 16384

/-- One APPEND of the supplied program to a table, begun and completed in its step: its status, and the state with the rows in place and seen (R307, R308). -/
def State.appendRows (s : State) (p : Parse) (t count : Nat) (cols : List (List Byte)) : Nat × State :=
  let s0 := s.setJob parserJob { cls := 5, opc := 0x42, polder := p.polder, coord := p.coord }
  let r := (do
    act (fun s => s.windowDue t s.tick)
    let s1 ← get
    let x := s1.table t
    need (!x.edgePast s1.tick) 0x16
    need (decide (1 ≤ count) && decide (count ≤ 4096)) 0x17
    need (x.columnsOk count cols) 0x12
    need (!x.full) 0x04
    placeRows parserJob t count cols : JobM (Nat × Nat)).run.run s0
  let st := match r.1 with
    | .ok _ => 0
    | .error (.status c _) => c
    | .error _ => 0x16
  let s1 := (r.2.unhide parserJob).setJob parserJob {}
  if st = 0 then (0, (s1.bumpPdb p.pdb 24 count).put (p.area + 4) (leBytes 4 ((s1.rowSeq p + count) % 2 ^ 32)))
  else (st, s1.bumpPdb p.pdb 16 1)

/-- The table of a polder that a schema number names under SCH = 1 (R303, R305). -/
def State.schemaTable (s : State) (n schema : Nat) : Option Nat :=
  if schema > 32767 then none else s.tableNamed n { parseZe [] with table := schema, sch := true }

/-! ## Compact frames (R329 to R332) -/

/-- The payload columns a compact frame carries: those that are not dstr (R330). -/
def Table.carried (x : Table) : List Nat := (List.range x.ncol).filter (fun c => decide (3 ≤ c) && decide (x.ty c ≠ 13))

/-- ROWLEN as a table requires it (R330). -/
def Table.rowLen (x : Table) : Nat := (x.carried.map (fun c => natWidth (x.ty c))).sum

/-- The offset of a carried column in a row's payload (R330). -/
def Table.carriedAt (x : Table) (c : Nat) : Nat := ((x.carried.filter (fun d => decide (d < c))).map (fun d => natWidth (x.ty d))).sum

/-- The epoch of a row: ARRIVAL less AGE in ticks, 0 where that is negative; ARRIVAL where no AGE is carried (R330). -/
def rowEpoch (arrival us : Nat) (age : Option Nat) : Nat :=
  match age with
  | some a => arrival - a * 1000 / us
  | none => arrival

/-- A DATA frame as the columns of an APPEND (R330). -/
def frameColumns (x : Table) (unit arrival us : Nat) (l : List Byte) : List (List Byte) :=
  let tsd := bit (leAt l 1 1) 0
  let count := leAt l 8 2
  let a := 4 * b2n tsd
  let row := fun (i : Nat) => 12 + i * (leAt l 10 2 + a)
  let col := fun (c : Nat) (i : Nat) =>
    if c = 0 then leBytes 4 unit
    else if c = 1 then leBytes 8 (rowEpoch arrival us (if tsd then some (leAt l (row i) 4) else none))
    else if c = 2 then leBytes 4 ((leAt l 4 4 + i) % 2 ^ 32)
    else if x.ty c = 13 then List.replicate 65 (0 : Byte)
    else bytesAt l (row i + a + x.carriedAt c) (natWidth (x.ty c))
  (List.range x.ncol).map (fun c => (List.range count).flatMap (col c))

/-- A frame of the content class is well formed (R329, R331). -/
def frameContentOk (l : List Byte) : Bool :=
  let vt := leAt l 0 1
  let count := leAt l 8 2
  decide (vt / 16 = 1) && (decide (vt % 16 = 1) && decide (1 ≤ count) && decide (count ≤ 4096) || decide (vt % 16 = 2) && decide (count = 0)) &&
    decide (leAt l 1 1 < 4)

/-- One frame that is not dropped in the length class: the status its ACK carries, and the state after (R330, R331). -/
def State.compactFrame (s : State) (p : Parse) (l : List Byte) : Nat × State :=
  let bad := (0x12, s.bumpPdb p.pdb 8 1)
  if !frameContentOk l then bad
  else
    match s.schemaTable p.polder (leAt l 2 2) with
    | none => bad
    | some t =>
      let x := s.table t
      if leAt l 10 2 ≠ x.rowLen then bad
      else if leAt l 0 1 % 16 = 2 then (0, s)
      else s.appendRows p t (leAt l 8 2) (frameColumns x (s.meterId p) p.arrival (max 1 (s.fld F.EPC_TICK_US)) l)

/-- The ACK frame of a frame (R332). -/
def ackFrame (l : List Byte) (st : Nat) : List Byte :=
  [(0x13 : Byte), 0] ++ bytesAt l 2 2 ++ leBytes 4 ((leAt l 4 4 + leAt l 8 2 + 2 ^ 32 - 1) % 2 ^ 32) ++ leBytes 2 0 ++ leBytes 2 st

/-- The frames of a record in order, and the ACK frames of their answer (R331, R332). -/
def State.compactFrames (s : State) (p : Parse) : Nat → List Byte → List Byte → List Byte × State
  | 0, _, acks => (acks, s)
  | n + 1, l, acks =>
    let len := 12 + leAt l 8 2 * (leAt l 10 2 + 4 * b2n (bit (leAt l 1 1) 0))
    if l.isEmpty then (acks, s)
    else if l.length < 12 ∨ len > l.length then (acks, s.bumpPdb p.pdb 0 1)
    else
      let r := s.compactFrame p (l.take len)
      r.2.compactFrames p n (l.drop len) (acks ++ if bit (leAt l 1 1) 1 then ackFrame l r.1 else [])

/-- A record of compact frames: all ACKs in one record (R332), each counted as sent (R328). -/
def State.compactRecord (s : State) (p : Parse) (l : List Byte) : List SupAct × State :=
  let r := s.compactFrames p (l.length + 1) l []
  if r.1.isEmpty then ([], r.2) else ([.record 23 r.1], r.2.bumpPdb p.pdb 56 (r.1.length / 12))

/-! ## IEC 60870-5-104: ASDUs (R334, R335) -/

/-- Bytes of an information object of a listed type, without its address. -/
def iecSize (ty : Nat) : Option Nat :=
  match ty with
  | 1 => some 1
  | 3 => some 1
  | 9 => some 3
  | 11 => some 3
  | 13 => some 5
  | 15 => some 5
  | 30 => some 8
  | 31 => some 8
  | 34 => some 10
  | 35 => some 10
  | 36 => some 12
  | 37 => some 12
  | 70 => some 1
  | 100 => some 1
  | _ => none

/-- A type that carries a CP56Time2a. -/
def iecTimed (ty : Nat) : Bool := decide (30 ≤ ty) && decide (ty ≤ 37)

/-- The untimed type whose values a type has. -/
def iecBase (ty : Nat) : Nat :=
  match ty with
  | 30 => 1
  | 31 => 3
  | 34 => 9
  | 35 => 11
  | 36 => 13
  | 37 => 15
  | t => t

/-- The value of an information object as f64 (R334). -/
def iecValue (ty : Nat) (o : List Byte) : Nat :=
  match iecBase ty with
  | 1 => fpOfInt 10 (leAt o 0 1 % 2) 0 false
  | 3 => fpOfInt 10 (leAt o 0 1 % 4) 0 false
  | 9 => fpOfInt 10 (sx 16 (leAt o 0 2)) (-15) false
  | 11 => fpOfInt 10 (sx 16 (leAt o 0 2)) 0 false
  | 13 => convTo 9 10 (leAt o 0 4)
  | _ => fpOfInt 10 (sx 32 (leAt o 0 4)) 0 false

/-- The quality of an information object: its octet with the value bits cleared, or the sequence octet (R335). -/
def iecQuality (ty : Nat) (o : List Byte) : Nat :=
  match iecBase ty with
  | 1 => leAt o 0 1 / 2 * 2
  | 3 => leAt o 0 1 / 4 * 4
  | 9 => leAt o 2 1
  | 11 => leAt o 2 1
  | _ => leAt o 4 1

/-- A CP56Time2a in nanoseconds TAI: read as UTC, 0 where its IV bit is 1 (R335). A time that is none is open. -/
def cpNs (utc : Nat) (o : List Byte) : Nat :=
  let ms := leAt o 0 2
  let mn := leAt o 2 1 % 64
  let hr := leAt o 3 1 % 32
  let d := leAt o 4 1 % 32
  let m := leAt o 5 1 % 16
  let y := 2000 + leAt o 6 1 % 128
  if bit (leAt o 2 1) 7 then 0
  else if ms ≤ 59999 ∧ mn ≤ 59 ∧ hr ≤ 23 ∧ 1 ≤ m ∧ m ≤ 12 ∧ 1 ≤ d ∧ d ≤ monthDays y m ∧ y ≤ 2099 then
    ((dayNumber y m d * 86400 + hr * 3600 + mn * 60 + utc) * 1000 + ms) * 1000000
  else Config.cpTime (fitLen 7 o) % 2 ^ 64

/-- The information objects of an ASDU, each with its address (R334): SQ = 1 gives one address to a run of objects. -/
def iecObjects (size : Nat) (a : List Byte) : List (Nat × List Byte) :=
  let n := leAt a 1 1 % 128
  (List.range n).map (fun i =>
    if bit (leAt a 1 1) 7 then (leAt a 6 3 + i, bytesAt a (9 + i * size) size) else (leAt a (6 + i * (3 + size)) 3, bytesAt a (9 + i * (3 + size)) size))

/-- The objects of the VSQ fill the APDU exactly (R336). -/
def iecCountOk (size : Nat) (a : List Byte) : Bool :=
  let n := leAt a 1 1 % 128
  decide (a.length = if bit (leAt a 1 1) 7 then 9 + n * size else 6 + n * (3 + size))

/-- An ASDU's rows as the columns of an APPEND (R335). -/
def iecColumns (unit arrival seq utc : Nat) (a : List Byte) (objs : List (Nat × List Byte)) : List (List Byte) :=
  let ty := leAt a 0 1
  let n := objs.length
  let each := fun (f : Nat × List Byte → List Byte) => objs.flatMap f
  [ (List.replicate n (leBytes 4 unit)).flatten, (List.replicate n (leBytes 8 arrival)).flatten,
    (List.range n).flatMap (fun i => leBytes 4 ((seq + i) % 2 ^ 32)), (List.replicate n (bytesAt a 4 2)).flatten, each (fun o => leBytes 4 o.1),
    (List.replicate n (leBytes 1 ty)).flatten, (List.replicate n (leBytes 1 (leAt a 2 1 % 64))).flatten, each (fun o => leBytes 8 (iecValue ty o.2)),
    each (fun o => leBytes 1 (iecQuality ty o.2)),
    each (fun o => leBytes 8 (if iecTimed ty then cpNs utc (o.2.drop (o.2.length - 7)) else 0)) ]

/-- The IEC table of a polder has the column mapping of R335. -/
def Table.iecOk (x : Table) : Bool := decide (x.ncol = 10) && decide ((List.range 7).map (fun i => x.ty (i + 3)) = iecTypes)

/-- One ASDU: rows to the IEC table, or dropped or discarded and counted (R334 to R336); whether it asks for an interrogation. -/
def State.iecAsdu (s : State) (p : Parse) (a : List Byte) : Bool × State :=
  let ty := leAt a 0 1
  match iecSize ty with
  | none => (false, s.bumpPdb p.pdb 40 1)
  | some size =>
    if a.length < 6 ∨ !iecCountOk size a then (false, s.bumpPdb p.pdb 32 1)
    else if bit (leAt a 2 1) 7 ∨ bit (leAt a 2 1) 6 ∨ (ty = 100 ∧ leAt a 2 1 % 64 ≠ 7 ∧ leAt a 2 1 % 64 ≠ 10) then (false, s.bumpPdb p.pdb 40 1)
    else if ty = 70 then (true, s)
    else if ty = 100 then (false, s)
    else
      let schema := s.load (p.pdb + 82) 2
      if schema = 0 ∨ schema > 32767 then (false, s.bumpPdb p.pdb 32 1)
      else
        let objs := iecObjects size a
        if objs.isEmpty then (false, s)
        else
          match s.schemaTable p.polder schema with
          | none => (false, s.bumpPdb p.pdb 16 1)
          | some t =>
            if !(s.table t).iecOk then (false, s.bumpPdb p.pdb 16 1)
            else (false, (s.appendRows p t objs.length
              (iecColumns (s.meterId p) p.arrival (s.rowSeq p) (s.fld F.EPC_UTC_OFFSET_SECONDS) a objs)).2)

/-! ## IEC 60870-5-104: APDUs (R333, R336, R337) -/

/-- The parser's configuration at PDB (R328): a T2 at or above T1 is T1 / 2. -/
structure IecConf where
  t1 : Nat
  t2 : Nat
  t3 : Nat
  k : Nat
  w : Nat
  gi : Bool
  deriving DecidableEq, Repr

/-- The configuration as an item reads it (R328). -/
def State.iecConf (s : State) (pdb : Nat) : IecConf :=
  let t1 := s.load (pdb + 64) 4
  let t2 := s.load (pdb + 68) 4
  { t1 := t1, t2 := if t2 ≥ t1 then t1 / 2 else t2, t3 := s.load (pdb + 72) 4, k := s.load (pdb + 76) 2, w := s.load (pdb + 78) 2,
    gi := decide (s.load (pdb + 80) 1 = 1) }

/-- A U-frame (R333). -/
def uFrame (c : Nat) : List Byte := [(0x68 : Byte), 4] ++ leBytes 1 c ++ leBytes 3 0

/-- An S-frame (R333, R337). -/
def sFrame (vr : Nat) : List Byte := [(0x68 : Byte), 4, 1, 0] ++ leBytes 2 (2 * vr)

/-- An I-frame (R333). -/
def iFrame (vs vr : Nat) (asdu : List Byte) : List Byte := [(0x68 : Byte)] ++ leBytes 1 (asdu.length + 4) ++ leBytes 2 (2 * vs) ++ leBytes 2 (2 * vr) ++ asdu

/-- C_IC_NA_1 activation with QOI 20, to every common address (R333; DESIGN CHOICE, log entry 83). -/
def giAsdu : List Byte := [100, 1, 6, 0, 0xFF, 0xFF, 0, 0, 0, 20]

/-- What the parser of an item has come to: the state, its connection, the APDUs to send, and whether the connection closes. -/
structure IecRun where
  s : State
  x : Iec
  out : List Byte := []
  closing : Bool := false
  deriving DecidableEq, Repr

/-- A protocol error: the connection closes, and it is counted (R336). -/
def IecRun.error (r : IecRun) (p : Parse) : IecRun := { r with s := r.s.bumpPdb p.pdb 48 1, closing := true }

/-- A U-frame that waits for its confirmation is sent (R333, R337). -/
def IecRun.act (r : IecRun) (c : Nat) : IecRun :=
  { r with x := { r.x with uSent := some r.s.tick, last := r.s.tick }, out := r.out ++ uFrame c }

/-- Received I-frames are acknowledged (R337). -/
def IecRun.ackNow (r : IecRun) : IecRun := { r with x := { r.x with rxCount := 0, last := r.s.tick }, out := r.out ++ sFrame r.x.vr }

/-- The interrogations still to send go out while fewer than K own I-frames are unacknowledged (R333, R337); an I-frame acknowledges what has been
received. -/
def IecRun.giNow (c : IecConf) : Nat → IecRun → IecRun
  | 0, r => r
  | n + 1, r =>
    if r.x.due = 0 ∨ !r.x.started ∨ r.x.sent.length ≥ c.k then r
    else
      let x := r.x
      let y := { x with vs := (x.vs + 1) % 2 ^ 15, sent := x.sent ++ [r.s.tick], rxCount := 0, last := r.s.tick, due := x.due - 1 }
      IecRun.giNow c n { r with x := y, out := r.out ++ iFrame x.vs x.vr giAsdu }

/-- N(R) acknowledges the own I-frames below it (R333, R337). -/
def Iec.acked (x : Iec) (nr : Nat) : Iec :=
  let n := (nr + 2 ^ 15 + x.sent.length - x.vs) % 2 ^ 15
  if n ≤ x.sent.length then { x with sent := x.sent.drop n } else x

/-- One whole APDU (R333, R336, R337). -/
def IecRun.apdu (r : IecRun) (p : Parse) (c : IecConf) (l : List Byte) : IecRun :=
  let c1 := leAt l 2 1
  let nr := leAt l 4 2 / 2
  if c1 % 2 = 0 then
    if bit (leAt l 4 1) 0 ∨ !r.x.started ∨ leAt l 2 2 / 2 ≠ r.x.vr then r.error p
    else
      let x := r.x.acked nr
      let y := { x with vr := (x.vr + 1) % 2 ^ 15, rxCount := x.rxCount + 1, rxSince := if x.rxCount = 0 then p.arrival else x.rxSince }
      let a := r.s.iecAsdu p (l.drop 6)
      let r1 := { r with s := a.2, x := { y with due := y.due + b2n a.1 } }
      if r1.x.rxCount ≥ c.w then r1.ackNow else r1
  else if c1 % 4 = 1 then
    if c1 ≠ 1 ∨ leAt l 3 1 ≠ 0 ∨ bit (leAt l 4 1) 0 then r.error p else { r with x := r.x.acked nr }
  else if leAt l 3 3 ≠ 0 then r.error p
  else
    match c1 with
    | 0x07 => { r with out := r.out ++ uFrame 0x0B }
    | 0x0B => { r with x := { r.x with started := true, uSent := none, due := r.x.due + b2n c.gi } }
    | 0x13 => if r.x.started then { r with x := { r.x with started := false }, out := r.out ++ uFrame 0x23 } else r.error p
    | 0x23 => r
    | 0x43 => { r with out := r.out ++ uFrame 0x83 }
    | 0x83 => { r with x := { r.x with uSent := none } }
    | _ => r.error p

/-- The APDUs of a record, one after another; one that does not end in it is kept in S-WIDE only (R333, R336). -/
def IecRun.apdus (p : Parse) (c : IecConf) (wide : Bool) : Nat → IecRun → List Byte → IecRun
  | 0, r, _ => r
  | n + 1, r, l =>
    let len := leAt l 1 1
    if l.isEmpty ∨ r.closing then { r with x := { r.x with part := [] } }
    else if leAt l 0 1 ≠ 0x68 ∨ (2 ≤ l.length ∧ (len < 4 ∨ len > 253)) then r.error p
    else if l.length < 2 ∨ l.length < len + 2 then if wide then { r with x := { r.x with part := l } } else r.error p
    else IecRun.apdus p c wide n ((r.apdu p c (l.take (len + 2))).giNow c 256) (l.drop (len + 2))

/-- What has fallen due by an item's ARRIVAL (R337): a frame unacknowledged for T1 closes, T2 acknowledges, T3 tests. -/
def IecRun.timers (r : IecRun) (p : Parse) (c : IecConf) : IecRun :=
  let late := fun (t : Nat) => decide (t + c.t1 ≤ p.arrival)
  if (r.x.sent ++ r.x.uSent.toList).any late then { r with closing := true }
  else
    let r1 := if r.x.rxCount ≠ 0 ∧ r.x.rxSince + c.t2 ≤ p.arrival then r.ackNow else r
    if r1.x.uSent.isNone ∧ r1.x.last + c.t3 ≤ p.arrival then r1.act 0x43 else r1

/-- The tick at which the parser's next time falls due (R337). -/
def Iec.next (x : Iec) (c : IecConf) : Nat :=
  ((x.sent.head?.toList ++ x.uSent.toList).map (· + c.t1) ++ (if x.rxCount = 0 then [] else [x.rxSince + c.t2])).foldl min (x.last + c.t3)

/-- What the parser of an item leaves: its connection, one record with its APDUs, the session timer, and the close (R333, R337). -/
def IecRun.finish (r : IecRun) (p : Parse) (c : IecConf) (k : Nat) : List SupAct × State :=
  ((if r.out.isEmpty then [] else [SupAct.record 23 r.out]) ++
     (if r.closing then [.close] else [.timer (max 1 (r.x.next c - p.arrival))]),
   r.s.setSes k { r.s.ses k with iec := r.x })

/-- An item of an IEC session: STARTDT act with the first one, then its APDUs or its times (R333, R337). -/
def State.iecItem (s : State) (p : Parse) (k kind : Nat) (l : List Byte) : List SupAct × State :=
  let c := s.iecConf p.pdb
  let x := (s.ses k).iec
  let r : IecRun := { s := s, x := { x with begun := true } }
  let r := if x.begun then r else r.act 0x07
  let r := if kind = 3 then r.timers p c
    else if kind = 2 then
      IecRun.apdus p c (decide (s.progLen = 640)) (x.part.length + l.length + 1) { r with x := { r.x with last := p.arrival, part := [] } } (x.part ++ l)
    else r
  r.finish p c k

/-! ## The handshake (R289, R290, R293, R327) -/

/-- A serialNumber as the decimal number it is, from 1 to 4,294,967,295 (R327). -/
def unitOfSerial (l : List Byte) : Option Nat :=
  if l.isEmpty ∨ !l.all (fun b => decide (48 ≤ b.toNat) && decide (b.toNat ≤ 57)) then none
  else
    let n := l.foldl (fun v b => 10 * v + (b.toNat - 48)) 0
    if 1 ≤ n ∧ n ≤ 4294967295 then some n else none

/-- The wait before the `n`-th repetition of a DTLS flight (R293). -/
def flightTicks (n : Nat) : Nat := min 60000 (1000 * 2 ^ n)

/-- The program area after the handshake: the unit identifier, ROWSEQ, then what the handshake left (R327). -/
def openArea (unit : Nat) (l : List Byte) : List Byte := leBytes 4 unit ++ leBytes 4 0 ++ l.drop 8

/-- A step of the supplied handshake: a flight with its timer, the handshake keys, or the end of the handshake, where the certificate's serial number
becomes the unit identifier; a certificate without one, and what fails, end it with an alert (R289, R290, R327). -/
def State.hsItem (s : State) (p : Parse) (k : Nat) (i : SesItem) : List SupAct × State :=
  let x := s.ses k
  let prog := s.bytes p.area s.progLen
  let e := Config.hsStep prog i.data
  let suite := 0x1301 + Config.hsSuite prog i.data % 3
  let keys := Config.hsKeys s.free prog i.data (4 * suiteKeyLen suite + 24)
  let fl := Config.hsFlight s.free prog i.data
  let area := fitLen s.progLen (Config.hsProg s.free prog i.data)
  let udp := decide (x.proto = 0)
  let s1 := s.setSes k { x with tries := 0, flight := fl }
  if e ≥ 10 then ([fatal (e % 256), .close], s)
  else if e = 2 then
    match unitOfSerial (Config.clientSerial prog i.data) with
    | none => ([fatal 42, .close], s)
    | some u => ([.raw fl, .install 2 suite keys] ++ (if udp then [.timer 0] else []), (s1.put p.area (openArea u area)).bump)
  else
    ([.raw fl] ++ (if e = 1 then [.install 1 suite keys] else []) ++ (if udp ∧ !fl.isEmpty then [.timer (flightTicks 0)] else []),
     (s1.put p.area area).bump)

/-- A flight of the handshake that no answer met is sent again, six times; then the session closes (R293). -/
def State.hsRepeat (s : State) (k : Nat) : List SupAct × State :=
  let x := s.ses k
  if x.tries ≥ 6 then ([.close], s)
  else ([.raw x.flight, .timer (flightTicks (x.tries + 1))], s.setSes k { x with tries := x.tries + 1 })

/-! ## The supplied program -/

/-- The entry of the IEC parser; entry 0 has the compact frames (DESIGN CHOICE, log entry 83). -/
def iecEntry : Nat := 1

/-- An opened record of a session in OPEN (R289, R290): application data to the parser, KeyUpdate, alerts. -/
def State.contentIn (s : State) (p : Parse) (k : Nat) (i : SesItem) (ty : Nat) (l : List Byte) : List SupAct × State :=
  let x := s.ses k
  if ty = 23 then if i.entry = iecEntry then s.iecItem p k 2 l else s.compactRecord p l
  else if ty = 22 ∧ leAt l 0 1 = 24 then
    let next := Config.nextKeys (x.rkey ++ x.wkey ++ x.rsn ++ x.wsn ++ x.ivs) (4 * suiteKeyLen x.suite + 24)
    ([.record 22 (if x.proto = 1 then [24, 0, 0, 1, 0] else [24, 0, 0, 1] ++ beBytes 2 (x.tseq / 2 ^ 48) ++ beBytes 3 0 ++ beBytes 3 1 ++ [0]),
      .install 2 x.suite next], s)
  else if ty = 21 then ([.close], s)
  else ([], s)

/-- A record of a session in OPEN (R273, R290): the compatibility change_cipher_spec is dropped; a failed tag is a bad_record_mac alert in TLS and
DISCARD in DTLS. -/
def State.recordIn (s : State) (p : Parse) (k : Nat) (r : SesRun) : List SupAct × State :=
  let x := s.ses k
  let i := r.item
  if x.proto = 1 ∧ leAt i.data 0 1 = 20 then ([], s)
  else if r.rslot.isNone then ([if x.proto = 1 then .close else .discard], s)
  else
    match x.openRec i with
    | none => (if x.proto = 1 then [fatal 20, .close] else [.discard], s)
    | some c =>
      let a := s.contentIn p k i c.1 c.2
      (a.1 ++ if i.moved then [.move] else [], a.2)

/-- The supplied program's work on an item: its actions, and the state with what it has done (R283 to R294, R327 to R337). -/
def State.suppliedItem (s : State) (p : Parse) (k : Nat) (r : SesRun) : List SupAct × State :=
  let x := s.ses k
  let i := r.item
  if i.kind = 6 ∨ i.kind = 4 then ([.close], s)
  else if i.kind = 7 then ([.abort], s)
  else if i.kind = 8 then ([fatal 22, .close], s)
  else if i.kind = 5 then (if s.load (r.cells.1 + 2) 2 = 0 then [.close] else [], s)
  else if x.st = 2 then
    if i.kind = 2 then s.recordIn p k r
    else if i.entry = iecEntry then s.iecItem p k i.kind []
    else ([], s)
  else if x.st = 1 then if i.kind = 3 then s.hsRepeat k else s.hsItem p k i
  else ([], s)

/-- The item in flight of a task that has run no instruction of a vendor service program before DONE. -/
def State.suppliedRun (s : State) (t k : Nat) (f : Frame) : Option SesRun :=
  let x := s.ses k
  match x.cur with
  | some r =>
    let g := s.prog x.polder r.item.prog
    if g.service ∧ f.pc = (firstFrame 0 g r.item.entry 0 0).pc ∧ (s.task t).kind = .session k then some r else none
  | none => none

/-- The supplied program of an item runs: it reads and updates its state at PDB as the task's own accesses would, which may be refused (R328); then its
actions are performed (R286). -/
def State.runSupplied (s : State) (c t k : Nat) (f : Frame) (r : SesRun) : State :=
  let x := s.ses k
  let g := s.prog x.polder r.item.prog
  let p : Parse := { polder := x.polder, pdb := g.pdb, area := r.progAt, arrival := r.item.arrival, coord := (s.task t).coord }
  match s.coreRead c f g.pdb 128 with
  | .stop s1 => s1
  | .ok l s1 =>
    match s1.coreWrite c f g.pdb l true noBus with
    | .stop s2 => s2
    | .late s2 => s2
    | .ok s2 =>
      let a := s2.suppliedItem p k r
      (a.2.itemDone c k (supplied a.1 k)).endTask t

/-- DONE (R50, R58, R286): the task ends; a session item's actions are performed first. -/
def execDone (c : CoreId) (s : State) : Out :=
  .next (s.live fun s => s.withTask c fun t f s =>
    match (s.task t).kind with
    | .session k =>
      match s.suppliedRun t k f with
      | some r => s.runSupplied c t k f r
      | none => (s.itemDone c k (State.listed k)).endTask t
    | _ => s.endTask t)

end Sys2Proof.Machine
end

