-- ==== Sys2Proof/Machine/Dispatch.lean ====
section
/-!
DEFINITION. Sys2Proof/Machine/Dispatch.lean: one arm for each command, a direct call of its meaning.
-/

namespace Sys2Proof.Machine

def exec (i : Instr) (s : State) : Host.Outcome State Fault Refusal :=
  match i with
  | .add c rd ra rb => Sys2Proof.Machine.execAdd c rd ra rb s
  | .sub c rd ra rb => Sys2Proof.Machine.execSub c rd ra rb s
  | .andOp c rd ra rb => Sys2Proof.Machine.execAnd c rd ra rb s
  | .orOp c rd ra rb => Sys2Proof.Machine.execOr c rd ra rb s
  | .xorOp c rd ra rb => Sys2Proof.Machine.execXor c rd ra rb s
  | .sll c rd ra rb => Sys2Proof.Machine.execSll c rd ra rb s
  | .srl c rd ra rb => Sys2Proof.Machine.execSrl c rd ra rb s
  | .sra c rd ra rb => Sys2Proof.Machine.execSra c rd ra rb s
  | .rotr c rd ra rb => Sys2Proof.Machine.execRotr c rd ra rb s
  | .mul c rd ra rb => Sys2Proof.Machine.execMul c rd ra rb s
  | .mulhu c rd ra rb => Sys2Proof.Machine.execMulhu c rd ra rb s
  | .mulh c rd ra rb => Sys2Proof.Machine.execMulh c rd ra rb s
  | .divu c rd ra rb => Sys2Proof.Machine.execDivu c rd ra rb s
  | .div c rd ra rb => Sys2Proof.Machine.execDiv c rd ra rb s
  | .remu c rd ra rb => Sys2Proof.Machine.execRemu c rd ra rb s
  | .rem c rd ra rb => Sys2Proof.Machine.execRem c rd ra rb s
  | .minu c rd ra rb => Sys2Proof.Machine.execMinu c rd ra rb s
  | .min c rd ra rb => Sys2Proof.Machine.execMin c rd ra rb s
  | .maxu c rd ra rb => Sys2Proof.Machine.execMaxu c rd ra rb s
  | .max c rd ra rb => Sys2Proof.Machine.execMax c rd ra rb s
  | .clz c rd ra => Sys2Proof.Machine.execClz c rd ra s
  | .ctz c rd ra => Sys2Proof.Machine.execCtz c rd ra s
  | .popc c rd ra => Sys2Proof.Machine.execPopc c rd ra s
  | .bswap c rd ra => Sys2Proof.Machine.execBswap c rd ra s
  | .sel c rd ra rb px => Sys2Proof.Machine.execSel c rd ra rb px s
  | .cmpeq c px ra rb => Sys2Proof.Machine.execCmpeq c px ra rb s
  | .cmpne c px ra rb => Sys2Proof.Machine.execCmpne c px ra rb s
  | .cmplt c px ra rb => Sys2Proof.Machine.execCmplt c px ra rb s
  | .cmpltu c px ra rb => Sys2Proof.Machine.execCmpltu c px ra rb s
  | .cmpge c px ra rb => Sys2Proof.Machine.execCmpge c px ra rb s
  | .cmpgeu c px ra rb => Sys2Proof.Machine.execCmpgeu c px ra rb s
  | .pand c pd pa pb => Sys2Proof.Machine.execPand c pd pa pb s
  | .por c pd pa pb => Sys2Proof.Machine.execPor c pd pa pb s
  | .pxor c pd pa pb => Sys2Proof.Machine.execPxor c pd pa pb s
  | .pnot c pd pa => Sys2Proof.Machine.execPnot c pd pa s
  | .mfp c rd => Sys2Proof.Machine.execMfp c rd s
  | .mtp c ra => Sys2Proof.Machine.execMtp c ra s
  | .addi c rd ra imm => Sys2Proof.Machine.execAddi c rd ra imm s
  | .andi c rd ra imm => Sys2Proof.Machine.execAndi c rd ra imm s
  | .ori c rd ra imm => Sys2Proof.Machine.execOri c rd ra imm s
  | .xori c rd ra imm => Sys2Proof.Machine.execXori c rd ra imm s
  | .slli c rd ra sh => Sys2Proof.Machine.execSlli c rd ra sh s
  | .srli c rd ra sh => Sys2Proof.Machine.execSrli c rd ra sh s
  | .srai c rd ra sh => Sys2Proof.Machine.execSrai c rd ra sh s
  | .cmpeqi c px ra imm => Sys2Proof.Machine.execCmpeqi c px ra imm s
  | .cmplti c px ra imm => Sys2Proof.Machine.execCmplti c px ra imm s
  | .cmpltui c px ra imm => Sys2Proof.Machine.execCmpltui c px ra imm s
  | .limm c rd q k imm => Sys2Proof.Machine.execLimm c rd q k imm s
  | .ld c rd ra sz sx off => Sys2Proof.Machine.execLd c rd ra sz sx off s
  | .st c rs ra sz off => Sys2Proof.Machine.execSt c rs ra sz off s
  | .amoSwap c rd ra rb w64 => Sys2Proof.Machine.execAmoSwap c rd ra rb w64 s
  | .amoAdd c rd ra rb w64 => Sys2Proof.Machine.execAmoAdd c rd ra rb w64 s
  | .amoAnd c rd ra rb w64 => Sys2Proof.Machine.execAmoAnd c rd ra rb w64 s
  | .amoOr c rd ra rb w64 => Sys2Proof.Machine.execAmoOr c rd ra rb w64 s
  | .amoXor c rd ra rb w64 => Sys2Proof.Machine.execAmoXor c rd ra rb w64 s
  | .amoMax c rd ra rb w64 => Sys2Proof.Machine.execAmoMax c rd ra rb w64 s
  | .amoMin c rd ra rb w64 => Sys2Proof.Machine.execAmoMin c rd ra rb w64 s
  | .amoMaxu c rd ra rb w64 => Sys2Proof.Machine.execAmoMaxu c rd ra rb w64 s
  | .amoMinu c rd ra rb w64 => Sys2Proof.Machine.execAmoMinu c rd ra rb w64 s
  | .amoCas c rd ra rb w64 => Sys2Proof.Machine.execAmoCas c rd ra rb w64 s
  | .br c p sense off => Sys2Proof.Machine.execBr c p sense off s
  | .j c off => Sys2Proof.Machine.execJ c off s
  | .call c off => Sys2Proof.Machine.execCall c off s
  | .jr c ra => Sys2Proof.Machine.execJr c ra s
  | .callr c ra => Sys2Proof.Machine.execCallr c ra s
  | .nop c => Sys2Proof.Machine.execNop c s
  | .fence c => Sys2Proof.Machine.execFence c s
  | .mfs c r num => Sys2Proof.Machine.execMfs c r num s
  | .mts c r num => Sys2Proof.Machine.execMts c r num s
  | .trap c num => Sys2Proof.Machine.execTrap c num s
  | .xret c => Sys2Proof.Machine.execXret c s
  | .bkpt c => Sys2Proof.Machine.execBkpt c s
  | .halt c => Sys2Proof.Machine.execHalt c s
  | .eret c => Sys2Proof.Machine.execEret c s
  | .waitwork c rd => Sys2Proof.Machine.execWaitwork c rd s
  | .taskDispatch w => Sys2Proof.Machine.execTaskDispatch w s
  | .operatorUnitWorkRequest w => Sys2Proof.Machine.execOperatorUnitWorkRequest w s
  | .done c => Sys2Proof.Machine.execDone c s
  | .yield c => Sys2Proof.Machine.execYield c s
  | .spawn c rd ra => Sys2Proof.Machine.execSpawn c rd ra s
  | .free c rd ra => Sys2Proof.Machine.execFree c rd ra s
  | .setev c rd ra rb => Sys2Proof.Machine.execSetev c rd ra rb s
  | .clrev c rb => Sys2Proof.Machine.execClrev c rb s
  | .waitev c rd ra rb all => Sys2Proof.Machine.execWaitev c rd ra rb all s
  | .sleep c ra => Sys2Proof.Machine.execSleep c ra s
  | .timerExpiry t => Sys2Proof.Machine.execTimerExpiry t s
  | .timerRetirement => Sys2Proof.Machine.execTimerRetirement s
  | .affinityHoldExpiry w t => Sys2Proof.Machine.execAffinityHoldExpiry w t s
  | .slotWaitExpiry => Sys2Proof.Machine.execSlotWaitExpiry s
  | .hwRequesterSlotGrant => Sys2Proof.Machine.execHwRequesterSlotGrant s
  | .pmpWoffWrite m v => Sys2Proof.Machine.execPmpWoffWrite m v s
  | .eng c cls ev ra rd opc => Sys2Proof.Machine.execEng c cls ev ra rd opc s
  | .abort c rd ra => Sys2Proof.Machine.execAbort c rd ra s
  | .probe c rd ra => Sys2Proof.Machine.execProbe c rd ra s
  | .jobCompletion e => Sys2Proof.Machine.execJobCompletion e s
  | .kinfo c rd ra => Sys2Proof.Machine.execKinfo c rd ra s
  | .kalloc c rd rb => Sys2Proof.Machine.execKalloc c rd rb s
  | .kzero c rd ra => Sys2Proof.Machine.execKzero c rd ra s
  | .kpub c rd ra rb ev => Sys2Proof.Machine.execKpub c rd ra rb ev s
  | .kimp c rd ra rb ev => Sys2Proof.Machine.execKimp c rd ra rb ev s
  | .kexp c rd ra rb ev => Sys2Proof.Machine.execKexp c rd ra rb ev s
  | .kattr c rd ra rb => Sys2Proof.Machine.execKattr c rd ra rb s
  | .opDef c pipe ra opc => Sys2Proof.Machine.execOpDef c pipe ra opc s
  | .opRun c pipe ra ev => Sys2Proof.Machine.execOpRun c pipe ra ev s
  | .opStop c pipe => Sys2Proof.Machine.execOpStop c pipe s
  | .tld c td ga => Sys2Proof.Machine.execTld c td ga s
  | .tst c td ga => Sys2Proof.Machine.execTst c td ga s
  | .tset c td ga gb => Sys2Proof.Machine.execTset c td ga gb s
  | .tadv c td => Sys2Proof.Machine.execTadv c td s
  | .tcnt c td ga => Sys2Proof.Machine.execTcnt c td ga s
  | .vadd c vd va vb ew => Sys2Proof.Machine.execVadd c vd va vb ew s
  | .vsub c vd va vb ew => Sys2Proof.Machine.execVsub c vd va vb ew s
  | .vand c vd va vb ew => Sys2Proof.Machine.execVand c vd va vb ew s
  | .vor c vd va vb ew => Sys2Proof.Machine.execVor c vd va vb ew s
  | .vxor c vd va vb ew => Sys2Proof.Machine.execVxor c vd va vb ew s
  | .vmin c vd va vb ew sg => Sys2Proof.Machine.execVmin c vd va vb ew sg s
  | .vmax c vd va vb ew sg => Sys2Proof.Machine.execVmax c vd va vb ew sg s
  | .vadds c vd va vb ew sg => Sys2Proof.Machine.execVadds c vd va vb ew sg s
  | .vsubs c vd va vb ew sg => Sys2Proof.Machine.execVsubs c vd va vb ew sg s
  | .vabsd c vd va vb ew sg => Sys2Proof.Machine.execVabsd c vd va vb ew sg s
  | .vmul c vd va vb ew sg => Sys2Proof.Machine.execVmul c vd va vb ew sg s
  | .vmulh c vd va vb ew sg => Sys2Proof.Machine.execVmulh c vd va vb ew sg s
  | .vbsel c vd va vb ew => Sys2Proof.Machine.execVbsel c vd va vb ew s
  | .vcmpeq c vd va vb ew sg => Sys2Proof.Machine.execVcmpeq c vd va vb ew sg s
  | .vcmplt c vd va vb ew sg => Sys2Proof.Machine.execVcmplt c vd va vb ew sg s
  | .vcmple c vd va vb ew sg => Sys2Proof.Machine.execVcmple c vd va vb ew sg s
  | .vtany c px va => Sys2Proof.Machine.execVtany c px va s
  | .vtall c px va => Sys2Proof.Machine.execVtall c px va s
  | .vsll c vd va vb ew => Sys2Proof.Machine.execVsll c vd va vb ew s
  | .vsrl c vd va vb ew => Sys2Proof.Machine.execVsrl c vd va vb ew s
  | .vsra c vd va vb ew => Sys2Proof.Machine.execVsra c vd va vb ew s
  | .vperm c vd va vb => Sys2Proof.Machine.execVperm c vd va vb s
  | .vmacc c vd va vb ew => Sys2Proof.Machine.execVmacc c vd va vb ew s
  | .vsad c vd va vb ew sg => Sys2Proof.Machine.execVsad c vd va vb ew sg s
  | .vradd c vd va ew sg => Sys2Proof.Machine.execVradd c vd va ew sg s
  | .vbcst c vd ga ew => Sys2Proof.Machine.execVbcst c vd ga ew s
  | .vins c vd ga idx ew => Sys2Proof.Machine.execVins c vd ga idx ew s
  | .vext c rd va idx ew sg => Sys2Proof.Machine.execVext c rd va idx ew sg s
  | .vmov c vd va => Sys2Proof.Machine.execVmov c vd va s
  | .vld c vd ga off => Sys2Proof.Machine.execVld c vd ga off s
  | .vst c vs ga off => Sys2Proof.Machine.execVst c vs ga off s
  | .lvBinary c td ta tb fn sg => Sys2Proof.Machine.execLvBinary c td ta tb fn sg s
  | .lvBinaryScalar c td ta fn sv sg => Sys2Proof.Machine.execLvBinaryScalar c td ta fn sv sg s
  | .lvsad c ta tb sv sg => Sys2Proof.Machine.execLvsad c ta tb sv sg s
  | .lvsum c ta sv sg => Sys2Proof.Machine.execLvsum c ta sv sg s
  | .lvmin c ta sv sg => Sys2Proof.Machine.execLvmin c ta sv sg s
  | .lvmax c ta sv sg => Sys2Proof.Machine.execLvmax c ta sv sg s
  | .lvcnt c ta sv => Sys2Proof.Machine.execLvcnt c ta sv s
  | .lvcpy c td ta sg => Sys2Proof.Machine.execLvcpy c td ta sg s
  | .lvcmpeq c td ta tb sg => Sys2Proof.Machine.execLvcmpeq c td ta tb sg s
  | .lvcmplt c td ta tb sg => Sys2Proof.Machine.execLvcmplt c td ta tb sg s
  | .lvcmple c td ta tb sg => Sys2Proof.Machine.execLvcmple c td ta tb sg s
  | .lvgath c td ta tb => Sys2Proof.Machine.execLvgath c td ta tb s
  | .lvcomp c td ta tb sv => Sys2Proof.Machine.execLvcomp c td ta tb sv s
  | .lds2 c f => Sys2Proof.Machine.execLds2 c f s
  | .lds3 c f => Sys2Proof.Machine.execLds3 c f s
  | .lds4 c f => Sys2Proof.Machine.execLds4 c f s
  | .mlkemKeygen e => Sys2Proof.Machine.execMlkemKeygen e s
  | .mlkemEncaps e => Sys2Proof.Machine.execMlkemEncaps e s
  | .mlkemDecaps e => Sys2Proof.Machine.execMlkemDecaps e s
  | .mldsaKeygen e => Sys2Proof.Machine.execMldsaKeygen e s
  | .mldsaSign e => Sys2Proof.Machine.execMldsaSign e s
  | .mldsaVerify e => Sys2Proof.Machine.execMldsaVerify e s
  | .mceKeygen e => Sys2Proof.Machine.execMceKeygen e s
  | .mceEncaps e => Sys2Proof.Machine.execMceEncaps e s
  | .mceDecaps e => Sys2Proof.Machine.execMceDecaps e s
  | .hqcKeygen e => Sys2Proof.Machine.execHqcKeygen e s
  | .hqcEncaps e => Sys2Proof.Machine.execHqcEncaps e s
  | .hqcDecaps e => Sys2Proof.Machine.execHqcDecaps e s
  | .ecKeygen e => Sys2Proof.Machine.execEcKeygen e s
  | .ecdhEph e => Sys2Proof.Machine.execEcdhEph e s
  | .ecdh e => Sys2Proof.Machine.execEcdh e s
  | .ecdsaSign e => Sys2Proof.Machine.execEcdsaSign e s
  | .ecdsaVerify e => Sys2Proof.Machine.execEcdsaVerify e s
  | .eddsaSign e => Sys2Proof.Machine.execEddsaSign e s
  | .eddsaVerify e => Sys2Proof.Machine.execEddsaVerify e s
  | .rsaPssSign e => Sys2Proof.Machine.execRsaPssSign e s
  | .rsaPssVerify e => Sys2Proof.Machine.execRsaPssVerify e s
  | .rsaPkcs1Verify e => Sys2Proof.Machine.execRsaPkcs1Verify e s
  | .aeadSeal e => Sys2Proof.Machine.execAeadSeal e s
  | .aeadOpen e => Sys2Proof.Machine.execAeadOpen e s
  | .customerOperation e => Sys2Proof.Machine.execCustomerOperation e s
  | .engineFault cls k cause => Sys2Proof.Machine.execEngineFault cls k cause s
  | .dgOpen e => Sys2Proof.Machine.execDgOpen e s
  | .dgUpdate e => Sys2Proof.Machine.execDgUpdate e s
  | .dgFinal e => Sys2Proof.Machine.execDgFinal e s
  | .dgPeek e => Sys2Proof.Machine.execDgPeek e s
  | .dgOneshot e => Sys2Proof.Machine.execDgOneshot e s
  | .dgClose e => Sys2Proof.Machine.execDgClose e s
  | .hkdfExtract e => Sys2Proof.Machine.execHkdfExtract e s
  | .hkdfExpand e => Sys2Proof.Machine.execHkdfExpand e s
  | .ctCompare e => Sys2Proof.Machine.execCtCompare e s
  | .slhKeygen e => Sys2Proof.Machine.execSlhKeygen e s
  | .slhSign e => Sys2Proof.Machine.execSlhSign e s
  | .slhVerify e => Sys2Proof.Machine.execSlhVerify e s
  | .hbsKeygen e => Sys2Proof.Machine.execHbsKeygen e s
  | .hbsSign e => Sys2Proof.Machine.execHbsSign e s
  | .hbsFloorCommit k => Sys2Proof.Machine.execHbsFloorCommit k s
  | .hbsVerify e => Sys2Proof.Machine.execHbsVerify e s
  | .hbsSplit e => Sys2Proof.Machine.execHbsSplit e s
  | .contextExpiry x => Sys2Proof.Machine.execContextExpiry x s
  | .digestFault ctxRam core x => Sys2Proof.Machine.execDigestFault ctxRam core x s
  | .zcomp e => Sys2Proof.Machine.execZcomp e s
  | .zdecomp e => Sys2Proof.Machine.execZdecomp e s
  | .compressionLaneFault k cause => Sys2Proof.Machine.execCompressionLaneFault k cause s
  | .tblCreate e => Sys2Proof.Machine.execTblCreate e s
  | .tblDrop e => Sys2Proof.Machine.execTblDrop e s
  | .append e => Sys2Proof.Machine.execAppend e s
  | .tblSeal e => Sys2Proof.Machine.execTblSeal e s
  | .segInfo e => Sys2Proof.Machine.execSegInfo e s
  | .segExport e => Sys2Proof.Machine.execSegExport e s
  | .segImport e => Sys2Proof.Machine.execSegImport e s
  | .tblInfo e => Sys2Proof.Machine.execTblInfo e s
  | .segmentWindowClose t => Sys2Proof.Machine.execSegmentWindowClose t s
  | .segmentPublish t => Sys2Proof.Machine.execSegmentPublish t s
  | .sealGranuleGrant t => Sys2Proof.Machine.execSealGranuleGrant t s
  | .segmentMigration t seg => Sys2Proof.Machine.execSegmentMigration t seg s
  | .migrationPublish t seg => Sys2Proof.Machine.execMigrationPublish t seg s
  | .retentionDrop t seg => Sys2Proof.Machine.execRetentionDrop t seg s
  | .tblDropStaging t => Sys2Proof.Machine.execTblDropStaging t s
  | .tblDropComplete t => Sys2Proof.Machine.execTblDropComplete t s
  | .scan w => Sys2Proof.Machine.execScan w s
  | .filter w => Sys2Proof.Machine.execFilter w s
  | .project w => Sys2Proof.Machine.execProject w s
  | .sink w => Sys2Proof.Machine.execSink w s
  | .seal w => Sys2Proof.Machine.execSeal w s
  | .hbuild w => Sys2Proof.Machine.execHbuild w s
  | .hprobe w => Sys2Proof.Machine.execHprobe w s
  | .asof w => Sys2Proof.Machine.execAsof w s
  | .group w => Sys2Proof.Machine.execGroup w s
  | .window w => Sys2Proof.Machine.execWindow w s
  | .windowClose e op => Sys2Proof.Machine.execWindowClose e op s
  | .psad w => Sys2Proof.Machine.execPsad w s
  | .sort w => Sys2Proof.Machine.execSort w s
  | .merge w => Sys2Proof.Machine.execMerge w s
  | .topk w => Sys2Proof.Machine.execTopk w s
  | .operatorFinalEmit e op => Sys2Proof.Machine.execOperatorFinalEmit e op s
  | .exchange w => Sys2Proof.Machine.execExchange w s
  | .exchangeTimeout e op => Sys2Proof.Machine.execExchangeTimeout e op s
  | .udo w => Sys2Proof.Machine.execUdo w s
  | .receipt w => Sys2Proof.Machine.execReceipt w s
  | .runQueueGrant e => Sys2Proof.Machine.execRunQueueGrant e s
  | .producerTaskCreate e op => Sys2Proof.Machine.execProducerTaskCreate e op s
  | .consumerTaskCreate e op => Sys2Proof.Machine.execConsumerTaskCreate e op s
  | .runComplete e => Sys2Proof.Machine.execRunComplete e s
  | .operatorUnitFault w cause begun => Sys2Proof.Machine.execOperatorUnitFault w cause begun s
  | .opuCisModeWrite mode => Sys2Proof.Machine.execOpuCisModeWrite mode s
  | .cisModeStagingEdge => Sys2Proof.Machine.execCisModeStagingEdge s
  | .cisModeApply => Sys2Proof.Machine.execCisModeApply s
  | .sqTailDoorbell n q v => Sys2Proof.Machine.execSqTailDoorbell n q v s
  | .cqHeadDoorbell n v => Sys2Proof.Machine.execCqHeadDoorbell n v s
  | .sqFetch n q entry => Sys2Proof.Machine.execSqFetch n q entry s
  | .loadProgram n q image grant => Sys2Proof.Machine.execLoadProgram n q image grant s
  | .unloadProgram n q => Sys2Proof.Machine.execUnloadProgram n q s
  | .unloadRelease n h => Sys2Proof.Machine.execUnloadRelease n h s
  | .run n q => Sys2Proof.Machine.execRun n q s
  | .runSlotGrant n q => Sys2Proof.Machine.execRunSlotGrant n q s
  | .runWaitExpiry n q => Sys2Proof.Machine.execRunWaitExpiry n q s
  | .dmaIn n q data grant => Sys2Proof.Machine.execDmaIn n q data grant s
  | .dmaOut n q grant => Sys2Proof.Machine.execDmaOut n q grant s
  | .signal n q => Sys2Proof.Machine.execSignal n q s
  | .sqFence n q => Sys2Proof.Machine.execSqFence n q s
  | .msixCoalesceExpiry n => Sys2Proof.Machine.execMsixCoalesceExpiry n s
  | .unsupportedRequest ep posted uncorr header => Sys2Proof.Machine.execUnsupportedRequest ep posted uncorr header s
  | .doorbellAtomicop n q op => Sys2Proof.Machine.execDoorbellAtomicop n q op s
  | .pcieLinkDown ep => Sys2Proof.Machine.execPcieLinkDown ep s
  | .pcieLinkUp ep => Sys2Proof.Machine.execPcieLinkUp ep s
  | .pcieLinkRetrain ep width rate => Sys2Proof.Machine.execPcieLinkRetrain ep width rate s
  | .functionLevelReset ep => Sys2Proof.Machine.execFunctionLevelReset ep s
  | .d3hotEntry ep => Sys2Proof.Machine.execD3hotEntry ep s
  | .d0Return ep => Sys2Proof.Machine.execD0Return ep s
  | .atsInvalidationRequest n page pages => Sys2Proof.Machine.execAtsInvalidationRequest n page pages s
  | .atsInvalidationCompletion n => Sys2Proof.Machine.execAtsInvalidationCompletion n s
  | .pldDptInv n => Sys2Proof.Machine.execPldDptInv n s
  | .pldPasidWrite n v => Sys2Proof.Machine.execPldPasidWrite n v s
  | .polderEnable n => Sys2Proof.Machine.execPolderEnable n s
  | .quiesce n set => Sys2Proof.Machine.execQuiesce n set s
  | .polderReset n => Sys2Proof.Machine.execPolderReset n s
  | .polderRemove n => Sys2Proof.Machine.execPolderRemove n s
  | .drainEnd n => Sys2Proof.Machine.execDrainEnd n s
  | .drainLimitExpiry n => Sys2Proof.Machine.execDrainLimitExpiry n s
  | .resetDone n => Sys2Proof.Machine.execResetDone n s
  | .dirtySwap n => Sys2Proof.Machine.execDirtySwap n s
  | .swapDone n => Sys2Proof.Machine.execSwapDone n s
  | .epcEnable => Sys2Proof.Machine.execEpcEnable s
  | .epcTickWrite v => Sys2Proof.Machine.execEpcTickWrite v s
  | .epcSrcDisable => Sys2Proof.Machine.execEpcSrcDisable s
  | .epcSrcStage w => Sys2Proof.Machine.execEpcSrcStage w s
  | .ptpMessage m => Sys2Proof.Machine.execPtpMessage m s
  | .ptpDelayRequestSend x => Sys2Proof.Machine.execPtpDelayRequestSend x s
  | .irigbFrame f => Sys2Proof.Machine.execIrigbFrame f s
  | .ppsEdge us ns => Sys2Proof.Machine.execPpsEdge us ns s
  | .referenceLoss phaseNs => Sys2Proof.Machine.execReferenceLoss phaseNs s
  | .holdoverExpiry => Sys2Proof.Machine.execHoldoverExpiry s
  | .rngEnable => Sys2Proof.Machine.execRngEnable s
  | .rngRestart => Sys2Proof.Machine.execRngRestart s
  | .rngTestsrcWrite v => Sys2Proof.Machine.execRngTestsrcWrite v s
  | .wellStartupComplete failed kat => Sys2Proof.Machine.execWellStartupComplete failed kat s
  | .sourceHealthFailure k window => Sys2Proof.Machine.execSourceHealthFailure k window s
  | .drbgReseed inst => Sys2Proof.Machine.execDrbgReseed inst s
  | .entropyWaitExpiry e => Sys2Proof.Machine.execEntropyWaitExpiry e s
  | .rngStallExpiry e => Sys2Proof.Machine.execRngStallExpiry e s
  | .entropyDelivery => Sys2Proof.Machine.execEntropyDelivery s
  | .kstRcptWrite n valid k => Sys2Proof.Machine.execKstRcptWrite n valid k s
  | .receiptSlotStaging => Sys2Proof.Machine.execReceiptSlotStaging s
  | .scrubComplete => Sys2Proof.Machine.execScrubComplete s
  | .rewrapComplete => Sys2Proof.Machine.execRewrapComplete s
  | .mcsLoad => Sys2Proof.Machine.execMcsLoad s
  | .mcsClear cls => Sys2Proof.Machine.execMcsClear cls s
  | .custEnWrite v => Sys2Proof.Machine.execCustEnWrite v s
  | .microcodeStagingEdge => Sys2Proof.Machine.execMicrocodeStagingEdge s
  | .microcodeApply => Sys2Proof.Machine.execMicrocodeApply s
  | .mwIssue m k => Sys2Proof.Machine.execMwIssue m k s
  | .mwBranch m k => Sys2Proof.Machine.execMwBranch m k s
  | .mwLdi m k => Sys2Proof.Machine.execMwLdi m k s
  | .mwLda m k => Sys2Proof.Machine.execMwLda m k s
  | .mwDjnz m k => Sys2Proof.Machine.execMwDjnz m k s
  | .mwCall m k => Sys2Proof.Machine.execMwCall m k s
  | .mwReturn m k => Sys2Proof.Machine.execMwReturn m k s
  | .mwYield m k => Sys2Proof.Machine.execMwYield m k s
  | .mwDone m k => Sys2Proof.Machine.execMwDone m k s
  | .mwSync m k => Sys2Proof.Machine.execMwSync m k s
  | .yieldLimitExpiry m k => Sys2Proof.Machine.execYieldLimitExpiry m k s
  | .controlStoreError m k region addr => Sys2Proof.Machine.execControlStoreError m k region addr s
  | .frameReceive port fcsOk frame => Sys2Proof.Machine.execFrameReceive port fcsOk frame s
  | .cookieKeyRotation => Sys2Proof.Machine.execCookieKeyRotation s
  | .handshakeLimitExpiry k => Sys2Proof.Machine.execHandshakeLimitExpiry k s
  | .idleLimitExpiry k => Sys2Proof.Machine.execIdleLimitExpiry k s
  | .sessionTimerExpiry k => Sys2Proof.Machine.execSessionTimerExpiry k s
  | .tcpRtoExpiry k => Sys2Proof.Machine.execTcpRtoExpiry k s
  | .delayedAckExpiry k => Sys2Proof.Machine.execDelayedAckExpiry k s
  | .persistTimerExpiry k => Sys2Proof.Machine.execPersistTimerExpiry k s
  | .ethLinkDown p => Sys2Proof.Machine.execEthLinkDown p s
  | .netPortCfgWrite p v => Sys2Proof.Machine.execNetPortCfgWrite p v s
  | .sesCtrlModeWrite v => Sys2Proof.Machine.execSesCtrlModeWrite v s
  | .sesLsnWrite k reg v => Sys2Proof.Machine.execSesLsnWrite k reg v s
  | .sesPrivgrpWrite k v => Sys2Proof.Machine.execSesPrivgrpWrite k v s
  | .dkeCommit => Sys2Proof.Machine.execDkeCommit s
  | .dikeGenerationEdge => Sys2Proof.Machine.execDikeGenerationEdge s
  | .dkeThaw endTask mcls unit => Sys2Proof.Machine.execDkeThaw endTask mcls unit s
  | .dkeNtcPop => Sys2Proof.Machine.execDkeNtcPop s
  | .faultGroupResolve => Sys2Proof.Machine.execFaultGroupResolve s
  | .blockResetUnitReturn src unit pass => Sys2Proof.Machine.execBlockResetUnitReturn src unit pass s
  | .fclStatusClear v => Sys2Proof.Machine.execFclStatusClear v s
  | .fclErrnClear => Sys2Proof.Machine.execFclErrnClear s
  | .fclRecPop => Sys2Proof.Machine.execFclRecPop s
  | .fclReactWrite j v => Sys2Proof.Machine.execFclReactWrite j v s
  | .testItemRun item unit result => Sys2Proof.Machine.execTestItemRun item unit result s
  | .testAbandon cls unit => Sys2Proof.Machine.execTestAbandon cls unit s
  | .bankRotationStep k bank pass => Sys2Proof.Machine.execBankRotationStep k bank pass s
  | .testOverdue item => Sys2Proof.Machine.execTestOverdue item s
  | .thermalWarning temp => Sys2Proof.Machine.execThermalWarning temp s
  | .thermalCritical temp => Sys2Proof.Machine.execThermalCritical temp s
  | .nonceGen => Sys2Proof.Machine.execNonceGen s
  | .transition lost => Sys2Proof.Machine.execTransition lost s
  | .keyInstall => Sys2Proof.Machine.execKeyInstall s
  | .unlock => Sys2Proof.Machine.execUnlock s
  | .bypass tdi => Sys2Proof.Machine.execBypass tdi s
  | .idcode tdi => Sys2Proof.Machine.execIdcode tdi s
  | .samplePreload tdi => Sys2Proof.Machine.execSamplePreload tdi s
  | .extest tdi => Sys2Proof.Machine.execExtest tdi s
  | .dbgAuth token => Sys2Proof.Machine.execDbgAuth token s
  | .dap op => Sys2Proof.Machine.execDap op s
  | .debugTokenExpiry => Sys2Proof.Machine.execDebugTokenExpiry s
  | .tamperAlarm on off => Sys2Proof.Machine.execTamperAlarm on off s
  | .release => Sys2Proof.Machine.execRelease s
  | .selftest src pass => Sys2Proof.Machine.execSelftest src pass s
  | .tmpRespWrite v => Sys2Proof.Machine.execTmpRespWrite v s
  | .batteryAlarm src => Sys2Proof.Machine.execBatteryAlarm src s
  | .embCfgWrite v => Sys2Proof.Machine.execEmbCfgWrite v s
  | .embLogClr => Sys2Proof.Machine.execEmbLogClr s
  | .cardInsertion m => Sys2Proof.Machine.execCardInsertion m s
  | .reinit => Sys2Proof.Machine.execReinit s
  | .cardInitComplete answers switchOk tuned => Sys2Proof.Machine.execCardInitComplete answers switchOk tuned s
  | .mountScan => Sys2Proof.Machine.execMountScan s
  | .cardRemoval started => Sys2Proof.Machine.execCardRemoval started s
  | .cardSleep => Sys2Proof.Machine.execCardSleep s
  | .cardRetune cause tuned => Sys2Proof.Machine.execCardRetune cause tuned s
  | .crdSubmit addr => Sys2Proof.Machine.execCrdSubmit addr s
  | .cardRead => Sys2Proof.Machine.execCardRead s
  | .cardWrite => Sys2Proof.Machine.execCardWrite s
  | .jnlAppend => Sys2Proof.Machine.execJnlAppend s
  | .jnlRead => Sys2Proof.Machine.execJnlRead s
  | .jnlFormat => Sys2Proof.Machine.execJnlFormat s
  | .rpRead => Sys2Proof.Machine.execRpRead s
  | .rpWrite => Sys2Proof.Machine.execRpWrite s
  | .rpBind => Sys2Proof.Machine.execRpBind s
  | .linkTrained l lanes => Sys2Proof.Machine.execLinkTrained l lanes s
  | .linkTrainingTimeout l => Sys2Proof.Machine.execLinkTrainingTimeout l s
  | .perCfgEnWrite l v => Sys2Proof.Machine.execPerCfgEnWrite l v s
  | .flitReceive l flit => Sys2Proof.Machine.execFlitReceive l flit s
  | .peerLinkDown l => Sys2Proof.Machine.execPeerLinkDown l s
  | .rekey l => Sys2Proof.Machine.execRekey l s
  | .peerFlitCountRekey l => Sys2Proof.Machine.execPeerFlitCountRekey l s
  | .epochSend => Sys2Proof.Machine.execEpochSend s
  | .perTx l addr => Sys2Proof.Machine.execPerTx l addr s
  | .perRxHeadWrite l head => Sys2Proof.Machine.execPerRxHeadWrite l head s
  | .porstRelease straps nor cxl => Sys2Proof.Machine.execPorstRelease straps nor cxl s
  | .perst ep => Sys2Proof.Machine.execPerst ep s
  | .pwrBootGo ep image => Sys2Proof.Machine.execPwrBootGo ep image s
  | .bootSourceTimeout => Sys2Proof.Machine.execBootSourceTimeout s
  | .pwrFailAssert => Sys2Proof.Machine.execPwrFailAssert s
  | .pwrFailDeassert => Sys2Proof.Machine.execPwrFailDeassert s
  | .powerEstimate engines scan cores total => Sys2Proof.Machine.execPowerEstimate engines scan cores total s
  | .pwrCapWrite v => Sys2Proof.Machine.execPwrCapWrite v s
  | .smbReadId => Sys2Proof.Machine.execSmbReadId s
  | .smbReadTemperature => Sys2Proof.Machine.execSmbReadTemperature s
  | .smbReadPower => Sys2Proof.Machine.execSmbReadPower s
  | .smbReadFaults => Sys2Proof.Machine.execSmbReadFaults s
  | .smbReadLcs => Sys2Proof.Machine.execSmbReadLcs s
  | .smbReadBootState => Sys2Proof.Machine.execSmbReadBootState s
  | .smbWriteRefused => Sys2Proof.Machine.execSmbWriteRefused s
  | .registerWrite bar2 off half aligned v => Sys2Proof.Machine.execRegisterWrite bar2 off half aligned v s
  | .tokenBucketRefill => Sys2Proof.Machine.execTokenBucketRefill s
  | .ethLinkUp p => Sys2Proof.Machine.execEthLinkUp p s
  | .cxlLinkDown p error => Sys2Proof.Machine.execCxlLinkDown p error s
  | .managementWatchdogExpiry => Sys2Proof.Machine.execManagementWatchdogExpiry s
  | .porstAssert => Sys2Proof.Machine.execPorstAssert s
  | .powerLoss vbat => Sys2Proof.Machine.execPowerLoss vbat s
  | .pcieConfigRequest ep => Sys2Proof.Machine.execPcieConfigRequest ep s

end Sys2Proof.Machine
end

