-- ==== Sys2Proof/Safety.lean ====
section
/-!
DEFINITION. Sys2Proof/Safety.lean: the terms the statements use: a core that executes, the state an instruction leaves, what a command
leaves alone, and the invariant of the output pins.
-/

namespace Sys2Proof.Machine

/-- Core `c` executes its next instruction on frame `f`: the device is out of reset, the core neither halted nor blocked, and the
instruction is fetched (R407, R538). -/
def State.Runs (s : State) (c : Nat) (f : Frame) : Prop := s.running = true ∧ s.frame c = some f ∧ s.fetchStop c f = none

/-- Where core `c` executes, its instruction is fetched. -/
def State.Fetches (s : State) (c : Nat) : Prop := ∀ f, s.frame c = some f → s.fetchStop c f = none

/-- Core `c` executes on frame `f`, and the task it holds, if it is in U, is RUNNING (R97). -/
def State.Executes (s : State) (c : Nat) (f : Frame) : Prop :=
  s.Runs c f ∧ ∀ t, s.curTask c = some t → (s.task t).state = .running

/-- Core `c` executes task `t` in U on frame `f`. -/
def State.RunsTask (s : State) (c t : Nat) (f : Frame) : Prop :=
  s.Executes c f ∧ s.curTask c = some t

/-- The state after an instruction of core `c` whose effect gives `t`: a core that a debugger steps halts again (R445), and the pins
follow. -/
def State.ends (s : State) (c : Nat) (t : State) : State :=
  (if (s.core c).stepping then t.setCore c { t.core c with stepping := false, halted := true } else t).repin

/-- The state after an instruction of core `c` that ended its task, whose effect gives `t`: the sessions go on (R283, R287). -/
def State.endsTask (s : State) (c : Nat) (t : State) : State :=
  (if (s.core c).stepping then t.setCore c { t.core c with stepping := false, halted := true } else t).settle.repin

/-- The state after an instruction of core `c` whose one effect is to leave frame `g`. -/
def State.wrote (s : State) (c : Nat) (g : Frame) : State := s.ends c (s.setFrame c g)

/-- The state after an instruction of core `c` that raises an exception which its task's handler takes (R70). -/
def State.entered (s : State) (c : Nat) (f : Frame) (cause : Nat) (xaddr : Word) : State :=
  s.wrote c { f with xpc := f.pc, xcause := BitVec.ofNat 64 (cause + 65536), xaddr := xaddr, pc := f.xhnd }

/-- Everything but memory, the frame that core `c` executes on, its debug flags and the pins is as before. -/
structure MemoryAndFrame (s t : State) (c : Nat) : Prop where
  regs : t.regs = s.regs
  now : t.now = s.now
  workers : t.sched.workers = s.sched.workers
  lists : t.sched.aff = s.sched.aff ∧ t.sched.prioq = s.sched.prioq ∧ t.sched.hwWait = s.sched.hwWait
  cores : ∀ d, d ≠ c → t.core d = s.core d
  tasks : ∀ u, s.curTask c ≠ some u → t.task u = s.task u
  own : ∀ u, s.curTask c = some u → ∃ g, t.task u = { s.task u with frame := g }
  jobs : t.jobs = s.jobs
  host : t.host = s.host
  epoch : t.epoch = s.epoch
  ctxs : t.ctxs = s.ctxs
  keys : t.keys = s.keys
  ent : t.ent = s.ent
  dike : t.dike = s.dike
  fcl : t.fcl = s.fcl
  test : t.test = s.test
  power : t.power = s.power
  dbg : t.dbg = s.dbg
  mcs : t.mcs = s.mcs
  net : t.net = s.net
  col : t.col = s.col
  opu : t.opu = s.opu
  card : t.card = s.card
  peers : t.peers = s.peers
  out : t.out = s.out
  free : t.free = s.free
  pending : t.pending = s.pending

/-- Memory too is as before. -/
structure OnlyFrame (s t : State) (c : Nat) : Prop extends MemoryAndFrame s t c where
  mem : t.mem = s.mem
  poison : t.poison = s.poison

/-- Two frames agree but for the general register `rd`, the predicate `px` and the program counter. -/
structure FrameBut (f g : Frame) (rd : Option Reg) (px : Option Prd) : Prop where
  gregs : ∀ r, some r ≠ rd → g.gr r = f.gr r
  preds : ∀ p, some p ≠ px → g.pr p = f.pr p
  vectors : g.s = f.s
  streams : g.t = f.t
  exceptions : g.xpc = f.xpc ∧ g.xcause = f.xcause ∧ g.xaddr = f.xaddr ∧ g.xhnd = f.xhnd ∧ g.eix = f.eix ∧ g.appended = f.appended

/-- Memory that an instruction of a core reaches as plain memory: HBM outside the Dike table, CXL, the Cistern, and the core's own
scratch window (R28, R38). -/
def State.plainAt (s : State) (c a : Nat) : Prop :=
  spaceOf s a = .hbm ∨ spaceOf s a = .cxl ∨ spaceOf s a = .cistern ∨ spaceOf s a = .scratch c

/-- A core executes in a context with vector state (R35). -/
def State.ExecutesVec (s : State) (c : Nat) (f : Frame) : Prop :=
  s.Executes c f ∧ ∀ t, s.curTask c = some t → (s.task t).vec = true

/-- Element `j` of a short-vector register whose elements are `w` bits (R78). -/
def vecEl (w : Nat) (v : Vec) (j : Nat) : BitVec w := v.extractLsb' (w * j) w

/-- The twelve functions of opcode 0x10 on elements of `w` bits, as bit vectors (R79, R83). -/
def vecFn {w : Nat} (fn : Nat) (sg : Bool) (a b : BitVec w) : BitVec w :=
  let top : Int := 2 ^ (w - 1)
  match fn with
  | 0 => a + b
  | 1 => a - b
  | 2 => a &&& b
  | 3 => a ||| b
  | 4 => a ^^^ b
  | 5 => if sg then (if a.slt b then a else b) else if a.ult b then a else b
  | 6 => if sg then (if a.slt b then b else a) else if a.ult b then b else a
  | 7 => if sg then BitVec.ofInt w (max (-top) (min (top - 1) (a.toInt + b.toInt))) else BitVec.ofNat w (min (2 ^ w - 1) (a.toNat + b.toNat))
  | 8 => if sg then BitVec.ofInt w (max (-top) (min (top - 1) (a.toInt - b.toInt))) else BitVec.ofNat w (a.toNat - b.toNat)
  | 9 => if sg then BitVec.ofNat w (a.toInt - b.toInt).natAbs else if a.ult b then b - a else a - b
  | 10 => a * b
  | _ => if sg then BitVec.ofInt w (a.toInt * b.toInt / 2 ^ w) else BitVec.ofNat w (a.toNat * b.toNat / 2 ^ w)

/-- An access of `n` bytes at `a` that a core's element makes in plain memory: it lies there, Dike grants it, and a read meets no error. -/
def State.elementOk (s : State) (c : Nat) (d : Dir) (a n : Nat) : Prop :=
  s.plainAt c a ∧ s.dikeCheck (s.coreMaster c) a n d false = none ∧ (d = .read → s.poisoned a n = none)

/-- The entry of SQ `q` of polder `n` that starts next is `e`, a legal one that posts its completion, the CQ can be written, and the
page-table entries it uses hold no error. -/
def State.NextEntry (s : State) (n q : Nat) (e : SqEntry) : Prop :=
  s.running = true ∧ s.entriesRun n = true ∧ s.nextEntry n q = some e ∧ e.ok = true ∧ e.waiting = false ∧
    bit e.flags 0 = false ∧ s.cqOpen n = true ∧ s.dptBad n e.ranges = none

/-- Among what the device has sent by `t` and had not by `s` is the completion of `e` with a status and a result (R135). -/
def Completes (s t : State) (n : Nat) (e : SqEntry) (st result : Nat) : Prop :=
  ∃ new i b, t.out = new ++ s.out ∧ .cqEntry (s.via n) i b ∈ new ∧ leAt b 0 2 = e.cid % 65536 ∧ leAt b 2 1 = e.sq % 256 ∧ leAt b 3 1 = st ∧
    leAt b 4 1 = 0 ∧ leAt b 6 2 = e.head % 65536 ∧ leAt b 8 8 = (if st = 0 then result else 0) % 2 ^ 64

/-- The output pins show what the state says (R425, R426, R463, R515, R519). -/
def State.PinsShow (s : State) : Prop := s.pins = s.pinLevels

/-! ## Jobs -/

/-- A unit's access of `n` bytes at `a` that Dike grants, in HBM, the CXL tier or the Cistern, a read without error in them. -/
def State.gives (s : State) (m : Master) (a n : Nat) (d : Dir) : Prop :=
  n = 0 ∨ (spaceOf s a = .hbm ∨ spaceOf s a = .cxl ∨ spaceOf s a = .cistern) ∧ s.dikeCheck m a n d false = none ∧
    (d = .read → s.poisoned a n = none)

/-- The descriptor of job `e` is `l`: read already, or given to the master `m` with the check of `w` bytes for the completion (R531). -/
def State.descIs (s : State) (e : Nat) (m : Master) (w : Nat) (l : List Byte) : Prop :=
  if (s.job e).granted = false then s.gives m (s.job e).desc 128 .read ∧ s.gives m (s.job e).desc w .write ∧ l = s.bytes (s.job e).desc 128
  else l = (s.job e).bytes

/-- One operation of the engine classes LE, CE, BE and AE: its command, class and operation code, and what its descriptor uses and
allows (R158, R166, R169, R172, R174). -/
structure EngRow where
  cmd : SlotId → Instr
  cls : Nat
  opc : Nat
  op : EngOp
  place : State → EngDesc → Bool := fun _ _ => true
  apart : EngDesc → Bool := fun _ => true

/-- A key generation: the public key out, the private key into the slot. -/
def keygenOp (lo hi : Nat) : EngOp :=
  { pset := psetIn lo hi, useOslot := true, fill := fun p => (secLenOf p, pubLenOf p), outSize := fun d => pkLen d.pset }

/-- An encapsulation: operand K the public key, the ciphertext out, the shared secret into the slot. -/
def encapsOp (lo hi : Nat) : EngOp :=
  { pset := psetIn lo hi, useK := true, useOslot := true, fill := fun p => (ssLen p, 0), secret := false,
    lens := fun d _ => decide (d.kLen = pkLen d.pset), outSize := fun d => sigLen d.pset }

/-- A decapsulation: operand A the ciphertext, the shared secret into the slot. -/
def decapsOp (lo hi : Nat) : EngOp :=
  { pset := psetIn lo hi, useA := true, useOut := false, slot := .needed, slotTy := pairTy, usage := useKemDec, useOslot := true,
    fill := fun p => (ssLen p, 0), lens := fun d _ => decide (d.aLen = sigLen d.pset) }

/-- A signature with the key of the slot. -/
def signOp (lo hi : Nat) (hash : Nat → Bool) (useC : Bool) (lens : EngDesc → Bool) : EngOp :=
  { pset := psetIn lo hi, hash := hash, useA := true, useC := useC, slot := .needed, slotTy := pairTy, usage := useSign,
    lens := fun d _ => lens d, outSize := fun d => sigLen d.pset }

/-- A verification with the key of the slot, or of operand K. -/
def verifyOp (lo hi : Nat) (hash : Nat → Bool) (useC : Bool) (lens : EngDesc → Bool) : EngOp :=
  { pset := psetIn lo hi, hash := hash, useA := true, useB := true, useC := useC, useK := true, useOut := false, slot := .optional,
    slotTy := verifyTy, usage := useVerify, secret := false,
    lens := fun d sv => lens d && decide (d.bLen = sigLen d.pset) && (sv || decide (d.kLen = pkLen d.pset)) }

/-- The operations of the four classes (R166, R169, R172, R174). -/
def engRows : List EngRow :=
  let digest := fun (d : EngDesc) => decide (d.aLen = hashLen d.hash)
  let noHash := fun (h : Nat) => decide (h = 0)
  [{ cmd := .mlkemKeygen, cls := 0, opc := 0x01, op := keygenOp 1 3 },
   { cmd := .mlkemEncaps, cls := 0, opc := 0x02, op := encapsOp 1 3 },
   { cmd := .mlkemDecaps, cls := 0, opc := 0x03, op := decapsOp 1 3 },
   { cmd := .mldsaKeygen, cls := 0, opc := 0x08, op := keygenOp 0x11 0x13 },
   { cmd := .mldsaSign, cls := 0, opc := 0x09, op := signOp 0x11 0x13 (fun _ => true) true dsaLens },
   { cmd := .mldsaVerify, cls := 0, opc := 0x0A, op := verifyOp 0x11 0x13 (fun _ => true) true dsaLens },
   { cmd := .mceKeygen, cls := 1, opc := 0x01,
     op := { keygenOp 0x21 0x24 with useB := true, lens := fun d _ => decide (1048576 ≤ d.bLen) },
     place := State.workArea },
   { cmd := .mceEncaps, cls := 1, opc := 0x02, op := encapsOp 0x21 0x24 },
   { cmd := .mceDecaps, cls := 1, opc := 0x03, op := decapsOp 0x21 0x24 },
   { cmd := .hqcKeygen, cls := 1, opc := 0x08, op := keygenOp 0x31 0x33 },
   { cmd := .hqcEncaps, cls := 1, opc := 0x09, op := encapsOp 0x31 0x33 },
   { cmd := .hqcDecaps, cls := 1, opc := 0x0A, op := decapsOp 0x31 0x33 },
   { cmd := .ecKeygen, cls := 2, opc := 0x01, op := keygenOp 0x41 0x47 },
   { cmd := .ecdhEph, cls := 2, opc := 0x02,
     op := { pset := psetIn 0x41 0x45, useA := true, useOslot := true, fill := fun p => (ssLen p, 0),
             lens := fun d _ => decide (d.aLen = pkLen d.pset), outSize := fun d => pkLen d.pset } },
   { cmd := .ecdh, cls := 2, opc := 0x03,
     op := { decapsOp 0x41 0x45 with usage := useDerive, lens := fun d _ => decide (d.aLen = pkLen d.pset) } },
   { cmd := .ecdsaSign, cls := 2, opc := 0x04, op := signOp 0x41 0x43 hash123 false digest },
   { cmd := .ecdsaVerify, cls := 2, opc := 0x05, op := verifyOp 0x41 0x43 hash123 false digest },
   { cmd := .eddsaSign, cls := 2, opc := 0x06, op := signOp 0x46 0x47 noHash false (fun d => decide (d.aLen ≤ 16384)) },
   { cmd := .eddsaVerify, cls := 2, opc := 0x07, op := verifyOp 0x46 0x47 noHash false (fun d => decide (d.aLen ≤ 16384)) },
   { cmd := .rsaPssSign, cls := 2, opc := 0x08, op := signOp 0x51 0x53 hash123 false digest },
   { cmd := .rsaPssVerify, cls := 2, opc := 0x09, op := verifyOp 0x51 0x53 hash123 false digest },
   { cmd := .rsaPkcs1Verify, cls := 2, opc := 0x0A, op := verifyOp 0x51 0x53 hash123 false digest },
   { cmd := .aeadSeal, cls := 4, opc := 0x01,
     op := { pset := psetIn 0x61 0x63, useA := true, useB := true, slot := .needed, slotTy := aeadTy, usage := useAead,
             lens := fun d _ => decide (d.aLen ≤ 2 ^ 32 - 17), outSize := fun d => d.aLen + 16 }, apart := aeOverlapOk },
   { cmd := .aeadOpen, cls := 4, opc := 0x02,
     op := { pset := psetIn 0x61 0x63, useA := true, useB := true, slot := .needed, slotTy := aeadTy, usage := useAead,
             lens := fun d _ => decide (16 ≤ d.aLen), outSize := fun d => d.aLen - 16 }, apart := aeOverlapOk }]

/-- The row names an input slot. -/
def EngRow.named (r : EngRow) (l : List Byte) : Bool := decide (r.op.slot = .needed) || decide (r.op.slot = .optional) && hdrSv l

/-- The status of the first check of R160 that a job of polder `n` with descriptor `l` fails; none where it passes all. -/
def EngRow.verdict (r : EngRow) (s : State) (n : Nat) (l : List Byte) : Option Nat :=
  let d := parseEng l
  let x := s.key (hdrSlot l)
  let f := r.op.fill d.pset
  if !(d.mbz l && r.op.unusedZero (decide (r.cls = 4)) l && r.apart d) then some 0x12
  else if !(decide (hdrHreq l < if r.cls = 4 then 2 else 3) && r.op.pset d.pset && decide (d.hash < 6) && r.op.hash d.hash && r.place s d)
  then some 0x13
  else if s.locked then some 0x15
  else if s.lcs = 4 then some 0x14
  else if r.named l && !(hdrSv l && s.ownsKey n (hdrSlot l) && r.op.slotTy x d.pset) then some 0x08
  else if r.named l && (!bit x.usage r.op.usage || x.expired s || decide (r.cls = 4) && decide (x.hmin = 2)) then some 0x09
  else if r.op.useOslot && !(d.ov && s.canFill n d.oslot) then some 0x08
  else if !r.op.lens d (hdrSv l) then some 0x17
  else if d.cap < r.op.outSize d then some 0x04
  else if r.op.useOslot && !s.heapRoom n (granulesFor f.1 f.2 false) then some 0x04
  else none

/-- Job `e` is next for engine `k` of its row's class, which may take it, and its descriptor is `l` (R156, R157, R531). -/
def State.EngTurn (s : State) (r : EngRow) (e k : Nat) (l : List Byte) : Prop :=
  s.running = true ∧ (s.job e).st = .queued ∧ (s.job e).cls = r.cls ∧ (s.job e).opc = r.opc ∧
    s.mcsHeld r.cls r.opc = false ∧ s.engineFor r.cls = some k ∧ s.headOf r.cls k = some e ∧
    s.descIs e { mcls := clsMaster r.cls, unit := k, acts := [(s.job e).polder] } 8 l

/-- The operands that the row uses, and its output area, are given to the engine's master (R160, R170). -/
def State.engOperands (s : State) (r : EngRow) (n k : Nat) (l : List Byte) : Prop :=
  let d := parseEng l
  let m : Master := { mcls := clsMaster r.cls, unit := k, acts := [n] }
  (r.op.useA = true → s.gives m d.aAddr d.aLen .read) ∧
    (r.op.useB = true → s.gives m d.bAddr d.bLen (if r.cls = 1 then .write else .read)) ∧
    (r.op.useC = true → s.gives m d.cAddr d.cLen .read) ∧ (r.op.useK = true → r.named l = false → s.gives m d.kAddr d.kLen .read) ∧
    s.gives m d.out (r.op.outSize d) .write

/-- A job has finished with a status and output bytes for one place; its completion is still to come (R61). -/
def Job.gave (j : Job) (st out : Nat) (l : List Byte) : Prop :=
  j.st = .finished ∧ j.status = st ∧ j.outlen = (if st ≤ 1 then l.length else 0) ∧ j.writes = if l = [] then [] else [(out, l)]

/-- Digest job `e` of operation `opc` is next in `s`, which is `r` once the contexts due at the tick have expired, on unit `c`: its hash core, or the
comparison unit. Its descriptor `l` passes the checks that every digest operation shares: must-be-zero bits, HREQ, the device state (R160, R189,
R194, R202, R530). -/
def State.DigTurn (r s : State) (e opc c : Nat) (l : List Byte) : Prop :=
  r.running = true ∧ s = r.expireCtxs ∧ (s.job e).opc = opc ∧ s.digMay e = true ∧ s.digUnit opc = some c ∧
    s.descIs e { mcls := 5, unit := 33, acts := [(s.job e).polder] } (if opc = 1 then 32 else 8) l ∧ digMbz opc (parseDig l) l = true ∧ hdrHreq l < 3 ∧
    s.locked = false ∧ s.lcs ≠ 4

/-- A digest job may take context `k` for a new message (R192, R193). -/
def State.takesCtx (s : State) (e k : Nat) : Prop := s.ctxTurn e = true ∧ s.freeContext = some k

/-- Slot `k` of polder `n` holds a key of the types given, with a usage, and has not expired (R160). -/
def State.usable (s : State) (n k : Nat) (tys : List Nat) (use : Nat) : Prop :=
  s.ownsKey n k = true ∧ (s.key k).ty ∈ tys ∧ bit (s.key k).usage use = true ∧ (s.key k).expired s = false

/-- The digest of bytes: keyed, or not (R188, R200). -/
def digestOf (alg size : Nat) (mac : Option (List Byte)) (n c data : List Byte) : List Byte :=
  match mac with
  | some k => fitLen size (Config.hmac alg k data)
  | none => fitLen size (Config.hash alg size n c data)

/-- A job has finished with a status and writes (R61). -/
def Job.ended (j : Job) (st : Nat) (writes : List (Nat × List Byte)) : Prop := j.st = .finished ∧ j.status = st ∧ j.writes = writes

/-- A class ZE job that is the next, with a descriptor `l` that passes the checks every one begins with (R160, R302, R303). -/
def State.ZeTurn (s : State) (e opc : Nat) (m : Master) (l : List Byte) : Prop :=
  s.running = true ∧ (s.job e).st = .queued ∧ (s.job e).cls = 5 ∧ (s.job e).opc = opc ∧ s.halted (s.job e).polder = false ∧
    s.descIs e m 8 l ∧ (parseZe l).mbz opc l = true ∧ hdrHreq l < 3 ∧ s.locked = false ∧ s.lcs ≠ 4

/-- A store-controller job that is the next (R302, R307, R537). -/
def State.StoreTurn (s : State) (e opc : Nat) (l : List Byte) : Prop :=
  s.ZeTurn e opc (scMaster (s.job e).polder) l ∧ (s.job e).inner = false ∧ s.frozen 7 8 = false ∧ s.tamperFrozen = false ∧ s.tableTurn e = true

/-- A compression job that is the next, for lane `k` (R343). -/
def State.LaneTurn (s : State) (e opc k : Nat) (l : List Byte) : Prop :=
  s.ZeTurn e opc { mcls := 7, unit := k, acts := [(s.job e).polder] } l ∧ s.engineFor 5 = some k ∧
    (s.jobQueue 5).find? (fun x => decide ((s.job x).opc ≤ 2) && !s.halted (s.job x).polder) = some e

/-! ## Operators -/

/-- Where entry `k` of an operator's queue lies, and its state (R354). -/
def State.entryAt (s : State) (e op k : Nat) : QEnt := (s.opRun e op).q.getD k { addr := 0 }

/-- Worker `w` is at work on an operator of a code, in a run that is under way, with no EXCHANGE beside it. -/
def State.OpTurn (s : State) (w code : Nat) (v : OpEnv) : Prop :=
  s.running = true ∧ s.opTask w code = some v ∧ ∀ r ∈ s.opu.runs, ∀ o ∈ r.2.ops, o.code ≠ 12

/-- The input of an operator's task is batch `b`, of an operator other than itself, read without error (R352, R355). -/
def State.InputIs (s : State) (v : OpEnv) (b : Batch) : Prop :=
  v.o.ins ≠ [] ∧ v.producer ≠ v.op ∧ ∃ o, opAt (s.run v.e).ops v.producer = some o ∧
    parseBatch (s.bytes (s.entryAt v.e v.producer (v.item % 256)).addr o.qentry) = some b ∧
    s.poisoned (s.entryAt v.e v.producer (v.item % 256)).addr b.bytes.length = none

/-- The types of a batch are those its operator has met, or, at the first one, legal for it (R374). -/
def State.TypesFit (s : State) (v : OpEnv) (b : Batch) (ok : List Nat → Bool) : Prop :=
  match (if v.item ≥ 256 then (s.opRun v.e v.op).types1 else (s.opRun v.e v.op).types) with
  | some t => t = b.types
  | none => 13 ∉ b.types ∧ ok b.types = true

/-- A batch fits the entry reserved for it, in the Cistern (R353, R355). -/
def State.OutFits (s : State) (v : OpEnv) (b : Batch) : Prop :=
  v.out < (s.opRun v.e v.op).q.length ∧ v.out ≠ 255 ∧ b.bytes.length ≤ v.o.qentry ∧
    0x200000000000 ≤ (s.entryAt v.e v.op v.out).addr ∧ (s.entryAt v.e v.op v.out).addr + b.bytes.length ≤ 0x200008000000

/-- An operator's task has ended: its input entry is free, and its output entry holds the batch and is queued, or is free (R355). -/
def State.Emits (s t : State) (v : OpEnv) (ob : Option Batch) : Prop :=
  (t.task v.t).state ≠ .running ∧ (v.o.ins ≠ [] → (t.entryAt v.e v.producer (v.item % 256)).st = 0) ∧
    match ob with
    | none => v.out ≠ 255 → (t.entryAt v.e v.op v.out).st = 0 ∧ (t.opRun v.e v.op).ready = (s.opRun v.e v.op).ready
    | some b => (t.entryAt v.e v.op v.out).st = 2 ∧ (t.opRun v.e v.op).ready = (s.opRun v.e v.op).ready ++ [v.out] ∧
        t.bytes (s.entryAt v.e v.op v.out).addr b.bytes.length = b.bytes

/-- The rows of a batch that meet the predicates of a FILTER, by their place among the selected ones (R360, R367). -/
def filterKeeps (params : List Byte) (b : Batch) : List Nat :=
  let ps := (List.range (leAt params 0 1)).map (fun i => parsePred params (16 + 32 * i))
  let meets := fun (p : Pred) (e : Nat) => let c := b.cols.getD p.column { src := 0xFF, ty := 1, vals := [] }; p.holds c.ty (c.vals.getD e 0)
  (List.range b.sel.length).filter (fun i =>
    let e := if b.dense then i else b.sel.getD i 0
    (List.range 16).all (fun k => let mine := ps.filter (fun p => decide (p.clause = k)); mine.isEmpty || mine.any (fun p => meets p e)))

/-! ## Network -/

/-- An untagged frame at port `p` that holds a good IPv4 packet of UDP or TCP for local address `a`: its flow, and its layer-4 bytes (R267,
R270, R271). -/
def State.Brings (s : State) (p : Nat) (l : List Byte) (f : Flow) (a : Nat) (l4 : List Byte) : Prop :=
  let body := l.drop 14
  let n := beAt body 2 2
  60 ≤ l.length ∧ l.length ≤ 9212 ∧ beAt l 12 2 = 0x0800 ∧ leAt body 0 1 = 0x45 ∧ 20 ≤ n ∧ n ≤ body.length ∧
    fold16 3 (sum16 (body.take 20)) = 0xFFFF ∧ beAt body 6 2 % 2 ^ 14 = 0 ∧ l4 = (body.take n).drop 20 ∧
    f = { port := p, mac := beAt l 6 6, src := beAt body 12 4, dst := beAt body 16 4, proto := leAt body 9 1, sport := beAt l4 0 2, dport := beAt l4 2 2 } ∧
    (f.proto = 6 ∨ f.proto = 17) ∧ l4Ok f l4 = true ∧ f.dport ≠ 319 ∧ f.dport ≠ 320 ∧ s.localAddr p none false f.dst = some a

/-! ## Card -/

/-- The job at the head of the card queue is one of operation `opc` that may start: its descriptor `d` at `a` passes its checks (R465 to R467,
R469). -/
def State.CardTurn (s : State) (opc : Nat) (m : CardMedium) (a : Nat) (d : List Byte) : Prop :=
  s.running = true ∧ s.card.medium = some m ∧ (s.crd = 3 ∨ s.crd = 4) ∧ s.power.pwrFail = false ∧ s.card.jobs.head? = some a ∧
    s.gives mgmtMaster a 64 .read ∧ s.gives mgmtMaster a 64 .write ∧ d = s.bytes a 64 ∧ cardCheck d = none ∧ leAt d 28 1 = opc

/-- The job with its descriptor at `a` has completed (R61, R466). -/
def State.CardEnds (s t : State) (a st outlen : Nat) : Prop :=
  t.card.jobs = s.card.jobs.drop 1 ∧ t.fld F.CRD_STATUS_CPL = 1 ∧ t.fld F.CRD_STATUS_STATE = 3 ∧
    leNat (t.bytes a 8) = st + 2 ^ 8 + outlen * 2 ^ 32

/-! ## Reset (R424, R491, R527) -/

/-- What a chip reset leaves (R424, R491, R527): memory reads as nothing written, no task, job, session, context or table is left, the registers of MRAM and
the Embankment keep their words and every other register has its Reset value, but for the flags that the boot reads back; the CXL keys go (R320). -/
def AfterChipReset (s t : State) : Prop :=
  t.mem = [] ∧ t.sched = {} ∧ t.jobs = {} ∧ t.ctxs = [] ∧ t.net = {} ∧ t.col = {} ∧ t.opu = {} ∧ t.host = {} ∧ t.peers = [] ∧ t.dike = {} ∧
    t.fcl = {} ∧ t.mcs = {} ∧ t.epoch = {} ∧ t.test = {} ∧ t.power.held = [] ∧ t.power.cxlKeys = [] ∧ t.power.step4 = false ∧
    t.fld F.TMP_STATUS_LOCKED = s.fld F.TMP_STATUS_LOCKED ∧ t.fld F.KST_STATUS_ZEROISED = s.fld F.KST_STATUS_ZEROISED

/-- The commands that act while the device is held in reset: the reset inputs and supplies, the Embankment's battery alarm, the junction
temperature and the SMBus target (R454, R491, R515, R525). -/
def actsInReset : Instr → Bool
  | .porstRelease _ _ _ => true
  | .porstAssert => true
  | .powerLoss _ => true
  | .batteryAlarm _ => true
  | .thermalWarning _ => true
  | .thermalCritical _ => true
  | .smbReadId => true
  | .smbReadTemperature => true
  | .smbReadPower => true
  | .smbReadFaults => true
  | .smbReadLcs => true
  | .smbReadBootState => true
  | .smbWriteRefused => true
  | _ => false

end Sys2Proof.Machine
end

