-- ==== Sys2Proof/WellFormed.lean ====
section
/-!
DEFINITION. Sys2Proof/WellFormed.lean: the commands that can arrive: the bounds of operands that their types leave open.
-/

namespace Sys2Proof

/-- The Worker ID of an operator unit: 64 to 215 (R25, R102). -/
def isOpUnit (w : WorkerId) : Bool := decide (64 ≤ w.val)

/-- An engine of a class that ENGINE_FAULT acts on: 32 lattice, 4 code, 16 big-integer and 16 AEAD engines (R180). -/
def isEngine (cls : Fin 8) (k : Fin 32) : Bool :=
  match cls.val with
  | 0 => true
  | 1 => decide (k.val < 4)
  | 2 => decide (k.val < 16)
  | 4 => decide (k.val < 16)
  | _ => false

/-- A sequencer of a microcode class, in the order of MCS: LE, CE, BE, DE and the operator units (R241). -/
def isSequencer (m : Fin 5) (k : Fin 256) : Bool :=
  match m.val with
  | 0 => decide (k.val < 32)
  | 1 => decide (k.val < 4)
  | 2 => decide (k.val < 16)
  | 3 => decide (k.val < 32)
  | _ => decide (k.val < 152)

/-- An ATS invalidation names at least one page, and pages of a 64-bit address (R142). -/
def pagesOk (page pages : Nat) : Bool := decide (1 ≤ pages) && decide (page + pages ≤ 2 ^ 52)

/-- A tick period is at most one second (R112). -/
def phaseOk (phaseNs : Nat) : Bool := decide (phaseNs < 1000000000)

/-- An IRIG-B frame has 100 elements (R113). -/
def irigOk (f : IrigFrame) : Bool := decide (f.elems.length = 100) && phaseOk f.phaseNs

/-- An Ethernet frame without its FCS: a header at least, with the largest MTU of NET_PORT_CFG and two VLAN tags at most 9,216 bytes (R296). -/
def frameOk (frame : List (BitVec 8)) : Bool := decide (14 ≤ frame.length) && decide (frame.length ≤ 9216)

/-- A unit of an in-service test item (R428). -/
def testUnitOk (item : Fin 11) (unit : Fin 256) : Bool :=
  match item.val with
  | 0 => decide (unit.val < 32)
  | 1 => decide (unit.val < 4)
  | 2 => decide (unit.val < 16)
  | 3 => decide (unit.val < 32)
  | 4 => decide (unit.val < 16)
  | 5 => decide (unit.val < 8)
  | 6 => decide (unit.val < 152)
  | 7 => false
  | 8 => decide (unit.val < 10)
  | 9 => decide (unit.val < 101)
  | _ => decide (unit.val < 8)

/-- A temperature in the sensors' 16 bits (R525). -/
def tempOk (temp : Int) : Bool := decide (-32768 ≤ temp) && decide (temp < 32768)

/-- A card's blocks are 512 bytes, its units of replay-protected storage 256, its CID 16 bytes (R467, R473). -/
def mediumOk (m : CardMedium) : Bool :=
  decide (m.cid.length = 16) && m.blocks.all (fun b => decide (b.2.length = 512)) && m.rpmb.all (fun b => decide (b.2.length = 256))

/-- A debugger's write has data. -/
def dapOk (op : DapOp) : Bool :=
  match op with
  | .write _ data => !data.isEmpty
  | .attach _ => true
  | .halt _ => true
  | .step _ => true
  | .resume _ => true
  | .inspect _ _ => true
  | .read _ _ => true

/-- A command is well formed. -/
def Instr.wf (i : Instr) : Bool :=
  match i with
  | .add _ _ _ _ => true
  | .sub _ _ _ _ => true
  | .andOp _ _ _ _ => true
  | .orOp _ _ _ _ => true
  | .xorOp _ _ _ _ => true
  | .sll _ _ _ _ => true
  | .srl _ _ _ _ => true
  | .sra _ _ _ _ => true
  | .rotr _ _ _ _ => true
  | .mul _ _ _ _ => true
  | .mulhu _ _ _ _ => true
  | .mulh _ _ _ _ => true
  | .divu _ _ _ _ => true
  | .div _ _ _ _ => true
  | .remu _ _ _ _ => true
  | .rem _ _ _ _ => true
  | .minu _ _ _ _ => true
  | .min _ _ _ _ => true
  | .maxu _ _ _ _ => true
  | .max _ _ _ _ => true
  | .clz _ _ _ => true
  | .ctz _ _ _ => true
  | .popc _ _ _ => true
  | .bswap _ _ _ => true
  | .sel _ _ _ _ _ => true
  | .cmpeq _ _ _ _ => true
  | .cmpne _ _ _ _ => true
  | .cmplt _ _ _ _ => true
  | .cmpltu _ _ _ _ => true
  | .cmpge _ _ _ _ => true
  | .cmpgeu _ _ _ _ => true
  | .pand _ _ _ _ => true
  | .por _ _ _ _ => true
  | .pxor _ _ _ _ => true
  | .pnot _ _ _ => true
  | .mfp _ _ => true
  | .mtp _ _ => true
  | .addi _ _ _ _ => true
  | .andi _ _ _ _ => true
  | .ori _ _ _ _ => true
  | .xori _ _ _ _ => true
  | .slli _ _ _ _ => true
  | .srli _ _ _ _ => true
  | .srai _ _ _ _ => true
  | .cmpeqi _ _ _ _ => true
  | .cmplti _ _ _ _ => true
  | .cmpltui _ _ _ _ => true
  | .limm _ _ _ _ _ => true
  | .ld _ _ _ _ _ _ => true
  | .st _ _ _ _ _ => true
  | .amoSwap _ _ _ _ _ => true
  | .amoAdd _ _ _ _ _ => true
  | .amoAnd _ _ _ _ _ => true
  | .amoOr _ _ _ _ _ => true
  | .amoXor _ _ _ _ _ => true
  | .amoMax _ _ _ _ _ => true
  | .amoMin _ _ _ _ _ => true
  | .amoMaxu _ _ _ _ _ => true
  | .amoMinu _ _ _ _ _ => true
  | .amoCas _ _ _ _ _ => true
  | .br _ _ _ _ => true
  | .j _ _ => true
  | .call _ _ => true
  | .jr _ _ => true
  | .callr _ _ => true
  | .nop _ => true
  | .fence _ => true
  | .mfs _ _ _ => true
  | .mts _ _ _ => true
  | .trap _ _ => true
  | .xret _ => true
  | .bkpt _ => true
  | .halt _ => true
  | .eret _ => true
  | .waitwork _ _ => true
  | .taskDispatch _ => true
  | .operatorUnitWorkRequest w => isOpUnit w
  | .done _ => true
  | .yield _ => true
  | .spawn _ _ _ => true
  | .free _ _ _ => true
  | .setev _ _ _ _ => true
  | .clrev _ _ => true
  | .waitev _ _ _ _ _ => true
  | .sleep _ _ => true
  | .timerExpiry _ => true
  | .timerRetirement => true
  | .affinityHoldExpiry _ _ => true
  | .slotWaitExpiry => true
  | .hwRequesterSlotGrant => true
  | .pmpWoffWrite _ _ => true
  | .eng _ _ _ _ _ _ => true
  | .abort _ _ _ => true
  | .probe _ _ _ => true
  | .jobCompletion _ => true
  | .kinfo _ _ _ => true
  | .kalloc _ _ _ => true
  | .kzero _ _ _ => true
  | .kpub _ _ _ _ _ => true
  | .kimp _ _ _ _ _ => true
  | .kexp _ _ _ _ _ => true
  | .kattr _ _ _ _ => true
  | .opDef _ _ _ _ => true
  | .opRun _ _ _ _ => true
  | .opStop _ _ => true
  | .tld _ _ _ => true
  | .tst _ _ _ => true
  | .tset _ _ _ _ => true
  | .tadv _ _ => true
  | .tcnt _ _ _ => true
  | .vadd _ _ _ _ _ => true
  | .vsub _ _ _ _ _ => true
  | .vand _ _ _ _ _ => true
  | .vor _ _ _ _ _ => true
  | .vxor _ _ _ _ _ => true
  | .vmin _ _ _ _ _ _ => true
  | .vmax _ _ _ _ _ _ => true
  | .vadds _ _ _ _ _ _ => true
  | .vsubs _ _ _ _ _ _ => true
  | .vabsd _ _ _ _ _ _ => true
  | .vmul _ _ _ _ _ _ => true
  | .vmulh _ _ _ _ _ _ => true
  | .vbsel _ _ _ _ _ => true
  | .vcmpeq _ _ _ _ _ _ => true
  | .vcmplt _ _ _ _ _ _ => true
  | .vcmple _ _ _ _ _ _ => true
  | .vtany _ _ _ => true
  | .vtall _ _ _ => true
  | .vsll _ _ _ _ _ => true
  | .vsrl _ _ _ _ _ => true
  | .vsra _ _ _ _ _ => true
  | .vperm _ _ _ _ => true
  | .vmacc _ _ _ _ _ => true
  | .vsad _ _ _ _ _ _ => true
  | .vradd _ _ _ _ _ => true
  | .vbcst _ _ _ _ => true
  | .vins _ _ _ _ _ => true
  | .vext _ _ _ _ _ _ => true
  | .vmov _ _ _ => true
  | .vld _ _ _ _ => true
  | .vst _ _ _ _ => true
  | .lvBinary _ _ _ _ _ _ => true
  | .lvBinaryScalar _ _ _ _ _ _ => true
  | .lvsad _ _ _ _ _ => true
  | .lvsum _ _ _ _ => true
  | .lvmin _ _ _ _ => true
  | .lvmax _ _ _ _ => true
  | .lvcnt _ _ _ => true
  | .lvcpy _ _ _ _ => true
  | .lvcmpeq _ _ _ _ _ => true
  | .lvcmplt _ _ _ _ _ => true
  | .lvcmple _ _ _ _ _ => true
  | .lvgath _ _ _ _ => true
  | .lvcomp _ _ _ _ _ => true
  | .lds2 _ _ => true
  | .lds3 _ _ => true
  | .lds4 _ _ => true
  | .mlkemKeygen _ => true
  | .mlkemEncaps _ => true
  | .mlkemDecaps _ => true
  | .mldsaKeygen _ => true
  | .mldsaSign _ => true
  | .mldsaVerify _ => true
  | .mceKeygen _ => true
  | .mceEncaps _ => true
  | .mceDecaps _ => true
  | .hqcKeygen _ => true
  | .hqcEncaps _ => true
  | .hqcDecaps _ => true
  | .ecKeygen _ => true
  | .ecdhEph _ => true
  | .ecdh _ => true
  | .ecdsaSign _ => true
  | .ecdsaVerify _ => true
  | .eddsaSign _ => true
  | .eddsaVerify _ => true
  | .rsaPssSign _ => true
  | .rsaPssVerify _ => true
  | .rsaPkcs1Verify _ => true
  | .aeadSeal _ => true
  | .aeadOpen _ => true
  | .customerOperation _ => true
  | .engineFault cls k _ => isEngine cls k
  | .dgOpen _ => true
  | .dgUpdate _ => true
  | .dgFinal _ => true
  | .dgPeek _ => true
  | .dgOneshot _ => true
  | .dgClose _ => true
  | .hkdfExtract _ => true
  | .hkdfExpand _ => true
  | .ctCompare _ => true
  | .slhKeygen _ => true
  | .slhSign _ => true
  | .slhVerify _ => true
  | .hbsKeygen _ => true
  | .hbsSign _ => true
  | .hbsFloorCommit _ => true
  | .hbsVerify _ => true
  | .hbsSplit _ => true
  | .contextExpiry _ => true
  | .digestFault _ _ _ => true
  | .zcomp _ => true
  | .zdecomp _ => true
  | .compressionLaneFault _ _ => true
  | .tblCreate _ => true
  | .tblDrop _ => true
  | .append _ => true
  | .tblSeal _ => true
  | .segInfo _ => true
  | .segExport _ => true
  | .segImport _ => true
  | .tblInfo _ => true
  | .segmentWindowClose _ => true
  | .segmentPublish _ => true
  | .sealGranuleGrant _ => true
  | .segmentMigration _ _ => true
  | .migrationPublish _ _ => true
  | .retentionDrop _ _ => true
  | .tblDropStaging _ => true
  | .tblDropComplete _ => true
  | .scan w => isOpUnit w
  | .filter w => isOpUnit w
  | .project w => isOpUnit w
  | .sink w => isOpUnit w
  | .seal w => isOpUnit w
  | .hbuild w => isOpUnit w
  | .hprobe w => isOpUnit w
  | .asof w => isOpUnit w
  | .group w => isOpUnit w
  | .window w => isOpUnit w
  | .windowClose _ _ => true
  | .psad w => isOpUnit w
  | .sort w => isOpUnit w
  | .merge w => isOpUnit w
  | .topk w => isOpUnit w
  | .operatorFinalEmit _ _ => true
  | .exchange w => isOpUnit w
  | .exchangeTimeout _ _ => true
  | .udo w => isOpUnit w
  | .receipt w => isOpUnit w
  | .runQueueGrant _ => true
  | .producerTaskCreate _ _ => true
  | .consumerTaskCreate _ _ => true
  | .runComplete _ => true
  | .operatorUnitFault w _ _ => isOpUnit w
  | .opuCisModeWrite _ => true
  | .cisModeStagingEdge => true
  | .cisModeApply => true
  | .sqTailDoorbell _ _ _ => true
  | .cqHeadDoorbell _ _ => true
  | .sqFetch _ _ entry => decide (entry.length = 64)
  | .loadProgram _ _ _ _ => true
  | .unloadProgram _ _ => true
  | .unloadRelease _ _ => true
  | .run _ _ => true
  | .runSlotGrant _ _ => true
  | .runWaitExpiry _ _ => true
  | .dmaIn _ _ _ _ => true
  | .dmaOut _ _ _ => true
  | .signal _ _ => true
  | .sqFence _ _ => true
  | .msixCoalesceExpiry _ => true
  | .unsupportedRequest _ _ _ _ => true
  | .doorbellAtomicop _ _ _ => true
  | .pcieLinkDown _ => true
  | .pcieLinkUp _ => true
  | .pcieLinkRetrain _ _ _ => true
  | .functionLevelReset _ => true
  | .d3hotEntry _ => true
  | .d0Return _ => true
  | .atsInvalidationRequest _ page pages => pagesOk page pages
  | .atsInvalidationCompletion _ => true
  | .pldDptInv _ => true
  | .pldPasidWrite _ _ => true
  | .polderEnable _ => true
  | .quiesce _ _ => true
  | .polderReset _ => true
  | .polderRemove _ => true
  | .drainEnd _ => true
  | .drainLimitExpiry _ => true
  | .resetDone _ => true
  | .dirtySwap _ => true
  | .swapDone _ => true
  | .epcEnable => true
  | .epcTickWrite _ => true
  | .epcSrcDisable => true
  | .epcSrcStage _ => true
  | .ptpMessage m => decide (m.version < 16) && phaseOk m.phaseNs
  | .ptpDelayRequestSend x => phaseOk x.phaseNs
  | .irigbFrame f => irigOk f
  | .ppsEdge us ns => decide (us < 1000000 ∧ ns < 1000)
  | .referenceLoss phaseNs => phaseOk phaseNs
  | .holdoverExpiry => true
  | .rngEnable => true
  | .rngRestart => true
  | .rngTestsrcWrite _ => true
  | .wellStartupComplete _ _ => true
  | .sourceHealthFailure _ _ => true
  | .drbgReseed _ => true
  | .entropyWaitExpiry _ => true
  | .rngStallExpiry _ => true
  | .entropyDelivery => true
  | .kstRcptWrite _ _ _ => true
  | .receiptSlotStaging => true
  | .scrubComplete => true
  | .rewrapComplete => true
  | .mcsLoad => true
  | .mcsClear cls => decide (cls.val < 5)
  | .custEnWrite _ => true
  | .microcodeStagingEdge => true
  | .microcodeApply => true
  | .mwIssue m k => isSequencer m k
  | .mwBranch m k => isSequencer m k
  | .mwLdi m k => isSequencer m k
  | .mwLda m k => isSequencer m k
  | .mwDjnz m k => isSequencer m k
  | .mwCall m k => isSequencer m k
  | .mwReturn m k => isSequencer m k
  | .mwYield m k => isSequencer m k
  | .mwDone m k => isSequencer m k
  | .mwSync m k => isSequencer m k
  | .yieldLimitExpiry m k => isSequencer m k
  | .controlStoreError m k _ _ => isSequencer m k
  | .frameReceive _ _ frame => frameOk frame
  | .cookieKeyRotation => true
  | .handshakeLimitExpiry _ => true
  | .idleLimitExpiry _ => true
  | .sessionTimerExpiry _ => true
  | .tcpRtoExpiry _ => true
  | .delayedAckExpiry _ => true
  | .persistTimerExpiry _ => true
  | .ethLinkDown _ => true
  | .netPortCfgWrite _ _ => true
  | .sesCtrlModeWrite _ => true
  | .sesLsnWrite _ _ _ => true
  | .sesPrivgrpWrite _ _ => true
  | .dkeCommit => true
  | .dikeGenerationEdge => true
  | .dkeThaw _ mcls _ => decide (mcls.val ≤ 12)
  | .dkeNtcPop => true
  | .faultGroupResolve => true
  | .blockResetUnitReturn _ _ _ => true
  | .fclStatusClear _ => true
  | .fclErrnClear => true
  | .fclRecPop => true
  | .fclReactWrite _ _ => true
  | .testItemRun item unit _ => testUnitOk item unit
  | .testAbandon _ _ => true
  | .bankRotationStep _ _ _ => true
  | .testOverdue _ => true
  | .thermalWarning temp => tempOk temp
  | .thermalCritical temp => tempOk temp
  | .nonceGen => true
  | .transition _ => true
  | .keyInstall => true
  | .unlock => true
  | .bypass _ => true
  | .idcode _ => true
  | .samplePreload _ => true
  | .extest _ => true
  | .dbgAuth token => decide (80 ≤ token.length)
  | .dap op => dapOk op
  | .debugTokenExpiry => true
  | .tamperAlarm on off => decide (on &&& off = 0)
  | .release => true
  | .selftest _ _ => true
  | .tmpRespWrite _ => true
  | .batteryAlarm _ => true
  | .embCfgWrite _ => true
  | .embLogClr => true
  | .cardInsertion m => mediumOk m
  | .reinit => true
  | .cardInitComplete _ _ _ => true
  | .mountScan => true
  | .cardRemoval _ => true
  | .cardSleep => true
  | .cardRetune _ _ => true
  | .crdSubmit _ => true
  | .cardRead => true
  | .cardWrite => true
  | .jnlAppend => true
  | .jnlRead => true
  | .jnlFormat => true
  | .rpRead => true
  | .rpWrite => true
  | .rpBind => true
  | .linkTrained _ _ => true
  | .linkTrainingTimeout _ => true
  | .perCfgEnWrite _ _ => true
  | .flitReceive _ flit => decide (flit.length = 256)
  | .peerLinkDown _ => true
  | .rekey _ => true
  | .peerFlitCountRekey _ => true
  | .epochSend => true
  | .perTx _ _ => true
  | .perRxHeadWrite _ _ => true
  | .porstRelease _ _ cxl => decide (cxl.length ≤ 4)
  | .perst _ => true
  | .pwrBootGo _ _ => true
  | .bootSourceTimeout => true
  | .pwrFailAssert => true
  | .pwrFailDeassert => true
  | .powerEstimate _ _ _ _ => true
  | .pwrCapWrite _ => true
  | .smbReadId => true
  | .smbReadTemperature => true
  | .smbReadPower => true
  | .smbReadFaults => true
  | .smbReadLcs => true
  | .smbReadBootState => true
  | .smbWriteRefused => true
  | .registerWrite _ _ _ _ _ => true
  | .tokenBucketRefill => true
  | .ethLinkUp _ => true
  | .cxlLinkDown _ _ => true
  | .managementWatchdogExpiry => true
  | .porstAssert => true
  | .powerLoss _ => true
  | .pcieConfigRequest _ => true

end Sys2Proof
end

