-- ==== Sys2Proof/Certificates/Slice0/Obligations.lean ====
section
/-!
DEFINITION. Sys2Proof/Certificates/Slice0/Obligations.lean: the statements about the model, from the spec's numbered rules.
-/


open Sys2Proof Sys2Proof.Machine

/-- The general registers (R34): g0 reads as zero and a write to it is discarded; any other register reads as written, and a write leaves the others
alone. ALU results that one operator gives (R41): rd takes the value, and the program counter moves past the instruction. Products and quotients
through the integers (R41, R42): the high halves, and the quotients and remainders with the results for a zero divisor and for −2^63 by −1. No form
raises an exception. -/
def Obligations.ScalarArithmeticResults : Prop :=
  (∀ (f : Frame) (r q : Reg) (v : Word),
     f.gr 0 = 0 ∧ f.setG 0 v = f ∧ (r ≠ 0 → (f.setG r v).gr r = v) ∧ (q ≠ r → (f.setG r v).gr q = f.gr q) ∧
     (∀ p, (f.setG r v).pr p = f.pr p) ∧ (f.setG r v).pc = f.pc ∧ (f.setG r v).s = f.s ∧ (f.setG r v).t = f.t) ∧
  (∀ (s : State) (c : CoreId) (f : Frame) (rd ra rb : Reg) (px : Prd), s.Runs c f →
     let a := f.gr ra
     let b := f.gr rb
     let n := (b.extractLsb' 0 6).toNat
     ∀ e ∈ [(Instr.add c rd ra rb, a + b), (.sub c rd ra rb, a - b), (.andOp c rd ra rb, a &&& b), (.orOp c rd ra rb, a ||| b),
            (.xorOp c rd ra rb, a ^^^ b), (.sll c rd ra rb, a <<< n), (.srl c rd ra rb, a >>> n), (.sra c rd ra rb, a.sshiftRight n),
            (.rotr c rd ra rb, a >>> n ||| a <<< ((64 - n) % 64)), (.mul c rd ra rb, a * b),
            (.minu c rd ra rb, if a.toNat ≤ b.toNat then a else b), (.min c rd ra rb, if a.toInt ≤ b.toInt then a else b),
            (.maxu c rd ra rb, if a.toNat ≤ b.toNat then b else a), (.max c rd ra rb, if a.toInt ≤ b.toInt then b else a),
            (.sel c rd ra rb px, if f.pr px then a else b)],
       exec e.1 s = .next (s.wrote c (f.setG rd e.2).next)) ∧
  (∀ (s : State) (c : CoreId) (f : Frame) (rd ra rb : Reg), s.Runs c f →
     let a := f.gr ra
     let b := f.gr rb
     let m := BitVec.ofNat 64 (2 ^ 63)
     let put := fun (i : Instr) (v : Word) => exec i s = .next (s.wrote c (f.setG rd v).next)
     put (.mulhu c rd ra rb) (BitVec.ofNat 64 (a.toNat * b.toNat / 2 ^ 64)) ∧
     put (.mulh c rd ra rb) (BitVec.ofInt 64 (a.toInt * b.toInt / 2 ^ 64)) ∧
     (b ≠ 0 → put (.divu c rd ra rb) (BitVec.ofNat 64 (a.toNat / b.toNat)) ∧
              put (.remu c rd ra rb) (BitVec.ofNat 64 (a.toNat % b.toNat))) ∧
     (b ≠ 0 → put (.div c rd ra rb) (BitVec.ofInt 64 (a.toInt.tdiv b.toInt)) ∧
              put (.rem c rd ra rb) (BitVec.ofInt 64 (a.toInt - a.toInt.tdiv b.toInt * b.toInt))) ∧
     (b = 0 → put (.divu c rd ra rb) (-1) ∧ put (.div c rd ra rb) (-1) ∧ put (.remu c rd ra rb) a ∧ put (.rem c rd ra rb) a) ∧
     (a = m → b = -1 → put (.div c rd ra rb) m ∧ put (.rem c rd ra rb) 0))

/-- CLZ, CTZ, POPC and BSWAP said bit by bit (R41): the zeros counted, the first one met, 64 for zero; the ones; byte i from byte 7 − i. Compares and
predicate operations (R41, R43): the predicate takes the value, no general register changes; MFP and MTP. ALUI results (R43): the immediate is sign-
extended to 64 bits, and the shifts take IMM12[5:0]. -/
def Obligations.ScalarBitsComparesImmediates : Prop :=
  (∀ (s : State) (c : CoreId) (f : Frame) (rd ra : Reg), s.Runs c f →
     let a := f.gr ra
     let put := fun (i : Instr) (v : Word) => exec i s = .next (s.wrote c (f.setG rd v).next)
     (∃ n : Nat, n ≤ 64 ∧ put (.clz c rd ra) (BitVec.ofNat 64 n) ∧ (∀ k, k < n → a.getLsbD (63 - k) = false) ∧
       (n < 64 → a.getLsbD (63 - n) = true)) ∧
     (∃ n : Nat, n ≤ 64 ∧ put (.ctz c rd ra) (BitVec.ofNat 64 n) ∧ (∀ k, k < n → a.getLsbD k = false) ∧
       (n < 64 → a.getLsbD n = true)) ∧
     put (.popc c rd ra) (BitVec.ofNat 64 ((List.range 64).countP (fun k => a.getLsbD k))) ∧
     ∃ v : Word, put (.bswap c rd ra) v ∧ ∀ i, i < 8 → v.extractLsb' (8 * i) 8 = a.extractLsb' (8 * (7 - i)) 8) ∧
  (∀ (s : State) (c : CoreId) (f : Frame) (rd ra rb : Reg) (px pa pb : Prd) (imm : BitVec 12), s.Runs c f →
     let a := f.gr ra
     let b := f.gr rb
     let i := imm.signExtend 64
     (∀ e ∈ [(Instr.cmpeq c px ra rb, decide (a = b)), (.cmpne c px ra rb, decide (a ≠ b)),
             (.cmplt c px ra rb, decide (a.toInt < b.toInt)), (.cmpltu c px ra rb, decide (a.toNat < b.toNat)),
             (.cmpge c px ra rb, decide (b.toInt ≤ a.toInt)), (.cmpgeu c px ra rb, decide (b.toNat ≤ a.toNat)),
             (.pand c px pa pb, f.pr pa && f.pr pb), (.por c px pa pb, f.pr pa || f.pr pb),
             (.pxor c px pa pb, f.pr pa != f.pr pb), (.pnot c px pa, !f.pr pa),
             (.cmpeqi c px ra imm, decide (a = i)), (.cmplti c px ra imm, decide (a.toInt < i.toInt)),
             (.cmpltui c px ra imm, decide (a.toNat < i.toNat))],
       ∃ g, exec e.1 s = .next (s.wrote c g) ∧ g.pr px = e.2 ∧ g.pc = f.pc + 4 ∧ FrameBut f g none (some px)) ∧
     (∃ v : Word, exec (.mfp c rd) s = .next (s.wrote c (f.setG rd v).next) ∧
       (∀ p : Prd, v.getLsbD p = f.pr p) ∧ v.toNat < 256) ∧
     (∃ g, exec (.mtp c ra) s = .next (s.wrote c g) ∧ (∀ p : Prd, g.pr p = a.getLsbD p) ∧ g.pc = f.pc + 4 ∧
       ∀ r, g.gr r = f.gr r)) ∧
  (∀ (s : State) (c : CoreId) (f : Frame) (rd ra : Reg) (imm : BitVec 12) (sh : BitVec 6), s.Runs c f →
     let a := f.gr ra
     let i := BitVec.ofInt 64 imm.toInt
     ∀ e ∈ [(Instr.addi c rd ra imm, a + i), (.andi c rd ra imm, a &&& i), (.ori c rd ra imm, a ||| i), (.xori c rd ra imm, a ^^^ i),
            (.slli c rd ra sh, BitVec.ofNat 64 (a.toNat * 2 ^ sh.toNat)), (.srli c rd ra sh, BitVec.ofNat 64 (a.toNat / 2 ^ sh.toNat)),
            (.srai c rd ra sh, BitVec.ofInt 64 (a.toInt / 2 ^ sh.toNat))],
       exec e.1 s = .next (s.wrote c (f.setG rd e.2).next))

/-- LIMM (R44): IMM16 in bits [16 × Q + 15 : 16 × Q] of rd; with K = 0 every other bit becomes 0, with K = 1 the others are unchanged; and four LIMMs
of the quarters of a constant give it. -/
def Obligations.LimmPlacesQuarter : Prop :=
  (∀ (s : State) (c : CoreId) (f : Frame) (rd : Reg) (q : Fin 4) (k : Bool) (imm : BitVec 16), s.Runs c f →
    ∃ v : Word, exec (.limm c rd q k imm) s = .next (s.wrote c (f.setG rd v).next) ∧
      ∀ i, i < 64 → v.getLsbD i =
        if 16 * q.val ≤ i ∧ i < 16 * q.val + 16 then imm.getLsbD (i - 16 * q.val) else (k && (f.gr rd).getLsbD i)) ∧
  (∀ v w : Word, limmW (limmW (limmW (limmW w 0 false (v.extractLsb' 0 16)) 1 true (v.extractLsb' 16 16)) 2 true
    (v.extractLsb' 32 16)) 3 true (v.extractLsb' 48 16) = v)

/-- What the register-only instructions, where they are fetched, leave unchanged: everything but their core's frame, and in it every register but the
destination, every predicate but the destination; a write to g0 leaves every register. -/
def Obligations.RegisterInstructionsFrame : Prop :=
  ∀ (s t : State) (c : CoreId) (rd ra rb : Reg) (px pa pb : Prd) (imm : BitVec 12) (sh : BitVec 6) (q : Fin 4) (k : Bool)
    (i16 : BitVec 16), s.Fetches c →
    (∀ i ∈ [Instr.add c rd ra rb, .sub c rd ra rb, .andOp c rd ra rb, .orOp c rd ra rb, .xorOp c rd ra rb, .sll c rd ra rb,
            .srl c rd ra rb, .sra c rd ra rb, .rotr c rd ra rb, .mul c rd ra rb, .mulhu c rd ra rb, .mulh c rd ra rb,
            .divu c rd ra rb, .div c rd ra rb, .remu c rd ra rb, .rem c rd ra rb, .minu c rd ra rb, .min c rd ra rb,
            .maxu c rd ra rb, .max c rd ra rb, .clz c rd ra, .ctz c rd ra, .popc c rd ra, .bswap c rd ra, .sel c rd ra rb px,
            .mfp c rd, .addi c rd ra imm, .andi c rd ra imm, .ori c rd ra imm, .xori c rd ra imm, .slli c rd ra sh,
            .srli c rd ra sh, .srai c rd ra sh, .limm c rd q k i16],
      exec i s = .next t → OnlyFrame s t c ∧
        ∀ f, s.Runs c f → ∃ g, t = s.wrote c g ∧ FrameBut f g (if rd = 0 then none else some rd) none) ∧
    (∀ i ∈ [Instr.cmpeq c px ra rb, .cmpne c px ra rb, .cmplt c px ra rb, .cmpltu c px ra rb, .cmpge c px ra rb, .cmpgeu c px ra rb,
            .pand c px pa pb, .por c px pa pb, .pxor c px pa pb, .pnot c px pa, .cmpeqi c px ra imm, .cmplti c px ra imm,
            .cmpltui c px ra imm],
      exec i s = .next t → OnlyFrame s t c ∧ ∀ f, s.Runs c f → ∃ g, t = s.wrote c g ∧ FrameBut f g none (some px)) ∧
    (exec (.mtp c ra) s = .next t → OnlyFrame s t c ∧
      ∀ f, s.Runs c f → ∃ g, t = s.wrote c g ∧ FrameBut { f with p := g.p } g none none)

/-- LD (R45): from plain memory at ra plus the sign-extended OFF12, aligned, granted by Dike and free of errors, rd takes the 8, 16, 32 or 64 bits,
sign-extended with SX; from any other target the bytes that the access gives. ST to plain memory (R45): the bytes of rs at ra plus the sign-extended
OFF12, least significant first, and no other byte; the frame's program counter moves on. To any other target, what the access gives. The atomics (R46)
at 64 and at 32 bits: rd takes the old value, zero-extended, and memory the new one; the 32-bit forms compare at 32 bits; CAS stores only where the
old value equals rd's. -/
def Obligations.MemoryInstructionResults : Prop :=
  (∀ (s : State) (c : CoreId) (f : Frame) (rd ra : Reg) (sz : Fin 4) (sx : Bool) (off : BitVec 12), s.Executes c f →
     let a := (f.gr ra + off.signExtend 64).toNat
     let n := 2 ^ sz.val
     let value := fun (l : List Byte) =>
       if sx then (BitVec.ofNat (8 * n) (leNat l)).signExtend 64 else BitVec.ofNat 64 (leNat l)
     a % n = 0 → ¬(sx = true ∧ sz = 3) →
       (s.plainAt c a → s.dikeCheck (s.coreMaster c) a n .read false = none → s.poisoned a n = none →
         exec (.ld c rd ra sz sx off) s = .next (s.wrote c (f.setG rd (value (s.bytes a n))).next)) ∧
       (∀ l s1, s.coreRead c f a n = .ok l s1 →
         exec (.ld c rd ra sz sx off) s = .next (s.ends c (s1.setFrame c (f.setG rd (value l)).next)))) ∧
  (∀ (s : State) (c : CoreId) (f : Frame) (rs ra : Reg) (sz : Fin 4) (off : BitVec 12), s.Executes c f →
     let a := (f.gr ra + off.signExtend 64).toNat
     let n := 2 ^ sz.val
     let l := leBytes n (f.gr rs).toNat
     a % n = 0 →
       (s.plainAt c a → s.dikeCheck (s.coreMaster c) a n .write false = none →
         ∃ t, exec (.st c rs ra sz off) s = .next t ∧ t = s.ends c ((s.put a l).setFrame c f.next) ∧
           (∀ i, i < n → t.byte (a + i) = (f.gr rs).extractLsb' (8 * i) 8) ∧
           (∀ x, x < a ∨ a + n ≤ x → t.byte x = s.byte x)) ∧
       (∀ s1, s.coreWrite c f a l false (fun o n v s => s.busWrite o n v) = .ok s1 →
         ∃ t, exec (.st c rs ra sz off) s = .next t ∧
           (s.endedOn s1 c = false → t = s.ends c (s1.setFrame c f.next)))) ∧
  (∀ (s : State) (c : CoreId) (f : Frame) (rd ra rb : Reg) (w64 : Bool), s.Executes c f →
     let a := (f.gr ra).toNat
     let n := if w64 then 8 else 4
     let w := 8 * n
     let old := BitVec.ofNat w (s.load a n)
     let b := BitVec.ofNat w (f.gr rb).toNat
     let d := BitVec.ofNat w (f.gr rd).toNat
     a % n = 0 → s.atomicAt c a = true →
     s.dikeCheck (s.coreMaster c) a n .read false = none → s.dikeCheck (s.coreMaster c) a n .write false = none →
     s.poisoned a n = none →
     ∀ e ∈ [(Instr.amoSwap c rd ra rb w64, some b), (.amoAdd c rd ra rb w64, some (old + b)), (.amoAnd c rd ra rb w64, some (old &&& b)),
            (.amoOr c rd ra rb w64, some (old ||| b)), (.amoXor c rd ra rb w64, some (old ^^^ b)),
            (.amoMax c rd ra rb w64, some (if old.slt b then b else old)), (.amoMin c rd ra rb w64, some (if b.slt old then b else old)),
            (.amoMaxu c rd ra rb w64, some (if old.ult b then b else old)), (.amoMinu c rd ra rb w64, some (if b.ult old then b else old)),
            (.amoCas c rd ra rb w64, if old = d then some b else none)],
       let s1 := match e.2 with
         | some v => s.put a (leBytes n v.toNat)
         | none => s
       exec e.1 s = .next (s.ends c (s1.setFrame c (f.setG rd (BitVec.ofNat 64 old.toNat)).next)))

/-- What an access to plain memory that completes leaves unchanged: for a load, everything but rd; for a store, every byte but those of its width at
its address, and every register; for an atomic, every byte but those of its word, and every register but rd. -/
def Obligations.MemoryInstructionsFrame : Prop :=
  ∀ (s t : State) (c : CoreId) (f : Frame) (rd ra rb : Reg) (sz : Fin 4) (sx w64 : Bool) (off : BitVec 12), s.Executes c f →
    (let a := (f.gr ra + off.signExtend 64).toNat
     let n := 2 ^ sz.val
     a % n = 0 → s.plainAt c a →
      (¬(sx = true ∧ sz = 3) → s.dikeCheck (s.coreMaster c) a n .read false = none → s.poisoned a n = none →
        exec (.ld c rd ra sz sx off) s = .next t →
        OnlyFrame s t c ∧ ∃ g, t = s.wrote c g ∧ FrameBut f g (if rd = 0 then none else some rd) none) ∧
      (s.dikeCheck (s.coreMaster c) a n .write false = none → exec (.st c rd ra sz off) s = .next t →
        MemoryAndFrame s t c ∧ (∀ x, x < a ∨ a + n ≤ x → t.byte x = s.byte x) ∧
        ∃ (s1 : State) (g : Frame), t = s.ends c (s1.setFrame c g) ∧ FrameBut f g none none)) ∧
    (let a := (f.gr ra).toNat
     let n := if w64 then 8 else 4
     a % n = 0 → s.atomicAt c a = true →
      s.dikeCheck (s.coreMaster c) a n .read false = none → s.dikeCheck (s.coreMaster c) a n .write false = none →
      s.poisoned a n = none →
      ∀ i ∈ [Instr.amoSwap c rd ra rb w64, .amoAdd c rd ra rb w64, .amoAnd c rd ra rb w64, .amoOr c rd ra rb w64,
             .amoXor c rd ra rb w64, .amoMax c rd ra rb w64, .amoMin c rd ra rb w64, .amoMaxu c rd ra rb w64,
             .amoMinu c rd ra rb w64, .amoCas c rd ra rb w64],
        exec i s = .next t → MemoryAndFrame s t c ∧ (∀ x, x < a ∨ a + n ≤ x → t.byte x = s.byte x) ∧
          ∃ (s1 : State) (g : Frame), t = s.ends c (s1.setFrame c g) ∧ FrameBut f g (if rd = 0 then none else some rd) none)

/-- Branches and jumps (R47), and the instructions that only move on (R48, R49). MFS and MTS (R36, R48): the value each listed number reads as, and
the numbers that may be written. A read of a firmware number in P takes a free value (entry 12), and a write of one only moves on (entry 13): these
two are the model's. The instructions of P (R37, R48, R52): HALT stops the core, ERET returns it to U where it holds a task, WAITWORK asks for work
and blocks. -/
def Obligations.ControlAndSystemInstructions : Prop :=
  (∀ (s : State) (c : CoreId) (f : Frame) (p : Prd) (sense : Bool) (o22 : BitVec 22) (o24 : BitVec 24) (ra : Reg),
     (s.Runs c f →
       exec (.br c p sense o22) s =
         .next (s.wrote c { f with pc := if f.pr p = sense then f.pc + 4 * o22.signExtend 64 else f.pc + 4 }) ∧
       exec (.j c o24) s = .next (s.wrote c { f with pc := f.pc + 4 * o24.signExtend 64 }) ∧
       exec (.call c o24) s = .next (s.wrote c { f.setG 31 (f.pc + 4) with pc := f.pc + 4 * o24.signExtend 64 }) ∧
       exec (.nop c) s = .next (s.wrote c { f with pc := f.pc + 4 }) ∧
       exec (.fence c) s = .next (s.wrote c { f with pc := f.pc + 4 })) ∧
     (s.Executes c f → (f.gr ra).toNat % 4 = 0 →
       exec (.jr c ra) s = .next (s.wrote c { f with pc := f.gr ra }) ∧
       exec (.callr c ra) s = .next (s.wrote c { f.setG 31 (f.pc + 4) with pc := f.gr ra }))) ∧
  (∀ (s : State) (c : CoreId) (f : Frame) (r : Reg), s.Executes c f →
     (∀ t, s.curTask c = some t →
       ∀ e ∈ [(2, BitVec.ofNat 64 (t + c * 2 ^ 16 + (s.task t).polder * 2 ^ 24 + (s.task t).program * 2 ^ 32)),
              (3, (s.task t).flags.setWidth 64),
              (4, BitVec.ofNat 64 (s.prog (s.task t).polder (s.task t).program).pdb)],
         exec (.mfs c r (BitVec.ofNat 15 e.1)) s = .next (s.wrote c (f.setG r e.2).next)) ∧
     (∀ e ∈ [(0, BitVec.ofNat 64 s.now), (1, s.reg 0x300028), (8, f.xpc), (9, f.xcause), (10, f.xaddr), (11, f.xhnd), (12, f.eix)],
       exec (.mfs c r (BitVec.ofNat 15 e.1)) s = .next (s.wrote c (f.setG r e.2).next)) ∧
     exec (.mts c r 8) s = .next (s.wrote c { f with xpc := f.gr r, pc := f.pc + 4 }) ∧
     exec (.mts c r 11) s = .next (s.wrote c { f with xhnd := f.gr r, pc := f.pc + 4 }) ∧
     exec (.mts c r 12) s = .next (s.wrote c { f with eix := f.gr r, pc := f.pc + 4 }) ∧
     (∀ num : BitVec 15, 0x100 ≤ num.toNat → (s.core c).mode = .P →
       exec (.mfs c r num) s = .next (s.ends c (s.bump.setFrame c (f.setG r (Config.firmwareReg s.free num)).next)) ∧
       exec (.mts c r num) s = .next (s.wrote c { f with pc := f.pc + 4 }))) ∧
  (∀ (s : State) (c : CoreId) (f : Frame) (rd : Reg), s.Runs c f → (s.core c).mode = .P → (s.core c).stepping = false →
     (∃ t, exec (.halt c) s = .next t ∧ (t.core c).halted = true ∧ (t.core c).pframe = f.next ∧ t.frame c = none) ∧
     (∃ t, exec (.eret c) s = .next t ∧ (t.core c).pframe = f.next ∧
       ((s.worker c).task ≠ none → (t.core c).mode = .U) ∧ ((s.worker c).task = none → (t.core c).mode = .P)) ∧
     (∃ t, exec (.waitwork c rd) s = .next t ∧ (t.core c).waiting = some rd.val ∧ (t.worker c).asking = true ∧
       (t.worker c).task = (s.worker c).task ∧ t.frame c = none))

/-- R70: an exception raised in U with XHND not 0 and XACT 0 writes XPC, XCAUSE and XADDR, sets XACT and continues at XHND in the same task; XRET
resumes at XPC with XACT 0, so that a handler that wrote XPC plus 4 to XPC first goes on behind the instruction. With XACT 1 or XHND at 0 the
exception ends the task. Each line is an instruction, a condition on which it raises, the cause code, the TRAP number and the address. -/
def Obligations.ExceptionEntersHandlerOrEndsTask : Prop :=
  ∀ (s : State) (c : CoreId) (t : Nat) (f : Frame) (rd ra rb : Reg) (sz : Fin 4) (sx all : Bool) (off : BitVec 12) (num : BitVec 15),
    s.RunsTask c t f →
    let a := f.gr ra + off.signExtend 64
    (∀ cause trap xaddr len, cause < 256 → trap < 256 →
      (f.xhnd ≠ 0 → f.xact = false → s.raise c f cause trap xaddr len =
        s.setFrame c { f with xpc := f.pc, xcause := BitVec.ofNat 64 (cause + 256 * trap + 65536), xaddr := xaddr, pc := f.xhnd }) ∧
      (f.xhnd = 0 ∨ f.xact = true → s.raise c f cause trap xaddr len = s.killTask t c (excStatus cause len) cause xaddr)) ∧
    (∀ e ∈ [(Instr.trap c num, True, 7, num.toNat % 256, 0),
            (.bkpt c, s.debugAttached = false, 8, 0, 0),
            (.xret c, f.xact = false, 1, 0, 0),
            (.waitwork c rd, True, 2, 0, 0), (.halt c, True, 2, 0, 0), (.eret c, True, 2, 0, 0),
            (.mfs c rd num, 0x100 ≤ num.toNat, 2, 0, 0), (.mts c rd num, 0x100 ≤ num.toNat, 2, 0, 0),
            (.ld c rd ra sz sx off, ¬(sx = true ∧ sz = 3) ∧ a.toNat % 2 ^ sz.val ≠ 0, 3, 0, a),
            (.ld c rd ra sz sx off, sx = true ∧ sz = 3, 1, 0, 0),
            (.st c rd ra sz off, a.toNat % 2 ^ sz.val ≠ 0, 3, 0, a),
            (.jr c ra, (f.gr ra).toNat % 4 ≠ 0, 3, 0, f.gr ra), (.callr c ra, (f.gr ra).toNat % 4 ≠ 0, 3, 0, f.gr ra),
            (.amoAdd c rd ra rb true, (f.gr ra).toNat % 8 ≠ 0, 3, 0, f.gr ra),
            (.amoAdd c rd ra rb true, (f.gr ra).toNat % 8 = 0 ∧ spaceOf s (f.gr ra).toNat = .cxl, 4, 0, 0),
            (.setev c rd ra rb, (f.gr rb).getLsbD 31 = true, 4, 0, 0),
            (.spawn c rd ra, (f.gr ra).toNat % 32 ≠ 0, 3, 0, f.gr ra),
            (.waitev c rd ra rb all, (s.task t).marked = false ∧ ((f.gr rb).setWidth 32 = 0#32 ∨ (f.gr rb).getLsbD 31 = true), 4, 0, 0)],
      e.2.1 →
      (f.xhnd ≠ 0 → f.xact = false →
        exec e.1 s = .next (s.wrote c { f with xpc := f.pc, xcause := BitVec.ofNat 64 (e.2.2.1 + 256 * e.2.2.2.1 + 65536),
                                               xaddr := e.2.2.2.2, pc := f.xhnd })) ∧
      (f.xhnd = 0 ∨ f.xact = true →
        exec e.1 s = .next (s.endsTask c (s.killTask t c (excStatus e.2.2.1 false) e.2.2.1 e.2.2.2.2)))) ∧
    (f.xact = true → exec (.xret c) s = .next (s.wrote c { f with pc := f.xpc, xcause := f.xcause &&& ~~~(1#64 <<< 16) }))

/-- R72: an exception raised in P reaches no handler. The core stops, and FCL_STATUS bit 4 is set, with a record of SOURCE 4 that takes the reaction
set for it. -/
def Obligations.ExceptionInFirmwareStopsCore : Prop :=
  ∀ (s : State) (c : CoreId) (f : Frame) (num : BitVec 15), s.Runs c f → (s.core c).mode = .P → (s.core c).stepping = false →
    bit (s.fld F.FCL_STATUS_FAULT) 4 = false → s.fcl.recs.length < 256 →
    let stops := fun (t : State) => (t.core c).stopped = true ∧ t.frame c = none ∧ bit (t.fld F.FCL_STATUS_FAULT) 4 = true ∧
      (4, s.react 4) ∈ t.fcl.group ∧ ∃ x ∈ t.fcl.recs, x.bit = 4 ∧ x.react = s.react 4 ∧ bits x.ctrl.toNat 20 15 = 4 ∧ bits x.ctrl.toNat 31 24 = 0xFF ∧ x.unit = c.val
    (∀ cause trap xaddr len, stops (s.raise c f cause trap xaddr len)) ∧
    (∀ i ∈ [Instr.trap c num, .mfs c 1 0x5], ∃ t, exec i s = .next t ∧ stops t)

/-- WAITEV (R56) and SLEEP (R57) of a task that is not marked: where the condition holds, or with a count of 0, the task goes on at once and rd
receives the flags; else TIMEOUT is cleared, the frame saved, a timer armed unless the count is 0xFFFF_FFFF, and the core goes back to WAITWORK. SLEEP
0xFFFF_FFFF parks the task. DONE, YIELD and the waits of a marked task (R52, R58): DONE ends the task, and so does the next YIELD, WAITEV or SLEEP of
a marked one, with no other effect; a YIELD of any other leaves it READY behind its instruction. A slot whose jobs are outstanding is ENDING, else
FREE. FREE (R58): a task of the same program that is READY, WAITING or PARKED ends at once, one that is RUNNING is marked, and rd takes 1; a slot in
FREE or ENDING, the caller's own slot, one of another program or polder, and a number above 16,383 give 0 and change nothing. R71: the task that an
exception ends leaves its slot FREE, or ENDING while jobs issued under it are outstanding, its core goes back to WAITWORK in P, and its polder's
completion queue receives a record of KIND 1 with the payload of R71, where the queue has room. -/
def Obligations.TasksBlockYieldAndEnd : Prop :=
  (∀ (s : State) (c : CoreId) (t : Nat) (f : Frame) (rd ra rb : Reg) (all : Bool), s.RunsTask c t f → (s.task t).marked = false →
     (s.core c).stepping = false →
     let x := s.task t
     let m := (f.gr rb).setWidth 32
     let n := (f.gr ra).toNat % 2 ^ 32
     let met := if all then x.flags &&& m = m else x.flags &&& m ≠ 0#32
     let blocked := fun (u : State) (y : Task) =>
       u.task t = y ∧ (u.core c).mode = .P ∧ (u.core c).waiting ≠ none ∧ u.worker c = { task := none, asking := true }
     (m ≠ 0 → m.getLsbD 31 = false → (met ∨ n = 0) →
       exec (.waitev c rd ra rb all) s = .next (s.wrote c (f.setG rd (x.flags.setWidth 64)).next)) ∧
     (m ≠ 0 → m.getLsbD 31 = false → ¬met → n ≠ 0 →
       ∃ u, exec (.waitev c rd ra rb all) s = .next u ∧
         blocked u { x with frame := f.next, state := .waiting, flags := x.flags &&& ~~~(1#32 <<< 31), mask := m, all := all,
                            timer := if n = 0xFFFFFFFF then none else some (s.tick + n), dueAt := none, resumeRd := some rd.val }) ∧
     (n = 0 → exec (.sleep c ra) s = .next (s.wrote c f.next)) ∧
     (n ≠ 0 → n ≠ 0xFFFFFFFF → ∃ u, exec (.sleep c ra) s = .next u ∧
         blocked u { x with frame := f.next, state := .waiting, flags := x.flags &&& ~~~(1#32 <<< 31), mask := 0, all := false,
                            timer := some (s.tick + n), dueAt := none, resumeRd := none }) ∧
     (n = 0xFFFFFFFF → ∃ u, exec (.sleep c ra) s = .next u ∧
         blocked u { x with frame := f.next, state := .parked, flags := x.flags &&& ~~~(1#32 <<< 31), mask := 0, all := false,
                            timer := none, dueAt := none, resumeRd := none })) ∧
  (∀ (s : State) (c : CoreId) (t : Nat) (f : Frame) (rd ra rb : Reg) (all : Bool), s.RunsTask c t f → s.holder t = some c.val →
     (s.core c).stepping = false →
     let gone := fun (u : State) =>
       (u.task t).state = (if s.taskJobs t = [] then .free else .ending) ∧ (u.worker c).task = none ∧ (u.core c).mode = .P
     (∀ i ∈ [Instr.yield c, .waitev c rd ra rb all, .sleep c ra], (s.task t).marked = true →
       exec i s = .next (s.endsTask c (s.endTask t))) ∧
     ((∀ k, (s.task t).kind ≠ .session k) → exec (.done c) s = .next (s.endsTask c (s.endTask t))) ∧
     gone (s.endTask t) ∧
     ((s.task t).marked = false → ∃ u, exec (.yield c) s = .next u ∧ (u.task t).state = .ready ∧ (u.task t).frame = f.next ∧
       (u.worker c).task = none ∧ (u.core c).mode = .P)) ∧
  (∀ (s : State) (c : CoreId) (t : Nat) (f : Frame) (rd ra : Reg), s.RunsTask c t f → (s.core c).stepping = false →
     let v := (f.gr ra).toNat
     let own := v < 16384 ∧ v ≠ t ∧ (s.task v).polder = (s.task t).polder ∧ (s.task v).program = (s.task t).program
     let goesOn := fun (u : State) (w : Word) => exec (.free c rd ra) s = .next ((u.setFrame c (f.setG rd w).next).settle.repin)
     (own → (s.task v).state = .ready ∨ (s.task v).state = .waiting ∨ (s.task v).state = .parked → goesOn (s.endTask v) 1) ∧
     (own → (s.task v).state = .running → goesOn (s.setTask v { s.task v with marked := true }) 1) ∧
     (¬own ∨ (s.task v).state = .free ∨ (s.task v).state = .ending → goesOn s 0)) ∧
  (∀ (s : State) (c : CoreId) (t status cause : Nat) (xaddr : Word) (f : Frame), s.RunsTask c t f →
     s.holder t = some c.val →
     let x := s.task t
     let u := s.killTask t c status cause xaddr
     let data : Word := if x.coord ≠ 0 then x.coord
       else if cause = 3 ∨ cause = 5 ∨ cause = 6 ∨ cause = 9 then BitVec.ofNat 64 (5 * 2 ^ 61 + xaddr.toNat % 2 ^ 48) else 0
     (s.taskJobs t = [] → (u.task t).state = .free) ∧ (s.taskJobs t ≠ [] → (u.task t).state = .ending) ∧
     (u.worker c).task = none ∧ (u.core c).mode = .P ∧ (u.core c).waiting ≠ none ∧
     (s.cqOpen x.polder = true → 0 < s.cqFree x.polder → (s.pq x.polder).waiting.all (·.reserved) = true →
       ∃ e, .cqEntry (s.via x.polder) (s.fld (F.PLD_CQ_CFG_TAIL x.polder)) e ∈ u.out ∧ leAt e 2 1 = 0xFF ∧ leAt e 3 1 = status % 256 ∧
         leAt e 4 1 = 1 ∧
         e.drop 16 = leBytes 8 (ctrlWord x.polder x.program x.pipeline x.operator c s.lcs 63 (some t)).toNat ++ leBytes 8 data.toNat ++
           leBytes 1 status ++ leBytes 1 cause ++ [0, 0, 0, 0, 0, 0] ++ leBytes 8 f.pc.toNat ++ leBytes 8 xaddr.toNat ++
           leBytes 8 (if cause = 5 then f.eix.toNat else 0)))

/-- SETEV and CLREV (R52, R55): flags are set for an allocated slot of the caller's polder alone, rd taking 1, else 0 with nothing changed; a waiting
task whose condition they satisfy becomes READY with its timer disarmed in the same step, and with TIMEOUT set where its expiry tick has come (R101,
R110). CLREV clears flags of its own task, TIMEOUT among them. SPAWN (R51, R53, R54): with its descriptor in plain memory, a legal descriptor and a
frame that Dike lets it write, the lowest free slot takes the task, at its entry, with g1, g2, g3 and g30 as R51 says and every other register 0, and
rd takes the slot; with no free slot rd takes all ones and nothing is created. Requests of the hardware that wait are served first (R99). Timers (R108
to R110): at the edge of its expiry tick a task whose condition does not hold gets TIMEOUT; the Pump retires the due timer with the lowest expiry tick
and, within one tick, the lowest slot, and its task becomes READY with TIMEOUT set and no timer; PMP_LATE keeps the worst lateness in core cycles. -/
def Obligations.EventsSpawnsAndTimers : Prop :=
  (∀ (s : State) (c : CoreId) (t : Nat) (f : Frame) (rd ra rb : Reg), s.RunsTask c t f → (s.core c).stepping = false →
     let v := (f.gr ra).toNat
     let m := (f.gr rb).setWidth 32
     let y := s.task v
     let ok := v < 16384 ∧ y.state ≠ .free ∧ y.state ≠ .ending ∧ y.polder = (s.task t).polder
     let late := ∃ e, y.timer = some e ∧ e ≤ s.tick
     ((f.gr rb).getLsbD 31 = false →
       (¬ok → exec (.setev c rd ra rb) s = .next (s.wrote c (f.setG rd 0).next)) ∧
       (ok → ∃ u, exec (.setev c rd ra rb) s = .next u ∧ (u.task t).frame = (f.setG rd 1).next ∧
         (v = t → (u.task t).flags = y.flags ||| m) ∧
         (y.state = .waiting → (if y.all then (y.flags ||| m) &&& y.mask = y.mask else (y.flags ||| m) &&& y.mask ≠ 0#32) →
           (u.task v).state = .ready ∧ (u.task v).timer = none ∧
           (late → (u.task v).flags = y.flags ||| m ||| (1#32 <<< 31)) ∧ (¬late → (u.task v).flags = y.flags ||| m)) ∧
         (y.state = .waiting → ¬(if y.all then (y.flags ||| m) &&& y.mask = y.mask else (y.flags ||| m) &&& y.mask ≠ 0#32) →
           u.task v = { y with flags := y.flags ||| m }) ∧
         (y.state ≠ .waiting → v ≠ t → u.task v = { y with flags := y.flags ||| m }))) ∧
     (∃ u, exec (.clrev c rb) s = .next u ∧
       u.task t = { s.task t with frame := f.next, flags := (s.task t).flags &&& ~~~m })) ∧
  (∀ (s : State) (c : CoreId) (t : Nat) (f : Frame) (rd ra : Reg), s.RunsTask c t f → (s.core c).stepping = false →
     let a := (f.gr ra).toNat
     let x := s.task t
     let p := s.prog x.polder x.program
     let d := parseSpawn (s.bytes a 32)
     let s2 := s.serveHw
     s.halted x.polder = false → a % 32 = 0 → s.plainAt c a → s.dikeCheck (s.coreMaster c) a 32 .read false = none → s.poisoned a 32 = none →
     d.entry < p.entries.length → d.mode < 32 → d.rsv = 0 → d.wait < 2 ^ 31 →
     d.frame % (if bit d.mode 1 then 2048 else 512) = 0 → (spaceOf s d.frame = .hbm ∨ spaceOf s d.frame = .cistern) →
     s.dikeCheck (s.coreMaster c) d.frame (if bit d.mode 1 then 2048 else 512) .write false = none →
     (s2.freeSlotFor x.polder false = none →
       exec (.spawn c rd ra) s = .next ((s2.setFrame c (f.setG rd (-1)).next).repin)) ∧
     (∀ v, s2.freeSlotFor x.polder false = some v → v ≠ t → ∃ u, exec (.spawn c rd ra) s = .next u ∧
       (u.task t).frame = (f.setG rd (BitVec.ofNat 64 v)).next ∧
       let y := u.task v
       y.state = (if d.wait = 0 then .ready else .waiting) ∧ y.polder = x.polder ∧ y.program = x.program ∧ y.cls = 0 ∧
         y.flags = 0 ∧ y.mask = BitVec.ofNat 32 d.wait ∧ y.all = bit d.mode 0 ∧ y.vec = bit d.mode 1 ∧ y.prio = bits d.mode 4 2 ∧
         y.frame.gr 1 = d.arg ∧ y.frame.gr 2 = BitVec.ofNat 64 p.pdb ∧ y.frame.gr 3 = BitVec.ofNat 64 v ∧ y.frame.gr 30 = d.stack ∧
         (∀ r : Reg, r ≠ 1 → r ≠ 2 → r ≠ 3 → r ≠ 30 → y.frame.gr r = 0) ∧ y.frame.p = 0 ∧ y.frame.xhnd = 0 ∧ y.frame.xcause = 0 ∧
         y.frame.pc = BitVec.ofNat 64 (codeAt p.code (p.entries.getD d.entry (0, 0)).1))) ∧
  (∀ (s : State) (t : SlotId) (d : Nat), s.running = true → (s.task t).state = .waiting → (s.task t).timer = some d → d ≤ s.tick →
     ((if (s.task t).all then (s.task t).flags &&& (s.task t).mask ≠ (s.task t).mask else (s.task t).flags &&& (s.task t).mask = 0#32) →
       ∃ u, exec (.timerExpiry t) s = .next u ∧ u.task t = { s.task t with flags := (s.task t).flags ||| (1#32 <<< 31) }) ∧
     (tsorted none s.sched.tasks = true →
       (∀ v e, v ≠ t.val → (s.task v).state = .waiting → (s.task v).timer = some e → d < e ∨ (d = e ∧ t.val < v)) →
       ∃ u, exec .timerRetirement s = .next u ∧ (u.task t).state = .ready ∧ (u.task t).timer = none ∧
         (u.task t).flags = (s.task t).flags ||| (1#32 <<< 31) ∧ (∀ v, v ≠ t.val → u.task v = s.task v) ∧
         ∀ k, (s.task t).dueAt = some k → s.now - k < 2 ^ 32 → u.fld F.PMP_LATE_MAX_CC = max (s.fld F.PMP_LATE_MAX_CC) (s.now - k)))

/-- R105: the Pump answers from the worker's affinity list first, taking the highest priority and, within a priority, the earliest arrival; if that
list is empty, from the highest non-empty priority queue of the worker's class, first in first out. Tasks of a polder that drains are passed over
(R149). -/
def Obligations.PumpServesInOrder : Prop :=
  ∀ (s : State) (w : Nat),
    let ok := fun t => !s.halted (s.task t).polder
    let l := (s.affList w).filter ok
    let q := fun p => (s.prioq (workerClass w) p).filter ok
    (l ≠ [] → ∃ pre t post, l = pre ++ t :: post ∧ s.nextFor w = some t ∧
      (∀ u ∈ pre, (s.task u).prio < (s.task t).prio) ∧ (∀ u ∈ post, (s.task u).prio ≤ (s.task t).prio)) ∧
    (l = [] → ∀ p, p < 8 → q p ≠ [] → (∀ k, p < k → k < 8 → q k = []) → s.nextFor w = (q p).head?) ∧
    (l = [] → (∀ k, k < 8 → q k = []) → s.nextFor w = none)

/-- A dispatch (R38, R51, R52, R103, R105): a worker that asks, neither frozen nor offline, receives the task the Pump answers with; a core goes to U,
WAITWORK's register takes the slot, the task's own frame is as it was saved (but for WAITEV's rd, which takes the flags), and the scratch window is
zeroed where the polder changes. An operator unit that holds no task asks in hardware. Affinity lists and offline workers (R104, R106): a task held
longer than PMP_AFFHOLD moves to the tail of its class's queue; a worker taken offline has its whole list moved at once. Hardware requesters that wait
for a slot (R99, R530): they get one before any SPAWN, oldest first; one still waiting at its limit latches bit 14, once, and so does a free slot
whose table entry has a parity error, which stays out of use. -/
def Obligations.DispatchAndSlotRequests : Prop :=
  (∀ (s : State) (w : WorkerId) (t : Nat), s.running = true →
     ((s.worker w).asking = true → s.workerFrozen w = false → s.workerOff w = false → s.tamperFrozen = false →
         s.unitHeld w = false → s.nextFor w = some t →
       ∃ u, exec (.taskDispatch w) s = .next u ∧ (u.task t).state = .running ∧ (u.task t).aff = some w.val ∧
         u.worker w = { task := some t, asking := false } ∧
         ((s.task t).resumeRd = none → (u.task t).frame = (s.task t).frame) ∧
         (∀ r : Reg, (s.task t).resumeRd = some r.val → (u.task t).frame = (s.task t).frame.setG r ((s.task t).flags.setWidth 64)) ∧
         (w.val < 64 → (u.core w).mode = .U ∧ (u.core w).waiting = none ∧
           (∀ r : Reg, (s.core w).wrd = r.val → (u.core w).pframe = ((s.core w).pframe.setG r (BitVec.ofNat 64 t)).next) ∧
           ((s.core w).lastPolder ≠ some (s.task t).polder →
             ∀ a, 0x200100000000 + w.val * 0x40000 + 0x30000 ≤ a → a < 0x200100000000 + (w.val + 1) * 0x40000 → u.byte a = 0) ∧
           ((s.core w).lastPolder = some (s.task t).polder → u.mem = s.mem))) ∧
     (64 ≤ w.val → (s.worker w).task = none → s.workerFrozen w = false →
       ∃ u, exec (.operatorUnitWorkRequest w) s = .next u ∧ (u.worker w).asking = true ∧ (u.worker w).task = none)) ∧
  (∀ (s : State) (w : WorkerId) (t : SlotId) (m : Fin 4) (v : Word), s.running = true →
     (t.val ∈ s.affList w → s.fld F.PMP_AFFHOLD_HOLD < s.now - (s.task t).readyAt →
       ∃ u, exec (.affinityHoldExpiry w t) s = .next u ∧ t.val ∉ u.affList w ∧
         u.prioq (s.task t).cls (s.task t).prio = s.prioq (s.task t).cls (s.task t).prio ++ [t.val]) ∧
     (∃ u, exec (.pmpWoffWrite m v) s = .next u ∧ u.fld (F.PMP_WOFF_OFF m) = v.toNat % 2 ^ (if m = 3 then 24 else 64) ∧
       ∀ k, k < (if m = 3 then 24 else 64) → v.getLsbD k = true → u.affList (64 * m + k) = [] ∧
         ∀ x ∈ s.affList (64 * m + k), x ∈ u.prioq (s.task x).cls (s.task x).prio)) ∧
  (∀ (s : State) (r : SlotReq) (rest : List SlotReq) (v : Nat), s.running = true → s.sched.hwWait = r :: rest →
     (s.checkSlots.freeSlotFor r.task.polder true = some v →
       ∃ u, exec .hwRequesterSlotGrant s = .next u ∧ u.sched.hwWait.length ≤ rest.length ∧ (u.task v).state ≠ .free ∧
         (u.task v).polder = r.task.polder ∧ (u.task v).kind = r.task.kind) ∧
     (∀ k ∈ s.sched.parity, (s.task k).state = .free →
       ∃ u, exec .hwRequesterSlotGrant s = .next u ∧ (u.task k).state = .free ∧ (u.task k).held = true ∧ bit (u.fld F.FCL_STATUS_FAULT) 14 = true) ∧
     (s.fld F.PMP_SLOTWAIT_TICKS ≠ 0 → r.latched = false → r.since + s.fld F.PMP_SLOTWAIT_TICKS ≤ s.tick →
       ∃ u, exec .slotWaitExpiry s = .next u ∧ bit (u.fld F.FCL_STATUS_FAULT) 14 = true ∧
         u.sched.hwWait.head? = some { r with latched := true }))

/-- The element-wise short-vector functions (R78, R79, R83): element j of vd from the elements j of the operands, for each element width, in the
signed and the unsigned form. The other short-vector functions (R83, R84): VTANY and VTALL, VPERM, VSAD, VRADD, VBCST, VINS, VEXT and VMOV. -/
def Obligations.ShortVectorRegisterResults : Prop :=
  (∀ (s : State) (c : CoreId) (f : Frame) (vd va vb : Reg) (ew : Fin 4) (sg : Bool), s.ExecutesVec c f →
     let w := 8 * 2 ^ ew.val
     let el := fun r j => vecEl w (f.vr r) j
     let all := fun (b : Bool) => if b then BitVec.allOnes w else 0
     let gives := fun (i : Instr) (e : Nat → BitVec w) =>
       ∃ v, exec i s = .next (s.wrote c (f.setV vd v).next) ∧ ∀ j, j < 256 / w → vecEl w v j = e j
     let op := fun fn sg j => vecFn fn sg (el va j) (el vb j)
     gives (.vadd c vd va vb ew) (op 0 false) ∧ gives (.vsub c vd va vb ew) (op 1 false) ∧ gives (.vand c vd va vb ew) (op 2 false) ∧
     gives (.vor c vd va vb ew) (op 3 false) ∧ gives (.vxor c vd va vb ew) (op 4 false) ∧ gives (.vmin c vd va vb ew sg) (op 5 sg) ∧
     gives (.vmax c vd va vb ew sg) (op 6 sg) ∧ gives (.vadds c vd va vb ew sg) (op 7 sg) ∧ gives (.vsubs c vd va vb ew sg) (op 8 sg) ∧
     gives (.vabsd c vd va vb ew sg) (op 9 sg) ∧ gives (.vmul c vd va vb ew sg) (op 10 sg) ∧ gives (.vmulh c vd va vb ew sg) (op 11 sg) ∧
     gives (.vbsel c vd va vb ew) (fun j => el vd j &&& el va j ||| ~~~(el vd j) &&& el vb j) ∧
     gives (.vcmpeq c vd va vb ew sg) (fun j => all (decide (el va j = el vb j))) ∧
     gives (.vcmplt c vd va vb ew sg) (fun j => all (if sg then (el va j).slt (el vb j) else (el va j).ult (el vb j))) ∧
     gives (.vcmple c vd va vb ew sg) (fun j => all (if sg then (el va j).sle (el vb j) else (el va j).ule (el vb j))) ∧
     gives (.vsll c vd va vb ew) (fun j => el va j <<< ((el vb j).toNat % w)) ∧
     gives (.vsrl c vd va vb ew) (fun j => el va j >>> ((el vb j).toNat % w)) ∧
     gives (.vsra c vd va vb ew) (fun j => (el va j).sshiftRight ((el vb j).toNat % w)) ∧
     gives (.vmacc c vd va vb ew) (fun j => el vd j + el va j * el vb j)) ∧
  (∀ (s : State) (c : CoreId) (f : Frame) (vd va vb : Reg) (px : Prd) (idx : Fin 32) (ew : Fin 4) (sg : Bool), s.ExecutesVec c f →
     let w := 8 * 2 ^ ew.val
     let el := fun r j => vecEl w (f.vr r) j
     let g := f.gr va
     let num := fun (x : BitVec w) => if sg then x.toInt else (x.toNat : Int)
     let gives := fun (i : Instr) (p : Vec → Prop) => ∃ v, exec i s = .next (s.wrote c (f.setV vd v).next) ∧ p v
     exec (.vtany c px va) s = .next (s.wrote c (f.setP px (decide (f.vr va ≠ 0))).next) ∧
     exec (.vtall c px va) s = .next (s.wrote c (f.setP px (decide (~~~(f.vr va) = 0))).next) ∧
     gives (.vperm c vd va vb) (fun v => ∀ k, k < 32 → vecEl 8 v k =
       if (vecEl 8 (f.vr vb) k).getLsbD 7 then 0 else vecEl 8 (f.vr va) ((vecEl 8 (f.vr vb) k).toNat % 32)) ∧
     (ew ≠ 3 → gives (.vsad c vd va vb ew sg) (fun v => ∀ l, l < 4 → vecEl 64 v l = vecEl 64 (f.vr vd) l +
       ((List.range (64 / w)).map (fun i => BitVec.ofNat 64 (num (el va (l * (64 / w) + i)) - num (el vb (l * (64 / w) + i))).natAbs)).foldl
         (· + ·) 0)) ∧
     gives (.vradd c vd va ew sg) (fun v => v = (BitVec.ofInt 64 (((List.range (256 / w)).map (fun j => num (el va j))).sum)).setWidth 256) ∧
     gives (.vbcst c vd va ew) (fun v => ∀ j, j < 256 / w → vecEl w v j = g.setWidth w) ∧
     (idx.val < 256 / w → gives (.vins c vd va idx ew) (fun v => ∀ j, j < 256 / w →
       vecEl w v j = if j = idx.val then g.setWidth w else el vd j)) ∧
     (idx.val < 256 / w → exec (.vext c vd va idx ew sg) s =
       .next (s.wrote c (f.setG vd (if sg then (el va idx).signExtend 64 else (el va idx).setWidth 64)).next)) ∧
     gives (.vmov c vd va) (fun v => v = f.vr va))

/-- Where vector instructions raise (R35, R69, R82 to R85, R88, R90): in a task without vector state ILLEGAL_INSTR for every one of them; an element
index past the last; VSAD at 64 bits; a misaligned address; a VLEN above 4,096. Shown by the handler's entry. R94, at an uncorrectable error of an
element that a reduction reads (R93): every element below the one that failed has been accumulated, the failing one and those after it have not, and
the exception carries its index in EIX and its address in XADDR. -/
def Obligations.VectorExceptionsAndRestart : Prop :=
  (∀ (s : State) (c : CoreId) (t : Nat) (f : Frame) (vd va vb ga : Reg) (td ta tb : StreamId) (ew : Fin 4) (idx : Fin 32) (sg : Bool)
     (off : BitVec 15), s.RunsTask c t f → f.xhnd ≠ 0 → f.xact = false →
     let raises := fun (i : Instr) (cause : Nat) (xaddr : Word) => exec i s =
       .next (s.wrote c { f with xpc := f.pc, xcause := BitVec.ofNat 64 (cause + 65536), xaddr := xaddr, pc := f.xhnd })
     let a := f.gr ga + 32 * off.signExtend 64
     ((s.task t).vec = false →
       ∀ i ∈ [Instr.vadd c vd va vb ew, .vmov c vd va, .vld c vd ga off, .vst c vd ga off, .tset c td ga ga, .tadv c td,
              .lvsum c ta vd sg, .lvcpy c td ta sg, .lds2 c (.long td ta), .lds4 c (.short vd ga ew 0)], raises i 1 0) ∧
     ((s.task t).vec = true →
       (256 / (8 * 2 ^ ew.val) ≤ idx.val → raises (.vins c vd ga idx ew) 4 0 ∧ raises (.vext c vd va idx ew sg) 4 0) ∧
       raises (.vsad c vd va vb 3 sg) 1 0 ∧
       (a.toNat % 32 ≠ 0 → raises (.vld c vd ga off) 3 a ∧ raises (.vst c vd ga off) 3 a) ∧
       ((f.gr ga).toNat % 16 ≠ 0 → raises (.tld c td ga) 3 (f.gr ga) ∧ raises (.tst c td ga) 3 (f.gr ga)) ∧
       (4096 < (f.st ta).count.toNat → raises (.lvsum c ta vd sg) 4 0 ∧ raises (.lvcpy c td ta sg) 4 0) ∧
       ((f.st ta).ew ≠ (f.st tb).ew → (f.st ta).count ≠ 0 → raises (.lvcmpeq c td ta tb false) 4 0))) ∧
  (∀ (s : State) (c : CoreId) (t : Nat) (f : Frame) (ta : StreamId) (sv : Reg) (sg : Bool) (k : Nat) (wd : Nat),
     s.RunsTask c t f → (s.task t).vec = true → (s.core c).stepping = false → f.xhnd ≠ 0 → f.xact = false →
     let a := f.st ta
     let n := 2 ^ a.ew.toNat
     let vlen := a.count.toNat
     let at_ := fun (i : Nat) => ((a.base.toNat + i * a.stride.toInt) % 2 ^ 48).toNat
     let ext := fun (x : BitVec (8 * n)) => if sg then x.signExtend 64 else x.setWidth 64
     vlen ≤ 4096 → f.eix.toNat ≤ k → k < vlen → a.base.toNat % n = 0 → a.stride.toNat % n = 0 →
     (∀ i, i < k → s.elementOk c .read (at_ i) n) → s.plainAt c (at_ k) → s.dikeCheck (s.coreMaster c) (at_ k) n .read false = none →
     s.poisoned (at_ k) n = some wd → eccSource wd ≠ 4 → effReact (eccSource wd) (s.react (eccSource wd)) < 3 →
     ∃ u, exec (.lvsum c ta sv sg) s = .next u ∧ (u.task t).frame.eix = BitVec.ofNat 64 k ∧ (u.task t).frame.xpc = f.pc ∧
       (u.task t).frame.pc = f.xhnd ∧ (u.task t).frame.xaddr = BitVec.ofNat 64 (at_ k) ∧
       (u.task t).frame.xcause = BitVec.ofNat 64 (5 + 65536) ∧
       vecEl 64 ((u.task t).frame.vr sv) 0 = ((List.range k).drop f.eix.toNat).foldl
         (fun x i => x + ext (BitVec.ofNat (8 * n) (s.load (at_ i) n))) (vecEl 64 (f.vr sv) 0) ∧
       bit (u.fld F.FCL_STATUS_FAULT) (eccSource wd) = true)

/-- The stream instructions (R80, R82): TSET writes the four fields of a descriptor, TADV moves BASE on by COUNT times STRIDE, TCNT writes COUNT, and
TLD and TST move a descriptor of 16 bytes from and to memory, TST changing no other byte. VLD, VST and the short structure loads (R85, R90): 32
aligned bytes to or from a register, and field k of record j to element j of s[vd + k]. -/
def Obligations.StreamAndShortVectorMemory : Prop :=
  (∀ (s : State) (c : CoreId) (f : Frame) (td : StreamId) (ga gb : Reg), s.ExecutesVec c f →
     let a := f.gr ga
     let b := f.gr gb
     let x := f.st td
     (a.toNat < 2 ^ 48 → b.extractLsb' 34 14 = 0 →
       exec (.tset c td ga gb) s = .next (s.wrote c (f.setS td
         { base := a.setWidth 48, stride := b.setWidth 32, ew := b.extractLsb' 32 2, count := b.extractLsb' 48 16 }).next)) ∧
     exec (.tadv c td) s = .next (s.wrote c (f.setS td
       { x with base := BitVec.ofInt 48 (x.base.toNat + x.count.toNat * x.stride.toInt) }).next) ∧
     (a.toNat < 2 ^ 16 → exec (.tcnt c td ga) s = .next (s.wrote c (f.setS td { x with count := a.setWidth 16 }).next)) ∧
     (a.toNat % 16 = 0 →
       (s.elementOk c .read a.toNat 16 →
         let l := s.bytes a.toNat 16
         leAt l 6 2 = 0 → leAt l 12 1 < 4 → leAt l 13 1 = 0 →
         exec (.tld c td ga) s = .next (s.wrote c (f.setS td
           { base := BitVec.ofNat 48 (leAt l 0 6), stride := BitVec.ofNat 32 (leAt l 8 4), ew := BitVec.ofNat 2 (leAt l 12 1),
             count := BitVec.ofNat 16 (leAt l 14 2) }).next)) ∧
       (s.elementOk c .write a.toNat 16 →
         ∃ u, exec (.tst c td ga) s = .next u ∧
           u = s.ends c ((s.put a.toNat (leBytes 8 x.base.toNat ++ leBytes 4 x.stride.toNat ++ leBytes 1 x.ew.toNat ++ [0] ++
             leBytes 2 x.count.toNat)).setFrame c f.next) ∧
           ∀ y, y < a.toNat ∨ a.toNat + 16 ≤ y → u.byte y = s.byte y))) ∧
  (∀ (s : State) (c : CoreId) (f : Frame) (vd ga : Reg) (off : BitVec 15) (o11 : BitVec 11) (ew : Fin 4), s.ExecutesVec c f →
     let a := (f.gr ga + 32 * off.signExtend 64).toNat
     let w := 8 * 2 ^ ew.val
     (a % 32 = 0 →
       (s.elementOk c .read a 32 →
         exec (.vld c vd ga off) s = .next (s.wrote c (f.setV vd (BitVec.ofNat 256 (s.load a 32))).next)) ∧
       (s.elementOk c .write a 32 →
         ∃ u, exec (.vst c vd ga off) s = .next u ∧ u = s.ends c ((s.put a (leBytes 32 (f.vr vd).toNat)).setFrame c f.next) ∧
           ∀ y, y < a ∨ a + 32 ≤ y → u.byte y = s.byte y)) ∧
     (∀ e ∈ [(Instr.lds2 c (.short vd ga ew o11), 2), (.lds3 c (.short vd ga ew o11), 3), (.lds4 c (.short vd ga ew o11), 4)],
       let n := e.2
       let b := (f.gr ga + 32 * o11.signExtend 64).toNat
       b % 32 = 0 → vd.val + n ≤ 32 → s.elementOk c .read b (32 * n) →
       ∃ g, exec e.1 s = .next (s.wrote c g) ∧ g.pc = f.pc + 4 ∧ g.g = f.g ∧ g.p = f.p ∧ g.t = f.t ∧
         (∀ (r : Reg), r.val < vd.val ∨ vd.val + n ≤ r.val → g.vr r = f.vr r) ∧
         (∀ (r : Reg) k j, k < n → r.val = vd.val + k → j < 256 / w →
           vecEl w (g.vr r) j = BitVec.ofNat w (s.load (b + (j * n + k) * (w / 8)) (w / 8)))))

/-- Long vectors that write a stream (R81, R86, R87): the elements from EIX to VLEN one at a time in increasing index order, each reading its operands
after the one before has been written, overlapping streams included; EIX is 0 after. Each row gives element i of the destination. The reductions
(R86): they read their register as it stands and accumulate into it, from element EIX to VLEN, and write no memory. LVCOMP and the long structure
loads (R86, R87, R90): the elements kept go to the destination in order, and lane 0 takes their number after the last; field k of record i is written
as element i of t[td + k]. A VLEN of 0 performs nothing and clears EIX (R81). -/
def Obligations.LongVectorResults : Prop :=
  (∀ (s : State) (c : CoreId) (f : Frame) (td ta tb : StreamId) (fn : Fin 12) (sv : Reg) (sg : Bool), s.ExecutesVec c f →
     let a := f.st ta
     let b := f.st tb
     let d := f.st td
     let n := 2 ^ a.ew.toNat
     let m := 2 ^ d.ew.toNat
     let w := 8 * n
     let vlen := a.count.toNat
     let at_ := fun (x : Stream) (i : Nat) => ((x.base.toNat + i * x.stride.toInt) % 2 ^ 48).toNat
     let aligned := fun (x : Stream) => x.base.toNat % 2 ^ x.ew.toNat = 0 ∧ x.stride.toNat % 2 ^ x.ew.toNat = 0
     let el := fun (u : State) (x : Nat) => BitVec.ofNat w (u.load x n)
     let runs := fun (i : Instr) (k : Nat) (value : State → Nat → Nat) =>
       exec i s = .next (s.ends c ((((List.range vlen).drop f.eix.toNat).foldl
         (fun u i => u.put (at_ d i) (leBytes k (value u i))) s).setFrame c { f with eix := 0, pc := f.pc + 4 }))
     let all := fun (b : Bool) => if b then 2 ^ w - 1 else 0
     0 < vlen → vlen ≤ 4096 → f.eix.toNat < vlen → aligned a → aligned d → (∀ i, i < vlen → s.elementOk c .write (at_ d i) m) →
     ((∀ i, i < vlen → s.elementOk c .read (at_ a i) n) →
       (a.ew = d.ew → (sg = true → 5 ≤ fn.val) →
         runs (.lvBinaryScalar c td ta fn sv sg) n (fun u i => (vecFn fn sg (el u (at_ a i)) ((f.vr sv).setWidth w)).toNat)) ∧
       runs (.lvcpy c td ta sg) m (fun u i =>
         (if sg then (el u (at_ a i)).signExtend (8 * m) else (el u (at_ a i)).setWidth (8 * m)).toNat) ∧
       (a.ew = d.ew → a.ew = b.ew → aligned b → (∀ i, i < vlen → s.elementOk c .read (at_ b i) n) →
         ((sg = true → 5 ≤ fn.val) →
           runs (.lvBinary c td ta tb fn sg) n (fun u i => (vecFn fn sg (el u (at_ a i)) (el u (at_ b i))).toNat)) ∧
         runs (.lvcmpeq c td ta tb false) n (fun u i => all (decide (el u (at_ a i) = el u (at_ b i)))) ∧
         runs (.lvcmplt c td ta tb false) n (fun u i => all (decide ((el u (at_ a i)).toNat < (el u (at_ b i)).toNat))) ∧
         runs (.lvcmple c td ta tb false) n (fun u i => all (decide ((el u (at_ a i)).toNat ≤ (el u (at_ b i)).toNat))))) ∧
     (a.ew = d.ew → a.ew = b.ew → aligned b → (∀ i, i < vlen → s.elementOk c .read (at_ b i) n) →
       let src := fun (u : State) (i : Nat) => (a.base.toNat + (el u (at_ b i)).toNat * n) % 2 ^ 48
       (∀ i, f.eix.toNat ≤ i → i < vlen → s.elementOk c .read (src (((List.range i).drop f.eix.toNat).foldl
         (fun u j => u.put (at_ d j) (leBytes n (el u (src u j)).toNat)) s) i) n) →
       runs (.lvgath c td ta tb) n (fun u i => (el u (src u i)).toNat))) ∧
  (∀ (s : State) (c : CoreId) (f : Frame) (ta tb : StreamId) (sv : Reg) (sg : Bool), s.ExecutesVec c f →
     let a := f.st ta
     let b := f.st tb
     let n := 2 ^ a.ew.toNat
     let w := 8 * n
     let vlen := a.count.toNat
     let at_ := fun (x : Stream) (i : Nat) => ((x.base.toNat + i * x.stride.toInt) % 2 ^ 48).toNat
     let el := fun (x : Stream) (i : Nat) => BitVec.ofNat w (s.load (at_ x i) n)
     let ext := fun (x : BitVec w) => if sg then x.signExtend 64 else x.setWidth 64
     let idxs := (List.range vlen).drop f.eix.toNat
     let lane := fun (g : Frame) (k : Nat) => vecEl 64 (g.vr sv) k
     let runs := fun (i : Instr) (p : Frame → Prop) =>
       ∃ g, exec i s = .next (s.wrote c g) ∧ g.eix = 0 ∧ g.pc = f.pc + 4 ∧ (∀ r, r ≠ sv → g.vr r = f.vr r) ∧ g.g = f.g ∧ g.p = f.p ∧ p g
     let rest := fun (g : Frame) => ∀ k, 0 < k → k < 4 → lane g k = lane f k
     0 < vlen → vlen ≤ 4096 → f.eix.toNat < vlen → a.base.toNat % n = 0 → a.stride.toNat % n = 0 →
     (∀ i, i < vlen → s.elementOk c .read (at_ a i) n) →
     runs (.lvsum c ta sv sg) (fun g => lane g 0 = idxs.foldl (fun x i => x + ext (el a i)) (lane f 0) ∧ rest g) ∧
     runs (.lvmin c ta sv sg) (fun g => lane g 0 = idxs.foldl (fun x i =>
       if (if sg then (ext (el a i)).slt x else (ext (el a i)).ult x) then ext (el a i) else x) (lane f 0) ∧ rest g) ∧
     runs (.lvmax c ta sv sg) (fun g => lane g 0 = idxs.foldl (fun x i =>
       if (if sg then x.slt (ext (el a i)) else x.ult (ext (el a i))) then ext (el a i) else x) (lane f 0) ∧ rest g) ∧
     runs (.lvcnt c ta sv) (fun g => lane g 0 = idxs.foldl (fun x i => if el a i = 0 then x else x + 1) (lane f 0) ∧ rest g) ∧
     (a.ew = b.ew → a.ew ≠ 3 → b.base.toNat % n = 0 → b.stride.toNat % n = 0 → (∀ i, i < vlen → s.elementOk c .read (at_ b i) n) →
       runs (.lvsad c ta tb sv false) (fun g => ∀ k, k < 4 → lane g k = idxs.foldl (fun x i =>
         if i % 4 = k then x + BitVec.ofNat 64 ((el a i).toNat - (el b i).toNat + ((el b i).toNat - (el a i).toNat)) else x) (lane f k)))) ∧
  (∀ (s : State) (c : CoreId) (f : Frame) (td ta tb : StreamId) (sv : Reg) (sg : Bool) (fn : Fin 12), s.ExecutesVec c f →
     let a := f.st ta
     let vlen := a.count.toNat
     let at_ := fun (x : Stream) (i : Nat) => ((x.base.toNat + i * x.stride.toInt) % 2 ^ 48).toNat
     (vlen = 0 →
       ∀ i ∈ [Instr.lvBinary c td ta tb fn false, .lvBinaryScalar c td ta fn sv false, .lvsad c ta tb sv false, .lvsum c ta sv sg,
              .lvmin c ta sv sg, .lvmax c ta sv sg, .lvcnt c ta sv, .lvcpy c td ta sg, .lvcmpeq c td ta tb false,
              .lvcmplt c td ta tb false, .lvcmple c td ta tb false, .lvgath c td ta tb],
         exec i s = .next (s.wrote c { f with eix := 0, pc := f.pc + 4 })) ∧
     (let b := f.st tb
      let d := f.st td
      let n := 2 ^ a.ew.toNat
      0 < vlen → vlen ≤ 4096 → f.eix = 0 → a.ew = b.ew → a.ew = d.ew →
      (∀ x ∈ [a, b, d], x.base.toNat % n = 0 ∧ x.stride.toNat % n = 0) →
      (∀ i, i < vlen → s.elementOk c .read (at_ a i) n ∧ s.elementOk c .read (at_ b i) n ∧ s.elementOk c .write (at_ d i) n) →
      let r := (List.range vlen).foldl (fun (u : State × Nat) i =>
        if u.1.load (at_ b i) n = 0 then u else (u.1.put (at_ d u.2) (leBytes n (u.1.load (at_ a i) n)), u.2 + 1)) (s, 0)
      ∃ g, exec (.lvcomp c td ta tb sv) s = .next (s.ends c (r.1.setFrame c g)) ∧ g.eix = 0 ∧ g.pc = f.pc + 4 ∧
        vecEl 64 (g.vr sv) 0 = BitVec.ofNat 64 r.2) ∧
     (∀ e ∈ [(Instr.lds2 c (.long td ta), 2), (.lds3 c (.long td ta), 3), (.lds4 c (.long td ta), 4)],
       let k := e.2
       ∀ ds : List Stream, td.val + k ≤ 8 → ds = (List.range k).map (fun j => f.t.toList.getD (td.val + j) {}) →
       ¬(td.val ≤ ta.val ∧ ta.val < td.val + k) → 0 < vlen → vlen ≤ 4096 → f.eix.toNat < vlen → a.ew = 0 →
       let offs := fun j => ((ds.take j).map (fun d => 2 ^ d.ew.toNat)).sum
       offs k ≤ a.stride.toInt.natAbs →
       (∀ j, j < k → let d := ds.getD j {}
         let n := 2 ^ d.ew.toNat
         (a.base.toNat + offs j) % n = 0 ∧ a.stride.toNat % n = 0 ∧ d.base.toNat % n = 0 ∧ d.stride.toNat % n = 0 ∧
         ∀ i, i < vlen → s.elementOk c .read ((at_ a i + offs j) % 2 ^ 48) n ∧ s.elementOk c .write (at_ d i) n) →
       exec e.1 s = .next (s.ends c ((((List.range vlen).drop f.eix.toNat).foldl (fun u i =>
         ((List.range k).map (fun j => (at_ (ds.getD j {}) i, u.bytes ((at_ a i + offs j) % 2 ^ 48) (2 ^ (ds.getD j {}).ew.toNat)))).foldl
           (fun u e => u.put e.1 e.2) u) s).setFrame c { f with eix := 0, pc := f.pc + 4 }))))

/-- The commands of software to the epoch unit (R112, R122): ENABLE is set and stays; EPC_TICK takes a legal value before ENABLE, and any other write
only sets CFG_ERR; SRC written 0 takes effect at once, in NOREF with the counter kept; any other change is staged, with SRC_PENDING. A measurement
(R117, R119): of a 1PPS edge, an IRIG-B frame, or a PTP Sync, or a Follow_Up with its Sync, of the selected transmitter, the path delay added. A
reference more than a tick period ahead steps the counter to its value, one more than a tick period behind holds it under BEHIND, and any other leaves
it; LOCKED follows the fourth in a row within the threshold and is left by one that is not; the counter never decreases. -/
def Obligations.EpochIsDisciplined : Prop :=
  (∀ (s : State) (v : BitVec 20) (port : Fin 32) (src : Fin 4), s.running = true →
     (∃ t, exec .epcEnable s = .next t ∧ t.fld F.EPC_CTRL_ENABLE = 1 ∧ t.tick = s.tick) ∧
     (∃ t, exec (.epcTickWrite v) s = .next t ∧
       (s.fld F.EPC_CTRL_ENABLE = 0 → 10 ≤ v.toNat → v.toNat ≤ 1000000 → 1000000 % v.toNat = 0 → t.fld F.EPC_TICK_US = v.toNat ∧
         t.fld F.EPC_STATUS_CFG_ERR = s.fld F.EPC_STATUS_CFG_ERR) ∧
       (s.fld F.EPC_CTRL_ENABLE = 1 ∨ v.toNat < 10 ∨ 1000000 < v.toNat ∨ 1000000 % v.toNat ≠ 0 →
         t.fld F.EPC_TICK_US = s.fld F.EPC_TICK_US ∧ t.fld F.EPC_STATUS_CFG_ERR = 1)) ∧
     (s.fld F.EPC_SRC_SRC ≠ 0 → ∃ t, exec .epcSrcDisable s = .next t ∧ t.fld F.EPC_SRC_SRC = 0 ∧ t.fld F.EPC_STATUS_STATE = 0 ∧
       t.fld F.EPC_STATUS_LOCK = 0 ∧ t.fld F.EPC_STATUS_SRC_PENDING = 0 ∧ t.epoch.staged = none ∧ t.tick = s.tick) ∧
     (src ≠ 0 → src.val ≠ s.fld F.EPC_SRC_SRC → ∃ t, exec (.epcSrcStage (.src port src)) s = .next t ∧ t.fld F.EPC_SRC_SRC = src.val ∧
       t.fld F.EPC_SRC_PORT = port.val ∧ t.fld F.EPC_STATUS_SRC_PENDING = 1 ∧ t.epoch.cur = s.epoch.cur ∧
       t.epoch.staged.map (·.src) = some src.val ∧ t.fld F.EPC_STATUS_STATE = s.fld F.EPC_STATUS_STATE)) ∧
  (∀ (s : State) (i : Instr) (ref phase : Nat), s.running = true → s.epoch.staged = none → s.fld F.EPC_CTRL_ENABLE = 1 →
     0 < s.fld F.EPC_TICK_US →
     let now := s.oscAt phase
     ((∃ us ns, i = .ppsEdge us ns ∧ phase = 1000 * us + ns ∧ s.epoch.cur.src = 3 ∧ s.fld F.EPC_NEXT_SEC_SECONDS ≠ 0 ∧
         (∀ p, s.epoch.ppsAt = some p → p + 900000000 ≤ now) ∧
         ref = (if s.epoch.ppsWritten then s.fld F.EPC_NEXT_SEC_SECONDS else s.epoch.ppsSec + 1) * 1000000000) ∨
      (∃ f, i = .irigbFrame f ∧ s.epoch.cur.src = 2 ∧ f.phaseNs = phase ∧ s.irigNs f = some ref) ∨
      (∃ m, i = .ptpMessage m ∧ s.epoch.cur.src = 1 ∧ ptpOn m s.epoch.cur = true ∧ m.domain.toNat = s.epoch.cur.domain ∧ m.version = 2 ∧
         m.sender ∉ s.epoch.rx.arb ∧ s.epoch.rx.sender = some m.sender ∧ m.phaseNs = phase ∧
         (m.kind = .sync ∧ m.twoStep = false ∧ ref = m.refNs + s.epoch.rx.delay ∨
          ∃ t0, m.kind = .followUp ∧ s.epoch.rx.pend = some (m.seq.toNat, t0) ∧ ref = m.refNs + s.epoch.rx.delay + (now - t0)))) →
     ref / (s.fld F.EPC_TICK_US * 1000) < 2 ^ 64 →
     let per : Nat := s.fld F.EPC_TICK_US * 1000
     let off : Int := (ref : Int) - ((s.tick * per + phase : Nat) : Int)
     let st := s.fld F.EPC_STATUS_STATE
     let near := off ≤ (per : Int) ∧ -(per : Int) ≤ off
     let ok := near ∧ off.natAbs ≤ s.fld F.EPC_LOCKTHR_NS
     ∃ t, exec i s = .next t ∧ t.fld F.EPC_OFFSET_OFFSET = (off % 2 ^ 64).toNat ∧ s.tick ≤ t.tick ∧
       ((per : Int) < off → t.tick = ref / per ∧ t.fld F.EPC_STEPS_STEPS = (s.fld F.EPC_STEPS_STEPS + 1) % 2 ^ 32 ∧
         t.fld F.EPC_STATUS_STATE = 1 ∧ t.fld F.EPC_STATUS_BEHIND = 0) ∧
       (off < -(per : Int) → t.tick = s.tick ∧ t.fld F.EPC_STATUS_BEHIND = 1 ∧ t.fld F.EPC_STATUS_STATE = 1) ∧
       (near → t.tick = s.tick ∧ t.fld F.EPC_STATUS_BEHIND = 0 ∧
         t.fld F.EPC_STATUS_STATE =
           (if ok ∧ (st = 2 ∨ st = 1 ∧ 3 ≤ s.epoch.good) then 2 else 1)) ∧
       t.fld F.EPC_STATUS_LOCK = (if t.fld F.EPC_STATUS_STATE = 2 then 1 else 0))

/-- Inputs that yield no measurement (R114 to R116, R118): a PTP message of R114's list, an Announce with the timescale flag clear and what its
transmitter sends after it among them, is dropped and counted; an IRIG-B frame with bad markers or digits, and a 1PPS edge too early, are discarded
and counted; an edge with EPC_NEXT_SEC at 0 is ignored. None of them moves the counter. Delay requests go out and are answered as EPC_PTP.DELAY says,
and a Delay_Resp gives the path delay (IEEE 1588, log entry 70). The reference lost (R117, R118, R120): three announced sync intervals without a Sync,
1.1 s without an edge, two frames missing or bad. PTP goes on with the best of the other transmitters, where there is one; else from ACQUIRING or
LOCKED the unit enters HOLDOVER and bit 20 latches. When HOLDOVER has lasted the lesser of its limit and 10 s it enters LOST and bit 21 latches; the
counter keeps its value at both. -/
def Obligations.EpochInputsRefusedAndLost : Prop :=
  (∀ (s : State) (m : PtpMsg) (f : IrigFrame) (phase us ns : Nat), s.running = true → s.epoch.staged = none →
     s.fld F.EPC_CTRL_ENABLE = 1 →
     let r := s.epoch.rx
     let cur := s.epoch.cur
     (cur.src = 1 → ptpOn m cur = true →
       (m.kind = .management ∨ m.kind = .signaling ∨ m.domain.toNat ≠ cur.domain ∨ m.version ≠ 2 ∨
         m.kind = .announce ∧ m.timescale = false ∨ m.kind ≠ .announce ∧ m.sender ∈ r.arb) →
       ∃ t, exec (.ptpMessage m) s = .next t ∧ t.fld F.EPC_DROP_PTP = (s.fld F.EPC_DROP_PTP + 1) % 2 ^ 32 ∧ t.tick = s.tick ∧
         (m.kind = .announce → m.version = 2 → m.domain.toNat = cur.domain → m.timescale = false →
           m.sender ∈ t.epoch.rx.arb ∧ t.epoch.rx.sender ≠ some m.sender)) ∧
     (cur.src = 1 → ptpOn m cur = true → m.kind = .delayResp → m.domain.toNat = cur.domain → m.version = 2 → m.sender ∉ r.arb →
       cur.delay = false → r.sender = some m.sender → ∀ t1 t2 t3 : Nat, r.req = some (m.seq.toNat, t3) → r.lastSync = some (t1, t2) →
       ∃ t, exec (.ptpMessage m) s = .next t ∧ t.epoch.rx.delay = ((((t2 : Int) - t1) + ((m.refNs : Int) - t3)) / 2).toNat ∧
         t.epoch.rx.req = none ∧ t.tick = s.tick) ∧
     (cur.src = 2 → s.irigNs f = none →
       ∃ t, exec (.irigbFrame f) s = .next t ∧ t.fld F.EPC_DROP_INVALID = (s.fld F.EPC_DROP_INVALID + 1) % 2 ^ 32 ∧ t.tick = s.tick) ∧
     (irigMarkers f = false ∨ (∃ p ∈ [(1, 3), (10, 3), (20, 2), (30, 4)], irigPair f p.1 p.2 = none) → s.irigNs f = none) ∧
     (cur.src = 3 → s.fld F.EPC_NEXT_SEC_SECONDS ≠ 0 → ∀ p, s.epoch.ppsAt = some p → s.oscAt (1000 * us + ns) < p + 900000000 →
       ∃ t, exec (.ppsEdge us ns) s = .next t ∧ t.fld F.EPC_DROP_INVALID = (s.fld F.EPC_DROP_INVALID + 1) % 2 ^ 32 ∧
         t.tick = s.tick) ∧
     (cur.src = 3 → s.fld F.EPC_NEXT_SEC_SECONDS = 0 → exec (.ppsEdge us ns) s = .next s.repin) ∧
     (cur.src = 1 → cur.delay = true ∨ r.sender ≠ none →
       ∃ t, exec (.ptpDelayRequestSend ⟨false, false, phase⟩) s = .next t ∧ t.epoch.rx.req = some (s.epoch.seq, s.oscAt phase) ∧
         t.out = .ptp (if cur.delay then .pdelayReq else .delayReq) cur s.epoch.seq :: s.out ∧ t.epoch.seq = (s.epoch.seq + 1) % 65536) ∧
     (cur.src = 1 → cur.delay = true → ∀ q l, r.owed = q :: l →
       ∃ t, exec (.ptpDelayRequestSend ⟨false, true, phase⟩) s = .next t ∧ t.epoch.rx.owed = l ∧ t.out = .ptp .pdelayResp cur q :: s.out)) ∧
  (∀ (s : State) (phase : Nat) (f : IrigFrame), s.running = true →
     let now := s.oscAt phase
     let src := s.epoch.cur.src
     let due := (src = 1 ∧ ∃ a, s.epoch.rx.syncAt = some a ∧ a + 3 * s.epoch.rx.interval ≤ now) ∨
       (src = 2 ∧ ∃ a, s.epoch.irigAt = some a ∧ a + 2000000000 ≤ now) ∨ (src = 3 ∧ ∃ a, s.epoch.ppsAt = some a ∧ a + 1100000000 ≤ now)
     let held := fun (t : State) => t.fld F.EPC_STATUS_STATE = 3 ∧ t.fld F.EPC_STATUS_LOCK = 0 ∧ bit (t.fld F.FCL_STATUS_FAULT) 20 = true ∧
       t.epoch.holdStart = s.tick ∧ t.tick = s.tick
     ((s.fld F.EPC_STATUS_STATE = 1 ∨ s.fld F.EPC_STATUS_STATE = 2) →
       (due → (src = 1 → s.epoch.rx.best now s.epoch.rx.sender = none) → ∃ t, exec (.referenceLoss phase) s = .next t ∧ held t) ∧
       (s.fld F.EPC_CTRL_ENABLE = 1 → s.epoch.staged = none → src = 2 → 1 ≤ s.epoch.irigBad → s.irigNs f = none →
         ∃ t, exec (.irigbFrame f) s = .next t ∧ held t)) ∧
     (src = 1 → due → ∀ b, s.epoch.rx.best now s.epoch.rx.sender = some b →
       ∃ t, exec (.referenceLoss phase) s = .next t ∧ t.epoch.rx.sender = some b ∧ t.epoch.rx.syncAt = some now ∧
         t.fld F.EPC_STATUS_STATE = s.fld F.EPC_STATUS_STATE) ∧
     (¬due → exec (.referenceLoss phase) s = .next s.repin) ∧
     (s.fld F.EPC_STATUS_STATE = 3 →
       s.epoch.holdStart + min (s.fld F.EPC_HOLDOVER_TICKS) (10000000 / s.fld F.EPC_TICK_US) ≤ s.tick →
       ∃ t, exec .holdoverExpiry s = .next t ∧ t.fld F.EPC_STATUS_STATE = 4 ∧ bit (t.fld F.FCL_STATUS_FAULT) 21 = true ∧
         t.tick = s.tick ∧ t.counting = false))

/-- R130: a doorbell write is accepted only where its queue is enabled and its value is below the queue's size, and a tail only where the queue does
not come to hold more than its size; then the tail, or the head, takes the value. A refused one changes neither, sets DB_ERR and latches bit 17. An
AtomicOp on a doorbell of any queue returns the last accepted value and then writes its new value as that doorbell (R123). R131: an entry is fetched
only when a CQ slot can be reserved for its completion: the head moves, one slot is reserved, and the entry is in flight with its opcode and
identifier; with no free slot nothing is fetched. -/
def Obligations.DoorbellsAndFetch : Prop :=
  (∀ (s : State) (n : PolderId) (q : Fin 4) (v : Word), s.running = true →
     let p := s.pq n
     let size := 2 ^ s.fld (F.PLD_SQ_CFG_SIZE n q)
     let csize := 2 ^ s.fld (F.PLD_CQ_CFG_SIZE n)
     let more := (v.toNat + size - p.tails[q]) % size
     let okTail := s.fld (F.PLD_SQ_CFG_EN n q) = 1 ∧ v.toNat < size ∧ v.toNat < 65536 ∧ p.held[q] + more ≤ size
     let okHead := s.fld (F.PLD_CQ_CFG_EN n) = 1 ∧ v.toNat < csize ∧ v.toNat < 65536
     let refused := fun (i : Instr) => ∃ t, exec i s = .next t ∧ t.fld (F.PLD_STATUS_DB_ERR n) = 1 ∧
       bit (t.fld F.FCL_STATUS_FAULT) 17 = true ∧ t.pq n = p
     (p.tails[q] < size → okTail → ∃ t, exec (.sqTailDoorbell n q v) s = .next t ∧ (t.pq n).tails[q] = v.toNat ∧
       (t.pq n).held[q] = p.held[q] + more ∧ t.regs = s.regs) ∧
     (p.tails[q] < size → ¬okTail → refused (.sqTailDoorbell n q v)) ∧
     (okHead → ∃ t, exec (.cqHeadDoorbell n v) s = .next t ∧ (t.pq n).cqHead = v.toNat ∧
       (p.cqHead < csize → p.waiting = [] → (t.pq n).cqUsed = p.cqUsed - min ((v.toNat + csize - p.cqHead) % csize) p.cqUsed)) ∧
     (¬okHead → refused (.cqHeadDoorbell n v)) ∧
     (∀ (k : Fin 5) (op : AtomicOp),
       let old := if k.val < 4 then p.tails.toList.getD k.val 0 else p.cqHead
       let s1 := s.send (.atomicOld n (BitVec.ofNat 64 old))
       (∀ w : Word, (op = .fetchAdd v ∧ w = BitVec.ofNat 64 old + v ∨ op = .swap w ∨ ∃ x : Word, x.toNat = old ∧ op = .cas x w) →
         exec (.doorbellAtomicop n k op) s =
           if h : k.val < 4 then exec (.sqTailDoorbell n ⟨k.val, h⟩ w) s1 else exec (.cqHeadDoorbell n w) s1) ∧
       (∀ x w : Word, x.toNat ≠ old → op = .cas x w → exec (.doorbellAtomicop n k op) s = .next s1.repin))) ∧
  (∀ (s : State) (n : PolderId) (q : Fin 4) (l : List Byte), s.running = true →
     let p := s.pq n
     let head := (s.fld (F.PLD_SQ_CFG_HEAD n q) + 1) % 2 ^ s.fld (F.PLD_SQ_CFG_SIZE n q)
     let e : SqEntry := { sq := q, cid := leAt l 2 2, opc := leAt l 0 1, bytes := l, head := head }
     (s.cqFree n = 0 → exec (.sqFetch n q l) s = .next s.repin) ∧
     (l.length = 64 → s.fld (F.PLD_STATUS_STATE n) = 1 → s.fld (F.PLD_PASID_VALID n) = 1 → s.fld (F.PLD_SQ_CFG_EN n q) = 1 →
       s.fld (F.PLD_CQ_CFG_EN n) = 1 → s.epUp n = true → (s.ep (s.epOf n)).d3 = false → s.frozen 9 n = false →
       s.tamperFrozen = false → p.held[q] ≠ 0 → 0 < s.cqFree n → e.ok = true → (∀ x ∈ p.inflight, x.ok = true) →
       ∃ t, exec (.sqFetch n q l) s = .next t ∧ (t.pq n).inflight = p.inflight ++ [e] ∧ (t.pq n).reserved = p.reserved + 1 ∧
         (t.pq n).held[q] + 1 = p.held[q] ∧ t.fld (F.PLD_SQ_CFG_HEAD n q) = head % 65536 ∧
         .hostRead (s.via n) (s.fld (F.PLD_SQ_BASE_BASE n q) * 4096 + 64 * s.fld (F.PLD_SQ_CFG_HEAD n q)) 64 ∈ t.out))

/-- The transfers, SIGNAL and FENCE (R132, R134, R141): a DMA_IN of a mapped range has written all its bytes, and a DMA_OUT has posted its writes,
when its completion is written with the bytes moved; LEN 0 moves nothing; an unmapped range gives LEN_EXCEEDS_BUFFER and a host refusal
ACCESS_VIOLATION with bit 16; SIGNAL returns whether it delivered. RUN (R137, R138): a legal RUN of a loaded program creates its task in the lowest
free slot and completes with the slot; with none it completes with TIMEOUT at once where PLD_RUNWAIT is 0, and else waits, to get a slot, or TIMEOUT
at its limit: from then on no slot found later serves it (R530). LOAD_PROGRAM and UNLOAD_PROGRAM (R20, R75, R77, R139, R140): an image that fails a
check of R75 completes with that check's status and loads nothing; one that passes, mapped and granted, is loaded under the next handle, which the
completion returns; its digest and its signatures wait for an engine, a hash core and a context (R76, R534). An unload ends the program's tasks and is
released, with its completion, when every slot of it is FREE. -/
def Obligations.EntriesPerformAndComplete : Prop :=
  (∀ (s : State) (n : PolderId) (q : Fin 4) (e : SqEntry) (data : List Byte) (a : Nat), s.NextEntry n q e →
     let h := s.hostPages n e.haddr e.len
     (e.opc = 7 → ∃ t, exec (.sqFence n q) s = .next t ∧ Completes s t n e 0 0) ∧
     (e.opc = 6 → ∃ t, exec (.signal n q) s = .next t ∧
       let y := s.task e.arg
       let m := BitVec.ofNat 32 (leAt e.bytes 32 4)
       let ok := e.arg < 16384 ∧ y.state ≠ .free ∧ y.state ≠ .ending ∧ y.polder = n.val
       (ok → Completes s t n e 0 1 ∧ (t.task e.arg).flags &&& m = m) ∧ (¬ok → Completes s t n e 0 0 ∧ t.task e.arg = y)) ∧
     (e.len = 0 → (e.opc = 4 → ∃ t, exec (.dmaIn n q data true) s = .next t ∧ Completes s t n e 0 0 ∧ t.mem = s.mem) ∧
       (e.opc = 5 → ∃ t, exec (.dmaOut n q true) s = .next t ∧ Completes s t n e 0 0)) ∧
     (0 < e.len → s.epUp n = true →
       (e.opc = 4 → s.mapped n e.daddr e.len true false = none → ∃ t, exec (.dmaIn n q data true) s = .next t ∧ Completes s t n e 3 0 ∧
         t.mem = s.mem) ∧
       (e.opc = 4 → s.mapped n e.daddr e.len true false = some [(a, e.len)] → (h false).1 = false →
         ∃ t, exec (.dmaIn n q data false) s = .next t ∧ Completes s t n e 0x0D 0 ∧ bit (t.fld F.FCL_STATUS_FAULT) 16 = true ∧
           t.mem = s.mem) ∧
       (spaceOf s a = .hbm → a + e.len ≤ 0x23C0000000 →
         (e.opc = 4 → s.mapped n e.daddr e.len true false = some [(a, e.len)] →
           (h true).2.dikeCheck { mcls := 9, unit := n, acts := [n.val] } a e.len .write false = none → data.length = e.len →
           ∃ t, exec (.dmaIn n q data true) s = .next t ∧ Completes s t n e 0 e.len ∧
             (∀ i (hi : i < data.length), t.byte (a + i) = data[i]) ∧ (∀ x, x < a ∨ a + e.len ≤ x → t.byte x = s.byte x)) ∧
         (e.opc = 5 → s.mapped n e.daddr e.len false true = some [(a, e.len)] →
           (h true).2.dikeCheck { mcls := 9, unit := n, acts := [n.val] } a e.len .read false = none → s.poisoned a e.len = none →
           ∃ t, exec (.dmaOut n q true) s = .next t ∧ Completes s t n e 0 e.len ∧
             .hostWrite (s.via n) e.haddr (s.bytes a e.len) ∈ t.out)))) ∧
  (∀ (s : State) (n : PolderId) (q : Fin 4) (e : SqEntry) (d : Spawn), s.running = true → s.entriesRun n = true →
     s.nextEntry n q = some e → e.ok = true → bit e.flags 0 = false → s.cqOpen n = true → s.dptBad n e.ranges = none → e.opc = 3 →
     let p := s.prog n e.arg
     let c := s.unitCheckW (pldMaster n) (pldCtrl s n 15) d.frame (frameSize d.vec) false
     p.loaded = true → p.unloading = false → s.runSpawn n e p = some d → c.1 = .ok →
     (∀ u, c.2.serveHw.freeSlotFor n false = some u → ∀ i : Instr,
       (i = .run n q ∧ e.waiting = false ∨ i = .runSlotGrant n q ∧ e.waiting = true ∧ s.tick < e.since + s.fld (F.PLD_RUNWAIT_TICKS n)) →
       ∃ t, exec i s = .next t ∧ Completes s t n e 0 u ∧ (t.task u).polder = n.val ∧ (t.task u).program = e.arg ∧
         (t.task u).state = (if d.wait % 2 ^ 32 = 0 then .ready else .waiting)) ∧
     (c.2.serveHw.freeSlotFor n false = none → e.waiting = false →
       (s.fld (F.PLD_RUNWAIT_TICKS n) = 0 → ∃ t, exec (.run n q) s = .next t ∧ Completes s t n e 5 0) ∧
       (s.fld (F.PLD_RUNWAIT_TICKS n) ≠ 0 → ∃ t, exec (.run n q) s = .next t ∧
         { e with waiting := true, since := s.tick } ∈ (t.pq n).inflight)) ∧
     (e.waiting = true → e.since + s.fld (F.PLD_RUNWAIT_TICKS n) ≤ s.tick →
       ∀ i ∈ [Instr.runWaitExpiry n q, .runSlotGrant n q], ∃ t, exec i s = .next t ∧ Completes s t n e 5 0)) ∧
  (∀ (s : State) (n : PolderId) (q : Fin 4) (e : SqEntry) (image : List Byte), s.NextEntry n q e →
     (e.opc = 1 → e.lib = false → s.epUp n = true → (s.hostPages n e.haddr e.len true).1 = true → image.length = e.len →
       s.hwCan n [0, 3] = true →
       (∀ st, programCheck true image = some st → ∃ t, exec (.loadProgram n q image true) s = .next t ∧ Completes s t n e st 0 ∧
         t.host.progs = s.host.progs ∧ t.mem = s.mem) ∧
       (∀ k, programCheck true image = none →
         let h := parseImage image
         let s0 := (s.hostPages n e.haddr e.len true).2.hostGet n e.haddr e.len
         let s1 := if imageToVerify true image then s0.hwDid [0, 3] else s0
         let len := alignUp h.codeLen 4096 + h.dataLen + h.bss
         let code := (s1.mapped n e.daddr h.codeLen true false).getD []
         let r := s1.placePieces n true code (bytesAt image h.codeOff h.codeLen)
         s1.nextProg n = some k → s1.dptBad n [(e.daddr, len)] = none → s1.mapped n e.daddr len true false ≠ none → r.1 = true →
         (r.2.placePieces n true ((s1.mapped n (e.daddr + alignUp h.codeLen 4096) (h.dataLen + h.bss) true false).getD [])
           (bytesAt image h.dataOff h.dataLen)).1 = true →
         ∃ t, exec (.loadProgram n q image true) s = .next t ∧ Completes s t n e 0 k ∧ (t.prog n k).loaded = true ∧
           (t.prog n k).code = code ∧ (t.prog n k).entries = h.table image ∧ (t.prog n k).digest = bytesAt image 48 32)) ∧
     (e.opc = 1 → e.lib = false → s.epUp n = true → (s.hostPages n e.haddr e.len true).1 = true → image.length = e.len →
       imageFormOk true image = true → s.hwCan n [3] = false → ∃ t, exec (.loadProgram n q image true) s = .next t ∧
         (t.pq n).inflight = (s.pq n).inflight ∧ t.host.progs = s.host.progs ∧ t.mem = s.mem) ∧
     (e.opc = 2 → (s.prog n e.arg).loaded = false → ∃ t, exec (.unloadProgram n q) s = .next t ∧ Completes s t n e 0x12 0) ∧
     (e.opc = 2 → (s.prog n e.arg).loaded = true → (s.prog n e.arg).pipes = [] →
       ∃ t, exec (.unloadProgram n q) s = .next t ∧ (t.prog n e.arg).unloading = true ∧ (t.prog n e.arg).loaded = true ∧
         ∀ v ∈ s.progTasks n e.arg, (s.task v).state = .ready → (t.task v).state = .free ∨ (t.task v).state = .ending) ∧
     (∀ (h : Fin 4096) (x : SqEntry), (s.prog n h).loaded = true → (s.prog n h).unloading = true → s.progTasks n h = [] →
       x ∈ (s.pq n).inflight → x.started = true → x.opc = 2 → x.arg = h.val → bit x.flags 0 = false →
       ∃ t, exec (.unloadRelease n h) s = .next t ∧ t.prog n h = {} ∧ Completes s t n x 0 0))

/-- Endpoints and their links (R123, R125, R126, R136): an unsupported request is recorded with its header, and refused where it is not posted; a link
that goes down, or retrains below what GLB_PCIE_EXP sets, latches bit 27; D3hot and D0; the coalescing delay fires the vector unless it is masked.
Translations and assignments (R128, R142, R144, R147): an invalidation discards the matching translations at once, and its completion is sent, one for
each request, once no job's descriptor uses one; PLD_PASID takes a value unless two valid entries would clash, which only sets CFG_ERR; the dirty
log's swap. -/
def Obligations.EndpointsAndTranslations : Prop :=
  (∀ (s : State) (ep : Fin 2) (n : PolderId) (posted uncorr : Bool) (header : BitVec 128) (width : Fin 5) (rate : Fin 6), s.running = true →
     let fault := fun (t : State) (k : Nat) => bit (t.fld F.FCL_STATUS_FAULT) k = true
     (∃ t, exec (.unsupportedRequest ep posted uncorr header) s = .next t ∧ (t.ep ep).ur = true ∧ (t.ep ep).hdrLog = header ∧ .aer ep.val ∈ t.out ∧
       (posted = false → .pcieUr ep.val ∈ t.out) ∧ (uncorr = true → fault t 27)) ∧
     ((s.ep ep).up = true → ∃ t, exec (.pcieLinkDown ep) s = .next t ∧ (t.ep ep).up = false ∧ fault t 27) ∧
     ((s.ep ep).up = false → ∃ t, exec (.pcieLinkUp ep) s = .next t ∧ (t.ep ep).up = true) ∧
     ((s.ep ep).up = true → ∃ t, exec (.pcieLinkRetrain ep width rate) s = .next t ∧ (t.ep ep).width = width.val ∧
       (t.ep ep).rate = rate.val ∧
       (ep = 0 → s.fld F.GLB_PCIE_EXP_A_EN = 1 → width.val < min 4 (s.fld F.GLB_PCIE_EXP_A_WIDTH) ∨
         rate.val < min 5 (s.fld F.GLB_PCIE_EXP_A_RATE) → fault t 27) ∧
       (ep = 1 → s.fld F.GLB_PCIE_EXP_B_EN = 1 → width.val < min 4 (s.fld F.GLB_PCIE_EXP_B_WIDTH) ∨
         rate.val < min 5 (s.fld F.GLB_PCIE_EXP_B_RATE) → fault t 27)) ∧
     exec (.d3hotEntry ep) s = .next (s.setEp ep { s.ep ep with d3 := true }).repin ∧
     exec (.d0Return ep) s = .next (s.setEp ep { s.ep ep with d3 := false }).repin ∧
     (0 < (s.pq n).irqPending → s.fld (F.PLD_IRQ_DELAY n) ≤ s.now - (s.pq n).irqSince →
       ∃ t, exec (.msixCoalesceExpiry n) s = .next t ∧ (t.pq n).irqPending = 0 ∧
         (s.fld (F.PLD_IRQ_MASK n) = 0 → t.out = .msix (s.via n) n :: s.out) ∧ (s.fld (F.PLD_IRQ_MASK n) = 1 → t.out = s.out))) ∧
  (∀ (s : State) (n : PolderId) (page pages : Nat) (v : Word), s.running = true →
     let hit := fun (x : Ats) => x.polder = n.val ∧ x.ep = s.epOf n ∧ page ≤ x.page ∧ x.page < page + pages
     (∃ t, exec (.atsInvalidationRequest n page pages) s = .next t ∧ (t.pq n).invPending = (s.pq n).invPending + 1 ∧
       ∀ x, x ∈ t.host.ats ↔ x ∈ s.host.ats ∧ ¬hit x) ∧
     (0 < (s.pq n).invPending → s.descInHost n = false →
       ∃ t, exec (.atsInvalidationCompletion n) s = .next t ∧ t.out = .atsInvalidationDone (s.via n) :: s.out ∧
         (t.pq n).invPending + 1 = (s.pq n).invPending) ∧
     (s.descInHost n = true → exec (.atsInvalidationCompletion n) s = .next s.repin) ∧
     (∃ t, exec (.pldDptInv n) s = .next t ∧ t.fld (F.PLD_DPT_INV_PENDING n) = 0) ∧
     (let clash := ∃ m, m < 256 ∧ m ≠ n.val ∧ s.fld (F.PLD_PASID_VALID m) = 1 ∧ s.fld (F.PLD_PASID_EP m) = (v.extractLsb' 32 1).toNat ∧
         (s.fld (F.PLD_PASID_PASID m) = (v.extractLsb' 0 20).toNat ∨ v.getLsbD 20 = false ∧ s.fld (F.PLD_PASID_PASID_EN m) = 0)
      (v.getLsbD 63 = true ∧ clash → exec (.pldPasidWrite n v) s = .next (s.setFld (F.PLD_STATUS_CFG_ERR n) 1).repin) ∧
      (v.getLsbD 63 = false ∨ ¬clash → ∃ t, exec (.pldPasidWrite n v) s = .next t ∧
       t.fld (F.PLD_PASID_VALID n) = (v.extractLsb' 63 1).toNat ∧ t.fld (F.PLD_PASID_EP n) = (v.extractLsb' 32 1).toNat ∧
       t.fld (F.PLD_PASID_PASID_EN n) = (v.extractLsb' 20 1).toNat ∧ t.fld (F.PLD_PASID_PASID n) = (v.extractLsb' 0 20).toNat)) ∧
     ((s.pq n).swapTo = none → ∃ t, exec (.dirtySwap n) s = .next t ∧
       (t.pq n).swapTo = some (s.fld (F.PLD_DIRTY_NEXT_NEXT n) * 4096)) ∧
     (∀ b, (s.pq n).swapTo = some b → ∃ t, exec (.swapDone n) s = .next t ∧ (t.pq n).swapTo = none ∧
       t.fld (F.PLD_DIRTY_BASE_BASE n) = b / 4096 % 2 ^ 52 ∧ t.fld (F.PLD_DIRTY_CTRL_SWAP_DONE n) = 1))

/-- The states of a polder (R126, R149, R150): each transition of the table, and the writes of OP that are refused with CFG_ERR. What squashing leaves
of a polder (R149, R151): no task of it is left outside FREE and ENDING but one whose UDO has yet to honour its stop (R253), no program is loaded, no
master frozen only for its work, its queues are disabled with head and tail 0, no Cistern granule is charged to it, and the state is SQUASHING;
RESET_DONE is then set once none of its jobs and tasks is left, in DONE, or, after a removal, in DISABLED with no PASID and no page table (R153,
R154). -/
def Obligations.PolderLifeAndSquash : Prop :=
  (∀ (s : State) (n : PolderId), s.running = true → s.net.ses = [] →
     let st := s.fld (F.PLD_STATUS_STATE n)
     let goes := fun (i : Instr) (k : Nat) => ∃ t, exec i s = .next t ∧ t.fld (F.PLD_STATUS_STATE n) = k
     (st = 0 → s.fld (F.PLD_PASID_VALID n) = 1 → s.fld (F.PLD_CTRL_QUIESCE n) = 0 → goes (.polderEnable n) 1) ∧
     (st = 0 → s.fld (F.PLD_PASID_VALID n) = 0 → goes (.polderEnable n) 0) ∧
     (st = 1 → goes (.quiesce n true) 2) ∧ (st = 2 ∨ st = 5 → goes (.quiesce n false) 1) ∧
     (st = 2 → n ≠ 0 → goes (.polderReset n) 3 ∧ goes (.polderRemove n) 3) ∧
     ((st ≠ 2 ∨ n = 0) → ∀ i ∈ [Instr.polderReset n, .polderRemove n],
       ∃ t, exec i s = .next t ∧ t.fld (F.PLD_STATUS_STATE n) = st ∧ t.fld (F.PLD_STATUS_CFG_ERR n) = 1) ∧
     (st = 3 → s.now - (s.pq n).drainStart < (s.pq n).drainLimit → exec (.drainLimitExpiry n) s = .next s.repin) ∧
     (∀ ep : Fin 2, s.poldersOf ep = [n.val] → st = 1 → ∃ t, exec (.functionLevelReset ep) s = .next t ∧
       t.fld (F.PLD_STATUS_STATE n) = 3 ∧ (t.pq n).drainLimit = min (s.fld (F.PLD_DRAIN_LIMIT_CC n)) 80000000 ∧ (t.ep ep).flr = true)) ∧
  (∀ (s : State) (n : PolderId), s.running = true → s.net.ses = [] → n ≠ 0 →
     (s.fld (F.PLD_STATUS_STATE n) = 3 →
       ∀ i : Instr, (i = .drainEnd n ∧ (s.pq n).waiting = [] ∧ (∀ e ∈ (s.pq n).inflight, e.flying = false) ∨
           i = .drainLimitExpiry n ∧ (s.pq n).drainLimit ≤ s.now - (s.pq n).drainStart) →
       ∃ t, exec i s = .next t ∧ t.fld (F.PLD_STATUS_STATE n) = 4 ∧
         (∀ h, h < 4096 → (t.prog n h).loaded = false) ∧
         (∀ q : Fin 4, t.fld (F.PLD_SQ_CFG_EN n q) = 0 ∧ t.fld (F.PLD_SQ_CFG_HEAD n q) = 0 ∧ (t.pq n).tails[q] = 0) ∧
         t.fld (F.PLD_CQ_CFG_EN n) = 0 ∧ t.fld (F.PLD_CQ_CFG_TAIL n) = 0 ∧ (t.pq n).inflight = [] ∧
         (∀ x ∈ t.opu.cis, x.2.polder ≠ n.val) ∧ (∀ x ∈ t.dike.frozen, x.2.2 = n.val → x.1 = 11) ∧
         (tsorted none s.sched.tasks = true → ∀ k, (t.task k).polder = n.val →
           (t.task k).state = .free ∨ (t.task k).state = .ending ∨ s.inUdo k = true) ∧
         (i = .drainLimitExpiry n → t.fld (F.PLD_STATUS_DRAIN_TIMEOUT n) = 1)) ∧
     (s.fld (F.PLD_STATUS_STATE n) = 4 → s.polderIdle n = true →
       ((s.pq n).drainOp = 1 → ∃ t, exec (.resetDone n) s = .next t ∧ t.fld (F.PLD_STATUS_STATE n) = 5 ∧
         t.fld (F.PLD_STATUS_RESET_DONE n) = 1) ∧
       ((s.pq n).drainOp = 2 → s.power.pwrFail = false → ∃ t, exec (.resetDone n) s = .next t ∧ t.fld (F.PLD_STATUS_STATE n) = 0 ∧
         t.fld (F.PLD_STATUS_RESET_DONE n) = 1 ∧ t.fld (F.PLD_PASID_VALID n) = 0 ∧ t.fld (F.PLD_DPT_CFG_PAGES n) = 0 ∧
         t.fld (F.PLD_CTRL_ENABLE n) = 0)))

/-- ENG issues a job (R59, R62, R63): the lowest free entry is queued for its class with the task's identity, `rd` takes the handle, whose sequence
number then steps, and the task goes on; EV 31, a misaligned descriptor, class 6 and an undefined control function raise their causes; with no free
entry the core stays where it is. ABORT and PROBE (R64): PROBE answers whether the handle names an outstanding job of the caller's program; ABORT of
such a job whose slot write has not begun answers 1, and the job ends with ABORTED and writes no output, its header still to be written where Dike
grants it; else both answer 0 and change nothing more. -/
def Obligations.JobsIssueAbortProbe : Prop :=
  (∀ (s : State) (c : CoreId) (t : Nat) (f : Frame) (cls : Fin 8) (ev : Fin 32) (ra rd : Reg) (opc : BitVec 8), s.RunsTask c t f →
     let i := Instr.eng c cls ev ra rd opc
     let raised := fun (cause : Nat) (xaddr : Word) => f.xhnd ≠ 0 → f.xact = false →
       exec i s = .next (s.entered c f cause xaddr)
     let handle := fun (e : Nat) => (f.setG rd (BitVec.ofNat 64 (e + s.jobs.seq % 2 ^ 18 * 2 ^ 14))).next
     (cls.val < 6 → ev ≠ 31 → (f.gr ra).toNat % 64 = 0 → ∀ e, s.freeEntry = some e → knownOpc cls opc.toNat = true → cls ≠ 3 →
       ∃ u, exec i s = .next u ∧ (u.job e).st = .queued ∧ (u.job e).cls = cls.val ∧ (u.job e).opc = opc.toNat ∧ (u.job e).task = t ∧
         (u.job e).polder = (s.task t).polder ∧ (u.job e).desc = (f.gr ra).toNat ∧ (u.job e).ev = ev.val ∧
         u.jobQueue cls = s.jobQueue cls ++ [e] ∧ u.jobs.seq = (s.jobs.seq + 1) % 2 ^ 18 ∧ u.mem = s.mem ∧
         (u.task t).frame = handle e) ∧
     (cls = 3 → ev ≠ 31 → (f.gr ra).toNat % 64 = 0 → ∀ e l, s.freeEntry = some e → knownOpc 3 opc.toNat = true → s.frozen 5 33 = false →
       (let m : Master := { mcls := 5, unit := 33, acts := [(s.task t).polder] }
        s.gives m (f.gr ra).toNat 128 .read ∧ s.gives m (f.gr ra).toNat 32 .write ∧ l = s.bytes (f.gr ra).toNat 128) →
       ∃ u, exec i s = .next u ∧ (u.job e).st = .queued ∧ (u.job e).bytes = l ∧ u.jobQueue 3 = s.jobQueue 3 ++ [e] ∧
         (u.task t).frame = handle e) ∧
     (cls.val < 6 → ev ≠ 31 → (f.gr ra).toNat % 64 = 0 → s.freeEntry = none → exec i s = .next (s.ends c s)) ∧
     (cls.val < 6 → ev = 31 → raised 4 0) ∧ (cls.val < 6 → ev ≠ 31 → (f.gr ra).toNat % 64 ≠ 0 → raised 3 (f.gr ra)) ∧
     (cls = 6 → raised 1 0) ∧ (cls = 7 → ev ≠ 0 ∨ 2 < opc.toNat ∨ opc = 0 → raised 1 0)) ∧
  (∀ (s : State) (c : CoreId) (t : Nat) (f : Frame) (rd ra : Reg), s.RunsTask c t f →
     let e := (f.gr ra).toNat % 2 ^ 14
     let j := s.job e
     let names := (f.gr ra).toNat < 2 ^ 32 ∧ j.st ≠ .free ∧ j.inner = false ∧ j.seq = (f.gr ra).toNat / 2 ^ 14 ∧
       j.polder = (s.task t).polder ∧ j.program = (s.task t).program ∧ j.slotBegun = false
     (names → exec (.probe c rd ra) s = .next (s.wrote c (f.setG rd 1).next)) ∧
     (¬names → ∀ i ∈ [Instr.probe c rd ra, .abort c rd ra], exec i s = .next (s.wrote c (f.setG rd 0).next)) ∧
     (names → j.cls < 9 → (j.st = .running → s.inMicro e = false) → ∃ u, exec (.abort c rd ra) s = .next u ∧
       (u.job e).gave 0x16 0 [] ∧ u.mem = s.mem ∧ (u.task t).frame = (f.setG rd 1).next ∧
       (j.granted = true ∨ j.st ≠ .frozen ∧ s.gives (s.descMaster j) j.desc 8 .write → (u.job e).granted = true)))

/-- JOB_COMPLETION (R61, R179): the output slot takes its contents, if it is still empty and the polder's own, else the job ends with KEY_SLOT_INVALID
and without its outputs; the outputs are written, and after them the header's STATUS, DETAIL, OUTLEN and DONE; then the event flag is set and the
entry is free. No other byte and no other slot changes. -/
def Obligations.CompletionWritesHeaderThenFlag : Prop :=
  ∀ (s : State) (e : SlotId) (out : Nat) (l : List Byte), s.running = true →
    let j := s.job e
    j.st = .finished → j.inner = false → j.cls < 9 → j.granted = true → j.leaf = none → j.scrub = [] → j.desc % 64 = 0 → j.desc < 0x23C0000000 →
    j.writes = (if l = [] then [] else [(out, l)]) → (l ≠ [] → out + l.length ≤ 0x23C0000000) →
    (s.task j.task).state ≠ .free → (s.task j.task).state ≠ .ending → j.ev < 32 →
    (∀ f, j.fill = some f → f.2.2 = false ∧ s.power.pwrFail = false) →
    let ok := ∀ f, j.fill = some f → s.canFill j.polder f.1 = true
    let header := fun (st detail outlen : Nat) => st % 256 + 2 ^ 8 + detail % 2 ^ 16 * 2 ^ 16 + outlen % 2 ^ 32 * 2 ^ 32
    let rest := fun (t : State) (l : List Byte) =>
      (∀ k (hk : k < l.length), (out + k < j.desc ∨ j.desc + 8 ≤ out + k) → t.byte (out + k) = l[k]) ∧
      (∀ a, (a < j.desc ∨ j.desc + 8 ≤ a) → (a < out ∨ out + l.length ≤ a ∨ l = []) → t.byte a = s.byte a)
    ∃ t, exec (.jobCompletion e) s = .next t ∧ (t.job e).st = .free ∧ (t.task j.task).flags.getLsbD j.ev = true ∧
      (ok → leNat (t.bytes j.desc 8) = header j.status j.detail j.outlen ∧ rest t l) ∧
      (¬ok → leNat (t.bytes j.desc 8) = header 8 0 0 ∧ rest t [] ∧ t.keys = s.keys) ∧
      (∀ f, j.fill = some f → ok → t.key f.1 =
        { f.2.1 with allocated := true, owner := (s.key f.1).owner, keyB := decide (s.fld F.EMB_CFG_MODE = 1),
                     transient := (s.key f.1).transient || decide (s.fld F.RNG_CTRL_TESTSRC = 1) }) ∧
      (∀ k, (∀ f, j.fill = some f → f.1 ≠ k) → t.key k = s.key k)

/-- The checks of an engine job come in the order of R160: the first that fails gives the job its status, and nothing of its outputs, its output slot
or memory changes; a work area of Classic McEliece in HBM or the Cistern is to be written with zeros all the same (R170). -/
def Obligations.EngineChecksInOrder : Prop :=
  ∀ r ∈ engRows, ∀ (s : State) (e : SlotId) (k st : Nat) (l : List Byte), s.EngTurn r e k l → r.verdict s (s.job e).polder l = some st →
    let d := parseEng l
    let scrubs := r.cls = 1 ∧ r.op.useB = true ∧ s.workArea d = true
    (scrubs → s.gives { mcls := clsMaster r.cls, unit := k, acts := [(s.job e).polder] } d.bAddr d.bLen .write) →
    ∃ t, exec (r.cmd e) s = .next t ∧ (t.job e).gave st 0 [] ∧ (t.job e).detail = 0 ∧ (t.job e).fill = none ∧ t.mem = s.mem ∧
      t.keys = s.keys ∧ t.ent = s.ent ∧ (t.job e).scrub = if scrubs then [(d.bAddr, d.bLen)] else (s.job e).scrub

/-- What the operations of the engines yield (R165 to R175): keys and shared secrets for the output slot, with the effective level, a key pair with
the public key that the job writes; public keys, ciphertexts, signatures and AEAD texts are written at the completion, of exactly their length; a
verification that fails ends with VERIFY_FAIL. The published algorithms are functions the model leaves open. ENGINE_FAULT (R180): the source latches,
the first fault is recorded, the engine goes offline, and its job goes back to the head of its queue, or, the second time, ends with ABORTED and
DETAIL 0xFFFF; under a reaction that resets, the job is left to the reset. -/
def Obligations.EngineOperationsAndFaults : Prop :=
  (∀ r ∈ engRows, ∀ (s : State) (e : SlotId) (k : Nat) (l : List Byte), s.EngTurn r e k l → r.verdict s (s.job e).polder l = none →
     s.engOperands r (s.job e).polder k l →
     ∃ t, exec (r.cmd e) s = .next t ∧ t.mem = s.mem ∧
       let d := parseEng l
       let p := d.pset
       let n := (s.job e).polder
       let x := s.key (hdrSlot l)
       let j := t.job e
       let a := s.bytes d.aAddr d.aLen
       let b := s.bytes d.bAddr d.bLen
       let ctx := if r.op.useC then s.bytes d.cAddr d.cLen else []
       let pk := if r.named l then x.pubPart else s.bytes d.kAddr d.kLen
       let level := if r.op.secret then s.effLevel n (if r.named l then x.hmin else 0) (hdrHreq l) else max 1 (s.hardDefault n)
       let fills := fun (ty alg usage : Nat) (secret : List Byte) (more : KeySlot → Prop) => ∃ z, j.fill = some (d.oslot, z, false) ∧
         z.ty = ty ∧ z.alg = alg ∧ z.usage = usage ∧ z.hmin = level ∧ z.secret = secret ∧ more z
       let shares := fun (ss : List Byte) => fills 3 0 0x30 ss (fun _ => True)
       let isOp := fun (ops : List (Nat × Nat)) => (r.cls, r.opc) ∈ ops
       (isOp [(0, 1), (0, 8), (1, 1), (1, 8), (2, 1)] → ∃ rnd : List Byte, rnd.length = 64 ∧
         j.gave 0 d.out (pairPk p rnd) ∧
         fills 1 p (if p ∈ [1, 2, 3] ∨ 0x21 ≤ p ∧ p ≤ 0x33 then 4 else if p ∈ [0x41, 0x42, 0x43] then 0x21
           else if p ∈ [0x44, 0x45] then 0x20 else 1) (fitLen (secLenOf p) (Config.keygenSec p 0 rnd))
           (fun z => r.cls = 1 ∧ r.opc = 1 ∨ z.pubPart = pairPk p rnd)) ∧
       (isOp [(0, 2), (1, 2), (1, 9)] →
         (r.cls = 0 ∧ Config.kemKeyOk p pk = false → j.gave 0x12 0 []) ∧
         (r.cls = 1 ∨ Config.kemKeyOk p pk = true → ∃ rnd : List Byte, rnd.length = 32 ∧
           j.gave 0 d.out (fitLen (sigLen p) (Config.kemCt p pk rnd)) ∧ shares (fitLen (ssLen p) (Config.kemSs p pk rnd)))) ∧
       (isOp [(0, 3), (1, 3), (1, 0xA)] → j.gave 0 0 [] ∧ shares (fitLen (ssLen p) (Config.kemDec p x.secret a))) ∧
       (isOp [(2, 3)] →
         let ss := fitLen (ssLen p) (Config.ecdh p x.secret a)
         let bad := p ≤ 0x43 ∧ pointOk p a = false ∨ 0x44 ≤ p ∧ ∀ y ∈ ss, y = 0
         (bad → j.gave 0x12 0 []) ∧ (¬bad → j.gave 0 0 [] ∧ shares ss)) ∧
       (isOp [(2, 2)] → ∃ rnd : List Byte, rnd.length = 64 ∧
         let ss := fitLen (ssLen p) (Config.ecdh p (fitLen (secLenOf p) (Config.keygenSec p 0 rnd)) a)
         let bad := p ≤ 0x43 ∧ pointOk p a = false ∨ 0x44 ≤ p ∧ ∀ y ∈ ss, y = 0
         (bad → j.gave 0x12 0 []) ∧ (¬bad → j.gave 0 d.out (pairPk p rnd) ∧ shares ss)) ∧
       (isOp [(0, 9), (2, 4), (2, 6), (2, 8)] → ∃ rnd : List Byte,
         rnd.length = (if r.opc = 6 then 0 else if r.opc = 8 then hashLen d.hash else if d.det then 0 else if r.opc = 9 then 32 else sigLen p / 2) ∧
         j.gave 0 d.out (fitLen (sigLen p) (Config.sign p d.mode x.secret a ctx rnd))) ∧
       (isOp [(0, 0xA), (2, 5), (2, 7), (2, 9), (2, 0xA)] →
         let keyOk := if r.opc = 5 then pointOk p pk else if 9 ≤ r.opc ∧ r.cls = 2 then rsaKeyOk p pk else true
         j.gave (if keyOk = false then 0x12
           else if (r.opc = 5 → ecSigOk p b = true) ∧ Config.verify (if r.opc = 0xA ∧ r.cls = 2 then p + 0x100 else p) d.mode pk a ctx b = true then 0 else 7) 0 []) ∧
       (isOp [(4, 1)] → j.gave 0 d.out (fitLen (d.aLen + 16) (Config.aeadSeal p x.secret d.iv b a))) ∧
       (isOp [(4, 2)] →
         (Config.aeadOk p x.secret d.iv b a = true → j.gave 0 d.out (fitLen (d.aLen - 16) (Config.aeadPlain p x.secret d.iv b a))) ∧
         (Config.aeadOk p x.secret d.iv b a = false → j.gave 7 d.out (List.replicate (d.aLen - 16) 0)))) ∧
  (∀ (s : State) (cls : Fin 8) (k : Fin 32) (cause : BitVec 8) (e : Nat), s.running = true → cls.val ∈ [0, 1, 2, 4] → s.jobOn cls k = some e →
     (s.job e).slotBegun = false →
     let src := if cls = 4 then 9 else 5 + cls.val
     ∃ t, exec (.engineFault cls k cause) s = .next t ∧ bit (t.fld F.FCL_STATUS_FAULT) src = true ∧
       bit (t.fld (F.ENG_ONLINE_ONLINE cls)) k = false ∧
       (s.fld F.ENG_FAULT_V = 0 → t.fld F.ENG_FAULT_V = 1 ∧ t.fld F.ENG_FAULT_CAUSE = cause.toNat ∧ t.fld F.ENG_FAULT_ENGINE = k.val ∧
         t.fld F.ENG_FAULT_CLS = cls.val) ∧
       (effReact src (s.react src) < 3 ∨ bit (s.fld F.FCL_STATUS_FAULT) src = true →
         ((s.job e).retried = false → (t.job e).st = .queued ∧ (t.job e).retried = true ∧ (t.jobQueue (s.job e).cls).head? = some e) ∧
         ((s.job e).retried = true → (t.job e).gave 0x16 0 [] ∧ (t.job e).detail = 0xFFFF)) ∧
       (3 ≤ effReact src (s.react src) → bit (s.fld F.FCL_STATUS_FAULT) src = false →
         (t.job e).st = .running ∧ (t.job e).writes = [] ∧ (t.job e).fill = none))

/-- KINFO, KALLOC, KZERO and KATTR (R65, R178, R219, R220): the attribute word of a slot the polder holds, or 0; the lowest free polder slot within
the quota, or all ones; a held slot zeroised, its jobs ended with KEY_SLOT_INVALID; attributes replaced only in ways that narrow. A number above
16,383, or KALLOC's reserved bits, raise ILLEGAL_OPERAND; under a tamper lock or a scrub the synchronous functions give 0, or all ones, and raise
nothing. KPUB, KIMP and KEXP (R62, R65, R227 to R230, R235, R237): with a legal descriptor given to the key-store controller, a public part is read
out, with its attestation where asked; a tenant's DRBG gives CAP bytes, or the job waits, after internal instances that are due and requests that came
before, or ends with ENTROPY_FAILED; a blob whose tag verifies is ready to fill its slot; a slot that allows it is exported as a blob. The engine work
of a function needs an engine of its class (R231). `rd` takes the handle. -/
def Obligations.KeySlotsAndKeyJobs : Prop :=
  (∀ (s : State) (c : CoreId) (t : Nat) (f : Frame) (rd ra rb : Reg) (ev : Fin 32), s.RunsTask c t f →
     let k := (f.gr ra).toNat
     let n := (s.task t).polder
     let x := s.key k
     let barred := s.locked = true ∨ s.fld F.KST_STATUS_SCRUB = 1
     let holds := x.allocated = true ∧ x.device = false ∧ x.owner = n ∧ k < 16368
     let new := (f.gr rb).toNat
     let narrow := narrows (decide (s.fld F.EPC_STATUS_STATE = 0)) (x.attrWord s.tick).toNat new = true
     let quiet := s.power.pwrFail = false ∧ s.net.ses = []
     (k < 2 ^ 14 →
       (¬barred → holds → exec (.kinfo c rd ra) s = .next (s.wrote c (f.setG rd (x.attrWord s.tick)).next)) ∧
       (barred ∨ ¬holds → exec (.kinfo c rd ra) s = .next (s.wrote c (f.setG rd 0).next)) ∧
       (¬barred → holds → quiet → (∀ e ∈ s.liveJobs, k ∉ s.jobSlots e) →
         ∃ u, exec (.kzero c rd ra) s = .next u ∧ u.key k = {} ∧ (u.task t).frame = (f.setG rd 1).next ∧ u.mem = s.mem) ∧
       (¬barred → holds → quiet → ∀ e, s.liveJobs.filter (fun e => (s.jobSlots e).contains k) = [e] → (s.job e).cls < 9 →
         (s.job e).slotBegun = false → s.inMicro e = false →
         ∃ u, exec (.kzero c rd ra) s = .next u ∧ u.key k = {} ∧ (u.job e).gave 8 0 []) ∧
       (¬barred → holds → quiet → x.ty ≠ 0 → narrow → ∃ u, exec (.kattr c rd ra rb) s = .next u ∧
         (u.task t).frame = (f.setG rd 1).next ∧ (u.key k).usage = bits new 43 36 ∧ (u.key k).exportP = bits new 35 34 ∧
         (u.key k).hmin = bits new 33 32 ∧ (u.key k).transient = bit new 31 ∧ (u.key k).secret = x.secret) ∧
       (barred ∨ ¬holds ∨ x.ty = 0 ∨ ¬narrow → exec (.kattr c rd ra rb) s = .next (s.wrote c (f.setG rd 0).next))) ∧
     (2 ^ 14 ≤ k → f.xhnd ≠ 0 → f.xact = false →
       (∀ i ∈ [Instr.kpub c rd ra rb ev, .kimp c rd ra rb ev, .kexp c rd ra rb ev], exec i s = .next (s.entered c f 4 0)) ∧
       (¬barred → exec (.kinfo c rd ra) s = .next (s.entered c f 4 0) ∧ exec (.kattr c rd ra rb) s = .next (s.entered c f 4 0) ∧
         (s.net.ses = [] → exec (.kzero c rd ra) s = .next (s.entered c f 4 0)))) ∧
     (barred ∨ k < 2 ^ 14 ∧ ¬holds → s.net.ses = [] → exec (.kzero c rd ra) s = .next (s.wrote c (f.setG rd 0).next)) ∧
     (barred → exec (.kinfo c rd ra) s = .next (s.wrote c (f.setG rd 0).next) ∧
       exec (.kattr c rd ra rb) s = .next (s.wrote c (f.setG rd 0).next)) ∧
     (¬barred → new < 2 → quiet →
       (∀ v, s.freeKey n = some v → s.keysOf n < s.fld (F.KST_QUOTA_LIMIT n) ∧ (s.key v).allocated = false ∧ v < 16368 ∧
         (∀ w, w < v → (s.key w).allocated = true) ∧
         ∃ u, exec (.kalloc c rd rb) s = .next u ∧ (u.task t).frame = (f.setG rd (BitVec.ofNat 64 v)).next ∧
           u.key v = { allocated := true, owner := n, transient := bit new 0 }) ∧
       (s.freeKey n = none → exec (.kalloc c rd rb) s = .next (s.wrote c (f.setG rd (BitVec.allOnes 64)).next))) ∧
     (¬barred → 2 ≤ new → f.xhnd ≠ 0 → f.xact = false → exec (.kalloc c rd rb) s = .next (s.entered c f 4 0)) ∧
     (barred → exec (.kalloc c rd rb) s = .next (s.wrote c (f.setG rd (BitVec.allOnes 64)).next))) ∧
  (∀ (s : State) (c : CoreId) (t : Nat) (f : Frame) (rd ra rb : Reg) (ev : Fin 32) (e : Nat) (l : List Byte), s.RunsTask c t f →
     let k := (f.gr ra).toNat
     let n := (s.task t).polder
     let x := s.key k
     let desc := (f.gr rb).toNat
     let m : Master := { mcls := 0, unit := c, acts := [n] }
     let d := parseKey l
     let issued := fun (u : State) => (u.task t).frame = (f.setG rd (BitVec.ofNat 64 (e % 2 ^ 14 + s.jobs.seq % 2 ^ 18 * 2 ^ 14))).next ∧
       u.mem = s.mem
     k < 2 ^ 14 → ev ≠ 31 → s.freeEntry = some e → s.gives m desc 128 .read → s.gives m desc 8 .write → l = s.bytes desc 128 →
     d.mbz l = true → hdrHreq l < 3 → s.keysBarred = false → s.lcs < 3 → s.power.pwrFail = false →
     let kpub := Instr.kpub c rd ra rb ev
     let pub := x.pubPart
     let engine := fun (cls : Nat) => ∃ q, s.engineFor cls = some q ∧ s.drbgReady (instFor cls q) = true
     let gives := fun (u : State) (l : List Byte) => issued u ∧ (u.job e).ended 0 [(d.addr, l)] ∧ (u.job e).outlen = l.length
     (hdrSv l = false → k < 16368 → d.flags < 2 → s.ownsKey n k = true → x.ty ∈ [1, 2, 8] →
       (x.ty = 1 → pubLenOf x.alg = 0 → engine (if x.alg < 0x20 then 0 else 1)) →
       (d.flags = 0 → pub.length ≤ d.cap → s.gives m d.addr pub.length .write → ∃ u, exec kpub s = .next u ∧ gives u pub) ∧
       (d.flags = 1 → pub.length + 4755 ≤ d.cap → s.gives m d.addr (pub.length + 4755) .write → engine 0 → s.wellUp = true → 18 ≤ s.ent.buf →
         (s.key 16383).ty ≠ 0 → ∃ u st, exec kpub s = .next u ∧ st.length = 4755 ∧ st.take 4 = [0x4B, 0x41, 0x54, 0x54] ∧
           gives u (pub ++ st))) ∧
     (hdrSv l = false → k = 16368 → d.flags = 0 → 1 ≤ d.cap → d.cap ≤ 65536 → s.gives m d.addr d.cap .write →
       let now := s.wellReady = true ∧ s.internalDue = none ∧ (s.ent.tenants = [] ∨ e ∈ s.ent.tenants)
       (now → ∃ u out, exec kpub s = .next u ∧ out.length = d.cap ∧ gives u out) ∧
       ((s.drbg (32 + n)).seeded = false → ¬now →
         (s.wellFailed = true → ∃ u, exec kpub s = .next u ∧ issued u ∧ (u.job e).gave 0x0B 0 []) ∧
         (s.wellFailed = false → ∃ u, exec kpub s = .next u ∧ issued u ∧ (u.job e).st = .queued ∧ e ∈ u.ent.tenants))) ∧
     (let w := s.key (hdrSlot l)
      let blob := s.bytes d.addr d.cap
      let b := parseBlob blob
      let method := if hdrSv l then importMethod w else some 0
      d.flags < 2 → s.canFill n k = true → s.gives m d.addr d.cap .read →
       (hdrSv l = true → (s.ownsKey n (hdrSlot l) = true ∨ hdrSlot l = 16382 ∧ w.ty ≠ 0) ∧ bit w.usage (if method = some 1 then useWrap else useKemDec) = true ∧
         w.expired s = false) →
       (∀ p, method = some p → 80 ≤ d.cap → b.headerOk blob p = true →
         s.heapRoom n (granulesFor b.secLen b.pubLen (bit b.attr 30)) = true → (bit b.attr 30 = true → s.rangeHeld b.kid b.floor b.limit = false) →
         (2 ≤ p → engine 0) →
         (∀ secret, b.open w = some secret → ∃ u z, exec (.kimp c rd ra rb ev) s = .next u ∧ issued u ∧ (u.job e).gave 0 0 [] ∧
           (u.job e).fill = some (k, z, bit b.attr 30) ∧ z.ty = bits b.attr 63 60 ∧ z.alg = bits b.attr 59 52 ∧
           z.usage = bits b.attr 43 36 ∧ z.secret = secret ∧ z.pub = b.pub) ∧
         (b.open w = none → ∃ u, exec (.kimp c rd ra rb ev) s = .next u ∧ issued u ∧ (u.job e).gave 7 0 [] ∧ u.key k = x))) ∧
     (let w := s.key (hdrSlot l)
      d.flags < 2 → s.ownsKey n k = true → hdrSv l = true → s.ownsKey n (hdrSlot l) = true → s.fld F.RNG_CTRL_TESTSRC = 0 →
       x.exportP = 1 → x.stateful = false → x.expired s = false → w.expired s = false → s.drbgReady 30 = true →
       ∀ p, exportMethod w = some p → (2 ≤ p → engine 0) → bit w.usage (if p = 1 then useWrap else useKemEnc) = true →
         let total := 80 + (if p = 2 then 1088 else if p = 3 then 1568 else 0) + x.secret.length + x.pub.length + 16
         total ≤ d.cap → s.gives m d.addr total .write →
         ∃ u rnd, exec (.kexp c rd ra rb ev) s = .next u ∧ issued u ∧ rnd.length = 32 ∧
           (u.job e).gave 0 d.addr (fitLen total (makeBlob x (x.attrWord s.tick) 0 0 p w rnd))))

/-- The states of the Well (R232, R233, R234): enabling it or restarting it enters STARTUP and unseeds the DRBGs; with four healthy sources and a good
known-answer test it is READY, else FAILED; a source that fails start-up, or the known answer, latches bit 19; in READY a source whose last 1,024 raw
bits hold 51 equal ones in a row, or 700 equal to the first, is excluded with bit 18, and fewer than four sources leave the Well FAILED. The test
source is writable in MAKER only. Randomness reaches its consumers (R235 to R238): a reseed is taken from a READY Well by an instance that is due,
which then has counted no call; a tenant's request at its limit ends with ENTROPY_UNAVAILABLE, a job held back under a FAILED Well with
ENTROPY_FAILED, and so does a run whose receipt waits; a delivery serves the instances that are due first. The key store's registers (R225, R226,
R239): KST_RCPT takes a designation that may be one, in force at the next tick edge, or at once in NOREF; another only sets CFG_ERR; the ends of a
scrub and of a re-wrap. -/
def Obligations.WellAndKeyStore : Prop :=
  (∀ (s : State) (k : Fin 8) (kat v : Bool) (rct apt : BitVec 8) (w : BitVec 1024), s.running = true →
     let st := fun (t : State) => t.fld F.RNG_STATUS_STATE
     let healthy := s.fld F.RNG_STATUS_HEALTHY
     let on := 255 - s.fld F.RNG_SRC_CTRL_DISABLE
     let bad := (rct ||| apt).toNat &&& on
     let latched := fun (t : State) (j : Nat) => bit (t.fld F.FCL_STATUS_FAULT) j = true
     let fails := (∃ i, i + 51 ≤ 1024 ∧ ∀ j, j < 51 → w.getLsbD (i + j) = w.getLsbD i) ∨
       700 ≤ ((List.range 1024).filter (fun i => w.getLsbD i == w.getLsbD 1023)).length
     (∀ i : Instr, (i = .rngEnable ∧ s.fld F.RNG_CTRL_ENABLE = 0 ∨ i = .rngRestart) →
       ∃ t, exec i s = .next t ∧ st t = 1 ∧ t.fld F.RNG_STATUS_READY = 0 ∧ ∀ j, j < 288 → (t.drbg j).seeded = false) ∧
     (s.fld F.RNG_CTRL_ENABLE = 1 → exec .rngEnable s = .next s.repin) ∧
     (s.lcs ≠ 0 → ∃ t, exec (.rngTestsrcWrite v) s = .next t ∧ t.fld F.RNG_STATUS_CFG_ERR = 1 ∧
       t.fld F.RNG_CTRL_TESTSRC = s.fld F.RNG_CTRL_TESTSRC) ∧
     (s.lcs = 0 → ∃ t, exec (.rngTestsrcWrite v) s = .next t ∧ t.fld F.RNG_CTRL_TESTSRC = b2n v ∧
       (s.fld F.RNG_CTRL_TESTSRC = 1 → v = false → st t = 1)) ∧
     (st s = 1 → s.ent.tenants = [] → ∃ t, exec (.wellStartupComplete ⟨rct, apt⟩ kat) s = .next t ∧
       t.fld F.RNG_STATUS_HEALTHY = on - bad ∧ t.fld F.RNG_STATUS_EXCLUDED = bad ∧ (kat = false ∨ bad ≠ 0 → latched t 19) ∧
       (kat = true ∧ 4 ≤ popN 8 (on - bad) → st t = 2 ∧ t.fld F.RNG_STATUS_READY = 1) ∧
       (kat = false ∨ popN 8 (on - bad) < 4 → st t = 3 ∧ t.fld F.RNG_STATUS_READY = 0)) ∧
     (bit healthy k = true → st s = 2 → s.ent.tenants = [] → fails → ∃ t, exec (.sourceHealthFailure k w) s = .next t ∧
       t.fld F.RNG_STATUS_HEALTHY = healthy - 2 ^ k.val ∧ bit (t.fld F.RNG_STATUS_EXCLUDED) k = true ∧ latched t 18 ∧
       (popN 8 (healthy - 2 ^ k.val) < 4 ↔ st t = 3)) ∧
     (¬fails ∨ bit healthy k = false → exec (.sourceHealthFailure k w) s = .next s.repin)) ∧
  (∀ (s : State) (n : Fin 288) (e : SlotId), s.running = true →
     let due := (s.drbg n).seeded = false ∨ (if n.val < 32 then s.fld F.RNG_INT_RESEED_CALLS else s.fld F.RNG_TEN_RESEED_CALLS) ≤ (s.drbg n).calls
     let j := s.job e
     (s.fld F.RNG_STATUS_STATE = 2 → due → n.val < 32 ∨ (s.drbg n).inst = true →
       ∃ t, exec (.drbgReseed n) s = .next t ∧ (t.drbg n).seeded = true ∧ (t.drbg n).calls = 0 ∧ (t.drbg n).drawn = (s.drbg n).drawn) ∧
     (s.fld F.RNG_STATUS_STATE ≠ 2 → exec (.drbgReseed n) s = .next s.repin ∧ exec .entropyDelivery s = .next s.repin) ∧
     (s.fld F.RNG_STATUS_STATE = 2 → findFrom s.seedDue 32 0 = some n.val → ∃ t, exec .entropyDelivery s = .next t ∧ (t.drbg n).seeded = true ∧
       (t.drbg n).calls = 0 ∧ (s.ent.tenants = [] → t.jobs = s.jobs)) ∧
     (e.val ∈ s.ent.tenants →
       (j.since + s.fld (F.PLD_ENTWAIT_TICKS j.polder) ≤ s.tick →
         ∃ t, exec (.entropyWaitExpiry e) s = .next t ∧ (t.job e).gave 0x0A 0 [] ∧ e.val ∉ t.ent.tenants) ∧
       (s.tick < j.since + s.fld (F.PLD_ENTWAIT_TICKS j.polder) → exec (.entropyWaitExpiry e) s = .next s.repin)) ∧
     (s.fld F.RNG_STATUS_STATE = 3 → j.held = true → j.since + s.fld F.RNG_STALL_LIMIT_TICKS ≤ s.tick →
       (j.cls ≠ 9 → j.st = .queued → ∃ t, exec (.rngStallExpiry e) s = .next t ∧ (t.job e).gave 0x0B 0 []) ∧
       (j.cls = 9 → (s.run e).ops ≠ [] → (s.run e).fail = none →
         ∃ t, exec (.rngStallExpiry e) s = .next t ∧ (t.run e).fail = some (0x0B, 0)))) ∧
  (∀ (s : State) (n : PolderId) (valid : Bool) (k : SlotId), s.running = true → s.power.pwrFail = false →
     let inForce := fun (t : State) => tget (fun _ => none) t.keys.rcptInForce n
     let staged := fun (t : State) => tget (fun _ => none) t.keys.rcptStaged n
     let noref := s.fld F.EPC_STATUS_STATE = 0
     let key := if valid then some k.val else none
     ((valid = true → s.rcptOk n k = true) → ∃ t, exec (.kstRcptWrite n valid k) s = .next t ∧ t.fld (F.KST_RCPT_V n) = b2n valid ∧
       (noref → inForce t = key ∧ staged t = none) ∧ (¬noref → staged t = some (valid, k.val) ∧ inForce t = inForce s ∧
         t.fld (F.KST_RCPT_PENDING n) = 1)) ∧
     (valid = true → s.rcptOk n k = false → exec (.kstRcptWrite n valid k) s = .next (s.setFld F.KST_STATUS_CFG_ERR 1).repin) ∧
     (s.keys.rcptStaged = [(n.val, some (valid, k.val))] → s.counting = true → ∃ t, exec .receiptSlotStaging s = .next t ∧ inForce t = key ∧
       staged t = none) ∧
     (s.fld F.KST_STATUS_SCRUB = 1 → ∃ t, exec .scrubComplete s = .next t ∧ t.fld F.KST_STATUS_SCRUB = 0 ∧ t.fld F.TMP_STATUS_ZEROISING = 0) ∧
     (s.fld F.KST_STATUS_REWRAP = 1 → ∃ t, exec .rewrapComplete s = .next t ∧ t.fld F.KST_STATUS_REWRAP = 0 ∧
       ∀ a < 16384, (s.key a).allocated = true → (t.key a).keyB = decide (s.fld F.EMB_CFG_MODE = 1)))

/-- The messages of the digest engine (R190 to R202): DG_OPEN takes a context, DG_UPDATE adds to it, DG_FINAL ends it with the digest or its
comparison, DG_PEEK shows the digest so far, DG_ONESHOT does all at once, DG_CLOSE frees it. Bytes past a declared length are discarded and end with
OK_TRUNCATED; a message shorter than declared ends with LEN_SHORT and zeros. Contexts expire, and faults of the digest engine (R195, R215, R534): an
OPEN context without a job that is idle for DIG_IDLE expires; a core error takes the core offline, a context RAM error frees the context and ends its
jobs with ABORTED and DETAIL 0xFFFF. -/
def Obligations.DigestContexts : Prop :=
  (∀ (r s : State) (e : SlotId) (opc c : Nat) (l : List Byte), r.DigTurn s e opc c l →
     let j := s.job e
     let n := j.polder
     let d := parseDig l
     let m := fun (u : Nat) => ({ mcls := 5, unit := u, acts := [n] } : Master)
     let data := s.bytes d.aAddr d.aLen
     let macOk := fun (k : Nat) => d.mac = true → hdrSv l = true ∧ s.usable n (hdrSlot l) [3, 4, 6] useHmac ∧ s.drbgReady (28 + k % 2) = true
     let mac := if d.mac then some (s.key (hdrSlot l)).secret else none
     let cs := isCshake d.alg = true
     let opens := fun (k : Nat) => s.takesCtx e k ∧ isHash d.alg = true ∧ ¬(d.mac = true ∧ isXof d.alg = true) ∧ macOk k ∧
       (d.dl = true → d.decl < 2 ^ 61) ∧ (cs → (d.cmp = false → d.bLen ≤ 255) ∧ d.cLen ≤ 255) ∧ s.gives (m c) d.aAddr d.aLen .read ∧
       (cs → s.gives (m c) d.cAddr d.cLen .read ∧ (d.cmp = false → s.gives (m c) d.bAddr d.bLen .read))
     let custN := if cs ∧ d.cmp = false then s.bytes d.bAddr d.bLen else []
     let custS := if cs then s.bytes d.cAddr d.cLen else []
     let kept := fun (dl : Bool) (room : Nat) => if dl then data.take room else data
     let cut := fun (dl : Bool) (room : Nat) => if dl = true ∧ room < d.aLen then 1 else 0
     let x := s.ctx (d.ctx % 256)
     let named := x.st = .open ∧ x.temp = false ∧ x.seq = d.ctx / 256 ∧ x.polder = n ∧ (x.mac.isSome = true → s.drbgReady (28 + d.ctx % 256 % 2) = true)
     let longer := x.dl = false → x.total + d.aLen < 2 ^ 61
     let mine := kept x.dl (x.decl - x.total)
     let size := fun (alg : Nat) => if isXof alg then d.outLen else hashOut alg
     let final := fun (alg : Nat) => (isXof alg = true → 1 ≤ d.outLen ∧ d.outLen ≤ 1048576) ∧
       (d.cmp = true → 4 ≤ d.bLen ∧ d.bLen ≤ size alg ∧ s.gives (m 32) d.bAddr d.bLen .read) ∧
       (d.cmp = false → size alg ≤ d.cap ∧ s.gives (m c) d.out (size alg) .write)
     let result := fun (t : State) (st : Nat) (dg : List Byte) =>
       (d.cmp = false → (t.job e).gave st d.out dg) ∧
       (d.cmp = true → (t.job e).ended (if dg.take d.bLen = s.bytes d.bAddr d.bLen then st else 7) [])
     let short := fun (t : State) (alg : Nat) => (t.job e).ended 2 (if d.cmp then [] else [(d.out, List.replicate (size alg) 0)])
     (∀ k, opc = 1 → opens k → ∃ t, exec (.dgOpen e) r = .next t ∧ t.mem = s.mem ∧
       (t.job e).ended (cut d.dl d.decl) [(j.desc + 28, leBytes 4 (((s.ctx k).seq + 1) % 2 ^ 24 * 256 + k))] ∧
       t.ctx k = { st := .busy, seq := ((s.ctx k).seq + 1) % 2 ^ 24, polder := n, alg := d.alg, dl := d.dl, decl := d.decl, mac := mac,
                   macSlot := if d.mac then some (hdrSlot l) else none, custN := custN, custS := custS, data := kept d.dl d.decl,
                   total := (kept d.dl d.decl).length, trunc := decide (cut d.dl d.decl = 1) }) ∧
     (opc = 2 → named → longer → s.gives (m c) d.aAddr d.aLen .read → ∃ t, exec (.dgUpdate e) r = .next t ∧
       (t.job e).ended (cut x.dl (x.decl - x.total)) [] ∧ t.mem = s.mem ∧
       t.ctx (d.ctx % 256) = { x with st := .busy, data := x.data ++ mine, total := x.total + mine.length,
                                      trunc := x.trunc || decide (cut x.dl (x.decl - x.total) = 1) }) ∧
     (opc = 3 → named → longer → final x.alg → (isXof x.alg = true ∨ d.outLen = 0) → s.gives (m c) d.aAddr d.aLen .read →
       ∃ t, exec (.dgFinal e) r = .next t ∧ t.ctx (d.ctx % 256) = { seq := x.seq } ∧ t.mem = s.mem ∧
         (x.dl = true → x.total + mine.length < x.decl → short t x.alg) ∧
         (x.dl = false ∨ x.decl ≤ x.total + mine.length →
           result t (if x.trunc = true ∨ cut x.dl (x.decl - x.total) = 1 then 1 else 0)
             (digestOf x.alg (size x.alg) x.mac x.custN x.custS (x.data ++ mine)))) ∧
     (opc = 4 → named → x.dl = false → final x.alg → (isXof x.alg = true ∨ d.outLen = 0) →
       ∃ t, exec (.dgPeek e) r = .next t ∧ (t.job e).gave 0 d.out (digestOf x.alg (size x.alg) x.mac x.custN x.custS x.data) ∧
         t.ctx (d.ctx % 256) = { x with st := .busy } ∧ t.mem = s.mem) ∧
     (∀ k, opc = 5 → opens k → final d.alg → ∃ t, exec (.dgOneshot e) r = .next t ∧ t.mem = s.mem ∧
       (d.dl = true → d.aLen < d.decl → short t d.alg) ∧
       (d.dl = false ∨ d.decl ≤ d.aLen → result t (cut d.dl d.decl) (digestOf d.alg (size d.alg) mac custN custS (kept d.dl d.decl)))) ∧
     (opc = 6 → named → ∃ t, exec (.dgClose e) r = .next t ∧ (t.job e).gave 0 0 [] ∧ t.ctx (d.ctx % 256) = { seq := x.seq })) ∧
  (∀ (s : State) (x : Fin 256) (core : Fin 32) (e : Nat), s.running = true →
     let k := s.ctx x
     (k.st = .open → s.fld F.DIG_IDLE_TICKS ≠ 0 → k.idleSince + s.fld F.DIG_IDLE_TICKS ≤ s.tick →
       (∀ f ∈ s.jobQueue 3, s.namedCtx f ≠ some x.val) → ∃ t, exec (.contextExpiry x) s = .next t ∧ (t.ctx x).st = .expired ∧
         (t.ctx x).seq = k.seq ∧ (t.ctx x).data = []) ∧
     (k.st ≠ .open ∨ s.fld F.DIG_IDLE_TICKS = 0 ∨ s.tick < k.idleSince + s.fld F.DIG_IDLE_TICKS →
       exec (.contextExpiry x) s = .next s.repin) ∧
     (∃ t, exec (.digestFault false core x) s = .next t ∧ bit (t.fld F.FCL_STATUS_FAULT) 8 = true ∧
       (s.bringsReset 8 = false → bit (t.fld F.DIG_CORE_ONLINE_ONLINE) core = false) ∧
       (s.fld F.DIG_FAULT_V = 0 → t.fld F.DIG_FAULT_V = 1 ∧ t.fld F.DIG_FAULT_CAUSE = 1 ∧ t.fld F.DIG_FAULT_CORE = core.val)) ∧
     (s.liveJobs.filter (fun f => decide ((s.job f).cls = 3) && (decide ((s.job f).ctx = some x.val) ||
         (decide ((s.job f).st = .queued) && s.namedCtx f == some x.val))) = [e] → (s.job e).slotBegun = false → s.inMicro e = false →
       s.bringsReset 8 = false → ∃ t, exec (.digestFault true core x) s = .next t ∧ t.ctx x = { seq := k.seq } ∧
         (t.job e).gave 0x16 0 [] ∧ (t.job e).detail = 0xFFFF))

/-- HKDF and CT_COMPARE (R200 to R202): an extracted key is for the output slot, which the completion fills, an expanded one too, or at most 12 bytes
go out; a comparison of equal lengths up to 4,096 bytes answers OK or VERIFY_FAIL, on the comparison unit, whatever hash cores are available. The
hash-based signatures (R205 to R213): a key pair is for its output slot, which the completion fills, a stateful one at leaf 0 with its committed
range; a signature takes the slot's next leaf, which no later one can take, and past the last ends with LMS_EXHAUSTED; a split gives the top leaves
away, and all of them leaves none; a verification answers OK or VERIFY_FAIL; HBS_FLOOR_COMMIT commits the pending floor. -/
def Obligations.DerivationComparisonSignatures : Prop :=
  (∀ (r s : State) (e : SlotId) (opc c k : Nat) (l : List Byte), r.DigTurn s e opc c l →
     let n := (s.job e).polder
     let d := parseDig l
     let m := fun (u : Nat) => ({ mcls := 5, unit := u, acts := [n] } : Master)
     let key := s.key (hdrSlot l)
     let hl := hashOut d.alg
     let room := fun (len : Nat) => s.canFill n d.oslot = true ∧ s.heapRoom n (granulesFor len 0 false) = true
     let fills := fun (t : State) (secret : List Byte) => ∃ z, (t.job e).fill = some (d.oslot, z, false) ∧
       z.ty = (match d.otype with | 0 => 4 | 4 => 6 | _ => 5) ∧ z.alg = (match d.otype with | 1 => 0x61 | 2 => 0x62 | 3 => 0x63 | _ => 0) ∧
         z.usage = (match d.otype with | 0 => 0x30 | 4 => 0x10 | _ => 0x80) ∧ z.secret = secret ∧ (d.otype ≠ 0 → d.otype ≠ 4 → z.hmin = 1)
     let derive := fun (k : Nat) => s.usable n k [3, 4] useDerive
     (opc = 8 → hl ≠ 0 → d.otype ≤ 4 → d.ov = true → room hl → s.takesCtx e k → s.drbgReady (28 + k % 2) = true →
       (d.otype = 1 → hl = 16) → (d.otype = 2 ∨ d.otype = 3 → hl = 32) →
       (if hdrSv l then derive (hdrSlot l) else s.gives (m c) d.bAddr d.bLen .read) →
       (if d.i2v then derive d.islot2 else s.gives (m c) d.aAddr d.aLen .read) →
       let salt := if hdrSv l then key.secret else s.bytes d.bAddr d.bLen
       let ikm := if d.i2v then (s.key d.islot2).secret else s.bytes d.aAddr d.aLen
       ∃ t, exec (.hkdfExtract e) r = .next t ∧ (t.job e).gave 0 0 [] ∧ t.mem = s.mem ∧
         fills t (fitLen hl (Config.hmac d.alg (if salt = [] then List.replicate hl 0 else salt) ikm))) ∧
     (opc = 9 → hl ≠ 0 → d.otype ≤ 4 → hdrSv l = true → derive (hdrSlot l) → d.bLen ≤ 1024 → 1 ≤ d.outLen → d.outLen ≤ min 64 (255 * hl) →
       (d.otype = 1 → d.outLen = 16) → (d.otype = 2 ∨ d.otype = 3 → d.outLen = 32) → s.takesCtx e k → s.drbgReady (28 + k % 2) = true →
       s.gives (m c) d.bAddr d.bLen .read →
       let okm := fitLen d.outLen (hkdfBlocks d.alg hl key.secret (s.bytes d.bAddr d.bLen) (cdiv d.outLen hl) 1 [])
       (d.ov = true → room d.outLen → ∃ t, exec (.hkdfExpand e) r = .next t ∧ (t.job e).gave 0 0 [] ∧ fills t okm) ∧
       (d.ov = false → d.otype = 0 → d.outLen ≤ d.cap → s.gives (m c) d.out d.outLen .write →
         (d.outLen ≤ 12 → ∃ t, exec (.hkdfExpand e) r = .next t ∧ (t.job e).gave 0 d.out okm ∧ t.mem = s.mem) ∧
         (12 < d.outLen → ∃ t, exec (.hkdfExpand e) r = .next t ∧ (t.job e).gave 8 0 []))) ∧
     (opc = 0x0B →
       c = 32 ∧ (d.aLen = d.bLen → d.aLen ≤ 4096 → s.gives (m 32) d.aAddr d.aLen .read → s.gives (m 32) d.bAddr d.bLen .read →
         ∃ t, exec (.ctCompare e) r = .next t ∧ t.mem = s.mem ∧
           (t.job e).gave (if s.bytes d.aAddr d.aLen = s.bytes d.bAddr d.bLen then 0 else 7) 0 []) ∧
       (d.aLen ≠ d.bLen ∨ 4096 < d.aLen → ∃ t, exec (.ctCompare e) r = .next t ∧ (t.job e).gave 0x17 0 []))) ∧
  (∀ (r s : State) (e k : SlotId) (opc c x : Nat) (l : List Byte),
     (r.DigTurn s e opc c l → s.takesCtx e x → s.drbgReady (28 + x % 2) = true →
       let n := (s.job e).polder
       let d := parseDig l
       let m : Master := { mcls := 5, unit := c, acts := [n] }
       let q := hdrSlot l
       let key := s.key q
       let pair := hdrSv l = true ∧ s.usable n q [2] useSign ∧ key.alg = d.alg
       let a := s.bytes d.aAddr d.aLen
       let b := s.bytes d.bAddr d.bLen
       let ctx := s.bytes d.cAddr d.cLen
       let given := s.gives m d.aAddr d.aLen .read
       let pk := if hdrSv l then key.pub else s.bytes d.kAddr d.kLen
       let pubOk := if hdrSv l then s.usable n q [2, 8] useVerify ∧ key.alg = d.alg else s.gives m d.kAddr d.kLen .read
       let pairIs := fun (t : State) (P : KeySlot → Prop) => ∃ z, (t.job e).fill = some (d.oslot, z, true) ∧ z.ty = 2 ∧ z.alg = d.alg ∧ z.usage = 1 ∧ P z
       let slhLens := (d.ph = 0 ∨ d.aLen = hashLen d.ph) ∧ d.cLen ≤ 255 ∧ d.ph < 6
       let param := hbsParam d.alg
       (isSlh d.alg = true →
         (opc = 0x10 → d.ov = true → s.canFill n d.oslot = true → 2 * slhN d.alg ≤ d.cap →
           s.heapRoom n (granulesFor (2 * slhN d.alg) (2 * slhN d.alg) false) = true → s.gives m d.out (2 * slhN d.alg) .write →
           ∃ t rnd, exec (.slhKeygen e) r = .next t ∧ rnd.length = 96 ∧
             (t.job e).gave 0 d.out (fitLen (2 * slhN d.alg) (Config.keygenPub d.alg 0 rnd)) ∧
             pairIs t (fun z => z.stateful = false ∧ z.secret = fitLen (2 * slhN d.alg) (Config.keygenSec d.alg 0 rnd) ∧
               z.pub = fitLen (2 * slhN d.alg) (Config.keygenPub d.alg 0 rnd))) ∧
         (opc = 0x11 → pair → key.hmin ≠ 2 → slhLens → slhSig d.alg ≤ d.cap → given → s.gives m d.cAddr d.cLen .read →
           s.gives m d.out (slhSig d.alg) .write →
           ∃ t rnd, exec (.slhSign e) r = .next t ∧ (if d.det then rnd = key.pub.take (slhN d.alg) else rnd.length = slhN d.alg) ∧
             (t.job e).gave 0 d.out (fitLen (slhSig d.alg) (Config.sign d.alg d.ph (key.secret ++ key.pub) a ctx rnd))) ∧
         (opc = 0x12 → pubOk → slhLens → d.bLen = slhSig d.alg → (hdrSv l = true ∨ d.kLen = 2 * slhN d.alg) → given →
           s.gives m d.bAddr d.bLen .read → s.gives m d.cAddr d.cLen .read →
           ∃ t, exec (.slhVerify e) r = .next t ∧ (t.job e).gave (if Config.verify d.alg d.ph pk a ctx b then 0 else 7) 0 [])) ∧
       (isHbs d.alg = true →
         (∀ hb, opc = 0x18 → param d.p1 d.p2 d.levels = some hb → d.ov = true → s.canFill n d.oslot = true → hbsPubLen d.alg d.p1 ≤ d.cap →
           s.heapRoom n (granulesFor 64 (hbsPubLen d.alg d.p1) true) = true → s.gives m d.out (hbsPubLen d.alg d.p1) .write →
           ∃ t rnd, exec (.hbsKeygen e) r = .next t ∧ rnd.length = 96 ∧ (t.job e).ended 0 [(d.out, hbsPub d.alg d.p1 d.p2 d.levels rnd)] ∧
             pairIs t (fun z => z.stateful = true ∧ z.cursor = 0 ∧ z.floor = 0 ∧ z.limit = 2 ^ hb.2 - 1 ∧ z.recA = floorRec 1 0 (2 ^ hb.2 - 1) ∧
               z.pub = hbsPub d.alg d.p1 d.p2 d.levels rnd)) ∧
         (let len := hbsSigLen d.alg key.p1 key.p2 key.levels
          opc = 0x19 → pair → key.hmin ≠ 2 → len ≤ d.cap →
           (key.cursor ≤ key.limit → given → s.gives m d.out len .write →
             ∃ t rnd, exec (.hbsSign e) r = .next t ∧ rnd.length = 32 ∧ (t.key q).cursor = key.cursor + 1 ∧ (t.job e).leaf = some (q, key.cursor) ∧
               (t.job e).gave 0 d.out
                 (fitLen len (Config.hbsSign d.alg key.p1 key.p2 key.levels key.secret key.cursor a rnd)) ∧
               (s.fld F.DIG_LMS_RESERVE_LEAVES ≠ 0 → key.floor ≤ key.cursor → ∃ p, (t.key q).pendFloor = some p ∧ key.cursor < p)) ∧
           (key.limit < key.cursor → ∃ t, exec (.hbsSign e) r = .next t ∧ (t.job e).gave 0x11 0 [] ∧ t.key q = key)) ∧
         (let p := hbsOfPub d.alg pk
          opc = 0x1A → pubOk → (param p.1 p.2.1 p.2.2).isSome = true → pk.length = hbsPubLen d.alg p.1 →
           d.bLen = hbsSigLen d.alg p.1 p.2.1 p.2.2 → given → s.gives m d.bAddr d.bLen .read →
           ∃ t, exec (.hbsVerify e) r = .next t ∧ (t.job e).gave (if Config.verify d.alg 0 pk a [] b then 0 else 7) 0 []))) ∧
     (r.DigTurn s e 0x1B c l → s.drbgReady 30 = true → s.fld F.RNG_CTRL_TESTSRC = 0 →
       let n := (s.job e).polder
       let d := parseDig l
       let key := s.key (hdrSlot l)
       let w := s.key d.islot2
       ∀ p, isHbs d.alg = true → hdrSv l = true → s.ownsKey n (hdrSlot l) = true → key.ty = 2 → key.alg = d.alg → key.exportP = 1 →
         key.expired s = false → d.i2v = true → s.ownsKey n d.islot2 = true → exportMethod w = some p →
         bit w.usage (if p = 1 then useWrap else useKemEnc) = true → w.expired s = false → d.islot2 ≠ hdrSlot l → 1 ≤ d.outLen →
         d.outLen ≤ key.limit + 1 - key.floor → key.pendFloor = none → (2 ≤ p → ∃ q, s.engineFor 0 = some q ∧ s.drbgReady (instFor 0 q) = true) →
         blobLen p key.secret.length key.pub.length ≤ d.cap →
         s.gives { mcls := 5, unit := c, acts := [n] } d.out (blobLen p key.secret.length key.pub.length) .write →
         ∃ t rnd, exec (.hbsSplit e) r = .next t ∧
           (d.outLen ≤ key.limit → (t.key (hdrSlot l)).floor = key.floor ∧ (t.key (hdrSlot l)).limit = key.limit - d.outLen) ∧
           (d.outLen = key.limit + 1 → (t.key (hdrSlot l)).left = 0) ∧ (t.job e).gave 0 d.out (fitLen (blobLen p key.secret.length key.pub.length)
             (makeBlob key (key.attrWord s.tick) (key.limit + 1 - d.outLen) key.limit p w rnd))) ∧
     (s.running = true → s.power.pwrFail = false → ∀ p, (s.key k).pendFloor = some p →
       ∃ t, exec (.hbsFloorCommit k) s = .next t ∧ (t.key k).floor = p ∧ (t.key k).pendFloor = none ∧ (t.key k).cursor = (s.key k).cursor ∧
         (if (s.key k).useB then (t.key k).recA = floorRec ((s.key k).inForce.seq + 1) p (s.key k).limit ∧ (t.key k).recB = (s.key k).recB
           else (t.key k).recB = floorRec ((s.key k).inForce.seq + 1) p (s.key k).limit ∧ (t.key k).recA = (s.key k).recA)))

/-- The microwords that a unit's sequencer runs (R241, R244 to R250, R252, R253), in a customer function or in a ROM operation: loads of loop
counters, branches, loops, calls and returns move it as they say, within the transfers allowed; a stop of a customer function takes effect at a YIELD,
or at its limit, and a hash core that others want writes its context back there, which another takes up again; SYNC waits for LOAD and STORE; COPY and
ZERO give their values; in customer code an empty, invalid or forbidden word is an execution error, which is counted and ends the job with ABORTED and
DETAIL 0xFFFE. CUSTOMER_OPERATION (R251, R255): with the class's customer microcode valid and enabled, a legal descriptor and a key that the function
may use, the unit's sequencer enters the function; without it the job ends with UNSUPPORTED. -/
def Obligations.MicrocodeRuns : Prop :=
  (∀ (s : State) (m : Fin 5) (k : Fin 256) (q : Sqr), s.running = true → s.sqrAt m k = some q →
     let pc := s.matched m q.pc
     let at1 := pc + 1
     let word := (s.fetchMicro m pc).map parseMWord
     let ok := s.mcsRuns m k = true
     let back := m = 3 ∧ q ∈ s.mcs.parked
     let goes := fun (i : Instr) (q1 : Sqr) => ∃ t, exec i s = .next t ∧ t.sqr m k = some q1 ∧ t.mem = s.mem ∧ (¬back → t.jobs = s.jobs) ∧
       (back → t.mcs.parked = s.mcs.parked.erase q ∧ (t.job q.work).engine = some k.val)
     let steps := mayGo pc at1 false = true ∧ at1 < 2 ^ 16
     let errs := fun (i : Instr) => q.rom = false → m ≠ 4 → ∃ t, exec i s = .next t ∧ (t.job q.work).gave 0x16 0 [] ∧ (t.job q.work).detail = 0xFFFE ∧
       t.sqr m k = none ∧ t.fld (F.MCS_CERR_COUNT m) = (s.fld (F.MCS_CERR_COUNT m) + 1) % 2 ^ 32
     let stop := if q.rom then none else s.stopPending m q
     let q0 := { q with pc := pc }
     let nxt := { q with pc := at1 }
     ok →
     (∀ j v, word = some (.ldi j v) → j < 4 → v < 2 ^ 16 → steps → goes (.mwLdi m k) { nxt with lc := q.lc.setIfInBounds j v }) ∧
     (∀ j sh, word = some (.lda j sh) → j < 4 → steps → goes (.mwLda m k) { nxt with lc := q.lc.setIfInBounds j (s.aLen m q0 / 2 ^ sh % 2 ^ 16) }) ∧
     (∀ j a, word = some (.djnz j a) → j < 4 → a < 2 ^ 16 →
       let v := (q.lc.toList.getD j 0 + 2 ^ 16 - 1) % 2 ^ 16
       (v ≠ 0 → mayGo pc a false = true → goes (.mwDjnz m k) { q with pc := a, lc := q.lc.setIfInBounds j v }) ∧
       (v = 0 → steps → goes (.mwDjnz m k) { nxt with lc := q.lc.setIfInBounds j 0 }) ∧ (v ≠ 0 → mayGo pc a false = false → errs (.mwDjnz m k))) ∧
     (∀ c a, word = some (.branch c a) → a < 2 ^ 16 →
       (s.mcond m k q0 c = true → mayGo pc a false = true → goes (.mwBranch m k) { q with pc := a }) ∧
       (s.mcond m k q0 c = true → mayGo pc a false = false → errs (.mwBranch m k)) ∧
       (s.mcond m k q0 c = false → steps → goes (.mwBranch m k) nxt)) ∧
     (∀ a, word = some (.call a) → a < 2 ^ 16 →
       (q.stack.length < 8 → mayGo pc a true = true → at1 < 2 ^ 16 → goes (.mwCall m k) { q with pc := a, stack := at1 :: q.stack }) ∧
       (8 ≤ q.stack.length ∨ mayGo pc a true = false → errs (.mwCall m k))) ∧
     (word = some .ret → (∀ a l, q.stack = a :: l → goes (.mwReturn m k) { q with pc := a, stack := l }) ∧ (q.stack = [] → errs (.mwReturn m k))) ∧
     (word = some .yield →
       (stop = none → steps → m ≠ 3 ∨ q.rom = true ∨ s.mcs.parked = [] ∧ s.coreWanted = false → goes (.mwYield m k) nxt) ∧
       (stop = none → steps → m = 3 → q.rom = false → s.mcs.parked ≠ [] → q ∉ s.mcs.parked → ∃ t, exec (.mwYield m k) s = .next t ∧ t.sqr m k = none ∧
         t.mcs.parked = s.mcs.parked ++ [nxt] ∧ (t.job q.work).engine = none ∧ t.mem = s.mem) ∧
       (∀ st d, m ≠ 4 → stop = some (st, d) → ∃ t, exec (.mwYield m k) s = .next t ∧ (t.job q.work).gave st 0 [] ∧
         (t.job q.work).detail = d ∧ t.sqr m k = none)) ∧
     (∀ mask, word = some (.sync mask) →
       ((bit mask 0 = true → q.loaded = true) ∧ (bit mask 1 = true → q.stored = true) → steps → goes (.mwSync m k) nxt) ∧
       ((bit mask 0 = true ∧ q.loaded = false) ∨ (bit mask 1 = true ∧ q.stored = false) → goes (.mwSync m k) q0)) ∧
     (∀ st, word = some (.done st) → m ≠ 4 →
       (q.rom = true → st ∈ [0, 1, 7, 0x12, 0x13] → goes (.mwDone m k) q0) ∧
       (q.rom = false → st ≤ 1 → q.stored = false → bit (leAt (s.job q.work).bytes 76 2) 15 = false → ∃ t, exec (.mwDone m k) s = .next t ∧
         (t.job q.work).gave st 0 [] ∧ t.sqr m k = none) ∧
       (q.rom = false → st ∈ [7, 0x12, 0x13] → ∃ t, exec (.mwDone m k) s = .next t ∧ (t.job q.work).gave st 0 [] ∧ t.sqr m k = none) ∧
       (st ∉ [0, 1, 7, 0x12, 0x13] → errs (.mwDone m k))) ∧
     (∀ nw offA offB, word = some (.issue nw offA offB) →
       (∀ n, s.fetchNano m nw = some n → mayIssue pc nw = true → nanoOk m n = true → steps → (m ≠ 4 → nanoDraws n = true → s.drbgReady (instFor m k) = true) →
         let u := bits n 187 184
         let op := bits n 183 176
         let dst := bits n 143 128
         (u = 4 → op = 2 → s.sqrPublic m q = false) → (u = 4 → op = 0 → q.rom = true) →
         ∃ t q1, exec (.mwIssue m k) s = .next t ∧ t.sqr m k = some q1 ∧ q1.pc = at1 ∧ q1.work = q.work ∧ q1.lc = q.lc ∧ q1.stack = q.stack ∧
           (¬back → t.jobs = s.jobs) ∧ t.mem = s.mem ∧
           (u = 3 → op ≤ 1 → dst / 2 ^ 14 ≠ 3 → tget (fun _ => 0) q1.dp (place dst q.genA offA) =
             if op = 1 then 0 else q0.src (bits n 175 160) (bits n 95 64) q.genA offA)) ∧
       (∀ n, s.fetchNano m nw = some n → mayIssue pc nw = true → nanoOk m n = true → m ≠ 4 → nanoDraws n = true → s.drbgReady (instFor m k) = false →
         bits n 187 184 ≠ 4 → goes (.mwIssue m k) q0) ∧
       (s.fetchNano m nw = none ∨ mayIssue pc nw = false → errs (.mwIssue m k))) ∧
     (word = none ∨ word = some .bad →
       ∀ i ∈ [Instr.mwIssue m k, .mwBranch m k, .mwLdi m k, .mwLda m k, .mwDjnz m k, .mwCall m k, .mwReturn m k, .mwYield m k, .mwDone m k, .mwSync m k],
         errs i) ∧
     (∀ st d, m ≠ 4 → s.sqr m k = some q → stop = some (st, d) → ∃ t, exec (.yieldLimitExpiry m k) s = .next t ∧ (t.job q.work).gave st 0 [] ∧
       t.sqr m k = none)) ∧
  (∀ (s : State) (e : SlotId) (k : Nat) (l : List Byte), s.running = true → s.power.pwrFail = false →
     let j := s.job e
     let m : Master := { mcls := clsMaster j.cls, unit := if j.cls = 3 then 33 else k, acts := [j.polder] }
     let fn := j.opc - 0x80
     let use := leAt (tget (fun _ => []) s.mcs.usage j.cls) fn 1
     let pub := s.mcsPublic j.cls fn
     let x := s.key (hdrSlot l)
     j.st = .queued → 0x80 ≤ j.opc → j.opc < 0x100 → s.mcsHeld j.cls j.opc = false → s.descIs e m 8 l →
     (j.cls ≤ 2 ∧ s.engineFor j.cls = some k ∧ s.headOf j.cls k = some e ∨
       j.cls = 3 ∧ s.halted j.polder = false ∧ s.tamperFrozen = false ∧ (j.granted = false → s.frozen 5 33 = false) ∧ s.freeCore = some k ∧ s.drbgReady (28 + k % 2) = true) →
     (s.custOn j.cls = false → ∃ t, exec (.customerOperation e) s = .next t ∧ (t.job e).gave 0x13 0 []) ∧
     (s.custOn j.cls = true → (if j.cls = 3 then (parseDig l).mbz l = true else (parseEng l).mbz l = true ∧ (parseEng l).hash < 6) → hdrHreq l < 3 →
       s.locked = false → s.lcs ≠ 4 →
       (if hdrSv l then (pub = true ∨ use ≠ 0) ∧ s.ownsKey j.polder (hdrSlot l) = true ∧ (pub = true ∨ Nat.land x.usage use = use) ∧ x.expired s = false
         else pub = true ∨ use = 0) →
       (bit (leAt l 76 2) 15 = true → s.canFill j.polder (leAt l 76 2 % 2 ^ 14) = true) →
       ∃ t, exec (.customerOperation e) s = .next t ∧ (t.job e).st = .running ∧ t.sqr j.cls k = some { work := e.val, fn := fn, pc := 0x8000 + fn } ∧
         t.mem = s.mem))

/-- Loading microcode (R257 to R264): a load is refused while one is under way; an image is checked, its signature by jobs of LE and DE, for which it
waits, and staged or ended with its failure; the staged load is written at its edge once the class's work has ended; CUST_EN is writable from the end
of the boot; an error in a control store latches bit 24. -/
def Obligations.MicrocodeLoads : Prop :=
  ∀ (s : State) (cls : Fin 5) (v : Bool) (m : Fin 5) (k : Fin 256) (region : Fin 3) (addr : BitVec 16) (ld : McsLoad), s.running = true →
    let busy := s.fld F.MCS_STATUS_BUSY = 1
    let len := s.fld F.MCS_LOAD_LEN_LEN
    let a := s.fld F.MCS_LOAD_ADDR_ADDR * 64
    let img := s.bytes a len
    let noref := s.fld F.EPC_STATUS_STATE = 0
    let c8 : Fin 8 := ⟨cls.val, by omega⟩
    (busy → exec .mcsLoad s = .next (s.setFld F.MCS_STATUS_CFG_ERR 1).repin) ∧
    (∀ c : Fin 8, busy ∨ 5 ≤ c.val → exec (.mcsClear c) s = .next (s.setFld F.MCS_STATUS_CFG_ERR 1).repin) ∧
    (¬busy → s.gives { mcls := 12, unit := 0 } a len .read → 0 < len →
      let can := s.hwCan 0 (mcsVerifiers img) = true
      (∀ st d, s.imageCheck1 len img = some (st, d) ∨ s.imageCheck1 len img = none ∧ can ∧ s.imageCheck2 img = some (st, d) →
        ∃ t, exec .mcsLoad s = .next t ∧ t.fld F.MCS_STATUS_DONE = 1 ∧ t.fld F.MCS_STATUS_RESULT = st % 256 ∧
          t.fld F.MCS_STATUS_BUSY = 0 ∧ t.mcs.staged = s.mcs.staged ∧ t.mcs.micro = s.mcs.micro) ∧
      (s.imageCheck1 len img = none → ¬can → ∃ t, exec .mcsLoad s = .next t ∧ t.fld F.MCS_STATUS_BUSY = 1 ∧ t.mcs.verifying = some (img, len)) ∧
      (s.imageCheck len img = none → can → ∃ t, exec .mcsLoad s = .next t ∧ t.fld F.MCS_STATUS_BUSY = 1 ∧
        t.mcs.staged = some { stagedImage img with edge := decide noref })) ∧
    (¬busy → ∃ t, exec (.mcsClear c8) s = .next t ∧ t.fld F.MCS_STATUS_BUSY = 1 ∧ t.mcs.staged = some { m := cls.val, kind := 3, edge := decide noref }) ∧
    (s.custWritable = false → exec (.custEnWrite v) s = .next s.repin) ∧
    (s.custWritable = true →
      (s.lcs = 1 ∨ s.lcs = 2 → ∃ t, exec (.custEnWrite true) s = .next t ∧ t.fld F.MCS_CTRL_CUST_EN = 1) ∧
      (s.lcs ≠ 1 → s.lcs ≠ 2 → exec (.custEnWrite true) s = .next (s.setFld F.MCS_STATUS_CFG_ERR 1).repin) ∧
      (noref → ∃ t, exec (.custEnWrite false) s = .next t ∧ t.fld F.MCS_CTRL_CUST_EN = 0) ∧
      (¬noref → ∃ t, exec (.custEnWrite false) s = .next t ∧ t.mcs.enOff = true ∧ t.regs = s.regs)) ∧
    (s.mcs.staged = some ld → s.counting = true → s.mcs.verifying = none → ∃ t, exec .microcodeStagingEdge s = .next t ∧ t.mcs.staged = some { ld with edge := true } ∧
      t.fld F.MCS_STATUS_GEN_PENDING = 1) ∧
    (s.mcs.staged = some ld → s.mcs.verifying = none → ld.edge = true → s.loadClear ld = true → ld.floor = false ∨ s.power.pwrFail = false → ld.m = cls.val →
      ∃ t, exec .microcodeApply s = .next t ∧ t.mcs.staged = none ∧ t.fld F.MCS_STATUS_DONE = 1 ∧ t.fld F.MCS_STATUS_RESULT = 0 ∧
        t.fld F.MCS_STATUS_BUSY = 0 ∧ (ld.kind = 1 → t.fld (F.MCS_STATE_PATCH_VALID cls) = 1) ∧
        (ld.kind = 2 → t.fld (F.MCS_STATE_CUST_VALID cls) = 1 ∧ t.fld (F.MCS_CUST_VERSION_VERSION cls) = ld.version % 2 ^ 32) ∧
        (ld.kind = 3 → t.fld (F.MCS_STATE_CUST_VALID cls) = 0)) ∧
    (∀ w, s.mcs.verifying = some (img, w) → s.hwCan 0 (mcsVerifiers img) = true → s.imageCheck2 img = none → noref →
      (stagedImage img).floor = true → s.power.pwrFail = true → ∃ t, exec .microcodeApply s = .next t ∧ t.mcs.verifying = none ∧
        t.mcs.staged = some { stagedImage img with edge := true }) ∧
    (s.mcs.staged = some ld → s.mcs.verifying = none → s.loadClear ld = false → exec .microcodeApply s = .next s.repin) ∧
    (k.val < unitCount m → ∃ t, exec (.controlStoreError m k region addr) s = .next t ∧ bit (t.fld F.FCL_STATUS_FAULT) 24 = true ∧
      (region = 1 → t.fld (F.MCS_STATE_PATCH_VALID m) = 0 ∧ m.val ∈ t.mcs.noPatch) ∧ (region = 2 → t.fld (F.MCS_STATE_CUST_VALID m) = 0) ∧
      (region = 0 → m.val ≤ 2 → bit (t.fld (F.ENG_ONLINE_ONLINE m)) k = false) ∧
      (region = 0 → m = 3 → t.mcs.cmpOff = true ∧ t.fld F.DIG_CORE_ONLINE_ONLINE = 0))

/-- A frame is checked in the order of R270 and R271, and the first check that fails drops and counts it under its reason; an ARP request for a local
address is answered to its sender's MAC address (R267, R268, R270, R271). -/
def Obligations.FramesAreChecked : Prop :=
  ∀ (s : State) (p : Fin 32) (ok : Bool) (l : List Byte), s.running = true →
    let into := fun (x : State) => exec (.frameReceive p ok l) s = .next x.settle.repin
    let link := bit (s.fld F.NET_STATUS_LINK) p = true
    let fits := ok = true ∧ 64 ≤ l.length + 4 ∧ l.length + 4 ≤ 9216
    let tag := beAt l 12 2 = 0x8100
    let ty := if tag then beAt l 16 2 else beAt l 12 2
    let vlan := if tag then some (beAt l 14 2 % 4096) else none
    let admitted := ∀ v, vlan = some v → s.vlanOk p v = true
    let b := l.drop (if tag then 18 else 14)
    let s1 := (s.incFld (F.NET_PORT_STAT_FRAMES p)).netKeys
    let good := link ∧ fits ∧ admitted
    (¬link → into s) ∧
    (link → ok = false → into (s.netDrop 0)) ∧
    (link → ok = true → l.length + 4 < 64 → into (s.netDrop 1)) ∧
    (link → ok = true → 9216 < l.length + 4 → into (s.netDrop 2)) ∧
    (link → fits → ty = 0x8808 → into (s.netDrop 3)) ∧
    (link → fits → ty ≠ 0x8808 → ty ∉ [0x0800, 0x86DD, 0x0806, 0x88F7] ∨ ¬admitted → into (s.netDrop 4)) ∧
    (good → ty = 0x0800 →
      (leAt b 0 1 ≠ 0x45 ∨ b.length < 20 ∨ beAt b 2 2 < 20 ∨ b.length < beAt b 2 2 ∨ fold16 3 (sum16 (b.take 20)) ≠ 0xFFFF → into (s1.netDrop 5)) ∧
      (leAt b 0 1 = 0x45 → 20 ≤ beAt b 2 2 → beAt b 2 2 ≤ b.length → fold16 3 (sum16 (b.take 20)) = 0xFFFF → beAt b 6 2 % 2 ^ 14 ≠ 0 → into (s1.netDrop 6))) ∧
    (good → ty = 0x86DD → leAt b 0 1 / 16 = 6 → 40 + beAt b 4 2 ≤ b.length →
      (leAt b 6 1 = 44 → into (s1.netDrop 6)) ∧ (leAt b 6 1 ≠ 44 → extHeader (leAt b 6 1) = true → into (s1.netDrop 7))) ∧
    (good → ty = 0x0806 →
      (s.localAddr p vlan false (beAt b 24 4) = none → into (s1.netDrop 8)) ∧
      (s.localAddr p vlan false (beAt b 24 4) ≠ none → beAt b 0 2 = 1 → beAt b 2 2 = 0x0800 → beAt b 6 2 = 1 → vlan = none →
        ∃ (x : State) (r : List Byte), into x ∧ x.out = .frame p r :: s1.out ∧ beAt r 0 6 = beAt b 8 6 ∧ beAt r 12 2 = 0x0806 ∧ beAt r 20 2 = 2 ∧
          bytesAt r 28 4 = bytesAt b 24 4 ∧ bytesAt r 38 4 = bytesAt b 14 4))

/-- A frame makes a session context only where it returns a valid cookie: a ClientHello with a cookie extension that verifies, or an ACK of a cookie
SYN-ACK (R276, R277, R279). -/
def Obligations.ContextsNeedACookie : Prop :=
  ∀ (s t : State) (p : Fin 32) (ok : Bool) (l : List Byte) (k : Nat), s.running = true → exec (.frameReceive p ok l) s = .next t →
    (s.ses k).st = 0 → (t.ses k).st ≠ 0 →
    let s1 := (s.incFld (F.NET_PORT_STAT_FRAMES p)).netKeys
    let f := (t.ses k).flow
    let lsn := (t.ses k).listener
    ok = true ∧ bit (s.fld F.NET_STATUS_LINK) p = true ∧ f.port = p.val ∧ s.fld (F.SES_LSN_A_V lsn) = 1 ∧
    ∃ o n, let d := (l.drop o).take n
      (∃ h c, parseHello d = some h ∧ h.ext 44 = some c ∧ s1.cookieOk (c.drop 2) f lsn = true) ∨ s1.synOk f (parseTcp d) ≠ none

/-- A datagram for a DTLS listener (R270, R275, R276, R279, R282): a source with no token gets no reply; one without a cookie gets a reply and leaves
no context; one with a valid cookie gets a context in HANDSHAKE and an item; a record of a known flow becomes an item of its session (behind the items
of limits that are due, R294). The timers of sessions (R292 to R294): a limit that falls due gives its item, and one not due nothing; the TCP
retransmission backs off and ends after MAXRETX with RST and a RESET item; a delayed acknowledgement goes out; the persist timer probes. -/
def Obligations.DatagramsAndSessionTimers : Prop :=
  (∀ (s : State) (p : Fin 32) (l : List Byte) (f : Flow) (a lsn k : Nat) (l4 : List Byte), s.running = true →
     bit (s.fld F.NET_STATUS_LINK) p = true → s.Brings p l f a l4 → f.proto = 17 →
     let into := fun (x : State) => exec (.frameReceive p true l) s = .next x.settle.repin
     let s1 := (s.incFld (F.NET_PORT_STAT_FRAMES p)).netKeys
     let s2 := s1.incFld F.SES_MISS_LOOKUP
     let data := (l4.take (beAt l4 4 2)).drop 8
     let e := s.rlFor false f.src
     let n := s.fld (F.SES_LSN_A_POLDER lsn)
     leAt data 0 1 / 32 ≠ 1 ∨ bit (leAt data 0 1) 4 = false →
     (s.byFlow f = none → s.listener a f.dport [0] = some lsn →
       (s.tokens e = 0 → into (s2.netDrop 10)) ∧
       (∀ h, s.tokens e ≠ 0 → parseHello data = some h → h.v13 = true →
         (∀ su, h.ext 44 = none → h.suites.find? (s.suiteOn lsn) = some su →
           ∃ (x : State) (r : List Byte), into x ∧ x.net.ses = s.net.ses ∧ x.tokens e = s.tokens e - 1 ∧ x.out = .frame p r :: s1.out ∧ beAt r 0 6 = f.mac) ∧
         (∀ d, h.ext 44 = some d → s1.cookieOk (d.drop 2) f lsn = false → into (s2.netDrop 11)) ∧
         (∀ d, h.ext 44 = some d → s1.cookieOk (d.drop 2) f lsn = true →
           (s.fld (F.PLD_QUOTA_SES_LIMIT n) ≤ s.sesOf n → into (s2.netDrop 12)) ∧
           (s.sesOf n < s.fld (F.PLD_QUOTA_SES_LIMIT n) → findFrom (fun i => decide ((s.ses i).st = 0)) s.sesMax 0 = some k →
             ∃ x : State, into x ∧ (x.ses k).st = 1 ∧ (x.ses k).polder = n ∧ (x.ses k).listener = lsn ∧ (x.ses k).flow = f ∧ x.tokens e = s.tokens e - 1 ∧
               (x.ses k).hsAt = (if s.fld (F.SES_LSN_B_HS_LIMIT lsn) = 0 then none else some (s.tick + s.fld (F.SES_LSN_B_HS_LIMIT lsn))) ∧
               ((s.prog n (s.fld (F.SES_LSN_A_PROG lsn))).loaded = true → (s.cellAlloc n (1 + cdiv (56 + h.record.length) 256)).isSome = true →
                 ∃ i, (x.ses k).chain = [i] ∧ i.kind = 1 ∧ i.first = true ∧ i.arrival = s.tick ∧ i.data = (d.drop 2).take 56 ++ h.record))))) ∧
     (∀ r hdr num, s.byFlow f = some k → (s.ses k).st ≠ 0 → ((s.ses k).st = 1 → s.dueAt (s.ses k).hsAt = false) → s.dueAt (s.ses k).idleAt = false →
       s.dueAt (s.ses k).expiry = false → s.dtlsRecord k data = (some (r, hdr, num), some []) →
       (s.prog (s.ses k).polder (s.fld (F.SES_LSN_A_PROG (s.ses k).listener))).loaded = true →
       (s.cellAlloc (s.ses k).polder (1 + cdiv r.length 256)).isSome = true →
       ∃ (x : State) (i : SesItem), into x ∧ (x.ses k).chain = (s.ses k).chain ++ [i] ∧ i.kind = 2 ∧ i.data = r ∧ i.hdrLen = hdr ∧ i.rseq = num ∧
         (x.ses k).flow.mac = f.mac)) ∧
  (∀ (s : State) (k : Fin 2097152), s.running = true →
     let x := s.ses k
     let t := x.tcp
     let into := fun (i : Instr) (y : State) => exec i s = .next y.settle.repin
     let max := max 1 (s.fld F.SES_TCP_RTO_MAX)
     let due := fun (o : Option Nat) => ∃ d, o = some d ∧ d ≤ s.tick
     (s.counting = true →
       (x.st = 1 → due x.hsAt → into (.handshakeLimitExpiry k) ((s.setSes k { x with hsAt := none }).addItem k { kind := 4, flow := x.flow })) ∧
       (x.st ≠ 0 → due x.idleAt → into (.idleLimitExpiry k) ((s.setSes k { x with idleAt := none }).addItem k { kind := 5, flow := x.flow })) ∧
       (x.st ≠ 0 → due x.expiry → into (.sessionTimerExpiry k) ((s.setSes k { x with expiry := none }).addItem k { kind := 3, flow := x.flow })) ∧
       (t.dead = false → due t.rtoAt →
         (t.retx < s.fld F.SES_TCP_MAXRETX → ∃ (y : State) (b : List Byte), into (.tcpRtoExpiry k) y ∧ y.out = .frame x.flow.port b :: s.out ∧
           let u := (y.ses k).tcp
           u.retx = t.retx + 1 ∧ u.rto = min (2 * t.rto) max ∧ u.rtoAt = some (s.tick + u.rto) ∧ u.cwnd = t.mss ∧ u.timed = none ∧ u.unacked = t.unacked) ∧
         (s.fld F.SES_TCP_MAXRETX ≤ t.retx → into (.tcpRtoExpiry k) ((s.tcpReset k).tcpOver k))) ∧
       (t.dead = false → due t.ackAt → ∃ (y : State) (b : List Byte), into (.delayedAckExpiry k) y ∧ y.out = .frame x.flow.port b :: s.out ∧
         (y.ses k).tcp = { t with ackAt := none, ackSegs := 0 }) ∧
       (t.dead = false → due t.persistAt → ∃ (y : State) (b : List Byte), into (.persistTimerExpiry k) y ∧ y.out = .frame x.flow.port b :: s.out ∧
         let u := (y.ses k).tcp
         u.persistN = t.persistN + 1 ∧ u.persistAt = some (s.tick + min (t.rto * 2 ^ (t.persistN + 1)) max))) ∧
     (s.counting = false → ∀ i ∈ [Instr.handshakeLimitExpiry k, .idleLimitExpiry k, .sessionTimerExpiry k, .tcpRtoExpiry k, .delayedAckExpiry k,
       .persistTimerExpiry k], into i s))

/-- The registers of the network endpoint (R266, R267, R269, R275, R277, R280, R291): a legal value is taken and a refused one sets CFG_ERR; a link
that drops latches bit 28 with its port; buckets fill up to BURST at the tick; the cookie key moves with its window, the one before is kept. DONE of a
session's item without actions, in a program other than the supplied one (R284 to R286): the working copy goes back, HOME is the core, the record's
ARRIVAL is LAST and arms the idle limit, its number enters REPLAY, and the item and its cells are gone; with DISCARD reason 14 counts it and REPLAY
stays. The supplied parsers (R327 to R333, R336, R337): a record's compact frames are taken one by one; a frame that runs past its record ends the
record with no ACK and is counted, one of the content class is counted and answered MALFORMED, a HEARTBEAT changes nothing; a row's columns are the
unit, the epoch from ARRIVAL and AGE, and SEQ; an ACK names the last row's SEQ and the status; a serial number of digits is the unit where it fits; an
APDU of IEC 60870-5-104 that is out of sequence closes the connection, one in sequence moves V(R) and is acknowledged at W, and STARTDT act and TESTFR
act are confirmed. -/
def Obligations.NetworkRegistersAndItems : Prop :=
  (∀ (s : State) (p : Fin 32) (k : Fin 256) (g : Fin 4) (r : Fin 3) (m : Bool) (v : Word), s.running = true →
     let n := v.toNat
     let lanes := laneCount (bits n 3 1)
     let link := s.fld F.NET_STATUS_LINK
     let legal := (speedWidths (bits n 6 4)).contains (bits n 3 1) = true ∧ p.val % lanes = 0 ∧ s.portOverlap p lanes = false
     let a := bits n 60 55
     let owned := s.fld (F.NET_ADDR_CFG_V a) = 1 ∧ s.fld (F.NET_ADDR_CFG_POLDER a) = bits n 54 47
     let cfgErr := fun (i : Instr) (f : Fld) => exec i s = .next (s.setFld f 1).repin
     (legal → ∃ t, exec (.netPortCfgWrite p v) s = .next t ∧ t.fld (F.NET_PORT_CFG_EN p) = n % 2 ∧ t.fld (F.NET_PORT_CFG_WIDTH p) = bits n 3 1 ∧
       t.fld (F.NET_PORT_CFG_SPEED p) = bits n 6 4 ∧ t.fld (F.NET_PORT_CFG_MTU p) = bits n 29 16 ∧
       (bit n 0 = false → bit (t.fld F.NET_STATUS_LINK) p = false)) ∧
     (¬legal → cfgErr (.netPortCfgWrite p v) F.NET_STATUS_CFG_ERR) ∧
     (s.fld (F.NET_PORT_CFG_EN p) = 1 → ∃ t, exec (.ethLinkUp p) s = .next t ∧ bit (t.fld F.NET_STATUS_LINK) p = true) ∧
     (bit link p = true → bit (s.fld F.FCL_STATUS_FAULT) 28 = false → s.fcl.recs.length < 256 → ∃ t r, exec (.ethLinkDown p) s = .next t ∧
       bit (t.fld F.NET_STATUS_LINK) p = false ∧ bit (t.fld F.FCL_STATUS_FAULT) 28 = true ∧ t.fcl.recs = s.fcl.recs ++ [r] ∧ r.data = dataSession 0 p 0) ∧
     (bit link p = false → exec (.ethLinkDown p) s = .next s.repin) ∧
     (tsorted none s.net.rl = true → ∃ t, exec .tokenBucketRefill s = .next t ∧ ∀ i e, (i, e) ∈ s.net.rl → i = 0 ∨ bit e.2.2 63 = true →
       t.tokens i = min (bits e.2.2 47 24) (s.tokens i + bits e.2.2 23 0)) ∧
     (s.net.cookieKey ≠ [] → s.net.cookieWin = s.window → exec .cookieKeyRotation s = .next s.repin) ∧
     (s.net.cookieWin + 1 = s.window → ∃ t, exec .cookieKeyRotation s = .next t ∧ t.net.cookieWin = s.window ∧ t.net.cookieOld = s.net.cookieKey ∧
       t.net.cookieKey = (s.draw 31 32).1) ∧
     ((∀ e ∈ s.net.ses, e.2.st = 0) → ∃ t, exec (.sesCtrlModeWrite m) s = .next t ∧ t.fld F.SES_CTRL_MODE = b2n m) ∧
     ((∃ e ∈ s.net.ses, e.2.st ≠ 0) → cfgErr (.sesCtrlModeWrite m) F.SES_ERR_CFG_ERR) ∧
     (r.val = 0 → bit n 63 = true → ¬owned → cfgErr (.sesLsnWrite k r v) F.SES_ERR_CFG_ERR) ∧
     (r.val = 0 → owned ∨ bit n 63 = false → ∃ t, exec (.sesLsnWrite k r v) s = .next t ∧ t.fld (F.SES_LSN_A_V k) = n / 2 ^ 63 ∧
       t.fld (F.SES_LSN_A_ADDR k) = a ∧ t.fld (F.SES_LSN_A_POLDER k) = bits n 54 47) ∧
     (r.val = 1 → ∃ t, exec (.sesLsnWrite k r v) s = .next t ∧ t.reg (F.SES_LSN_B_IDLE k).off = v) ∧
     (r.val = 2 → ∃ t, exec (.sesLsnWrite k r v) s = .next t ∧ t.fld (F.SES_LSN_C_SUITES k) = bits n 63 56 ∧
       t.fld (F.SES_LSN_C_PRIO_NEW k) = n % 8) ∧
     (bits n 31 24 = 0xFE → ∃ t, exec (.sesPrivgrpWrite g v) s = .next t ∧ t.fld (F.SES_PRIVGRP_CODEPOINT g) = bits n 31 16 ∧
       t.fld (F.SES_PRIVGRP_V g) = bits n 8 8) ∧
     (bits n 31 24 ≠ 0xFE → cfgErr (.sesPrivgrpWrite g v) F.SES_ERR_CFG_ERR)) ∧
  (∀ (s : State) (c : CoreId) (u k : Nat) (f : Frame) (r : SesRun), s.RunsTask c u f → (s.task u).kind = .session k → (s.ses k).cur = some r →
     s.suppliedRun u k f = none → s.limitsDue k = s →
     (s.core c).stepping = false → (s.ses k).proto = 0 → r.item.kind = 2 → r.item.rseq / 2 ^ 48 = (s.ses k).rseq / 2 ^ 48 → (s.ses k).st ≠ 0 →
     let x := s.ses k
     let a := r.cells.1
     let op := leNat (s.bytes (a + 128) 1)
     let i := r.item
     let idle := s.fld (F.SES_LSN_B_IDLE x.listener)
     let ends := fun (y : State) => exec (.done c) s = .next y.settle.repin ∧ (y.task u).state ≠ .running
     let back := s.bytes (a + 256 + cdiv i.data.length 256 * 256) s.progLen
     (op = 0 → ∃ y : State, ends y ∧ (y.ses k).cur = none ∧ (y.ses k).prog = back ∧ (y.ses k).home = c.val ∧ (y.ses k).last = i.arrival ∧
       (y.ses k).idleAt = (if idle = 0 then none else some (i.arrival + idle)) ∧ (y.ses k).fresh? (i.rseq % 2 ^ 48) = false ∧
       (y.ses k).chain = x.chain ∧ (∀ e ∈ y.net.cells, e.1 ≠ a)) ∧
     (op = 7 → leNat (s.bytes (a + 144) 1) = 0 → ∃ y : State, ends y ∧ (y.ses k).cur = none ∧ (y.ses k).prog = back ∧ (y.ses k).last = x.last ∧
       (y.ses k).replayTop = x.replayTop ∧ (y.ses k).replayMask = x.replayMask ∧
       y.fld (F.NET_DROP_COUNT 14) = (s.fld (F.NET_DROP_COUNT 14) + 1) % 2 ^ 64)) ∧
  (∀ (s : State) (p : Parse) (x : Table) (n i unit us st : Nat) (l acks : List Byte) (r : IecRun) (c : IecConf) (d : List (Fin 10)),
     let vt := leAt l 0 1
     let count := leAt l 8 2
     let tsd := bit (leAt l 1 1) 0
     let rowLen := leAt l 10 2
     let len := 12 + count * (rowLen + 4 * b2n tsd)
     let shape := (vt = 0x11 ∧ 1 ≤ count ∧ count ≤ 4096 ∨ vt = 0x12 ∧ count = 0) ∧ leAt l 1 1 < 4
     let schema := s.schemaTable p.polder (leAt l 2 2)
     let ack := ackFrame l st
     let ns := leAt l 2 2 / 2
     let y := r.apdu p c l
     let v := d.foldl (fun (a : Nat) b => 10 * a + b.val) 0
     (l ≠ [] → l.length < 12 ∨ l.length < len → s.compactFrames p (n + 1) l acks = (acks, s.bumpPdb p.pdb 0 1)) ∧
     (12 ≤ l.length → len ≤ l.length → ∃ a t, s.compactFrame p (l.take len) = (a, t) ∧
       s.compactFrames p (n + 1) l acks = t.compactFrames p n (l.drop len) (acks ++ if bit (leAt l 1 1) 1 then ackFrame l a else [])) ∧
     (¬shape ∨ schema = none ∨ (∃ t, schema = some t ∧ rowLen ≠ (s.table t).rowLen) → s.compactFrame p l = (0x12, s.bumpPdb p.pdb 8 1)) ∧
     (∀ t, shape → schema = some t → rowLen = (s.table t).rowLen →
       (vt = 0x12 → s.compactFrame p l = (0, s)) ∧
       (vt = 0x11 → s.compactFrame p l = s.appendRows p t count (frameColumns (s.table t) (s.meterId p) p.arrival (max 1 (s.fld F.EPC_TICK_US)) l))) ∧
     (i < count → 3 ≤ x.ncol →
       let col := fun (k : Nat) => (frameColumns x unit p.arrival us l).getD k []
       leAt (col 0) (4 * i) 4 = unit % 2 ^ 32 ∧ leAt (col 2) (4 * i) 4 = (leAt l 4 4 + i) % 2 ^ 32 ∧
         leAt (col 1) (8 * i) 8 = (if tsd then p.arrival - leAt l (12 + i * (rowLen + 4)) 4 * 1000 / us else p.arrival) % 2 ^ 64) ∧
     (ack.length = 12 ∧ leAt ack 0 1 = 0x13 ∧ leAt ack 1 1 = 0 ∧ leAt ack 2 2 = leAt l 2 2 ∧
       (leAt ack 4 4 + 1) % 2 ^ 32 = (leAt l 4 4 + count) % 2 ^ 32 ∧ leAt ack 8 2 = 0 ∧ leAt ack 10 2 = st % 2 ^ 16) ∧
     (d ≠ [] → unitOfSerial (d.map (fun b => BitVec.ofNat 8 (48 + b.val))) = if 1 ≤ v ∧ v ≤ 4294967295 then some v else none) ∧
     (leAt l 2 1 % 2 = 0 → bit (leAt l 4 1) 0 = true ∨ r.x.started = false ∨ ns ≠ r.x.vr → y.closing = true ∧ y.s = r.s.bumpPdb p.pdb 48 1) ∧
     (leAt l 2 1 % 2 = 0 → bit (leAt l 4 1) 0 = false → r.x.started = true → ns = r.x.vr →
       y.x.vr = (r.x.vr + 1) % 2 ^ 15 ∧ y.closing = r.closing ∧ (c.w ≤ r.x.rxCount + 1 → y.x.rxCount = 0 ∧ y.out = r.out ++ sFrame ((r.x.vr + 1) % 2 ^ 15)) ∧
       (r.x.rxCount + 1 < c.w → y.x.rxCount = r.x.rxCount + 1 ∧ y.out = r.out)) ∧
     (∀ q ∈ [(0x07, 0x0B), (0x43, 0x83)], r.apdu p c (uFrame q.1) = { r with out := r.out ++ uFrame q.2 }))

/-- ZCOMP, ZDECOMP and a lane's fault (R338 to R344): the stream of the input is written, of at most 16 MB, or OUTPUT_FULL is the status and nothing
is written; a stream is expanded, with OK_TRUNCATED, LEN_SHORT or MALFORMED as its end says; a faulty lane goes offline and its job runs once again.
-/
def Obligations.CompressionJobs : Prop :=
  ∀ (s : State) (e : SlotId) (lane : Fin 8) (cause : BitVec 8) (k f : Nat) (l : List Byte), s.running = true →
    let d := parseZe l
    let m : Master := { mcls := 7, unit := k, acts := [(s.job e).polder] }
    let a := s.bytes d.aAddr d.aLen
    let flush := parseFlush (s.bytes d.bAddr d.bLen)
    let given := s.gives m d.aAddr d.aLen .read
    let done := fun (i : Instr) (st : Nat) (out : List Byte) => ∃ t, exec i s = .next t ∧ (t.job e).gave st d.out out ∧ t.mem = s.mem
    (s.LaneTurn e 1 k l → d.aLen ≤ 16777216 → s.gives m d.bAddr d.bLen .read →
      (d.bLen % 4 ≠ 0 ∨ flushOk d.aLen 0 flush = false → done (.zcomp e) 0x12 []) ∧
      (d.bLen % 4 = 0 → flushOk d.aLen 0 flush = true → given →
        let out := dbsEncode (bit d.mode 0) flush a
        (out.length ≤ d.cap → s.gives m d.out out.length .write → out ≠ [] → done (.zcomp e) 0 out) ∧
        (d.cap < out.length → done (.zcomp e) 4 []))) ∧
    (s.LaneTurn e 2 k l → d.aLen ≤ 16777216 → given →
      let r := dbsDecode (d.aLen / 8 + 1) true {} a []
      (r.2.length ≤ d.cap → (r.1 = .malformed → done (.zdecomp e) 0x12 []) ∧ (r.1 = .short → done (.zdecomp e) 2 []) ∧
        (r.1 ≠ .malformed → r.1 ≠ .short → s.gives m d.out r.2.length .write →
          done (.zdecomp e) (if r.1 = .truncated then 1 else 0) r.2)) ∧
      (d.cap < r.2.length → done (.zdecomp e) 4 [])) ∧
    (∀ i ∈ [Instr.zcomp e, .zdecomp e], s.LaneTurn e (if i = .zcomp e then 1 else 2) k l → 16777216 < d.aLen → done i 0x17 []) ∧
    (s.jobOn 5 lane = some f → ∃ t, exec (.compressionLaneFault lane cause) s = .next t ∧ bit (t.fld F.FCL_STATUS_FAULT) 10 = true ∧
      bit (t.fld F.CMP_ONLINE_ONLINE) lane = false ∧ (s.fld F.CMP_FAULT_V = 0 → t.fld F.CMP_FAULT_V = 1 ∧ t.fld F.CMP_FAULT_LANE = lane.val) ∧
      (s.bringsReset 10 = false → ((s.job f).retried = false → (t.job f).st = .queued ∧ (t.job f).retried = true) ∧
        ((s.job f).retried = true → (t.job f).gave 0x16 0 [] ∧ (t.job f).detail = 0xFFFF)))

/-- The store controller's jobs (R301, R305 to R308, R310, R323 to R326): a table takes the lowest free ID; rows are appended at the tail of the open
segment, hidden until the job completes; a seal closes the segment and waits; a drop is staged; records and sealed columns are copied out; an import
adds a SEALED segment, once a context and an online hash core are there for its digests. A job accepted after the staging edge of its table's drop
ends with ABORTED; a table of another polder gives ACCESS_VIOLATION. The store's own work on segments (R310, R311, R313, R317 to R323): a segment
closes at its window's end; a closed one is sealed into fresh granules and published, waiting for granules where there are none, and for the lane and
the digest that it needs; a due one is copied to the CXL tier and ARCHIVED; one whose retention has run out is DROPPED; a staged drop takes effect at
its edge, and ends when nothing reads the table and what was accepted before it is done. -/
def Obligations.ColumnStoreJobsAndSegments : Prop :=
  (∀ (s : State) (e : SlotId) (opc t : Nat) (l : List Byte), s.StoreTurn e opc l →
     let n := (s.job e).polder
     let d := parseZe l
     let m := scMaster n
     let x := s.table t
     let a := s.bytes d.aAddr d.aLen
     let given := s.gives m d.aAddr d.aLen .read
     let gives := fun (k : Nat) => k ≤ d.cap ∧ s.gives m d.out k .write
     let mine := s.tableNamed n d = some t ∧ x.polder = n
     let noref := decide (s.fld F.EPC_STATUS_STATE = 0)
     let late := x.late (s.job e) = true
     let can := opc = 0x46 → s.hwDigest n = true
     let done := fun (u : State) (st : Nat) (out : List Byte) => (u.job e).gave st d.out out
     (opc = 0x40 → d.aLen ≤ 2112 → given → tblDescOk s n a = true → gives 2 → findFrom (fun k => !(s.table k).live) 4096 0 = some t →
       s.tablesLive.length < 4096 → (s.tablesLive.filter (fun y => decide (y.2.polder = n))).length < min 4096 (s.fld (F.COL_QUOTA_T_LIMIT n)) →
       ∃ u, exec (.tblCreate e) s = .next u ∧ u.table t = { polder := n, desc := a } ∧ done u 0 (leBytes 2 t) ∧ u.mem = s.mem) ∧
     (opc = 0x40 → d.aLen ≤ 2112 → 2 ≤ d.cap → given → tblDescOk s n a = false →
       ∃ u, exec (.tblCreate e) s = .next u ∧ done u 0x12 [] ∧ u.col = s.col) ∧
     (opc = 0x41 → mine →
       (x.staged = false → ∃ u, exec (.tblDrop e) s = .next u ∧ (u.job e).st = .running ∧ (u.job e).wait = some (t, 0) ∧
         u.table t = { x with staged := true, dropJob := some e.val, dropping := noref, noref := noref, stagedAt := s.tick, dropSeq := (s.job e).seq }) ∧
       (x.staged = true → ∃ u, exec (.tblDrop e) s = .next u ∧ done u 0x12 [] ∧ u.table t = x)) ∧
     (∀ g cols, opc = 0x42 → mine → ¬late → (∀ k, g.win = some k → (s.job e).since < (k + 1) * tblWindow x.desc) → x.full = false → x.taking = some g → x.seg g.num = some g → 1 ≤ d.count →
       d.count ≤ 4096 → x.ncol = 3 → d.aLen = 24 → g.rows + d.count ≤ 65536 → given → gives 8 →
       let size := fun (c : Nat) => d.count * natWidth (x.ty c)
       let place := fun (c : Nat) => g.plainAt x c g.rows
       (∀ c < 3, x.ty c ≠ 12 ∧ x.ty c ≠ 13 ∧ leAt a (8 * c) 8 < 2 ^ 48 ∧ s.gives m (leAt a (8 * c) 8) (size c) .read ∧
         s.gives m (place c) (size c) .write ∧ place c + size c ≤ 0x23C0000000) →
       place 0 + size 0 ≤ place 1 → place 1 + size 1 ≤ place 2 → cols = (List.range 3).map (fun c => s.bytes (leAt a (8 * c) 8) (size c)) →
       ∃ u, exec (.append e) s = .next u ∧ done u 0 (leBytes 4 g.num ++ leBytes 2 g.rows ++ [0, 0]) ∧
         (∀ c < 3, u.bytes (place c) (size c) = cols.getD c []) ∧
         (∀ b, (∀ c < 3, b < place c ∨ place c + size c ≤ b) → u.byte b = s.byte b) ∧
         ∃ h, (u.table t).seg g.num = some h ∧ h.rows = g.rows + d.count ∧ (e.val, g.rows, d.count) ∈ h.hidden ∧
           h.closing = decide (g.rows + d.count = 65536)) ∧
     (opc = 0x43 → mine → ¬late →
       (x.openSeg = none → ∃ u, exec (.tblSeal e) s = .next u ∧ done u 0 [] ∧ u.col = s.col) ∧
       (∀ g, x.openSeg = some g → ∃ u, exec (.tblSeal e) s = .next u ∧ (u.job e).st = .running ∧ (u.job e).wait = some (t, g.num + 1) ∧
         u.table t = x.setSeg { g with closing := true })) ∧
     (∀ g, opc = 0x44 → mine → x.seg d.segment = some g → gives (segRecord x g).length →
       ∃ u, exec (.segInfo e) s = .next u ∧ done u 0 (segRecord x g) ∧ u.mem = s.mem) ∧
     (∀ g, opc = 0x45 → mine → x.seg d.segment = some g → d.column < x.ncol → g.st = .closedS ∨ g.st = .archived →
       let col := g.enc.getD d.column ([], 0)
       0 < col.2 → s.gives m (col.1.headD 0) col.2 .read → gives col.2 →
       ∃ u, exec (.segExport e) s = .next u ∧ done u 0 (s.bytes (col.1.headD 0) col.2) ∧ u.mem = s.mem) ∧
     (opc = 0x46 → mine → ¬late → can → given → cutColumns x.ncol a = none ∨ x.openSeg.isSome = true →
       ∃ u, exec (.segImport e) s = .next u ∧ done u 0x12 [] ∧ u.col = s.col) ∧
     (∀ cols gs s1, opc = 0x46 → mine → ¬late → can → given → cutColumns x.ncol a = some cols → x.segs = [] → x.next = 0 →
       (∀ c < x.ncol, colValid (cols.getD c []) c (x.ty c) = true) → epochOk (cols.getD 1 []) = true →
       (∀ y ∈ cols, (parseCol y).seg = 0 ∧ (parseCol y).rows = (parseCol (cols.headD [])).rows ∧
         (parseCol y).emin = (parseCol (cols.headD [])).emin ∧ (parseCol y).emax = (parseCol (cols.headD [])).emax) →
       s.granAllocs false n (cols.map (fun y => cdiv y.length granBytes)) = some (gs, s1) →
       s.granHbm n + (cols.map (fun y => cdiv y.length granBytes)).sum ≤ s.fld (F.COL_QUOTA_H_LIMIT n) →
       (∀ p ∈ gs.zip cols, s.gives m (p.1.headD 0) p.2.length .write ∧ spaceOf s (p.1.headD 0) = .hbm) →
       ∃ u, exec (.segImport e) s = .next u ∧ done u 0 [] ∧ (u.table t).next = 1 ∧ ∃ g, (u.table t).segs = [g] ∧ g.num = 0 ∧ g.st = .closedS ∧
         g.rows = (parseCol (cols.headD [])).rows ∧ g.sealedAt = s.tick ∧ g.digests = cols.map sha3) ∧
     (opc = 0x47 → mine → gives (64 + x.desc.length) → ∃ u out, exec (.tblInfo e) s = .next u ∧ done u 0 out ∧ out.length = 64 + x.desc.length ∧
       out.drop 64 = x.desc ∧ leAt out 8 4 = x.next % 2 ^ 32 ∧ out[4]? = some (BitVec.ofNat 8 (b2n x.full + 2 * b2n x.dropping)) ∧ u.mem = s.mem) ∧
     (∀ i ∈ [(Instr.tblDrop e, 0x41), (.append e, 0x42), (.tblSeal e, 0x43), (.segInfo e, 0x44), (.segExport e, 0x45), (.segImport e, 0x46),
         (.tblInfo e, 0x47)], opc = i.2 → can →
       (mine → late → i.2 ∈ [0x42, 0x43, 0x46] → ∃ u, exec i.1 s = .next u ∧ done u 0x16 []) ∧
       (s.tableNamed n d = none → ∃ u, exec i.1 s = .next u ∧ done u 0x12 [] ∧ u.col = s.col) ∧
       (s.tableNamed n d = some t → x.polder ≠ n → ∃ u, exec i.1 s = .next u ∧ done u 0x0D [] ∧ u.col = s.col ∧
         bit (u.fld F.FCL_STATUS_FAULT) 15 = true)) ∧
     (opc = 0x46 → s.hwDigest n = false → exec (.segImport e) s = .next s.repin)) ∧
  (∀ (s : State) (t : Fin 4096) (g : Seg) (seg : BitVec 25), s.running = true →
     let x := s.table t
     let st := s.fld F.EPC_STATUS_STATE
     let same := fun (i : Instr) => exec i s = .next s.repin
     (x.openSeg = some g →
       (∀ k, g.win = some k → tblWindow x.desc ≠ 0 → st ≠ 0 → (k + 1) * tblWindow x.desc ≤ s.tick →
         s.appendBefore t ((k + 1) * tblWindow x.desc) = false →
         ∃ u, exec (.segmentWindowClose t) s = .next u ∧ u.table t = x.setSeg { g with closing := true }) ∧
       (∀ k, g.win = some k → s.tick < (k + 1) * tblWindow x.desc ∨ s.appendBefore t ((k + 1) * tblWindow x.desc) = true →
         same (.segmentWindowClose t)) ∧
       (g.closing = false → same (.segmentPublish t) ∧ same (.sealGranuleGrant t)) ∧
       (g.hidden ≠ [] ∨ s.hwDigest x.polder = false ∨ x.dbsCols ≠ [] ∧ s.engineFor 5 = none → same (.segmentPublish t)) ∧
       (let cols := (List.range x.ncol).map (s.sealColumn x g)
        let alloc := s.granAllocs false x.polder (cols.map (fun y => cdiv y.length granBytes))
        g.closing = true → g.hidden = [] → s.frozen 7 8 = false → s.hwDigest x.polder = true → (x.dbsCols ≠ [] → (s.engineFor 5).isSome = true) →
         (alloc = none → g.sealWait = false ∨ g.granted = true →
           ∃ u, exec (.segmentPublish t) s = .next u ∧ u.table t = x.setSeg { g with sealWait := true, granted := false } ∧ u.mem = s.mem) ∧
         (alloc.isSome = true → g.sealWait = true → ∃ u, exec (.sealGranuleGrant t) s = .next u ∧ u.table t = x.setSeg { g with granted := true }) ∧
         (∀ gs s1, alloc = some (gs, s1) → g.sealWait = false ∨ g.granted = true → s.readers t g.num = [] → s.lostBlocks x g = [] →
           (∀ p ∈ gs.zip cols, s.gives (scMaster x.polder) (p.1.headD 0) p.2.length .write ∧ spaceOf s (p.1.headD 0) = .hbm) →
           (∀ y ∈ x.segs, y.num = g.num → y = g) →
           ∃ u h, exec (.segmentPublish t) s = .next u ∧ (u.table t).seg g.num = some h ∧ h.st = .closedS ∧ h.plain = [] ∧ h.sealedAt = s.tick ∧
             h.enc = (gs.zip cols).map (fun p => (p.1, p.2.length)) ∧ h.digests = cols.map sha3 ∧ h.digest = sha3 (cols.map sha3).flatten ∧
             (∀ f, (s.job f).wait = some (t.val, g.num + 1) → (s.job f).opc = 0x43 → (s.job f).st = .running → (u.job f).gave 0 0 [])))) ∧
     (x.seg seg.toNat = some g → (∀ y ∈ x.segs, y.num = g.num → y = g) →
       (let due := (tblMigrate x.desc ≠ 0 ∧ g.sealedAt + tblMigrate x.desc ≤ s.tick) ∨
          (s.hbmFree < s.fld F.COL_LOWWM_GRANULES ∧ s.oldestSealed = some (t.val, seg.toNat))
        let alloc := s.granAllocs true x.polder (g.enc.map (fun c => c.1.length))
        g.st = .closedS → g.moving = false → s.frozen 7 8 = false →
         (¬due → same (.segmentMigration t seg)) ∧
         (due → alloc = none → ∃ u, exec (.segmentMigration t seg) s = .next u ∧ u.fld F.COL_STATUS_CXL_FULL = 1 ∧ u.table t = x) ∧
         (∀ gs s1, due → alloc = some (gs, s1) →
           s.granCxl x.polder + (g.enc.map (fun c => c.1.length)).sum ≤ s.fld (F.COL_QUOTA_X_LIMIT x.polder) →
           ∃ u, exec (.segmentMigration t seg) s = .next u ∧ u.table t = x.setSeg { g with moving := true, copy := gs })) ∧
       (∀ a b, g.st = .closedS → g.moving = true → s.frozen 7 8 = false → g.enc = [a] → g.copy = [b] → s.readers t g.num = [] →
         s.gives (scMaster x.polder) (a.1.headD 0) a.2 .read → s.gives (scMaster x.polder) (b.headD 0) a.2 .write →
         spaceOf s (b.headD 0) = .cxl → b.headD 0 + a.2 ≤ 0x140000000000 →
         ∃ u h, exec (.migrationPublish t seg) s = .next u ∧ (u.table t).seg g.num = some h ∧ h.st = .archived ∧ h.moving = false ∧
           h.enc = [(b, a.2)] ∧ u.bytes (b.headD 0) a.2 = s.bytes (a.1.headD 0) a.2 ∧ u.fld F.COL_STATUS_CXL_FULL = 0) ∧
       (g.st = .closedS ∨ g.st = .archived →
         (tblRetain x.desc ≠ 0 → g.sealedAt + tblRetain x.desc ≤ s.tick → ∃ u h, exec (.retentionDrop t seg) s = .next u ∧
           (u.table t).seg g.num = some h ∧ h.st = .dropped ∧ h.moving = false) ∧
         (tblRetain x.desc = 0 ∨ s.tick < g.sealedAt + tblRetain x.desc → same (.retentionDrop t seg)))) ∧
     (x.staged = true → x.dropping = false → x.noref = false →
       (x.stagedAt < s.tick → ∃ u, exec (.tblDropStaging t) s = .next u ∧ u.table t = { x with dropping := true }) ∧
       (s.tick ≤ x.stagedAt → same (.tblDropStaging t))) ∧
     (∀ e, x.dropping = true → (∀ y ∈ x.segs, (y.st = .opened → y.closing = false) ∧ y.moving = false) →
       (∀ r ∈ s.opu.runs, ∀ p ∈ r.2.pins, p.1 ≠ t.val) →
       (∀ f ∈ s.jobs.tab, f.2.st = .queued ∨ f.2.st = .frozen → f.2.cls = 5 → changesTable f.2.opc = true → x.late f.2 = true ∨ s.jobTable f.1 ≠ some t.val) →
       x.dropJob = some e → (s.job e).st = .running →
       ∃ u, exec (.tblDropComplete t) s = .next u ∧ u.table t = {} ∧ (u.job e).gave 0 0 []))

/-- The operators that pass rows on (R363, R367 to R370, R374, R381, R383, R390, R394, R395, R397): a block's rows, as they stood when its task was
dispatched, that meet the predicates, a filtered or projected batch, a sorted one, the rows of a join, rows of this device, a batch kept for its
receipt; SINK writes to the host's or the program's memory, SEAL issues its job, UDO enters its function. The task ends, its input entry is free, and
the batch is queued. EXCHANGE on its own device's rows (R375, R394): the rows whose hash selects this device are queued as a batch, the others wait
for their peers' grants; a peer whose marker does not come by TIMEOUT ends the run with TIMEOUT. -/
def Obligations.OperatorsPassRows : Prop :=
  (∀ (s : State) (w : WorkerId) (code : Nat) (v : OpEnv) (b : Batch), s.OpTurn w code v →
     let r := s.run v.e
     let params := v.o.params
     let p := parseAgg params
     let input := s.InputIs v b
     let emits := fun (i : Instr) (ob : Option Batch) => (∀ c, ob = some c → s.OutFits v c) → ∃ t, exec i s = .next t ∧ s.Emits t v ob
     let emitsRows := fun (i : Instr) (tys : List Nat) (rows : List (List Nat)) => rows.length ≤ 4096 →
       emits i (if rows = [] then none else some (denseBatch tys rows))
     (∀ g, code = 1 → v.o.ins = [] →
       let q := parseScan params
       let x := s.table q.table
       let blk := v.item % 16
       let n := rowsOf g.rows blk
       let vals := fun (c : Nat) => unpack (8 * natWidth (x.ty c)) n (leNat (s.bytes (g.plainAt x c (4096 * blk)) (n * natWidth (x.ty c))))
       let rows := (visibleRows g blk n).filter (fun i => selected q.preds (fun k =>
         let y := q.preds.getD k (parsePred [] 0); y.holds (x.ty y.column) ((vals y.column).getD i 0)))
       ((r.snaps.find? (fun y => decide (y.1 = 256 * v.item + v.op))).map (fun y => y.2)).or (x.seg (v.item / 16)) = some g → g.enc = [] → q.dense = false →
       (∀ c ∈ q.preds.map (·.column) ++ q.out, x.ty c ≠ 13 ∧ s.gives v.m (g.plainAt x c (4096 * blk)) (n * natWidth (x.ty c)) .read) →
       emits (.scan w) (if rows = [] then none else some
         { coord := (dataBlock q.table 0 g.num blk).toNat, rows := n, sel := rows, dense := false,
           cols := q.out.map (fun c => { src := c, ty := x.ty c, vals := vals c }) })) ∧
     (code = 2 → input → filterOk params (some b.types) = true → (∀ c ∈ b.cols, c.ty ≠ 13) →
       let kept := filterKeeps params b
       emits (.filter w) (if kept = [] then none else some
         { b with sel := kept.map (fun i => b.sel.getD i 0),
                  cols := b.cols.map (fun c => if b.dense then { c with vals := kept.map (fun i => c.vals.getD i 0) } else c) })) ∧
     (code = 3 → input → projOk params (some b.types) = true →
       emits (.project w) (if b.sel = [] then none else some { b with dense := true, cols := (parseProj params).map (projColumn b) })) ∧
     (code = 13 → input → v.out = 255 →
       let l := b.toDense.bytes
       (r.sinkUsed + l.length ≤ r.sinkCap → s.gives v.m (r.sinkAddr + r.sinkUsed) l.length .write → r.sinkAddr + r.sinkUsed + l.length ≤ 0x23C0000000 →
         ∃ t, exec (.sink w) s = .next t ∧ s.Emits t v none ∧ (t.run v.e).sinkUsed = r.sinkUsed + l.length ∧
           t.bytes (r.sinkAddr + r.sinkUsed) l.length = l) ∧
       (r.sinkCap < r.sinkUsed + l.length → ∃ t, exec (.sink w) s = .next t ∧ (t.run v.e).fail = some (4, 0))) ∧
     (∀ e, code = 17 → s.taskJobs v.t = [] → s.freeEntry = some e →
       ∃ t, exec (.seal w) s = .next t ∧ (t.job e).st = .queued ∧ (t.job e).cls = 5 ∧ (t.job e).opc = 0x43 ∧ (t.job e).inner = true ∧
         (t.job e).task = v.t ∧ (t.job e).subject = leAt params 0 2 ∧ t.task v.t = s.task v.t) ∧
     (code = 9 → input → s.TypesFit v b (aggTypesOk 9 params) → emitsRows (.sort w) b.types (sortRows (rowLt b.types p.key p.desc) b.rowList)) ∧
     (code = 5 → input → v.item < 256 → s.TypesFit v b (aggTypesOk 5 params) →
       let build := s.opRun v.e v.o.in1
       ∀ bo, opAt r.ops v.o.in1 = some bo →
       let q := parseAgg bo.params
       let pay := q.pay.map (fun c => (build.types.getD []).getD c 1)
       build.spilled = 0 → (∀ t, build.types = some t → p.key.map (fun c => b.types.getD c 0) = q.key.map (fun c => t.getD c 0)) →
       (probeTypes p.flags b.types pay).length ≤ 32 → v.o.in1 ≠ v.op →
       emitsRows (.hprobe w) (probeTypes p.flags b.types pay) (b.rowList.flatMap (fun row =>
         probeRows p.flags (q.pay.map (fun _ => 0)) row ((build.groups.filter (fun g => decide (g.key = keyOf b.types p.key row))).map (·.row))))) ∧
     (∀ row g, code = 6 → input → v.item < 256 → s.TypesFit v b (aggTypesOk 6 params) → b.rowList = [row] →
       asofFits p (some b.types) (s.opRun v.e v.op).types1 = true →
       let tys1 := (s.opRun v.e v.op).types1.getD ((p.key ++ [p.tcol]).map (fun c => b.types.getD c 0))
       let tty := b.types.getD p.tcol 0
       asofMatch tty p.p0 (elemInt tty (row.getD p.tcol 0))
         ((s.opRun v.e v.op).groups.filter (fun h => decide (h.key = keyOf b.types p.key row))) = some g →
       emitsRows (.asof w) (b.types ++ tys1.drop p.nkey ++ (if p.flags = 1 then [12] else []))
         [row ++ g.row ++ (if p.flags = 1 then [1] else [])]) ∧
     (∀ (k : Nat) (q : QEnt), code = 16 → input → q = s.entryAt v.e v.producer (v.item % 256) → k = 128 + cisSliceOf q.addr →
       (∀ x ∈ s.mcs.seqs, x.1 < 1024 ∨ x.1 ≠ 1024 + k ∧ x.2.work ≠ v.t) → (s.worker (k + 64)).task = none → s.mcsHeld 4 0x80 = false → s.mcsRuns 4 k = true → s.udoReady = true →
       s.TypesFit v b (fun _ => true) → ∃ t, exec (.udo w) s = .next t ∧
         t.sqr 4 k = some { work := v.t, fn := v.o.ufn, pc := 0x8000 + v.o.ufn } ∧ t.task v.t = s.task v.t) ∧
     (code = 15 → input → s.TypesFit v b (fun _ => true) →
       let q := parseRcpt params
       let x := s.opRun v.e v.op
       let l := b.rowList.flatMap (rowBytes b.types)
       (x.rows.length + b.sel.length ≤ q.rlim → x.areaUsed + l.length ≤ q.bufCap → s.gives v.m (q.buf + x.areaUsed) l.length .write →
         q.buf + x.areaUsed + l.length ≤ 0x23C0000000 → b.sel ≠ [] → s.OutFits v b →
         ∃ t, exec (.receipt w) s = .next t ∧ s.Emits t v (some b) ∧ (t.opRun v.e v.op).rows = x.rows ++ b.rowList ∧
           t.bytes (q.buf + x.areaUsed) l.length = l) ∧
       (q.rlim < x.rows.length + b.sel.length ∨ q.bufCap < x.areaUsed + l.length →
         ∃ t, exec (.receipt w) s = .next t ∧ (t.run v.e).fail = some (4, 0)))) ∧
  (∀ (s : State) (w : WorkerId) (v : OpEnv) (b : Batch) (e : SlotId) (op : Fin 255) (o : OpDef) (at_ : Nat), s.running = true →
     (s.opTask w 12 = some v → s.InputIs v b →
       let p := parseEx v.o.params
       let mine := b.rowList.filter (fun r => decide ((hashOf b.types p.key (keyOf b.types p.key r) % 2 ^ 32) * p.n / 2 ^ 32 = p.self))
       s.TypesFit v b (fun t => p.key.all (fun c => decide (c < t.length)) && decide (keyWidth t p.key ≤ 32)) →
       (∀ t, (s.opRun v.e v.op).types1 = some t → t = b.types) → v.item < 256 → mine ≠ [] → s.OutFits v (denseBatch b.types mine) →
       ∃ t, exec (.exchange w) s = .next t ∧ (t.task v.t).state ≠ .running ∧ (t.entryAt v.e v.op v.out).st = 2 ∧
         v.out ∈ (t.opRun v.e v.op).ready ∧
         t.bytes (s.entryAt v.e v.op v.out).addr (denseBatch b.types mine).bytes.length = (denseBatch b.types mine).bytes) ∧
     (opAt (s.run e).ops op = some o → o.code = 12 → s.runLive e = true → (s.opRun e op).emitted = false → (s.opRun e op).inEndedAt = some at_ →
       (at_ + (parseEx o.params).timeout ≤ s.tick → (∃ l ∈ (parseEx o.params).peers, l ∉ (s.opRun e op).peersEnded) →
         ∃ t, exec (.exchangeTimeout e op) s = .next t ∧ (t.run e).fail = some (5, 0)) ∧
       (s.tick < at_ + (parseEx o.params).timeout → exec (.exchangeTimeout e op) s = .next s.repin)))

/-- The operators that collect (R379 to R392): a build table takes every row, a group, window or profile takes a row into its accumulators or is
begun, reference rows are kept by key and time, runs are stored for the merge, the first rows are kept. The task ends and its input entry is free. The
end of an operator (R355, R378, R388): rows that wait enter its queue as entries free up; with its input ended and everything emitted it has ended; a
WINDOW whose closing edges have come gives up the groups of those windows and takes rows of none of them any more. -/
def Obligations.OperatorsCollectAndEnd : Prop :=
  (∀ (s : State) (w : WorkerId) (code : Nat) (v : OpEnv) (b : Batch) (row : List Nat), s.OpTurn w code v → s.InputIs v b →
     let n := (s.run v.e).polder
     let p := parseAgg v.o.params
     let x := s.opRun v.e v.op
     let tys := b.types
     let kv := keyOf tys p.key row
     let h := hashOf tys p.key kv
     let fit := s.TypesFit v b (aggTypesOk code v.o.params)
     let gives := fun (i : Instr) (q : OpRun → Prop) => ∃ t, exec i s = .next t ∧ s.Emits t v none ∧ q (t.opRun v.e v.op)
     let same := fun (win : Nat) (g : Grp) => decide (g.key = kv) && decide (g.win = win)
     let takesRow := fun (i : Instr) (win size : Nat) (take : Grp → Grp) =>
       (x.groups.any (same win) = true → gives i (fun y => y.groups = x.groups.map (fun g => if same win g then take g else g))) ∧
       (x.groups.any (same win) = false → x.ext.any (same win) = false → x.area = [] →
         (s.growTable n v.e v.op (bits h 63 60) ((residentIn x.groups 0 (bits h 63 60) + 1) * size)).isSome = true →
         gives i (fun y => y.groups = x.groups ++ [take { key := kv, win := win, hash := h }]))
     (code = 4 → fit → p.flags = 1 → x.spilled = 0 →
       let mk := fun (r : List Nat) =>
         let k := keyOf tys p.key r
         ({ key := k, hash := hashOf tys p.key k, row := p.pay.map (fun c => r.getD c 0) } : Grp)
       let all := x.groups ++ b.rowList.map mk
       (s.growAll v all 0 (buildSize tys p)).isSome = true → gives (.hbuild w) (fun y => y.groups = all ∧ y.rowsIn = x.rowsIn + b.sel.length)) ∧
     (code = 7 → fit → b.rowList = [row] → takesRow (.group w) 0 (groupSize tys p false) (groupTake tys p row)) ∧
     (∀ k, code = 8 → fit → b.rowList = [row] → 0 ≤ elemInt (tys.getD p.tcol 0) (row.getD p.tcol 0) →
       windowsOf p (elemInt (tys.getD p.tcol 0) (row.getD p.tcol 0)).toNat = [k] →
       (max x.closedTo (s.windowsDue p) ≤ k → takesRow (.window w) k (groupSize tys p true) (groupTake tys p row)) ∧
       (k < max x.closedTo (s.windowsDue p) → gives (.window w) (fun y => y.groups = x.groups ∧ y.dropped = x.dropped + 1))) ∧
     (code = 14 → fit → b.rowList = [row] → p.pay = [] →
       let pos := (elemInt (tys.getD p.tcol 0) (row.getD p.tcol 0) - p.p1).fdiv p.p0
       (0 ≤ pos → pos < p.limit → 0 < p.aux → takesRow (.psad w) 0 (psadSize tys p) (psadTake tys p pos.toNat row)) ∧
       (pos < 0 ∨ (p.limit : Int) ≤ pos → gives (.psad w) (fun y => y.groups = x.groups ∧ y.dropped = x.dropped + 1))) ∧
     (code = 6 → 256 ≤ v.item → b.rowList = [row] → x.types1 = some tys → asofFits p x.types (some tys) = true →
       let key := keyOf tys (List.range p.nkey) row
       let g : Grp := { key := key, hash := hashOf tys (List.range p.nkey) key, row := row.drop p.nkey }
       (∀ y ∈ x.groups, y.key = key → y.row.headD 0 ≠ (row.drop p.nkey).headD 0) →
       (s.growAll v (x.groups ++ [g]) 0 (refSize tys p.nkey)).isSome = true → gives (.asof w) (fun y => y.groups = x.groups ++ [g])) ∧
     (code = 10 → fit → b.rowList = [row] →
       let l := rowBytes tys row
       (2 * (x.areaUsed + l.length) ≤ p.cap → s.gives v.m (p.area + x.areaUsed) l.length .write →
         gives (.merge w) (fun y => y.area = x.area ++ [row] ∧ y.areaUsed = x.areaUsed + l.length)) ∧
       (p.cap < 2 * (x.areaUsed + l.length) → ∃ t, exec (.merge w) s = .next t ∧ (t.run v.e).fail = some (4, 0))) ∧
     (code = 11 → fit → gives (.topk w) (fun y =>
       y.rows = (b.rowList.foldl (fun a r => insertRow (rowLt tys p.key p.desc) r a) x.rows).take p.limit))) ∧
  (∀ (s : State) (e : SlotId) (op : Fin 255) (o : OpDef), s.running = true → opAt (s.run e).ops op = some o → s.runLive e = true →
     (∀ r ∈ s.opu.runs, ∀ q ∈ r.2.ops, q.code ≠ 12) →
     let x := s.opRun e op
     (x.emitted = false → s.tamperFrozen = false →
       (∀ rows rest k, x.out = rows :: rest → (needsFinal o.code = true → x.ended = true ∨ s.inputEnded e op = false) → x.freeEnt = some k →
         (denseBatch x.outTypes rows).bytes.length ≤ o.qentry → rest ≠ [] →
         ∃ t, exec (.operatorFinalEmit e op) s = .next t ∧ (t.entryAt e op k).st = 2 ∧ (t.opRun e op).ready = x.ready ++ [k] ∧
           (t.opRun e op).out = rest ∧ (t.opRun e op).rowsOut = x.rowsOut + rows.length) ∧
       (x.out = [] → x.ended = true → s.inputEnded e op = true → needsFinal o.code = true → statsAddr o = 0 →
         ∃ t, exec (.operatorFinalEmit e op) s = .next t ∧ (t.opRun e op).emitted = true) ∧
       (o.code = 11 → x.out = [] → x.ended = false → s.inputEnded e op = true → x.rows = [] → statsAddr o = 0 →
         ∃ t, exec (.operatorFinalEmit e op) s = .next t ∧ (t.opRun e op).emitted = true)) ∧
     (let due := s.windowsDue (parseAgg o.params)
      (o.code ≠ 8 ∨ due ≤ x.closedTo → exec (.windowClose e op) s = .next s.repin) ∧
      (o.code = 8 → x.closedTo < due →
       (x.types = none → ∃ t, exec (.windowClose e op) s = .next t ∧ (t.opRun e op).closedTo = due ∧ (t.opRun e op).groups = x.groups) ∧
       (x.types.isSome = true → x.area = [] → s.partsFit (s.run e).polder x.gran [] (groupSize (x.types.getD []) (parseAgg o.params) true) = true →
         ∃ t, exec (.windowClose e op) s = .next t ∧ (t.opRun e op).closedTo = due ∧
           (t.opRun e op).groups = x.groups.filter (fun g => decide (due ≤ g.win)) ∧
           ((t.opRun e op).out = [] → x.out = [] ∧ ∀ g ∈ x.groups ++ x.ext, due ≤ g.win)))))

/-- Pipelines and their runs (R67, R68, R149, R348 to R351, R354 to R356, R362, R366): OP DEF, OP RUN, which starts a run, refuses it, or waits, and
OP STOP; a waiting run starts when its queues can be taken; tasks are created for blocks and batches once an output entry is reserved; a run completes
with its status when its tasks have ended. A fault of an operator unit (R366), and the partition modes of the Cistern (R371 to R373): the unit's
source latches, the first fault is recorded, the unit goes offline, and its task runs again once; a staged mode tightens at the edge and applies once
every partition fits. -/
def Obligations.PipelinesAndUnits : Prop :=
  (∀ (s : State) (c : CoreId) (t : Nat) (f : Frame) (pipe : Fin 16) (ra : Reg) (opc : BitVec 6) (ev : Fin 32) (e : SlotId) (op : Fin 255) (o : OpDef),
     (s.RunsTask c t f →
       let x := s.task t
       let y := s.pipe x.polder x.program pipe
       let a := (f.gr ra).toNat
       let l := s.bytes a 32
       let par := s.bytes (leAt l 8 8) (leAt l 16 4)
       let raised := fun (i : Instr) (cause : Nat) (xaddr : Word) => f.xhnd ≠ 0 → f.xact = false → exec i s = .next (s.entered c f cause xaddr)
       (pipe ≠ 0 → 1 ≤ opc.toNat → opc.toNat ≤ 0x11 → a % 32 = 0 → s.plainAt c a → s.elementOk c .read a 32 → opDefOk l opc.toNat = true →
         leAt l 16 4 ≤ 65536 → (leAt l 16 4 = 0 ∨ s.elementOk c .read (leAt l 8 8) (leAt l 16 4)) →
         let d : OpDef := { code := opc.toNat, index := leAt l 0 1, bytes := l, params := par }
         ∃ u, exec (.opDef c pipe ra opc) s = .next u ∧ (u.task t).frame = f.next ∧
           (y.running = none → u.pipe x.polder x.program pipe = { y with ops := putOp y.ops d }) ∧
           (y.running ≠ none → u.pipe x.polder x.program pipe = { y with staged := putOp y.staged d })) ∧
       (pipe = 0 ∨ opc = 0 ∨ 0x11 < opc.toNat → raised (.opDef c pipe ra opc) 4 0) ∧
       (pipe = 0 ∨ ev = 31 → raised (.opRun c pipe ra ev) 4 0) ∧ (pipe = 0 → raised (.opStop c pipe) 4 0) ∧
       (pipe ≠ 0 → ev ≠ 31 → a % 64 = 0 → s.halted x.polder = true → exec (.opRun c pipe ra ev) s = .next s.repin) ∧
       (∀ k r, pipe ≠ 0 → ev ≠ 31 → a % 64 = 0 → s.halted x.polder = false → s.freeEntry = some k → s.elementOk c .read a 64 → s.elementOk c .write a 8 → y.running = some r →
         ∃ u, exec (.opRun c pipe ra ev) s = .next u ∧ (u.job k).st = .queued ∧ (u.job k).bytes = s.bytes a 64 ∧ (u.task t).frame = f.next ∧
           u.pipe x.polder x.program pipe = { y with queued := y.queued ++ [k] }) ∧
       (∀ k, pipe ≠ 0 → ev ≠ 31 → a % 64 = 0 → s.halted x.polder = false → s.freeEntry = some k → s.elementOk c .read a 64 → s.elementOk c .write a 8 →
         y.running = none →
         let j := s.bytes a 64
         let ops := y.staged.foldl putOp y.ops
         let needs := (List.range 16).map (sliceNeed ops)
         let shape := hdrOk j = true ∧ hdrSv j = false ∧ hdrHreq j = 0 ∧ leAt j 32 8 < 2 ^ 48 ∧ zeroAt j 44 63 = true
         (¬shape ∧ hdrHreq j < 3 ∨ graphOk ops = false ∧ hdrHreq j < 3 →
           ∃ u, exec (.opRun c pipe ra ev) s = .next u ∧ (u.job k).gave 0x12 0 [] ∧ (u.task t).frame = f.next) ∧
         (shape → graphOk ops = true → (∀ q ∈ ops, q.code = 1 → let n := leAt q.params 0 2
             n < 4096 ∧ (s.table n).live = true ∧ (s.table n).polder = x.polder ∧ (s.table n).edgePast s.tick = false) →
           (∀ q ∈ ops, opParOk s ops q = true) → entriesOk s ops = true → (∀ q ∈ ops, q.code ≠ 12 ∧ (q.code = 16 → s.udoReady = true)) →
           needs.sum ≤ s.fld (F.PLD_QUOTA_CIS_LIMIT x.polder) → (∀ q ∈ needs, q ≤ cisSize s.cisMode 1) →
           ∃ u, exec (.opRun c pipe ra ev) s = .next u ∧ (u.job k).st = .running ∧ (u.run k).ops = ops ∧ (u.run k).polder = x.polder ∧
             (u.run k).fail = none ∧ (u.pipe x.polder x.program pipe).running = some k ∧ (u.task t).frame = f.next)) ∧
       (pipe ≠ 0 → y.running = none → exec (.opStop c pipe) s = .next (s.wrote c f.next)) ∧
       (∀ r, pipe ≠ 0 → y.running = some r → (s.run r).ops ≠ [] → (s.run r).fail = none → t ∉ s.runTasks r →
         ∃ u, exec (.opStop c pipe) s = .next u ∧ (u.run r).fail = some (0x16, 0) ∧ (u.run r).blocks = [] ∧ (u.task t).frame = f.next)) ∧
     (s.running = true → (∀ r ∈ s.opu.runs, ∀ q ∈ r.2.ops, q.code ≠ 12 ∧ q.code ≠ 17) →
       let r := s.run e
       let x := s.opRun e op
       (r.ops ≠ [] → r.waiting = true → r.fail = none →
         ((s.takeQueues e (r.ops.filter (fun q => hasBatches q.code))).isSome = true → ∃ u, exec (.runQueueGrant e) s = .next u ∧ (u.run e).waiting = false) ∧
         (s.takeQueues e (r.ops.filter (fun q => hasBatches q.code)) = none → exec (.runQueueGrant e) s = .next s.repin)) ∧
       (∀ b k u, opAt r.ops op = some o → o.code = 1 → s.runLive e = true → r.blocks.find? (fun y => decide (y.op = op.val)) = some b → o.index = op.val →
         (x.freeEnt = some k → k < x.q.length → s.sched.hwWait = [] → s.freeSlotFor r.polder true = some u →
           ∃ v, exec (.producerTaskCreate e op) s = .next v ∧ (v.run e).blocks = r.blocks.erase b ∧ (v.entryAt e op k).st = 1 ∧
             (v.task u).state = .ready ∧ (v.task u).kind = .operator e op (b.seg * 16 + b.blk) k ∧ (v.task u).cls = 1) ∧
         (x.freeEnt = none → ∃ v, exec (.producerTaskCreate e op) s = .next v ∧ (v.opRun e op).full = true ∧ (v.run e).blocks = r.blocks)) ∧
       (∀ p k plus out u, opAt r.ops op = some o → s.runLive e = true → o.ins ≠ [] → o.index = op.val → s.nextInput e o = some (p, k, plus) → p ≠ op.val →
         k < (s.opRun e p).q.length → (if hasBatches o.code then x.freeEnt = some out ∧ out < x.q.length else out = 255) → s.sched.hwWait = [] →
         s.freeSlotFor r.polder true = some u →
         ∃ v, exec (.consumerTaskCreate e op) s = .next v ∧ (v.entryAt e p k).st = 3 ∧ k ∉ (v.opRun e p).ready ∧ (v.task u).state = .ready ∧
           (v.task u).kind = .operator e op (plus + k) out ∧ (hasBatches o.code = true → (v.entryAt e op out).st = 1)) ∧
       (∀ st detail, r.ops ≠ [] → s.runTasks e = [] → r.fail = some (st, detail) → (s.pipe r.polder r.program r.pipe).queued = [] →
         ∃ v, exec (.runComplete e) s = .next v ∧ (v.job e).gave st 0 [] ∧ (v.job e).detail = detail ∧ (v.run e) = {} ∧
           (v.pipe r.polder r.program r.pipe).running = none) ∧
       (r.ops ≠ [] → s.runTasks e = [] → s.runLive e = true → (∀ q ∈ r.ops, s.opDone e (r.ops.length + 1) q.index = true) →
         (s.pipe r.polder r.program r.pipe).queued = [] → ∃ v, exec (.runComplete e) s = .next v ∧ (v.job e).ended 0 [] ∧
           (v.job e).outlen = r.sinkUsed ∧ (v.job e).detail = min r.skipped 0xFFFE ∧ (v.run e) = {}) ∧
       (s.runTasks e ≠ [] → exec (.runComplete e) s = .next s.repin))) ∧
  (∀ (s : State) (w : WorkerId) (cause : BitVec 8) (begun : Bool) (mode : Fin 4) (t : Nat), s.running = true →
     let x := s.task t
     let src := 10 + workerClass w
     let cur := s.fld F.OPU_CIS_STATUS_CUR
     let pend := s.fld F.OPU_CIS_STATUS_GEN_PENDING
     (64 ≤ w.val → s.unitWork 4 (w.val - 64) = some t → ∃ u, exec (.operatorUnitFault w cause begun) s = .next u ∧
       bit (u.fld F.FCL_STATUS_FAULT) src = true ∧ bit (u.fld (F.PMP_WOFF_OFF (w / 64))) (w % 64) = true ∧
       (s.fld F.OPU_FAULT_V = 0 → u.fld F.OPU_FAULT_V = 1 ∧ u.fld F.OPU_FAULT_CAUSE = cause.toNat ∧ u.fld F.OPU_FAULT_WORKER = w.val) ∧
       (∀ e op i out h, x.kind = .operator e op i out → (s.run e).fail = none → x.retried = false → begun = false → s.bringsReset src = false →
         s.holder t = some h → (u.task t).state = .ready ∧ (u.task t).retried = true ∧ (u.worker h).task = none)) ∧
     (w.val < 64 → exec (.operatorUnitFault w cause begun) s = .next s.repin) ∧
     (∃ u, exec (.opuCisModeWrite mode) s = .next u ∧ u.fld F.OPU_CIS_MODE_MODE = mode.val ∧ u.fld F.OPU_CIS_STATUS_CUR = cur ∧
       u.fld F.OPU_CIS_STATUS_GEN_PENDING = (if mode.val = cur then 0 else 1)) ∧
     (pend = 1 → s.counting = true → ∃ u, exec .cisModeStagingEdge s = .next u ∧ u.opu.limits = some (s.fld F.OPU_CIS_MODE_MODE)) ∧
     (pend = 1 → s.opu.limits = some (s.fld F.OPU_CIS_MODE_MODE) →
       let m := s.fld F.OPU_CIS_MODE_MODE
       ((∀ p < 3, cisSize cur p ≤ cisSize m p ∨ ∀ k < 16, s.cisUsed p k ≤ cisSize m p) →
         ∃ u, exec .cisModeApply s = .next u ∧ u.fld F.OPU_CIS_STATUS_CUR = m ∧ u.fld F.OPU_CIS_STATUS_GEN_PENDING = 0 ∧ u.opu.limits = none) ∧
       ((∃ p < 3, cisSize m p < cisSize cur p ∧ ∃ k < 16, cisSize m p < s.cisUsed p k) → exec .cisModeApply s = .next s.repin)))

/-- A master that acts for a polder reaches an address only through exactly one region that matches and allows it, a global one or one of a polder it
acts for; but a core in U reaches its own scratch window. It never writes the code of its polder's programs (R404 to R407). -/
def Obligations.AccessesNeedARegion : Prop :=
  ∀ (s : State) (m : Master) (a : Nat) (d : Dir), m.priv = false → s.dike1 m a d false = .grant →
    (m.mcls = 0 ∧ spaceOf s a = .scratch m.unit ∧ d ≠ .fetch) ∨
    (spaceOf s a ≠ .unmapped ∧ spaceOf s a ≠ .arena ∧ (spaceOf s a = .regs → m.mcls = 11) ∧ (∀ c, spaceOf s a = .firmware c → m.mcls = 11) ∧
      (d = .fetch → m.mcls = 0 ∧ inPieces m.code a = true) ∧
      (d = .write → spaceOf s a = .hbm → ∀ n ∈ m.acts, s.inCode n a = false) ∧
      ∃ r, (rgnsFor s.dike.force m).filter (fun r => r.holds a) = [r] ∧ r.allows m d = true ∧
        ∃ i, i < 64 ∧ (rgnAt s.dike.force (0x401000 + 16 * i) i = some r ∨
          ∃ n ∈ m.acts, rgnAt s.dike.force (0x410000 + 0x400 * n + 16 * i) (2 ^ 15 + i) = some r))

/-- A load of a core in U that Dike refuses is not performed (R73, R410, R412, R413): the core is frozen at the instruction, its task stays RUNNING
with its frame, bit 15 is latched, the refusal counted, and a precise notice with the refused part queued. An instruction that its core in U cannot
fetch is not performed (R39, R47, R69, R73, R407, R538). Where Dike refuses the fetch, as it does for REASON 5 outside the code of the task's program,
the core is frozen at the instruction with a precise notice, FETCH set; a word with an uncorrectable error raises DATA_ERROR with the instruction's
own address; a word that is no instruction's, or has a field not 0 that must be, raises ILLEGAL_INSTR. DKE_THAW, DKE_NTC_POP, COMMIT and its tick edge
(R410, R413, R414, R416, R417): a thaw releases the master and ends its work as R410 says; a valid set is pended, or in force at once in NOREF and
LOST; an invalid one is refused; the edge begins the next generation. -/
def Obligations.RefusalsFreezeAndThaw : Prop :=
  (∀ (s : State) (c : CoreId) (t : Nat) (f : Frame) (rd ra : Reg) (sz : Fin 4) (sx : Bool) (off : BitVec 12) (lo hi reason region : Nat),
     s.RunsTask c t f → (s.task t).state = .running →
     let a := (f.gr ra + off.signExtend 64).toNat
     let n := 2 ^ sz.val
     a % n = 0 → ¬(sx = true ∧ sz = 3) → s.plainAt c a → s.dikeCheck (s.coreMaster c) a n .read false = some (lo, hi, reason, region) →
     (∀ x ∈ s.dike.notices, ¬(x.mcls = 0 ∧ x.unit = c.val)) →
     ∃ u x, exec (.ld c rd ra sz sx off) s = .next u ∧ u.frozen 0 c = true ∧ u.curTask c = some t ∧ (u.task t).state = .running ∧ (u.task t).frame = f ∧
       u.mem = s.mem ∧ bit (u.fld F.FCL_STATUS_FAULT) 15 = true ∧ u.fld F.DKE_REFUSED_COUNT = (s.fld F.DKE_REFUSED_COUNT + 1) % 2 ^ 64 ∧
       u.dike.notices = s.dike.notices ++ [x] ∧ x.data = dataAddress lo ∧ x.endA = hi ∧ x.mcls = 0 ∧ x.unit = c.val ∧ x.precise = true ∧
       x.write = false ∧ x.fetch = false ∧ x.frozen = true ∧ x.reason = reason ∧ x.region = region ∧ x.count = 0 ∧ x.gen = s.fld F.DKE_GEN_STATUS_CUR) ∧
  (∀ (s : State) (c : CoreId) (t w : Nat) (f : Frame) (rd ra rb : Reg) (px : Prd) (sz : Fin 4) (o12 : BitVec 12) (o24 : BitVec 24) (num : BitVec 15),
     s.running = true → s.frame c = some f → s.curTask c = some t → (s.task t).state = .running → (s.core c).stepping = false →
     let a := f.pc.toNat
     let p := s.prog (s.task t).polder (s.task t).program
     let check := s.dikeCheck (s.coreMaster c) a 4 .fetch false
     let is := [Instr.add c rd ra rb, .cmpeq c px ra rb, .ld c rd ra sz false o12, .st c rd ra sz o12, .amoAdd c rd ra rb true, .j c o24, .jr c ra,
                .nop c, .mfs c rd num, .trap c num, .yield c]
     (s.plainAt c a → a % 4 = 0 → inPieces p.code a = false → check = some (a, a + 3, 5, 0xFFFF)) ∧
     (∀ lo hi reason region, check = some (lo, hi, reason, region) → (∀ x ∈ s.dike.notices, ¬(x.mcls = 0 ∧ x.unit = c.val)) →
       ∀ i ∈ is, ∃ u x, exec i s = .next u ∧ u.frozen 0 c = true ∧ (u.task t).state = .running ∧ (u.task t).frame = f ∧ u.mem = s.mem ∧
         bit (u.fld F.FCL_STATUS_FAULT) 15 = true ∧ u.dike.notices = s.dike.notices ++ [x] ∧ x.data = dataAddress lo ∧ x.endA = hi ∧ x.mcls = 0 ∧
         x.unit = c.val ∧ x.precise = true ∧ x.write = false ∧ x.fetch = true ∧ x.frozen = true ∧ x.reason = reason ∧ x.region = region) ∧
     (check = none → s.poisoned a 4 = none → decodeCore c (BitVec.ofNat 32 (s.load a 4)) = none → f.xhnd ≠ 0 → f.xact = false →
       ∀ i ∈ is, exec i s = .next (s.entered c f 1 0)) ∧
     (check = none → s.poisoned a 4 = some w → effReact (eccSource w) (s.react (eccSource w)) < 3 → f.xhnd ≠ 0 → f.xact = false →
       ∀ i ∈ is, ∃ u, exec i s = .next u ∧ bit (u.fld F.FCL_STATUS_FAULT) (eccSource w) = true ∧ u.mem = s.mem ∧
         (u.task t).frame = { f with xpc := f.pc, xcause := BitVec.ofNat 64 (9 + 65536), xaddr := f.pc, pc := f.xhnd })) ∧
  (∀ (s : State) (e : Bool) (m : Fin 16) (u : Fin 256), s.running = true →
     let s1 := { s with dike := { s.dike with frozen := s.dike.frozen.filter (fun x => !(decide (x.1 = m.val) && decide (x.2.1 = u.val))) } }
     let into := fun (x : State) => exec (.dkeThaw e m u) s = .next x.settle.repin
     let held := m ≠ 11 ∧ s.frozen m u = true
     let set := s.stagedSet
     let bad := ∃ x ∈ set, x.1 % 16 = 0 ∧ badRegion x.2.toNat = true
     let now := s.fld F.EPC_STATUS_STATE = 0 ∨ s.fld F.EPC_STATUS_STATE = 4
     let w := if m.val = 8 then u.val + 64 else u.val
     (¬held → into (s.setFld F.DKE_STATUS_CFG_ERR 1)) ∧
     (held → m.val = 0 → e = false ∨ (s.worker u).task = none → into s1) ∧
     (held → m.val = 0 ∧ e = true ∨ m.val = 8 ∧ s.sqr 4 u = none → ∀ t, (s.worker w).task = some t →
       (∀ r op i o, (s.task t).kind = .operator r op i o → into (s1.failRun r 0x0D 0)) ∧
       ((∀ r op i o, (s.task t).kind ≠ .operator r op i o) → into (s1.killTask t w 0x0D 0 (s.noticeAddr m u)))) ∧
     (held → m.val = 8 → ∀ q r op i o, s.sqr 4 u = some q → q.rom = false → (s.task q.work).kind = .operator r op i o →
       into ((s1.dropSqr 4 u).failRun r 0x0D 0)) ∧
     (held → 2 ≤ m.val → m.val ≤ 7 → ∃ x : State, into x ∧ ∀ j, (s.job j).st = .frozen → clsMaster (s.job j).cls = m.val → (s.job j).engine = some u.val →
       j ∈ s.liveJobs → (x.job j).gave 0x0D 0 []) ∧
     (held → m.val = 9 → into (((s1.pq u).inflight.filter (fun x => x.frozen)).foldl (fun s x => s.endEntry u x 0x0D 0 []) s1)) ∧
     (∃ t, exec .dkeNtcPop s = .next t ∧ t.dike.notices = s.dike.notices.drop 1 ∧ t.dike.frozen = s.dike.frozen) ∧
     (s.applied = false → exec .dkeCommit s = .next (s.setFld F.DKE_STATUS_CFG_ERR 1).repin) ∧
     (s.applied = true → bad → ∃ t, exec .dkeCommit s = .next t ∧ t.dike = s.dike ∧ t.fld F.DKE_STATUS_BADRGN = 1 ∧ t.fld F.DKE_STATUS_CFG_ERR = 1) ∧
     (s.applied = true → ¬bad → now → ∃ t, exec .dkeCommit s = .next t ∧ t.dike.force = set ∧
       t.fld F.DKE_GEN_STATUS_CUR = (s.fld F.DKE_GEN_STATUS_CUR + 1) % 2 ^ 16) ∧
     (s.applied = true → ¬bad → ¬now → ∃ t, exec .dkeCommit s = .next t ∧ t.dike.committed = some set ∧ t.dike.force = s.dike.force ∧
       t.fld F.DKE_GEN_STATUS_PENDING = 1) ∧
     (∀ x, s.dike.committed = some x → ∃ t, exec .dikeGenerationEdge s = .next t ∧ t.dike.force = x ∧ t.dike.committed = none ∧
       t.fld F.DKE_GEN_STATUS_CUR = (s.fld F.DKE_GEN_STATUS_CUR + 1) % 2 ^ 16 ∧ t.fld F.DKE_GEN_STATUS_PENDING = 0))

/-- FAULT_GROUP_RESOLVE (R421 to R424): the group's records take the highest reaction in force and the size of the group; it is executed once: an
interrupt, a trap, the reset of the block with its jobs ended ABORTED, or a chip reset. -/
def Obligations.FaultGroupsReact : Prop :=
  ∀ s : State, s.running = true →
    let into := fun (x : State) => exec .faultGroupResolve s = .next x.settle.repin
    let g := s.fcl.group
    let top := (g.map (fun x => effReact x.1 x.2)).foldl max 0
    let close := fun (r : FRec) => if r.open_ = true then { r with exec := top, group := g.length, open_ := false } else r
    let room := ((s.pq 0).waiting.filter (fun r => !r.reserved)).length + s.fcl.groupRecs.length ≤ 64
    (g = [] → into s) ∧
    (∀ k r l, g = (k, r) :: l →
      (top ≤ 2 → room → ∃ (x : State) (new : List OutMsg), into x ∧ x.fcl.group = [] ∧ x.fcl.recs = s.fcl.recs.map close ∧ x.out = new ++ s.out ∧ (top = 0 → x.regs = s.regs) ∧
        (.mgmtInterrupt k ∈ new ↔ 1 ≤ top) ∧ (.mgmtTrap k ∈ new ↔ top = 2)) ∧
      (top = 4 → ∃ (x : State) (new : List OutMsg), into x.restart ∧ x.out = new ++ s.out ∧ .mgmtInterrupt k ∈ new ∧ .mgmtTrap k ∈ new)) ∧
    (∀ k e u, g = [(k, 3)] → 5 ≤ k → k ≤ 9 → s.fcl.resets = [] → u < engineCount (k - 5) → ∃ x : State, into x ∧ x.inReset k u = true ∧
      (e ∈ s.liveJobs → (s.job e).cls = k - 5 → (s.job e).engine = some u → (s.job e).st = .running → (s.job e).slotBegun = false →
        (x.job e).gave 0x16 0 [] ∧ (x.job e).detail = 0xFFFF))

/-- The collector's registers, a failing CXL link and the watchdog (R9, R419, R421, R426, R433): a bit written 1 clears unless its cause persists;
ASSERTED clears only with no enabled bit left; a reaction over 4 keeps its value and sets CFG_ERR. BLOCK_RESET_UNIT_RETURN (R423): a unit whose known-
answer tests pass serves again, its bit set; one that fails stays out and latches bit 22. -/
def Obligations.FaultRegistersAndReturns : Prop :=
  (∀ (s : State) (v : Word) (j p : Fin 4) (b : Bool), s.running = true →
     let old := s.fld F.FCL_STATUS_FAULT
     let on := old &&& s.fld F.FCL_ERRN_EN_EN
     let up := s.fld F.MEM_STATUS_CXL_UP
     (∃ t, exec (.fclStatusClear v) s = .next t ∧ ∀ k, k < 37 → bit (t.fld F.FCL_STATUS_FAULT) k = (bit old k && (!(bit v.toNat k) || s.causePersists k))) ∧
     (on ≠ 0 → exec .fclErrnClear s = .next s.repin) ∧
     (on = 0 → s.power.pwrFail = false → ∃ t, exec .fclErrnClear s = .next t ∧ t.fld F.FCL_ERRN_ASSERTED = 0 ∧ t.pins.errorLow = false) ∧
     (∃ t, exec .fclRecPop s = .next t ∧ t.fcl.recs = s.fcl.recs.drop 1 ∧ t.regs = s.regs) ∧
     (∃ t, exec (.fclReactWrite j v) s = .next t ∧ ∀ i, i < 16 → 16 * j.val + i < 37 →
       let n := v.toNat / 2 ^ (4 * i) % 8
       t.react (16 * j + i) = (if n > 4 then s.react (16 * j + i) else n) ∧ (n > 4 → t.fld F.FCL_LOST_CFG_ERR = 1)) ∧
     (∃ t, exec .managementWatchdogExpiry s = .next t ∧ bit (t.fld F.FCL_STATUS_FAULT) 34 = true) ∧
     (bit up p = true → ∃ t, exec (.cxlLinkDown p b) s = .next t ∧ bit (t.fld F.FCL_STATUS_FAULT) 1 = true ∧ bit (t.fld F.MEM_STATUS_CXL_UP) p = b) ∧
     (bit up p = false → exec (.cxlLinkDown p true) s = .next s.repin)) ∧
  (∀ (s : State) (src : Fin 37) (u : Fin 256) (ok : Bool), s.running = true →
     let into := fun (x : State) => exec (.blockResetUnitReturn src u ok) s = .next x.settle.repin
     let k := src.val
     (s.inReset src u = false → into s) ∧
     (s.inReset src u = true → ∃ x : State, into x ∧ x.inReset src u = false ∧ (∀ m n, m ≠ k ∨ n ≠ u.val → x.inReset m n = s.inReset m n) ∧
       (ok = false → bit (x.fld F.FCL_STATUS_FAULT) 22 = true) ∧
       (ok = true → (k = 5 ∨ k = 6 ∨ k = 7 ∨ k = 9) → u.val < 32 → bit (x.fld (F.ENG_ONLINE_ONLINE (k - 5))) u = true) ∧
       (ok = true → k = 8 → u.val < 32 → bit (x.fld F.DIG_CORE_ONLINE_ONLINE) u = true) ∧ (ok = true → k = 8 → u.val = 32 → x.mcs.cmpOff = false) ∧
       (ok = true → k = 10 → u.val < 8 → bit (x.fld F.CMP_ONLINE_ONLINE) u = true) ∧
       (ok = true → 11 ≤ k → u.val < 152 → bit (x.fld (F.PMP_WOFF_OFF ((u.val + 64) / 64))) ((u.val + 64) % 64) = false) ∧
       (ok = true → k = 1 → u.val < 4 → bit (x.fld F.MEM_STATUS_CXL_UP) u = true) ∧
       (ok = true → k = 4 → u.val < 64 → bit (x.fld (F.PMP_WOFF_OFF 0)) u = false)))

/-- The in-service test (R428 to R432): a test starts on an idle unit in use, yields to queued work, and ends with a pass or with the first failure
kept in TST_FAIL and bit 22; the spare takes over a bank; an item not completed in its interval is overdue. The temperature sensors (R514, R515): a
temperature beyond the grade's range latches bit 30 once, whichever sensor message brings it; one over its maximum by more than 10 °C is kept in
FCL_STICKY, drives THERMTRIP_N and holds every block in reset; in reset the sources reach FCL_STICKY alone. -/
def Obligations.TestsAndTemperature : Prop :=
  (∀ (s : State) (item : Fin 11) (u : Fin 256) (cls : Fin 8) (e : Fin 32) (k : Fin 16) (b : Fin 17), s.running = true →
     let en := s.fld F.TST_CTRL_EN = 1
     let may := en ∧ item.val ≠ 7 ∧ u.val ∈ itemUnits item ∧ s.itemOff item u = false
     let busy := ∃ p, testUnit item u = some p ∧ p ∈ s.test.running
     let fails := fun (t : State) (i n : Nat) => t.fld F.TST_FAIL_V = 1 ∧ bit (t.fld F.FCL_STATUS_FAULT) 22 = true ∧
       (s.fld F.TST_FAIL_V = 0 → t.fld F.TST_FAIL_ITEM = i ∧ t.fld F.TST_FAIL_UNIT = n) ∧
       (s.fld F.TST_FAIL_V = 1 → t.fld F.TST_FAIL_ITEM = s.fld F.TST_FAIL_ITEM ∧ t.fld F.TST_FAIL_UNIT = s.fld F.TST_FAIL_UNIT)
     let waits := s.test.running.contains (cls.val, e.val) = true ∧ cls.val ≠ 4 ∧ cls.val ≠ 5 ∧ s.jobQueue cls ≠ [] ∧ s.engineFor cls = none
     let iv := s.fld (F.TST_INTERVAL_TICKS item)
     let due := iv ≠ 0 ∧ s.epoch.leftNoref = true ∧ s.counting = true ∧ s.fld (F.TST_LAST_TICK item) + iv ≤ s.tick ∧ bit (s.fld F.TST_OVERDUE_ITEM) item = false
     let rot := en ∧ s.fld (F.TST_BANK_RETIRED k) = 0 ∧ s.fld (F.TST_BANK_SPARE k) ≠ b.val
     let same := fun (i : Instr) => exec i s = .next s.repin
     (may → s.testIdle item u = true → ∃ t, exec (.testItemRun item u none) s = .next t ∧ t.regs = s.regs ∧
       ∀ p, testUnit item u = some p → p ∈ t.test.running) ∧
     (may → s.testIdle item u = true ∨ busy → ∃ t, exec (.testItemRun item u (some true)) s = .next t ∧
       ((∀ x ∈ itemUnits item, x = u.val ∨ x ∈ tget (fun _ => []) s.test.passDone item ∨ s.itemOff item x = true) →
         t.fld (F.TST_LAST_TICK item) = s.tick ∧ bit (t.fld F.TST_OVERDUE_ITEM) item = false ∧ (due → bit (t.fld F.FCL_STATUS_FAULT) 23 = true)) ∧ (∀ p, testUnit item u = some p → p ∉ t.test.running)) ∧
     (may → s.testIdle item u = true ∨ busy → item.val ≠ 10 → ∃ t, exec (.testItemRun item u (some false)) s = .next t ∧
       fails t item (if item.val = 6 then u.val + 64 else u)) ∧
     (may → s.testIdle item u = true ∨ busy → item.val = 9 → u.val = 100 → ∃ t, exec (.testItemRun item u (some false)) s = .next t ∧ t.mcs.cmpOff = true) ∧
     (¬en → ∀ r, same (.testItemRun item u r)) ∧
     (waits → ∃ t, exec (.testAbandon cls e) s = .next t ∧ (cls.val, e.val) ∉ t.test.running ∧
       t.fld F.TST_ABANDON_COUNT = (s.fld F.TST_ABANDON_COUNT + 1) % 2 ^ F.TST_ABANDON_COUNT.w) ∧
     (¬waits → same (.testAbandon cls e)) ∧
     (rot → (∃ t, exec (.bankRotationStep k b true) s = .next t ∧ t.fld (F.TST_BANK_SPARE k) = b.val ∧ t.fld (F.TST_BANK_RETIRED k) = 0) ∧
       (∃ t, exec (.bankRotationStep k b false) s = .next t ∧ t.fld (F.TST_BANK_SPARE k) = b.val ∧ t.fld (F.TST_BANK_RETIRED k) = 1 ∧ fails t 7 k)) ∧
     (due → ∃ t, exec (.testOverdue item) s = .next t ∧ bit (t.fld F.TST_OVERDUE_ITEM) item = true ∧ bit (t.fld F.FCL_STATUS_FAULT) 23 = true) ∧
     (¬due → same (.testOverdue item))) ∧
  (∀ (s : State) (temp : Int), s.power.main = true →
     let hi := s.tempRange.2
     let lo := s.tempRange.1
     let into := fun (i : Instr) => ∃ t, exec i s = .next t ∧ t.power.temp = temp
     let out := temp < lo ∨ hi < temp
     let mild := lo + 48 ≤ temp ∧ temp ≤ hi - 48
     let both := fun (P : State → Prop) => (∃ t, exec (.thermalWarning temp) s = .next t ∧ P t) ∧
       (temp ≤ hi + 160 → ∃ t, exec (.thermalCritical temp) s = .next t ∧ P t)
     (s.running = true → out → s.power.warm = false → both (fun t => bit (t.fld F.FCL_STATUS_FAULT) 30 = true ∧ t.power.warm = true)) ∧
     (s.running = false → s.power.pwrFail = false → out → s.power.warm = false → both (fun t => bit (t.fld F.FCL_STICKY_FAULT) 30 = true ∧ t.power.warm = true ∧
       t.fcl = s.fcl)) ∧
     (mild → both (fun t => t.power.warm = false ∧ t.regs = s.regs)) ∧
     (out → s.power.warm = true → both (fun t => t.power.warm = true ∧ t.regs = s.regs)) ∧
     (hi + 160 < temp → s.running = true → ∃ t, exec (.thermalCritical temp) s = .next t ∧ t.power.thermtrip = true ∧ t.running = false ∧
       t.pins.thermtripLow = true ∧ t.mem = [] ∧
       (bit (s.fld F.FCL_STATUS_FAULT) 31 = false → s.power.pwrFail = false → bit (t.fld F.FCL_STICKY_FAULT) 31 = true)) ∧
     (hi + 160 < temp → s.running = false → s.power.pwrFail = false → ∃ t, exec (.thermalCritical temp) s = .next t ∧
       bit (t.fld F.FCL_STICKY_FAULT) 31 = true ∧ t.mem = s.mem) ∧
     (temp ≤ hi + 160 → ∃ t, exec (.thermalCritical temp) s = .next t ∧ t.power.hot = false) ∧
     into (.thermalWarning temp) ∧ into (.thermalCritical temp))

/-- NONCE_GEN, TRANSITION, KEY_INSTALL and UNLOCK (R439 to R443, R453): a request that fails a check changes nothing but its result, and its nonce is
consumed; one that passes installs the key, ends the lock, or records the new state in both copies, also when power is lost after its intent record.
Its signatures wait for the units that verify them. -/
def Obligations.LifecycleRequests : Prop :=
  ∀ (s : State) (n : Fin 5), s.running = true →
    let a := s.fld F.LCS_REQ_ADDR_ADDR * 8
    let len := s.fld F.LCS_REQ_LEN_LEN
    let l := s.bytes a len
    let r := parseReq l
    let given := s.fld F.LCS_STATUS_BUSY = 0 ∧ s.gives { mcls := 12, unit := 0 } a len .read ∧ 5 < len
    let can := s.reqVerifies r = true → s.hwCan 0 r.units = true
    let ended := fun (x : State) (st d : Nat) => x.fld F.LCS_STATUS_RESULT = st ∧ x.fld F.LCS_STATUS_DETAIL = d ∧ x.fld F.LCS_STATUS_DONE = 1 ∧
      x.fld F.LCS_STATUS_NONCE_V = 0 ∧ x.dbg = s.dbg ∧ x.fld F.LCS_STATE_CODE = s.fld F.LCS_STATE_CODE
    (s.drbgReady 30 = true → ∃ t, exec .nonceGen s = .next t ∧ t.fld F.LCS_STATUS_NONCE_V = 1 ∧ t.nonce = bytesAt (s.draw 30 32).1 0 32) ∧
    (s.fld F.LCS_STATUS_BUSY = 1 → ∀ i ∈ [Instr.transition none, .keyInstall, .unlock], exec i s = .next (s.setFld F.LCS_STATUS_CFG_ERR 1).settle.repin) ∧
    (given → s.reqVerifies r = true → s.hwCan 0 r.units = false →
      ∀ i ∈ (if r.kind = 2 then [Instr.keyInstall] else if r.kind = 3 then [.unlock] else [.transition none]), exec i s = .next s.settle.repin) ∧
    (given → can → ∀ st d, s.reqCheck r = some (st, d) → ∀ i ∈ (if r.kind = 2 then [Instr.keyInstall] else if r.kind = 3 then [.unlock] else [.transition none]),
      ∃ x : State, exec i s = .next x.settle.repin ∧ ended x (st % 256) (d % 256) ∧ x.keys = s.keys ∧ x.mem = s.mem) ∧
    (given → can → s.reqCheck r = none →
      (r.kind = 2 → ∃ x : State, exec .keyInstall s = .next x.settle.repin ∧ ended x 0 0 ∧ (x.key r.kslot).pubPart = r.key ∧ (x.key r.kslot).ty = 8 ∧
        (x.key r.kslot).alg = r.kalg ∧ ∀ k, k ≠ r.kslot → x.key k = s.key k) ∧
      (r.kind = 3 → s.dbg.firing = [] → ∃ x : State, exec .unlock s = .next x.settle.repin ∧ ended x 0 0 ∧ x.fld F.TMP_STATUS_LOCKED = 0) ∧
      (r.kind = 3 → s.dbg.firing ≠ [] → ∃ x : State, exec .unlock s = .next x.settle.repin ∧ ended x 0x15 0 ∧
        x.fld F.TMP_STATUS_LOCKED = s.fld F.TMP_STATUS_LOCKED) ∧
      (r.kind = 1 →
        (∃ x : State, exec (.transition none) s = .next x.settle.repin ∧ x.dbg.copyA = r.target ∧ x.dbg.copyB = r.target ∧ codeState r.target = some x.lcs) ∧
        (∃ x : State, exec (.transition (some n)) s = .next x.settle.repin ∧ x.running = false ∧ (intentOpen x.dbg.intent = true ↔ n ≠ 0) ∧
          (n = 0 → x.dbg.copyA = s.dbg.copyA ∧ x.dbg.copyB = s.dbg.copyB))))

/-- The TAP (R444): BYPASS and IDCODE act in every state, the boundary instructions only where R444 lets them, and as BYPASS elsewhere. Debug tokens
and the access port (R445 to R447, R410, R415): a good token gives its scope and polders, thaws the port and is never accepted again; a bad one is
counted; the end of a token leaves the standing authorisation; an access needs authority, scope and Dike's grant, and without authority freezes the
port. -/
def Obligations.TapAndDebugPort : Prop :=
  (∀ (s : State) (tdi : List Bool), s.running = true →
     let shifts := fun (i : Instr) (k : Nat) (tdo : List Bool) => ∃ t, exec i s = .next t ∧ t.out = .tdo tdo :: s.out ∧ t.dbg.instr = k ∧ t.regs = s.regs
     let past := (false :: tdi).take tdi.length
     let through := Config.pinSample s.free ++ tdi
     shifts (.bypass tdi) 0 past ∧
     shifts (.idcode tdi) 1 (((List.range 32).map (fun i => Config.idcode.getLsbD i) ++ tdi).take tdi.length) ∧
     (s.scanAllowed = true → shifts (.samplePreload tdi) 2 (through.take tdi.length) ∧
       ∃ t, exec (.extest tdi) s = .next t ∧ t.dbg.instr = 3 ∧ t.dbg.bsr = through.drop tdi.length ∧
         t.out = [.pins t.dbg.bsr, .tdo (through.take tdi.length), .pins s.dbg.bsr] ++ s.out) ∧
     (s.scanAllowed = false → shifts (.samplePreload tdi) 0 past ∧ shifts (.extest tdi) 0 past) ∧
     (s.scanAllowed = true → s.lcs = 0 ∨ s.lcs = 1 ∨ s.lcs = 3 ∨ (s.lcs = 2 ∧ s.fld F.LCS_DBG_AUTH = 1 ∧ bit (s.fld F.LCS_DBG_SCOPE) 3 = true))) ∧
  (∀ (s : State) (tok : List Byte) (a : BitVec 48) (c : CoreId) (l : List Byte) (k : Fin 79), s.running = true → s.lcs ≠ 4 →
     let st := s.fld F.EPC_STATUS_STATE
     let ended_ := st = 0 ∨ st = 4 ∨ s.fld F.LCS_DBG_EXP_EXPIRY ≤ s.tick
     let free := s.frozen 11 0 = false ∧ s.tamperFrozen = false
     let refused := fun (op : DapOp) => ∃ t, exec (.dap op) s = .next t ∧ t.out = .dapRefused :: s.out ∧ t.mem = s.mem ∧ t.regs = s.regs ∧ t.sched = s.sched
     (s.power.pwrFail = false → s.tamperFrozen = false →
       (s.tokenOk tok = true → ∃ t, exec (.dbgAuth tok) s = .next t ∧ t.fld F.LCS_DBG_AUTH = 1 ∧ t.fld F.LCS_DBG_STANDING = 0 ∧
         t.fld F.LCS_DBG_SCOPE = leAt tok 6 1 ∧ t.fld F.LCS_DBG_EXP_EXPIRY = leAt tok 32 8 ∧ t.fld F.LCS_DBG_SEQ_TSEQ = leAt tok 24 8 ∧
         t.frozen 11 0 = false ∧ (∀ j, j < 4 → t.fld (F.LCS_DBG_POLDER_MASK j) = leAt tok (40 + 8 * j) 8) ∧ t.tokenOk tok = false) ∧
       (s.tokenOk tok = false → ∃ t, exec (.dbgAuth tok) s = .next t ∧ t.fld F.LCS_DBG_REFUSED = (s.fld F.LCS_DBG_REFUSED + 1) % 2 ^ 16 ∧
         t.fld F.LCS_DBG_AUTH = s.fld F.LCS_DBG_AUTH ∧ t.fld F.LCS_DBG_SCOPE = s.fld F.LCS_DBG_SCOPE)) ∧
     (ended_ → s.fld F.LCS_DBG_AUTH = 1 → ∃ t, exec .debugTokenExpiry s = .next t ∧ t.fld F.LCS_DBG_AUTH = 0 ∧
       t.fld F.LCS_DBG_STANDING = (if s.lcs ≤ 1 then 1 else 0) ∧ t.fld F.LCS_DBG_SCOPE = if s.lcs ≤ 1 then 15 else 0) ∧
     (¬ended_ → exec .debugTokenExpiry s = .next s.repin) ∧
     (free → s.dbgAuthorised = false → l ≠ [] → refused (.attach true) ∧ refused (.halt c) ∧
       ∃ t, exec (.dap (.write a l)) s = .next t ∧ t.frozen 11 0 = true ∧ bit (t.fld F.FCL_STATUS_FAULT) 15 = true ∧ t.mem = s.mem ∧
         t.out = .dapRefused :: s.out) ∧
     (free → s.coreDebuggable c = true →
       (∃ t, exec (.dap (.halt c)) s = .next t ∧ (t.core c).halted = true ∧ t.frame c = none) ∧
       (∃ t, exec (.dap (.inspect c k)) s = .next t ∧ t.out = .dapData ((s.coreFrame c).view k) :: s.out) ∧
       ((s.core c).halted = true → ∃ t, exec (.dap (.step c)) s = .next t ∧ (t.core c).halted = false ∧ (t.core c).stepping = true) ∧
       ((s.core c).halted = true → ∃ t, exec (.dap (.resume c)) s = .next t ∧ (t.core c).halted = false ∧ (t.core c).stepping = false)) ∧
     (free → s.dbgAuthorised = true → s.dbgScope 1 = false → spaceOf s a.toNat = .hbm → l ≠ [] → refused (.write a l)) ∧
     (free → s.dbgScope 1 = true → spaceOf s a.toNat = .hbm → l ≠ [] → s.dikeCheck s.debugMaster a.toNat l.length .write false = none →
       ∃ t, exec (.dap (.write a l)) s = .next t ∧ t.mem = (s.put a.toNat l).mem) ∧
     (¬free → ∀ op, refused op))

/-- Tamper sources, the release of a freeze and the monitors' registers (R448 to R452): a group is logged and its highest response executed once: bit
32, then a freeze that takes the debug authorisation, then the zeroisation of the key store, then the lock. The Embankment (R455, R456, R458, R461):
on the battery alone an alarm is logged and may erase its key; MODE and ERASE_ON_ALARM move only as R458 lets them; EMB_LOG_CLR keeps the entries not
yet reported, in their order. -/
def Obligations.TamperAndEmbankment : Prop :=
  (∀ (s : State) (on off : BitVec 10) (src : Fin 16) (p : Bool) (v : BitVec 40), s.running = true →
     let l := (List.range 10).filter (fun k => on.getLsbD k && (decide (k < 7) || s.embWatches k))
     let top := (l.map s.tmpResp).foldl max 0
     let held := s.dbg.group.any (fun k => s.dbg.firing.contains k)
     let old := fun k => s.fld F.TMP_RESP_RESP / 2 ^ (4 * k) % 8
     let put := fun k => if v.toNat / 2 ^ (4 * k) % 8 > 4 then old k else v.toNat / 2 ^ (4 * k) % 8
     let lowers := 2 ≤ s.lcs ∧ ∃ k, k < 10 ∧ put k < old k
     (∃ x : State, exec (.tamperAlarm on off) s = .next x.settle.repin ∧ (∀ k, k ∈ x.dbg.firing ↔ (k ∈ s.dbg.firing ∧ off.getLsbD k = false) ∨ k ∈ l) ∧
       (∀ k, k ∈ l → bit (x.fld F.TMP_STATUS_FIRED) k = true) ∧ (l ≠ [] → bit (x.fld F.FCL_STATUS_FAULT) 32 = true) ∧
       (2 ≤ top → x.fld F.TMP_STATUS_FROZEN = 1 ∧ x.fld F.LCS_DBG_AUTH = 0 ∧ x.fld F.LCS_DBG_STANDING = 0 ∧ x.dbg.group = l) ∧
       (top < 2 → x.fld F.TMP_STATUS_FROZEN = s.fld F.TMP_STATUS_FROZEN) ∧
       (3 ≤ top → s.power.pwrFail = false → x.fld F.KST_STATUS_ZEROISED = 1 ∧ ∀ k, k < 16384 → k < 16379 ∨ 16381 < k → (x.key k).secret = [] ∧ (x.key k).ty = 0) ∧
       (top < 3 → x.keys = s.keys) ∧ (top = 4 → s.power.pwrFail = false → x.fld F.TMP_STATUS_LOCKED = 1)) ∧
     (held = true → exec .release s = .next (s.setFld F.TMP_STATUS_CFG_ERR 1).repin) ∧
     (held = false → s.fld F.TMP_STATUS_FROZEN = 1 → ∃ t, exec .release s = .next t ∧ t.fld F.TMP_STATUS_FROZEN = 0 ∧ t.dbg.group = []) ∧
     (10 ≤ src.val → exec (.selftest src p) s = .next (s.setFld F.TMP_STATUS_CFG_ERR 1).repin) ∧
     (src.val < 10 → ∃ t, exec (.selftest src p) s = .next t ∧ bit (t.fld F.TMP_SELF_DONE) src = true ∧ bit (t.fld F.TMP_SELF_FAIL) src = !p ∧
       (p = false → bit (t.fld F.FCL_STATUS_FAULT) 22 = true) ∧ t.fld F.TMP_STATUS_FIRED = s.fld F.TMP_STATUS_FIRED) ∧
     (lowers → exec (.tmpRespWrite v) s = .next (s.setFld F.TMP_STATUS_CFG_ERR 1).repin) ∧
     (¬lowers → s.power.pwrFail = false → ∃ t, exec (.tmpRespWrite v) s = .next t ∧ ∀ k, k < 10 → t.tmpResp k = put k ∧
       (v.toNat / 2 ^ (4 * k) % 8 > 4 → t.fld F.TMP_STATUS_CFG_ERR = 1))) ∧
  (∀ (s : State) (src : Fin 10) (v : BitVec 4),
     let n := s.fld F.EMB_LOGCNT_COUNT
     let er := s.fld F.EMB_CFG_ERASE_ON_ALARM
     let mode := s.fld F.EMB_CFG_MODE
     let m1 := v.toNat % 2
     let e1 := v.toNat / 2 % 2
     let legal := s.lcs ≤ 1 ∨ (m1 = mode ∧ e1 = er) ∨ (s.lcs = 2 ∧ mode ≤ m1 ∧ er ≤ e1)
     let keep := ((List.range n).map (fun j => s.fld (F.EMB_LOG_ENTRY j))).filter (fun e => !bit e 48)
     let entry := embEntry src (s.fld F.EMB_TS_COUNT) (decide (er = 1)) true false
     (s.power.main = false → 7 ≤ src.val → s.embWatches src = true → ∃ t, exec (.batteryAlarm src) s = .next t ∧
       (n < 8 → t.fld (F.EMB_LOG_ENTRY n) = entry ∧ t.fld F.EMB_LOGCNT_COUNT = n + 1) ∧
       (8 ≤ n → t.fld (F.EMB_LOG_ENTRY 7) = entry ∧ t.fld F.EMB_STATUS_OVF = 1) ∧
       (er = 1 → t.keys.embGone = true ∧ t.fld F.EMB_STATUS_KEY_VALID = 0) ∧ (er = 0 → t.keys = s.keys)) ∧
     (s.power.main = true → exec (.batteryAlarm src) s = .next s) ∧
     (s.running = true →
       (legal → ∃ t, exec (.embCfgWrite v) s = .next t ∧ t.fld F.EMB_CFG_MODE = m1 ∧ t.fld F.EMB_CFG_ERASE_ON_ALARM = e1 ∧
         t.fld F.EMB_CFG_LOOP_EN = v.toNat / 4 ∧ (m1 ≠ mode → t.fld F.KST_STATUS_REWRAP = 1)) ∧
       (¬legal → exec (.embCfgWrite v) s = .next (s.setFld F.EMB_STATUS_CFG_ERR 1).repin) ∧
       (n ≤ 8 → ∃ t, exec .embLogClr s = .next t ∧ t.fld F.EMB_LOGCNT_COUNT = keep.length ∧ t.fld F.EMB_STATUS_OVF = 0 ∧
         ∀ j (h : j < keep.length), t.fld (F.EMB_LOG_ENTRY j) = keep[j])))

/-- The card port's events (R462 to R466, R468, R472): insertion and REINIT initialise an enabled port; initialisation ends in the highest mode that
tunes, or UNUSABLE with bit 26; the mount scan's log is the run of whole records from the marker; the card sleeps, tunes again, and at removal every
job ends. It begins none of this while PWR_FAIL_N is low, and the scan waits for a digest context and an online hash core. The jobs of the card port
(R467, R470, R471, R473 to R475): blocks read and written outside the protected regions; journal records appended with their commit, read by sequence,
and begun anew by a format; replay-protected units read only with the counter that MRAM holds, written with the next, and bound. -/
def Obligations.CardPort : Prop :=
  (∀ (s : State) (m : CardMedium) (ans sw : Bool) (w : BitVec 12) (cause : Fin 3) (a : BitVec 48), s.running = true →
     let st := s.fld F.CRD_STATUS_STATE
     let en := s.fld F.CRD_CTRL_EN = 1
     let unusable := fun (t : State) => t.fld F.CRD_STATUS_STATE = 5 ∧ bit (t.fld F.FCL_STATUS_FAULT) 26 = true
     let low := if m.sd then 0 else 8
     let v := s.cardV18 m sw
     let base := s.fld F.CRD_JNL_BASE_LBA
     let len := s.fld F.CRD_JNL_LEN_BLOCKS
     let idle := s.fld F.CRD_TIMERS_IDLE
     let rest := s.power.pwrFail = false ∧ idle ≠ 0 ∧ idle ≤ s.tick - s.card.idleFrom
     let refused := s.fld F.CRD_CTRL_EN = 0 ∨ a.toNat % 64 ≠ 0 ∨ 16 ≤ s.card.jobs.length
     (∃ t, exec (.cardInsertion m) s = .next t ∧ t.card.medium = some m ∧ t.fld F.CRD_STATUS_STATE = if en then 1 else 0) ∧
     (s.card.medium = some m → en → ∃ t, exec .reinit s = .next t ∧ t.fld F.CRD_STATUS_STATE = 1 ∧ t.fld F.CRD_STATUS_JNL = 0) ∧
     (s.card.medium = some m → st = 1 → s.power.pwrFail = false →
       (ans = false ∨ m.usable = false → ∃ t, exec (.cardInitComplete ans sw w) s = .next t ∧ unusable t) ∧
       (ans = true → m.usable = true → ∃ t, exec (.cardInitComplete ans sw w) s = .next t ∧
         (unusable t ∨ t.fld F.CRD_STATUS_STATE = 2 ∧ t.fld F.CRD_STATUS_TYPE = (if m.sd then 1 else 2) ∧ t.fld F.CRD_STATUS_V18 = b2n v ∧
           let k := t.fld F.CRD_STATUS_MODE
           low ≤ k ∧ k ≤ s.cardTop m v ∧ (needsTuning k = true → w.getLsbD k = true) ∧
           ∀ j, k < j → j ≤ s.cardTop m v → needsTuning j = true ∧ w.getLsbD j = false))) ∧
     (s.card.medium = some m → st = 2 → s.power.pwrFail = false → (len ≠ 0 → s.hwDigest 0 = true) → ∃ t, exec .mountScan s = .next t ∧ t.fld F.CRD_STATUS_STATE = 3 ∧ t.card.pend = (if s.cardBound m then none else s.card.pend) ∧
       (len = 0 → t.fld F.CRD_STATUS_JNL = 0) ∧
       (∀ jid, len ≠ 0 → jnlAt m base len = some (0, jid, 0, 0) → t.fld F.CRD_STATUS_JNL = 1 ∧ t.card.jid = jid ∧
         (∀ i (h : i < t.card.log.length), let r := t.card.log[i]
           r.2.1 = i + 1 ∧ jnlAt m (base + r.1) (len - r.1) = some (r.2.2.2, jid, r.2.1, r.2.2.1)) ∧ t.fld F.CRD_JNL_SEQ_NEXT = t.card.log.length + 1) ∧
       (len ≠ 0 → (∀ jid, jnlAt m base len ≠ some (0, jid, 0, 0)) → t.fld F.CRD_STATUS_JNL = 2)) ∧
     (st = 3 → s.card.jobs = [] → rest → ∃ t, exec .cardSleep s = .next t ∧ t.fld F.CRD_STATUS_STATE = 4) ∧
     (s.power.pwrFail = true ∨ (len ≠ 0 ∧ s.hwDigest 0 = false) → exec .mountScan s = .next s.repin) ∧
     (s.power.pwrFail = true → exec (.cardInitComplete ans sw w) s = .next s.repin ∧ exec (.cardRetune cause w) s = .next s.repin) ∧
     (st ≠ 3 ∨ s.card.jobs ≠ [] ∨ ¬rest → exec .cardSleep s = .next s.repin) ∧
     (st = 3 ∨ st = 4 → s.power.pwrFail = false → cause ≠ 0 → ∃ t, exec (.cardRetune cause w) s = .next t ∧
       (unusable t ∨ t.fld F.CRD_STATUS_STATE = st ∧ t.fld F.CRD_STATUS_MODE ≤ s.fld F.CRD_STATUS_MODE)) ∧
     (s.card.medium = some m → s.card.jobs.length ≤ 16 → (∀ x ∈ s.card.jobs, s.gives mgmtMaster x 64 .read ∧ s.gives mgmtMaster x 64 .write) →
       ∃ t, exec (.cardRemoval false) s = .next t ∧ t.card.medium = none ∧ t.card.jobs = [] ∧ t.fld F.CRD_STATUS_STATE = 0 ∧
         (s.card.jobs ≠ [] → t.fld F.CRD_STATUS_CPL = 1) ∧ ∀ x, s.card.jobs = [x] → t.bytes x 2 = [0x0F, 1]) ∧
     (refused → exec (.crdSubmit a) s = .next (s.setFld F.CRD_STATUS_CFG_ERR 1).repin) ∧
     (¬refused → s.card.medium = some m → ∃ t, exec (.crdSubmit a) s = .next t ∧ t.card.jobs = s.card.jobs ++ [a.toNat] ∧ t.mem = s.mem)) ∧
  (∀ (s : State) (m : CardMedium) (a opc : Nat) (d : List Byte), s.CardTurn opc m a d →
     let len := leAt d 24 4
     let arg := leAt d 32 8
     let buf := leAt d 16 8
     let data := s.bytes buf len
     let apart := fun (x : Nat) => x < a ∨ a + 64 ≤ x
     let out := s.gives mgmtMaster buf len .write
     let inp := s.gives mgmtMaster buf len .read
     let ends := fun (i : Instr) (st outlen : Nat) => ∃ t, exec i s = .next t ∧ s.CardEnds t a st outlen ∧ t.card.medium = some m
     let yields := fun (i : Instr) (l : List Byte) => ∃ t, exec i s = .next t ∧ s.CardEnds t a 0 l.length ∧ t.card.medium = some m ∧
       ∀ k, k < l.length → apart (buf + k) → t.byte (buf + k) = l.getD k 0
     let jnl := s.fld F.CRD_STATUS_JNL = 1
     let base := s.fld F.CRD_JNL_BASE_LBA
     let o := s.fld F.CRD_JNL_NEXT_OFFSET
     let seq := s.fld F.CRD_JNL_SEQ_NEXT
     let n := cdiv len 512
     let bound := s.cardBound m = true
     let now := s.rpCounter arg
     (opc = 1 → out → yields .cardRead (cardBytes m arg len)) ∧
     (opc = 2 → s.writeBarred m arg (len / 512) = true → ends .cardWrite 0x12 0) ∧
     (opc = 2 → s.writeBarred m arg (len / 512) = false → inp → ∃ t m1, exec .cardWrite s = .next t ∧ s.CardEnds t a 0 0 ∧ t.card.medium = some m1 ∧
       cardBytes m1 arg len = data ∧ ∀ x, x < arg ∨ arg + len / 512 ≤ x → cardBlock m1 x = cardBlock m x) ∧
     (opc = 3 → (¬jnl → ends .jnlAppend 0x12 0) ∧ (jnl → s.fld F.CRD_JNL_LEN_BLOCKS < o + n + 2 → ends .jnlAppend 4 0) ∧
       (jnl → o + n + 2 ≤ s.fld F.CRD_JNL_LEN_BLOCKS → inp → ∃ t m1, exec .jnlAppend s = .next t ∧ s.CardEnds t a 0 0 ∧ t.card.medium = some m1 ∧
         cardBytes m1 (base + o) (512 * (n + 2)) = jnlRecord (leAt d 29 1) s.card.jid seq s.tick data ∧ t.fld F.CRD_JNL_NEXT_OFFSET = o + n + 2 ∧
         t.fld F.CRD_JNL_SEQ_NEXT = (seq + 1) % 2 ^ 64 ∧ leNat (t.bytes (a + 32) 8) = seq)) ∧
     (opc = 4 → (¬jnl ∨ s.card.log.find? (fun x => decide (x.2.1 = arg)) = none → ends .jnlRead 0x12 0) ∧
       (∀ r, jnl → s.card.log.find? (fun x => decide (x.2.1 = arg)) = some r → (len < r.2.2.1 → ends .jnlRead 4 0) ∧
         (r.2.2.1 ≤ len → r.2.2.1 < 2 ^ 32 → s.gives mgmtMaster buf r.2.2.1 .write → yields .jnlRead (cardBytes m (base + r.1 + 1) r.2.2.1)))) ∧
     (opc = 5 → 2 ≤ s.fld F.CRD_JNL_LEN_BLOCKS → s.drbgReady 30 = true → ∃ t m1, exec .jnlFormat s = .next t ∧ s.CardEnds t a 0 0 ∧
       t.card.medium = some m1 ∧ t.card.log = [] ∧ t.fld F.CRD_STATUS_JNL = 1 ∧ t.fld F.CRD_JNL_SEQ_NEXT = 1 ∧
       cardBytes m1 base 1024 = jnlRecord 0 t.card.jid 0 s.tick []) ∧
     (opc = 6 → (¬bound → ends .rpRead 8 0) ∧ (bound → m.sd = true → s.rpValid m arg ≠ some now → ends .rpRead 7 0) ∧
       (bound → s.card.rpBad = false → m.sd = true → s.rpValid m arg = some now → out →
         yields .rpRead ((cardBlock m (s.fld F.CRD_RPA_BASE_LBA + arg)).take 256))) ∧
     (opc = 7 → (¬bound → ends .rpWrite 8 0) ∧
       (bound → s.card.rpBad = false → m.sd = true → inp → ∃ t m1, exec .rpWrite s = .next t ∧ s.CardEnds t a 0 0 ∧ t.card.medium = some m1 ∧
         t.rpCounter arg = s.rpNext arg ∧ now < t.rpCounter arg ∧ (cardBlock m1 (s.fld F.CRD_RPA_BASE_LBA + arg)).take 256 = data ∧ t.card.pend = none) ∧
       (bound → s.card.rpBad = false → m.sd = false → m.rpmbCnt = s.card.mmcE → inp → ∃ t m1, exec .rpWrite s = .next t ∧ s.CardEnds t a 0 0 ∧
         t.card.medium = some m1 ∧ m1.rpmbCnt = m.rpmbCnt + 1 ∧ t.card.mmcE = m1.rpmbCnt ∧ fitLen 256 (tget (fun _ => []) m1.rpmb arg) = data)) ∧
     (opc = 8 → (m.sd = true ∨ m.rpmbKey = [] ∨ m.rpmbKey = s.rpKeyNow → ∃ t, exec .rpBind s = .next t ∧ s.CardEnds t a 0 0 ∧
         t.fld F.CRD_STATUS_BOUND = 1 ∧ t.card.pend = none ∧ t.card.rpBad = false) ∧
       (m.sd = false → m.rpmbKey ≠ [] → m.rpmbKey ≠ s.rpKeyNow → ends .rpBind 7 0)))

/-- The course of a link (R477, R478, R483, R484, R488): EN is refused without a peer key; a trained link is KEYING and announces its unit ID; a link
that fails to train, or is lost, latches bit 29 and trains again, its sends and the EXCHANGE runs on it ended ABORTED; a re-key announces anew.
FLIT_RECEIVE (R481, R482, R489): a flit with a bad CRC or out of sequence is discarded and asked for again; one with a bad tag takes the link DOWN; a
NAK replays the unacknowledged flits, in order and byte for byte; a message in order acts: EPOCH notes D, an undefined one is counted; keying bytes
gather to a whole step, which waits for a lattice engine, and one out of turn or with a foreign key ends the link (R483, R484). -/
def Obligations.PeerLinksAndFlits : Prop :=
  (∀ (s : State) (l : Fin 16) (lanes : BitVec 8), s.running = true →
     let st := s.linkState l
     let x := s.peer l
     let en := s.fld (F.PER_CFG_EN l)
     let keyless := ∀ j, j < 4 → s.fld (F.PER_PEERKEY_HASH l j) = 0
     let trained := st = 1 ∧ lanes.toNat ∈ [0xFF, 0x0F, 0xF0]
     let down := fun (t : State) => t.linkState l = (if en = 1 then 1 else 4) ∧ bit (t.fld F.FCL_STATUS_FAULT) 29 = true ∧
       bit (t.fld F.PER_STATUS_UP) l = false ∧ t.fld (F.PER_LSTAT_LANES l) = 0
     let dropped := fun (t : State) => (t.peer l).retry = [] ∧ (t.peer l).tx.key = [] ∧ (t.peer l).sends = [] ∧
       (x.sends ≠ [] → t.fld (F.PER_LSTAT_CPL l) = 1) ∧ (∀ b, x.sends = [b] → s.gives mgmtMaster b.desc 64 .write → t.bytes b.desc 2 = [0x16, 1]) ∧
       ∀ p ∈ s.exOn l, (s.run p.1).fail = none → (t.run p.1).fail = some (0x16, 0)
     let again := st = 3 ∧ x.keying.rekey = false
     (keyless → exec (.perCfgEnWrite l true) s = .next (s.setFld F.PER_STATUS_CFG_ERR 1).repin) ∧
     (¬keyless → en = 0 → ∃ t, exec (.perCfgEnWrite l true) s = .next t ∧ t.linkState l = 1 ∧ t.fld (F.PER_CFG_EN l) = 1) ∧
     (en = 1 → ∃ t, exec (.perCfgEnWrite l false) s = .next t ∧ t.linkState l = 0 ∧ t.fld (F.PER_CFG_EN l) = 0 ∧
       bit (t.fld F.PER_STATUS_UP) l = false ∧ (st = 3 → dropped t)) ∧
     (trained → ∃ t f, exec (.linkTrained l lanes) s = .next t ∧ t.linkState l = 2 ∧ t.fld (F.PER_LSTAT_LANES l) = lanes.toNat ∧
       t.out = .flit l f :: s.out ∧ f.length = 256 ∧ bytesAt f 8 17 = (0 : Byte) :: s.unitId ∧ leAt f 252 4 = crc32 (f.take 252) ∧
       (parseFlit (leAt f 0 8)).ty = 2 ∧ (parseFlit (leAt f 0 8)).vc = 2) ∧
     (¬trained → exec (.linkTrained l lanes) s = .next s.repin) ∧
     (st = 1 → ∃ t, exec (.linkTrainingTimeout l) s = .next t ∧ down t) ∧
     (st = 3 → ∃ t, exec (.peerLinkDown l) s = .next t ∧ down t ∧ dropped t) ∧
     (again → ∃ t, exec (.rekey l) s = .next t ∧ (t.peer l).keying.rekey = true ∧ t.linkState l = 3 ∧ (t.peer l).tx.key = x.tx.key) ∧
     (¬again → exec (.rekey l) s = .next s.repin) ∧
     (again → 2 ^ 32 ≤ x.tx.count → ∃ t, exec (.peerFlitCountRekey l) s = .next t ∧ (t.peer l).keying.rekey = true) ∧
     (x.tx.count < 2 ^ 32 → exec (.peerFlitCountRekey l) s = .next s.repin)) ∧
  (∀ (s : State) (l : Fin 16) (f : List Byte), s.running = true → f.length = 256 →
     let st := s.linkState l
     let x := s.peer l
     let h := parseFlit (leAt f 0 8)
     let open_ := st = 2 ∨ st = 3
     let crc := leAt f 252 4 = crc32 (f.take 252)
     let pay := x.payload f
     let i := Instr.flitReceive l f
     let asks := fun (t : State) => ∃ g, t.out = .flit l g :: s.out ∧ (t.peer l).rxSeq = x.rxSeq ∧ (t.peer l).rx = x.rx ∧ (t.peer l).nak = true ∧
       (x.rxSeq < 4096 → (parseFlit (leAt g 0 8)).nak = true ∧ (parseFlit (leAt g 0 8)).ack = x.rxSeq)
     let message := st = 3 ∧ crc ∧ x.tagOk f = true ∧ h.ty = 1 ∧ h.nak = false ∧ h.seq = (x.rxSeq + 1) % 4096 ∧ h.vc = 2 ∧ x.rx.toList.getD 2 [] = [] ∧ x.keying.rx = [] ∧
       16 + leAt pay 4 4 ≤ pay.length ∧ 16 ≤ pay.length ∧ zeroAt pay 1 3 = true
     let keyx := open_ ∧ crc ∧ x.tagOk f = true ∧ h.ty = 2 ∧ h.nak = false ∧ h.seq = (x.rxSeq + 1) % 4096 ∧ x.sends = []
     let r := x.keying.rx ++ pay
     let k := leAt r 0 1
     let whole := r ≠ [] ∧ keyxLen k ≤ r.length
     let d : Int := (s.tick : Int) - leAt pay 8 8
     (¬open_ → exec i s = .next s.repin) ∧
     (open_ → ¬crc → ∃ t, exec i s = .next t ∧ asks t ∧ t.fld (F.PER_CRC_COUNT l) = (s.fld (F.PER_CRC_COUNT l) + 1) % 2 ^ 64) ∧
     (open_ → crc → x.tagOk f = false → ∃ t, exec i s = .next t ∧ t.fld (F.PER_ERR_TAG l) = (s.fld (F.PER_ERR_TAG l) + 1) % 2 ^ 16 ∧
       t.linkState l = (if s.fld (F.PER_CFG_EN l) = 1 then 1 else 4) ∧ bit (t.fld F.FCL_STATUS_FAULT) 29 = true) ∧
     (open_ → crc → x.tagOk f = true → h.ty = 1 ∨ h.ty = 2 → h.seq ≠ (x.rxSeq + 1) % 4096 → ∃ t, exec i s = .next t ∧ asks t) ∧
     (open_ → crc → x.tagOk f = true → h.ty = 0 → h.nak = true → x.sends = [] →
       let left := x.retry.filter (fun r => !decide ((h.ack + 4096 - r.1) % 4096 < 512))
       ((∀ r ∈ left, r.2.1 < 8) → ∃ t more, exec i s = .next t ∧ t.out = more ++ (left.map (fun r => OutMsg.flit l r.2.2)).reverse ++ s.out ∧
         t.fld (F.PER_ERR_REPLAY l) = (s.fld (F.PER_ERR_REPLAY l) + left.length) % 2 ^ 32) ∧
       ((∃ r ∈ left, 8 ≤ r.2.1) → ∃ t, exec i s = .next t ∧ bit (t.fld F.FCL_STATUS_FAULT) 29 = true ∧ bit (t.fld F.PER_STATUS_UP) l = false)) ∧
     (message → leAt pay 0 1 = 5 → ∃ t, exec i s = .next t ∧ (t.peer l).rxSeq = h.seq ∧ t.fld (F.PER_EPCDIFF_D l) = wrap 32 d ∧
       (0 < leAt pay 4 4 → bit (leAt pay 16 1) 0 = true → s.fld F.EPC_STATUS_LOCK = 1 → s.fld F.PER_EPC_TOL < d.natAbs →
         t.fld (F.PER_EPCDIFF_MISMATCH l) = 1 ∧ bit (t.fld F.FCL_STATUS_FAULT) 29 = true)) ∧
     (keyx → ¬whole ∨ (x.keying.expects k = true ∧ 1 ≤ k ∧ s.keyxUnit = none) → ∃ t, exec i s = .next t ∧ (t.peer l).keying = { x.keying with rx := r } ∧
       (t.peer l).rxSeq = h.seq ∧ t.mem = s.mem) ∧
     (keyx → whole → x.keying.expects k = false → ∃ t, exec i s = .next t ∧ bit (t.fld F.FCL_STATUS_FAULT) 29 = true ∧
       t.linkState l = if s.fld (F.PER_CFG_EN l) = 1 then 1 else 4) ∧
     (keyx → whole → x.keying.expects 1 = true → k = 1 → s.keyxUnit.isSome = true → s.peerKeyOk l (bytesAt r 1201 2592) = false → ∃ t, exec i s = .next t ∧
       t.linkState l = 5 ∧ bit (t.fld F.FCL_STATUS_FAULT) 29 = true) ∧
     (message → leAt pay 0 1 ∉ [1, 2, 3, 4, 5] → ∃ t, exec i s = .next t ∧ (t.peer l).rxSeq = h.seq ∧
       t.fld (F.PER_ERR_PROTO l) = (s.fld (F.PER_ERR_PROTO l) + 1) % 2 ^ 16))

/-- EPOCH_SEND, PER_TX and the HEAD of a receive ring (R487, R489, R490): an UP link sends its count at the interval; a send waits for a granted
buffer, fails on a bad descriptor, and takes one buffer; buffers that HEAD passes are granted to the peer. -/
def Obligations.LinkMessagesGoOut : Prop :=
  ∀ (s : State) (l : Fin 16) (a : BitVec 48) (v : BitVec 7), s.running = true →
    let x := s.peer l
    let due := s.fld F.PER_EPC_INTERVAL ≠ 0 ∧ s.tick % s.fld F.PER_EPC_INTERVAL = 0 ∧ s.counting = true
    let idle := x.txq = Vector.replicate 3 [] ∧ x.retry.length < 512 ∧ s.linkState l = 3
    let sent := fun (t : State) (b : List Byte) => ∃ h, OutMsg.flit l (flitBytes x.tx.key x.responder x.tx.count h b) ∈ t.out
    let p := a.toNat / 64 * 64
    let d := s.bytes p 64
    let m : Master := { mcls := 12, unit := 0 }
    let g := tget (fun _ => 0) x.grants 0
    let head := x.sends = [] ∧ idle ∧ g ≠ 0 ∧ s.gives m p 64 .read
    let fails := fun (st : Byte) => ∃ t, exec (.perTx l a) s = .next t ∧ t.bytes p 2 = [st, 1] ∧ (t.peer l).sends = [] ∧ t.fld (F.PER_LSTAT_CPL l) = 1 ∧
      tget (fun _ => 0) (t.peer l).grants 0 = g
    let beyond := (s.fld (F.PER_RX_PTR_TAIL l) + 128 - s.fld (F.PER_RX_PTR_HEAD l)) % 128 < (v.toNat + 128 - s.fld (F.PER_RX_PTR_HEAD l)) % 128
    (due → ∃ t, exec .epochSend s = .next t ∧ t.mem = s.mem ∧ (idle → x.credits.toList.getD 2 0 ≠ 0 → sent t (peerMsg 5 s.tick (leBytes 1 (s.fld F.EPC_STATUS_LOCK))))) ∧
    (¬due → exec .epochSend s = .next s.repin) ∧
    (16 ≤ x.sends.length → exec (.perTx l a) s = .next (s.setFld F.PER_STATUS_CFG_ERR 1).repin) ∧
    (x.sends.length < 16 → g = 0 → ∃ t, exec (.perTx l a) s = .next t ∧ (t.peer l).sends = x.sends ++ [{ desc := p }] ∧ t.mem = s.mem ∧ t.out = s.out) ∧
    (head → (hdrHreq d = 3 → fails 0x13) ∧ (hdrHreq d ≠ 3 → bulkOk d = false → fails 0x12) ∧
      (bulkOk d = true → leAt d 24 4 = 0 ∨ 16777216 < leAt d 24 4 → fails 0x17) ∧
      (bulkOk d = true → 0 < leAt d 24 4 → leAt d 24 4 ≤ 16777216 → s.gives m (leAt d 16 8) (leAt d 24 4) .read → ∃ t, exec (.perTx l a) s = .next t ∧
        tget (fun _ => 0) (t.peer l).grants 0 = g - 1 ∧ t.mem = s.mem ∧
        (x.credits.toList.getD 1 0 ≠ 0 → sent t ((peerMsg 4 (leAt d 32 8) (s.bytes (leAt d 16 8) (leAt d 24 4))).take 228)))) ∧
    (beyond → exec (.perRxHeadWrite l v) s = .next (s.setFld F.PER_STATUS_CFG_ERR 1).repin) ∧
    (¬beyond → ∃ t, exec (.perRxHeadWrite l v) s = .next t ∧ t.fld (F.PER_RX_PTR_HEAD l) = v.toNat ∧
      (s.linkState l = 3 → (t.peer l).granted = max x.granted (t.rxFree l)))

/-- PORST_ASSERT, POWER_LOSS and PERST (R126, R209, R424, R457, R491, R527): a chip reset, the registers of MRAM kept, those of the Embankment while
VBAT holds, key slots too, but for a floor commit that the loss of power interrupts; an endpoint's polders drain and its link goes down. PORST_RELEASE
(R209, R435, R436, R438, R443, R493, R494, R515, R527): the straps are sampled; an open intent is rolled forward, else the two copies give the life-
cycle state; a stateful slot starts at its committed floor, a transient or damaged slot is empty; SCRAPPED boots no image; host boot waits for its
image. -/
def Obligations.ResetAndBoot : Prop :=
  (∀ (s : State) (b : Bool) (ep : Fin 2),
     let special := fun (off : Nat) => off = F.KST_STATUS_ZEROISED.off ∨ off = F.TMP_STATUS_LOCKED.off ∨ off = F.PWR_STATUS_HOLDUP.off
     let emb := fun (off : Nat) => 0x1300000 ≤ off ∧ off < 0x1300068
     (∃ t, exec .porstAssert s = .next t ∧ AfterChipReset s t ∧ t.running = false ∧ t.keys.slots = s.keys.slots ∧
       ∀ off, (keptReg off = true → t.reg off = s.reg off) ∧ (keptReg off = false → ¬special off → t.reg off = resetWord off)) ∧
     (s.power.main = true → ∃ t, exec (.powerLoss b) s = .next t ∧ AfterChipReset s t ∧ t.running = false ∧ t.power.main = false ∧
       t.keys.slots = s.keys.slots.map (fun e => (e.1, e.2.tear)) ∧
       ∀ off, (keptReg off = true → b = true ∨ ¬emb off → t.reg off = s.reg off) ∧ (b = false → emb off → t.reg off = resetWord off)) ∧
     (s.power.main = false → exec (.powerLoss b) s = .next s) ∧
     (s.running = true → ∃ x : State, exec (.perst ep) s = .next x.settle.repin ∧ (x.ep ep).up = false ∧
       ∀ n, s.poldersOf ep = [n] → s.fld (F.PLD_STATUS_STATE n) = 1 → x.fld (F.PLD_STATUS_STATE n) = 3 ∧ (x.ep ep).flr = true) ∧
     (s.running = false → exec (.perst ep) s = .next s)) ∧
  (∀ (s : State) (straps : Fin 4) (nor : List Byte) (cxl : List (BitVec 32)),
     let c := codeState (leAt s.dbg.intent 5 1)
     let copies := match codeState s.dbg.copyA, codeState s.dbg.copyB with
       | some x, some y => max x y
       | some x, none => x
       | none, some y => y
       | none, none => 4
     let torn := codeState s.dbg.copyA = none ∨ codeState s.dbg.copyA ≠ codeState s.dbg.copyB
     let now := if intentOpen s.dbg.intent = true then c.getD 4 else copies
     (s.power.thermtrip = true → exec (.porstRelease straps nor cxl) s = .next s) ∧
     (s.power.thermtrip = false → s.power.hot = true → ∃ t, exec (.porstRelease straps nor cxl) s = .next t ∧ t.running = false ∧
       t.power.thermtrip = true) ∧
     (s.power.thermtrip = false → s.power.hot = false → ∃ t, exec (.porstRelease straps nor cxl) s = .next t ∧ t.running = true ∧ t.power.straps = straps.val ∧ t.power.step4 = true ∧
       t.mem = [] ∧ t.lcs = now ∧ t.fld F.LCS_STATE_CODE = stateCode now ∧
       (intentOpen s.dbg.intent = true → t.fld F.LCS_STATE_ROLLED = 1 ∧ bit (t.fld F.FCL_STATUS_FAULT) 33 = true ∧
         t.dbg.copyA = leAt s.dbg.intent 5 1 ∧ t.dbg.copyB = leAt s.dbg.intent 5 1) ∧
       (intentOpen s.dbg.intent = false → t.fld F.LCS_STATE_ROLLED = 0 ∧ (torn → bit (t.fld F.FCL_STATUS_FAULT) 25 = true)) ∧
       (now = 4 → t.fld F.PWR_BOOT_STATE = 0) ∧
       (now ≠ 4 → straps.val = 1 → t.fld F.PWR_BOOT_STATE = 1 ∧ t.fld F.PWR_BOOT_SRC = 1) ∧
       (now ≠ 4 → straps.val = 0 → nor = [] → t.fld F.PWR_BOOT_STATE = 1 ∧ t.fld F.PWR_BOOT_SRC = 0) ∧
       (intentOpen s.dbg.intent = false → s.bindingLost = false → s.fld F.EMB_LOGCNT_COUNT = 0 → twf (fun _ => ({} : KeySlot)) s.keys.slots = true → ∀ k, k < 16382 →
         ((s.key k).transient = false → (s.key k).damaged = false → { t.key k with lowLatched := false } = { (s.key k).powerUp with lowLatched := false }) ∧
         ((s.key k).transient = true ∨ (s.key k).damaged = true → (t.key k).ty = 0 ∧ (t.key k).secret = []) ∧
         ((s.key k).transient = false → (s.key k).damaged = true → bit (t.fld F.FCL_STATUS_FAULT) 25 = true))))

/-- The boot sources (R495, R496, R498, R499): a host boot starts once, while the host is the source or after a failure, and ends READY or FAILED with
the status of the check; a source that delivers nothing ends FAILED; configuration requests are retried until the boot is over. The SMBus target
(R525): with main power present it answers at all times, in reset too; every command but the temperature reads ones until boot step 4 ends; a write or
an unlisted command is NACKed. Nothing else changes. The order of the bytes is the model's. -/
def Obligations.BootSourcesAndSmbus : Prop :=
  (∀ (s : State) (ep : Fin 2) (image : List Byte), s.running = true →
     let st := s.fld F.PWR_BOOT_STATE
     let src := s.fld F.PWR_BOOT_SRC
     let up := (s.ep ep).up = true
     let go := up ∧ s.power.step4 = true ∧ (st = 1 ∧ src = 1 ∨ st = 5) ∧ 1 ∉ s.power.tried
     let l := image.take (s.fld F.PWR_BOOT_LEN_LEN)
     let floor := s.fld F.PWR_BOOT_FLOOR_FLOOR
     let okLayout := bootLayoutOk l = true ∧ bootLen l ≤ l.length
     let boots := fun (k result : Nat) => ∃ x : State, exec (.pwrBootGo ep image) s = .next x.settle.repin ∧ x.fld F.PWR_BOOT_SRC = 1 ∧ 1 ∈ x.power.tried ∧
       x.fld F.PWR_BOOT_STATE = k ∧ x.fld F.PWR_BOOT_RESULT = result ∧
       (k = 4 → x.fld F.PWR_BOOT_VERSION = leAt l 8 4 ∧ x.fld F.MEM_STATUS_HBM_OK = 15 ∧ (bit (leAt l 16 8) 0 = true → s.power.pwrFail = false →
         x.fld F.PWR_BOOT_FLOOR_FLOOR = leAt l 8 4))
     let card := s.power.straps = 3 ∧ src = 0 ∧ 2 ∉ s.power.tried
     (¬go → exec (.pwrBootGo ep image) s = .next s.settle.repin) ∧
     (go → (¬okLayout → boots 5 0x12) ∧ (okLayout → bootSigsOk l = false → boots 5 0x07) ∧
       (okLayout → bootSigsOk l = true → leAt l 8 4 < floor → boots 5 0x14) ∧ (okLayout → bootSigsOk l = true → floor ≤ leAt l 8 4 → boots 4 0)) ∧
     (st ≠ 1 → exec .bootSourceTimeout s = .next s.repin) ∧
     (st = 1 → ¬card → ∃ t, exec .bootSourceTimeout s = .next t ∧ t.fld F.PWR_BOOT_STATE = 5 ∧ t.fld F.PWR_BOOT_RESULT = 5) ∧
     (st = 1 → card → s.card.medium = none → ∃ t, exec .bootSourceTimeout s = .next t ∧ t.fld F.PWR_BOOT_STATE = 1 ∧ t.fld F.PWR_BOOT_SRC = 2) ∧
     (up → ∃ t b, exec (.pcieConfigRequest ep) s = .next t ∧ t.out = .configReply ep b :: s.out ∧
       (b = false ↔ st = 4 ∨ st = 5 ∨ (s.power.step4 = true ∧ (src = 1 ∨ s.lcs = 4)))) ∧
     (¬up → exec (.pcieConfigRequest ep) s = .next s.repin)) ∧
  (∀ s : State, s.power.main = true →
     let ones := s.power.step4 = false
     let sends := fun (i : Instr) (m : OutMsg) => exec i s = .next (s.send m)
     let replies := fun (i : Instr) (n v : Nat) => sends i (.smbData (if ones then List.replicate n 0xFF#8 else leBytes n v))
     replies .smbReadId 6 ((s.reg 0).toNat / 2 ^ 16) ∧ replies .smbReadPower 2 (s.fld F.PWR_EST_TOTAL) ∧
     replies .smbReadFaults 5 (s.fld F.FCL_STATUS_FAULT) ∧ replies .smbReadLcs 1 s.lcs ∧
     replies .smbReadBootState 1 (s.fld F.PWR_BOOT_STATE) ∧ sends .smbReadTemperature (.smbData (leBytes 2 (wrap 16 s.power.temp))) ∧
     sends .smbWriteRefused .smbNack)

/-- Power fail and the power cap (R209, R500, R501, R504): PWR_FAIL_N commits the floor of every stateful slot at its cursor; held writes are made
when it returns high; the cap throttles engines, then scans, then the core clock down to 800 MHz; a cap outside 250 to 500 W is refused.
REGISTER_WRITE of a register that only R7 governs (R6, R7, R32): RW bits take the value, W1C bits written 1 clear, the other bits keep, for each
64-bit write; a 32-bit write keeps the other half; a misaligned write or one of an offset with no register writes nothing. Through BAR2 a polder's
page reads as its PLD page and what is behind it as 0; its tenant half is written as through BAR0, and a write of the manager half is ignored (R129,
R155). -/
def Obligations.PowerAndRegisterWrites : Prop :=
  (∀ (s : State) (e sc co tot : BitVec 16) (v : BitVec 11) (w : Word), s.running = true →
     let low := s.power.pwrFail = true
     let cap := if s.fld F.PWR_CAP_MODE = 1 then s.fld F.PWR_CAP_WATTS else tot.toNat
     let r0 := tot.toNat - cap
     let r1 := r0 - e.toNat * 3 / 4
     let r2 := r1 - sc.toNat * 3 / 4
     (low → exec .pwrFailAssert s = .next s.repin) ∧
     (¬low → ∃ t, exec .pwrFailAssert s = .next t ∧ t.power.pwrFail = true ∧ t.fld F.PWR_STATUS_HOLDUP = 1 ∧ bit (t.fld F.FCL_STATUS_FAULT) 36 = true ∧
       (twf (fun _ => ({} : KeySlot)) s.keys.slots = true → ∀ k, ((s.key k).stateful = true → (t.key k).floor = (s.key k).cursor) ∧
         ((s.key k).stateful = false → t.key k = s.key k))) ∧
     (¬low → exec .pwrFailDeassert s = .next s.settle.repin) ∧
     (low → s.power.heldTamper = 0 → s.power.held = [] ∨ s.power.held = [(F.PWR_BOOT_FLOOR_FLOOR.off, w)] →
       ∃ x : State, exec .pwrFailDeassert s = .next x.settle.repin ∧ x.power.pwrFail = false ∧ x.power.held = [] ∧ x.fld F.PWR_STATUS_HOLDUP = 0 ∧
         x.fld F.FCL_STICKY_FAULT = (s.fld F.FCL_STICKY_FAULT ||| s.power.heldSticky) % 2 ^ F.FCL_STICKY_FAULT.w ∧
         (s.power.heldErrn = true → x.fld F.FCL_ERRN_ASSERTED = 1) ∧ (s.power.held ≠ [] → x.reg F.PWR_BOOT_FLOOR_FLOOR.off = w)) ∧
     (∃ t, exec (.powerEstimate e sc co tot) s = .next t ∧ t.fld F.PWR_EST_ENGINES = e.toNat ∧ t.fld F.PWR_EST_SCAN = sc.toNat ∧
       t.fld F.PWR_EST_CORES = co.toNat ∧ t.fld F.PWR_EST_TOTAL = tot.toNat ∧
       t.fld F.PWR_STATUS_STAGE = (if r0 = 0 then 0 else if r1 = 0 then 1 else if r2 = 0 then 2 else 3) ∧
       (r2 = 0 → t.fld F.PWR_STATUS_CORE_CLK = 16) ∧ 8 ≤ t.fld F.PWR_STATUS_CORE_CLK ∧ t.fld F.PWR_STATUS_CORE_CLK ≤ 16) ∧
     (∃ t, exec (.pwrCapWrite v) s = .next t ∧ (250 ≤ v.toNat % 1024 ∧ v.toNat % 1024 ≤ 500 →
       t.fld F.PWR_CAP_WATTS = v.toNat % 1024 ∧ t.fld F.PWR_CAP_MODE = v.toNat / 1024 ∧ t.fld F.PWR_STATUS_CFG_ERR = s.fld F.PWR_STATUS_CFG_ERR) ∧
       (¬(250 ≤ v.toNat % 1024 ∧ v.toNat % 1024 ≤ 500) → t.reg 0x1600000 = s.reg 0x1600000 ∧ t.fld F.PWR_STATUS_CFG_ERR = 1))) ∧
  (∀ (s : State) (v : Word) (off : Nat), s.running = true → s.power.step4 = true → s.lcs ≠ 4 → s.fld F.PWR_BOOT_STATE = 4 →
     let w := fun (o : Nat) (h : Option Bool) (a : Bool) => Instr.registerWrite false o h a v
     let same := fun (i : Instr) => exec i s = .next s.settle.repin
     let takes := fun (i : Instr) (o : Nat) (x : Nat) => exec i s = .next (s.setReg o (BitVec.ofNat 64 x)).settle.repin
     let addr := (s.reg 0x1600020).toNat
     let len := (s.reg 0x1600028).toNat
     takes (w 0x1600020 none true) 0x1600020 (v.toNat / 2 ^ 12 * 2 ^ 12 + addr % 2 ^ 12) ∧
     takes (w 0x1600020 (some false) true) 0x1600020 (addr / 2 ^ 32 * 2 ^ 32 + v.toNat % 2 ^ 32 / 2 ^ 12 * 2 ^ 12 + addr % 2 ^ 12) ∧
     takes (w 0x1600020 (some true) true) 0x1600020 (v.toNat % 2 ^ 32 * 2 ^ 32 + addr % 2 ^ 32) ∧
     takes (w 0x1600028 none true) 0x1600028 (len / 2 ^ 32 * 2 ^ 32 + v.toNat % 2 ^ 32) ∧
     (∃ t, exec (w 0x1600008 none true) s = .next t ∧
       (bit v.toNat 1 = true → t.fld F.PWR_STATUS_CFG_ERR = 0) ∧ (bit v.toNat 1 = false → t.fld F.PWR_STATUS_CFG_ERR = s.fld F.PWR_STATUS_CFG_ERR) ∧
       t.fld F.PWR_STATUS_CORE_CLK = s.fld F.PWR_STATUS_CORE_CLK) ∧
     (∀ h, same (w off h false)) ∧ (∀ h a, off % 8 ≠ 0 → same (w off h a)) ∧ (∀ h a, 0x1800000 ≤ off → same (w off h a)) ∧
     (∀ (n : PolderId) (p k : Nat) (h : Option Bool) (a : Bool), p < 0x10000 →
       (p + k ≤ 0x1000 → s.bar2Read (0x10000 * n + p) k = s.bar0Read (0x100000 + 0x1000 * n + p) k) ∧
       (0x1000 ≤ p → 0 < k → s.bar2Read (0x10000 * n + p) k = 0) ∧
       (p < 0x800 → exec (.registerWrite true (0x10000 * n + p) h a v) s = exec (w (0x100000 + 0x1000 * n + p) h a) s) ∧
       (0x800 ≤ p → p < 0x1000 → same (.registerWrite true (0x10000 * n + p) h a v))))

/-- A step takes the command at the front of the queue and performs it on the rest; every command, of every block, answers a next state in every
state, since the spec gives each an effect wherever it may come; on an empty queue one tick period passes: EPC_COUNT advances by one where it runs,
and the core-cycle counter by the period's cycles (R27, R36, R112, R117; that a step without a command is one period is the model's choice, entry 1).
-/
def Obligations.StepTakesFront : Prop :=
  (∀ (c : Instr) (rest : List Instr) (s : State), step { s with pending := c :: rest } = exec c { s with pending := rest }) ∧
  (∀ (c : Instr) (s : State), ∃ t, exec c s = .next t) ∧
  (∀ s : State, s.pending = [] → ∃ t, step s = .next t ∧ t.mem = s.mem ∧ t.out = s.out ∧ t.keys = s.keys ∧ t.pending = [] ∧
    (s.running = true → t.now = s.now + s.fld F.EPC_TICK_US * 100 * s.fld F.PWR_STATUS_CORE_CLK) ∧
    (s.running = true → s.counting = true → t.tick = (s.tick + 1) % 2 ^ F.EPC_COUNT_COUNT.w) ∧
    (s.running = false → t.now = s.now ∧ t.tick = s.tick))

/-- The state at reset (R8, R20, R32, R97, R112, R117, R155, R239, R434, R435, R504, R527): memory as cleared, every register at its Reset value, no
task, job, key or session, the device in MAKER, no command waiting. That no key slot is filled and no board data is present is the model's choice
(entries 6 and 8). -/
def Obligations.ResetState : Prop :=
  let r := State.reset
  r.pending = [] ∧ r.mem = [] ∧ (∀ off, r.reg off = resetWord off) ∧ (∀ t, (r.task t).state = .free) ∧ (∀ e, (r.job e).st = .free) ∧ (∀ k, (r.key k).ty = 0) ∧
  r.net.ses = [] ∧ r.out = [] ∧ r.lcs = 0 ∧ r.fld F.EPC_STATUS_STATE = 0 ∧ r.tick = 0 ∧ r.fld F.PWR_CAP_WATTS = 500 ∧ r.fld F.PWR_STATUS_CORE_CLK = 16 ∧
  r.fld F.PWR_BOOT_STATE = 0 ∧ r.fld (F.KST_QUOTA_LIMIT 0) = 16368 ∧ (∀ n, n < 256 → (r.reg (0x100000 + 0x1000 * n)).toNat = n) ∧ r.PinsShow

/-- At every step the output pins show the state: ERROR_N is low exactly while FCL_ERRN.ASSERTED is 1, ALERT_N, THERMTRIP_N and the card's supply pins
likewise, and the first two are released until boot step 4 ends (R425, R426, R463, R515, R519). -/
def Obligations.PinsFollowEveryStep : Prop :=
  ∀ s t : State, s.PinsShow → step s = .next t →
    t.PinsShow ∧ (t.pins.errorLow = true ↔ t.power.step4 = true ∧ t.fld F.FCL_ERRN_ASSERTED = 1) ∧ (t.pins.thermtripLow = true ↔ t.power.thermtrip = true)

/-- While the device is held in reset (PORST_N low, or a THERMTRIP_N hold), a command of any block but the Embankment, the reset inputs and supplies,
the temperature sensor and the SMBus target changes nothing (R491, R515, R525). -/
def Obligations.HeldInReset : Prop :=
  ∀ (s : State) (c : Instr), s.running = false → actsInReset c = false → exec c s = .next s
end

