-- ==== Sys2Proof/Laws/State.lean ====
section
/-!
SUPPORT. Sys2Proof/Laws/State.lean: what each named update of the state leaves alone: one lemma for each update and field.
-/

namespace Sys2Proof.Machine

section
variable (s : State) (off : Nat) (v : Word)

@[simp] theorem State.setReg_mem : (s.setReg off v).mem = s.mem := rfl
@[simp] theorem State.setReg_poison : (s.setReg off v).poison = s.poison := rfl
@[simp] theorem State.setReg_now : (s.setReg off v).now = s.now := rfl
@[simp] theorem State.setReg_sched : (s.setReg off v).sched = s.sched := rfl
@[simp] theorem State.setReg_jobs : (s.setReg off v).jobs = s.jobs := rfl
@[simp] theorem State.setReg_host : (s.setReg off v).host = s.host := rfl
@[simp] theorem State.setReg_epoch : (s.setReg off v).epoch = s.epoch := rfl
@[simp] theorem State.setReg_ctxs : (s.setReg off v).ctxs = s.ctxs := rfl
@[simp] theorem State.setReg_keys : (s.setReg off v).keys = s.keys := rfl
@[simp] theorem State.setReg_ent : (s.setReg off v).ent = s.ent := rfl
@[simp] theorem State.setReg_dike : (s.setReg off v).dike = s.dike := rfl
@[simp] theorem State.setReg_fcl : (s.setReg off v).fcl = s.fcl := rfl
@[simp] theorem State.setReg_test : (s.setReg off v).test = s.test := rfl
@[simp] theorem State.setReg_power : (s.setReg off v).power = s.power := rfl
@[simp] theorem State.setReg_dbg : (s.setReg off v).dbg = s.dbg := rfl
@[simp] theorem State.setReg_mcs : (s.setReg off v).mcs = s.mcs := rfl
@[simp] theorem State.setReg_net : (s.setReg off v).net = s.net := rfl
@[simp] theorem State.setReg_col : (s.setReg off v).col = s.col := rfl
@[simp] theorem State.setReg_opu : (s.setReg off v).opu = s.opu := rfl
@[simp] theorem State.setReg_card : (s.setReg off v).card = s.card := rfl
@[simp] theorem State.setReg_peers : (s.setReg off v).peers = s.peers := rfl
@[simp] theorem State.setReg_pins : (s.setReg off v).pins = s.pins := rfl
@[simp] theorem State.setReg_out : (s.setReg off v).out = s.out := rfl
@[simp] theorem State.setReg_free : (s.setReg off v).free = s.free := rfl
@[simp] theorem State.setReg_pending : (s.setReg off v).pending = s.pending := rfl

end

section
variable (s : State) (f : Fld) (v : Nat)

@[simp] theorem State.setFld_mem : (s.setFld f v).mem = s.mem := rfl
@[simp] theorem State.setFld_poison : (s.setFld f v).poison = s.poison := rfl
@[simp] theorem State.setFld_now : (s.setFld f v).now = s.now := rfl
@[simp] theorem State.setFld_sched : (s.setFld f v).sched = s.sched := rfl
@[simp] theorem State.setFld_jobs : (s.setFld f v).jobs = s.jobs := rfl
@[simp] theorem State.setFld_host : (s.setFld f v).host = s.host := rfl
@[simp] theorem State.setFld_epoch : (s.setFld f v).epoch = s.epoch := rfl
@[simp] theorem State.setFld_ctxs : (s.setFld f v).ctxs = s.ctxs := rfl
@[simp] theorem State.setFld_keys : (s.setFld f v).keys = s.keys := rfl
@[simp] theorem State.setFld_ent : (s.setFld f v).ent = s.ent := rfl
@[simp] theorem State.setFld_dike : (s.setFld f v).dike = s.dike := rfl
@[simp] theorem State.setFld_fcl : (s.setFld f v).fcl = s.fcl := rfl
@[simp] theorem State.setFld_test : (s.setFld f v).test = s.test := rfl
@[simp] theorem State.setFld_power : (s.setFld f v).power = s.power := rfl
@[simp] theorem State.setFld_dbg : (s.setFld f v).dbg = s.dbg := rfl
@[simp] theorem State.setFld_mcs : (s.setFld f v).mcs = s.mcs := rfl
@[simp] theorem State.setFld_net : (s.setFld f v).net = s.net := rfl
@[simp] theorem State.setFld_col : (s.setFld f v).col = s.col := rfl
@[simp] theorem State.setFld_opu : (s.setFld f v).opu = s.opu := rfl
@[simp] theorem State.setFld_card : (s.setFld f v).card = s.card := rfl
@[simp] theorem State.setFld_peers : (s.setFld f v).peers = s.peers := rfl
@[simp] theorem State.setFld_pins : (s.setFld f v).pins = s.pins := rfl
@[simp] theorem State.setFld_out : (s.setFld f v).out = s.out := rfl
@[simp] theorem State.setFld_free : (s.setFld f v).free = s.free := rfl
@[simp] theorem State.setFld_pending : (s.setFld f v).pending = s.pending := rfl

end

section
variable (s : State) (f : Fld) (n : Nat)

@[simp] theorem State.addFld_mem : (s.addFld f n).mem = s.mem := rfl
@[simp] theorem State.addFld_poison : (s.addFld f n).poison = s.poison := rfl
@[simp] theorem State.addFld_now : (s.addFld f n).now = s.now := rfl
@[simp] theorem State.addFld_sched : (s.addFld f n).sched = s.sched := rfl
@[simp] theorem State.addFld_jobs : (s.addFld f n).jobs = s.jobs := rfl
@[simp] theorem State.addFld_host : (s.addFld f n).host = s.host := rfl
@[simp] theorem State.addFld_epoch : (s.addFld f n).epoch = s.epoch := rfl
@[simp] theorem State.addFld_ctxs : (s.addFld f n).ctxs = s.ctxs := rfl
@[simp] theorem State.addFld_keys : (s.addFld f n).keys = s.keys := rfl
@[simp] theorem State.addFld_ent : (s.addFld f n).ent = s.ent := rfl
@[simp] theorem State.addFld_dike : (s.addFld f n).dike = s.dike := rfl
@[simp] theorem State.addFld_fcl : (s.addFld f n).fcl = s.fcl := rfl
@[simp] theorem State.addFld_test : (s.addFld f n).test = s.test := rfl
@[simp] theorem State.addFld_power : (s.addFld f n).power = s.power := rfl
@[simp] theorem State.addFld_dbg : (s.addFld f n).dbg = s.dbg := rfl
@[simp] theorem State.addFld_mcs : (s.addFld f n).mcs = s.mcs := rfl
@[simp] theorem State.addFld_net : (s.addFld f n).net = s.net := rfl
@[simp] theorem State.addFld_col : (s.addFld f n).col = s.col := rfl
@[simp] theorem State.addFld_opu : (s.addFld f n).opu = s.opu := rfl
@[simp] theorem State.addFld_card : (s.addFld f n).card = s.card := rfl
@[simp] theorem State.addFld_peers : (s.addFld f n).peers = s.peers := rfl
@[simp] theorem State.addFld_pins : (s.addFld f n).pins = s.pins := rfl
@[simp] theorem State.addFld_out : (s.addFld f n).out = s.out := rfl
@[simp] theorem State.addFld_free : (s.addFld f n).free = s.free := rfl
@[simp] theorem State.addFld_pending : (s.addFld f n).pending = s.pending := rfl

end

section
variable (s : State) (f : Fld)

@[simp] theorem State.incFld_mem : (s.incFld f).mem = s.mem := rfl
@[simp] theorem State.incFld_poison : (s.incFld f).poison = s.poison := rfl
@[simp] theorem State.incFld_now : (s.incFld f).now = s.now := rfl
@[simp] theorem State.incFld_sched : (s.incFld f).sched = s.sched := rfl
@[simp] theorem State.incFld_jobs : (s.incFld f).jobs = s.jobs := rfl
@[simp] theorem State.incFld_host : (s.incFld f).host = s.host := rfl
@[simp] theorem State.incFld_epoch : (s.incFld f).epoch = s.epoch := rfl
@[simp] theorem State.incFld_ctxs : (s.incFld f).ctxs = s.ctxs := rfl
@[simp] theorem State.incFld_keys : (s.incFld f).keys = s.keys := rfl
@[simp] theorem State.incFld_ent : (s.incFld f).ent = s.ent := rfl
@[simp] theorem State.incFld_dike : (s.incFld f).dike = s.dike := rfl
@[simp] theorem State.incFld_fcl : (s.incFld f).fcl = s.fcl := rfl
@[simp] theorem State.incFld_test : (s.incFld f).test = s.test := rfl
@[simp] theorem State.incFld_power : (s.incFld f).power = s.power := rfl
@[simp] theorem State.incFld_dbg : (s.incFld f).dbg = s.dbg := rfl
@[simp] theorem State.incFld_mcs : (s.incFld f).mcs = s.mcs := rfl
@[simp] theorem State.incFld_net : (s.incFld f).net = s.net := rfl
@[simp] theorem State.incFld_col : (s.incFld f).col = s.col := rfl
@[simp] theorem State.incFld_opu : (s.incFld f).opu = s.opu := rfl
@[simp] theorem State.incFld_card : (s.incFld f).card = s.card := rfl
@[simp] theorem State.incFld_peers : (s.incFld f).peers = s.peers := rfl
@[simp] theorem State.incFld_pins : (s.incFld f).pins = s.pins := rfl
@[simp] theorem State.incFld_out : (s.incFld f).out = s.out := rfl
@[simp] theorem State.incFld_free : (s.incFld f).free = s.free := rfl
@[simp] theorem State.incFld_pending : (s.incFld f).pending = s.pending := rfl

end

section
variable (s : State) (m : OutMsg)

@[simp] theorem State.send_regs : (s.send m).regs = s.regs := rfl
@[simp] theorem State.send_mem : (s.send m).mem = s.mem := rfl
@[simp] theorem State.send_poison : (s.send m).poison = s.poison := rfl
@[simp] theorem State.send_now : (s.send m).now = s.now := rfl
@[simp] theorem State.send_sched : (s.send m).sched = s.sched := rfl
@[simp] theorem State.send_jobs : (s.send m).jobs = s.jobs := rfl
@[simp] theorem State.send_host : (s.send m).host = s.host := rfl
@[simp] theorem State.send_epoch : (s.send m).epoch = s.epoch := rfl
@[simp] theorem State.send_ctxs : (s.send m).ctxs = s.ctxs := rfl
@[simp] theorem State.send_keys : (s.send m).keys = s.keys := rfl
@[simp] theorem State.send_ent : (s.send m).ent = s.ent := rfl
@[simp] theorem State.send_dike : (s.send m).dike = s.dike := rfl
@[simp] theorem State.send_fcl : (s.send m).fcl = s.fcl := rfl
@[simp] theorem State.send_test : (s.send m).test = s.test := rfl
@[simp] theorem State.send_power : (s.send m).power = s.power := rfl
@[simp] theorem State.send_dbg : (s.send m).dbg = s.dbg := rfl
@[simp] theorem State.send_mcs : (s.send m).mcs = s.mcs := rfl
@[simp] theorem State.send_net : (s.send m).net = s.net := rfl
@[simp] theorem State.send_col : (s.send m).col = s.col := rfl
@[simp] theorem State.send_opu : (s.send m).opu = s.opu := rfl
@[simp] theorem State.send_card : (s.send m).card = s.card := rfl
@[simp] theorem State.send_peers : (s.send m).peers = s.peers := rfl
@[simp] theorem State.send_pins : (s.send m).pins = s.pins := rfl
@[simp] theorem State.send_free : (s.send m).free = s.free := rfl
@[simp] theorem State.send_pending : (s.send m).pending = s.pending := rfl

end

section
variable (s : State)

@[simp] theorem State.bump_regs : (s.bump).regs = s.regs := rfl
@[simp] theorem State.bump_mem : (s.bump).mem = s.mem := rfl
@[simp] theorem State.bump_poison : (s.bump).poison = s.poison := rfl
@[simp] theorem State.bump_now : (s.bump).now = s.now := rfl
@[simp] theorem State.bump_sched : (s.bump).sched = s.sched := rfl
@[simp] theorem State.bump_jobs : (s.bump).jobs = s.jobs := rfl
@[simp] theorem State.bump_host : (s.bump).host = s.host := rfl
@[simp] theorem State.bump_epoch : (s.bump).epoch = s.epoch := rfl
@[simp] theorem State.bump_ctxs : (s.bump).ctxs = s.ctxs := rfl
@[simp] theorem State.bump_keys : (s.bump).keys = s.keys := rfl
@[simp] theorem State.bump_ent : (s.bump).ent = s.ent := rfl
@[simp] theorem State.bump_dike : (s.bump).dike = s.dike := rfl
@[simp] theorem State.bump_fcl : (s.bump).fcl = s.fcl := rfl
@[simp] theorem State.bump_test : (s.bump).test = s.test := rfl
@[simp] theorem State.bump_power : (s.bump).power = s.power := rfl
@[simp] theorem State.bump_dbg : (s.bump).dbg = s.dbg := rfl
@[simp] theorem State.bump_mcs : (s.bump).mcs = s.mcs := rfl
@[simp] theorem State.bump_net : (s.bump).net = s.net := rfl
@[simp] theorem State.bump_col : (s.bump).col = s.col := rfl
@[simp] theorem State.bump_opu : (s.bump).opu = s.opu := rfl
@[simp] theorem State.bump_card : (s.bump).card = s.card := rfl
@[simp] theorem State.bump_peers : (s.bump).peers = s.peers := rfl
@[simp] theorem State.bump_pins : (s.bump).pins = s.pins := rfl
@[simp] theorem State.bump_out : (s.bump).out = s.out := rfl
@[simp] theorem State.bump_pending : (s.bump).pending = s.pending := rfl

end

section
variable (s : State) (t : Nat) (x : Task)

@[simp] theorem State.setTask_regs : (s.setTask t x).regs = s.regs := rfl
@[simp] theorem State.setTask_mem : (s.setTask t x).mem = s.mem := rfl
@[simp] theorem State.setTask_poison : (s.setTask t x).poison = s.poison := rfl
@[simp] theorem State.setTask_now : (s.setTask t x).now = s.now := rfl
@[simp] theorem State.setTask_jobs : (s.setTask t x).jobs = s.jobs := rfl
@[simp] theorem State.setTask_host : (s.setTask t x).host = s.host := rfl
@[simp] theorem State.setTask_epoch : (s.setTask t x).epoch = s.epoch := rfl
@[simp] theorem State.setTask_ctxs : (s.setTask t x).ctxs = s.ctxs := rfl
@[simp] theorem State.setTask_keys : (s.setTask t x).keys = s.keys := rfl
@[simp] theorem State.setTask_ent : (s.setTask t x).ent = s.ent := rfl
@[simp] theorem State.setTask_dike : (s.setTask t x).dike = s.dike := rfl
@[simp] theorem State.setTask_fcl : (s.setTask t x).fcl = s.fcl := rfl
@[simp] theorem State.setTask_test : (s.setTask t x).test = s.test := rfl
@[simp] theorem State.setTask_power : (s.setTask t x).power = s.power := rfl
@[simp] theorem State.setTask_dbg : (s.setTask t x).dbg = s.dbg := rfl
@[simp] theorem State.setTask_mcs : (s.setTask t x).mcs = s.mcs := rfl
@[simp] theorem State.setTask_net : (s.setTask t x).net = s.net := rfl
@[simp] theorem State.setTask_col : (s.setTask t x).col = s.col := rfl
@[simp] theorem State.setTask_opu : (s.setTask t x).opu = s.opu := rfl
@[simp] theorem State.setTask_card : (s.setTask t x).card = s.card := rfl
@[simp] theorem State.setTask_peers : (s.setTask t x).peers = s.peers := rfl
@[simp] theorem State.setTask_pins : (s.setTask t x).pins = s.pins := rfl
@[simp] theorem State.setTask_out : (s.setTask t x).out = s.out := rfl
@[simp] theorem State.setTask_free : (s.setTask t x).free = s.free := rfl
@[simp] theorem State.setTask_pending : (s.setTask t x).pending = s.pending := rfl
@[simp] theorem State.setTask_sched_cores : (s.setTask t x).sched.cores = s.sched.cores := rfl
@[simp] theorem State.setTask_sched_workers : (s.setTask t x).sched.workers = s.sched.workers := rfl
@[simp] theorem State.setTask_sched_aff : (s.setTask t x).sched.aff = s.sched.aff := rfl
@[simp] theorem State.setTask_sched_prioq : (s.setTask t x).sched.prioq = s.sched.prioq := rfl
@[simp] theorem State.setTask_sched_hwWait : (s.setTask t x).sched.hwWait = s.sched.hwWait := rfl
@[simp] theorem State.setTask_sched_parity : (s.setTask t x).sched.parity = s.sched.parity := rfl

end

section
variable (s : State) (c : Nat) (x : Core)

@[simp] theorem State.setCore_regs : (s.setCore c x).regs = s.regs := rfl
@[simp] theorem State.setCore_mem : (s.setCore c x).mem = s.mem := rfl
@[simp] theorem State.setCore_poison : (s.setCore c x).poison = s.poison := rfl
@[simp] theorem State.setCore_now : (s.setCore c x).now = s.now := rfl
@[simp] theorem State.setCore_jobs : (s.setCore c x).jobs = s.jobs := rfl
@[simp] theorem State.setCore_host : (s.setCore c x).host = s.host := rfl
@[simp] theorem State.setCore_epoch : (s.setCore c x).epoch = s.epoch := rfl
@[simp] theorem State.setCore_ctxs : (s.setCore c x).ctxs = s.ctxs := rfl
@[simp] theorem State.setCore_keys : (s.setCore c x).keys = s.keys := rfl
@[simp] theorem State.setCore_ent : (s.setCore c x).ent = s.ent := rfl
@[simp] theorem State.setCore_dike : (s.setCore c x).dike = s.dike := rfl
@[simp] theorem State.setCore_fcl : (s.setCore c x).fcl = s.fcl := rfl
@[simp] theorem State.setCore_test : (s.setCore c x).test = s.test := rfl
@[simp] theorem State.setCore_power : (s.setCore c x).power = s.power := rfl
@[simp] theorem State.setCore_dbg : (s.setCore c x).dbg = s.dbg := rfl
@[simp] theorem State.setCore_mcs : (s.setCore c x).mcs = s.mcs := rfl
@[simp] theorem State.setCore_net : (s.setCore c x).net = s.net := rfl
@[simp] theorem State.setCore_col : (s.setCore c x).col = s.col := rfl
@[simp] theorem State.setCore_opu : (s.setCore c x).opu = s.opu := rfl
@[simp] theorem State.setCore_card : (s.setCore c x).card = s.card := rfl
@[simp] theorem State.setCore_peers : (s.setCore c x).peers = s.peers := rfl
@[simp] theorem State.setCore_pins : (s.setCore c x).pins = s.pins := rfl
@[simp] theorem State.setCore_out : (s.setCore c x).out = s.out := rfl
@[simp] theorem State.setCore_free : (s.setCore c x).free = s.free := rfl
@[simp] theorem State.setCore_pending : (s.setCore c x).pending = s.pending := rfl
@[simp] theorem State.setCore_sched_workers : (s.setCore c x).sched.workers = s.sched.workers := rfl
@[simp] theorem State.setCore_sched_aff : (s.setCore c x).sched.aff = s.sched.aff := rfl
@[simp] theorem State.setCore_sched_prioq : (s.setCore c x).sched.prioq = s.sched.prioq := rfl
@[simp] theorem State.setCore_sched_tasks : (s.setCore c x).sched.tasks = s.sched.tasks := rfl
@[simp] theorem State.setCore_sched_hwWait : (s.setCore c x).sched.hwWait = s.sched.hwWait := rfl
@[simp] theorem State.setCore_sched_parity : (s.setCore c x).sched.parity = s.sched.parity := rfl

end

section
variable (s : State) (w : Nat) (x : Worker)

@[simp] theorem State.setWorker_regs : (s.setWorker w x).regs = s.regs := rfl
@[simp] theorem State.setWorker_mem : (s.setWorker w x).mem = s.mem := rfl
@[simp] theorem State.setWorker_poison : (s.setWorker w x).poison = s.poison := rfl
@[simp] theorem State.setWorker_now : (s.setWorker w x).now = s.now := rfl
@[simp] theorem State.setWorker_jobs : (s.setWorker w x).jobs = s.jobs := rfl
@[simp] theorem State.setWorker_host : (s.setWorker w x).host = s.host := rfl
@[simp] theorem State.setWorker_epoch : (s.setWorker w x).epoch = s.epoch := rfl
@[simp] theorem State.setWorker_ctxs : (s.setWorker w x).ctxs = s.ctxs := rfl
@[simp] theorem State.setWorker_keys : (s.setWorker w x).keys = s.keys := rfl
@[simp] theorem State.setWorker_ent : (s.setWorker w x).ent = s.ent := rfl
@[simp] theorem State.setWorker_dike : (s.setWorker w x).dike = s.dike := rfl
@[simp] theorem State.setWorker_fcl : (s.setWorker w x).fcl = s.fcl := rfl
@[simp] theorem State.setWorker_test : (s.setWorker w x).test = s.test := rfl
@[simp] theorem State.setWorker_power : (s.setWorker w x).power = s.power := rfl
@[simp] theorem State.setWorker_dbg : (s.setWorker w x).dbg = s.dbg := rfl
@[simp] theorem State.setWorker_mcs : (s.setWorker w x).mcs = s.mcs := rfl
@[simp] theorem State.setWorker_net : (s.setWorker w x).net = s.net := rfl
@[simp] theorem State.setWorker_col : (s.setWorker w x).col = s.col := rfl
@[simp] theorem State.setWorker_opu : (s.setWorker w x).opu = s.opu := rfl
@[simp] theorem State.setWorker_card : (s.setWorker w x).card = s.card := rfl
@[simp] theorem State.setWorker_peers : (s.setWorker w x).peers = s.peers := rfl
@[simp] theorem State.setWorker_pins : (s.setWorker w x).pins = s.pins := rfl
@[simp] theorem State.setWorker_out : (s.setWorker w x).out = s.out := rfl
@[simp] theorem State.setWorker_free : (s.setWorker w x).free = s.free := rfl
@[simp] theorem State.setWorker_pending : (s.setWorker w x).pending = s.pending := rfl
@[simp] theorem State.setWorker_sched_cores : (s.setWorker w x).sched.cores = s.sched.cores := rfl
@[simp] theorem State.setWorker_sched_aff : (s.setWorker w x).sched.aff = s.sched.aff := rfl
@[simp] theorem State.setWorker_sched_prioq : (s.setWorker w x).sched.prioq = s.sched.prioq := rfl
@[simp] theorem State.setWorker_sched_tasks : (s.setWorker w x).sched.tasks = s.sched.tasks := rfl
@[simp] theorem State.setWorker_sched_hwWait : (s.setWorker w x).sched.hwWait = s.sched.hwWait := rfl
@[simp] theorem State.setWorker_sched_parity : (s.setWorker w x).sched.parity = s.sched.parity := rfl

end

section
variable (s : State) (w : Nat) (l : List Nat)

@[simp] theorem State.setAff_regs : (s.setAff w l).regs = s.regs := rfl
@[simp] theorem State.setAff_mem : (s.setAff w l).mem = s.mem := rfl
@[simp] theorem State.setAff_poison : (s.setAff w l).poison = s.poison := rfl
@[simp] theorem State.setAff_now : (s.setAff w l).now = s.now := rfl
@[simp] theorem State.setAff_jobs : (s.setAff w l).jobs = s.jobs := rfl
@[simp] theorem State.setAff_host : (s.setAff w l).host = s.host := rfl
@[simp] theorem State.setAff_epoch : (s.setAff w l).epoch = s.epoch := rfl
@[simp] theorem State.setAff_ctxs : (s.setAff w l).ctxs = s.ctxs := rfl
@[simp] theorem State.setAff_keys : (s.setAff w l).keys = s.keys := rfl
@[simp] theorem State.setAff_ent : (s.setAff w l).ent = s.ent := rfl
@[simp] theorem State.setAff_dike : (s.setAff w l).dike = s.dike := rfl
@[simp] theorem State.setAff_fcl : (s.setAff w l).fcl = s.fcl := rfl
@[simp] theorem State.setAff_test : (s.setAff w l).test = s.test := rfl
@[simp] theorem State.setAff_power : (s.setAff w l).power = s.power := rfl
@[simp] theorem State.setAff_dbg : (s.setAff w l).dbg = s.dbg := rfl
@[simp] theorem State.setAff_mcs : (s.setAff w l).mcs = s.mcs := rfl
@[simp] theorem State.setAff_net : (s.setAff w l).net = s.net := rfl
@[simp] theorem State.setAff_col : (s.setAff w l).col = s.col := rfl
@[simp] theorem State.setAff_opu : (s.setAff w l).opu = s.opu := rfl
@[simp] theorem State.setAff_card : (s.setAff w l).card = s.card := rfl
@[simp] theorem State.setAff_peers : (s.setAff w l).peers = s.peers := rfl
@[simp] theorem State.setAff_pins : (s.setAff w l).pins = s.pins := rfl
@[simp] theorem State.setAff_out : (s.setAff w l).out = s.out := rfl
@[simp] theorem State.setAff_free : (s.setAff w l).free = s.free := rfl
@[simp] theorem State.setAff_pending : (s.setAff w l).pending = s.pending := rfl
@[simp] theorem State.setAff_sched_cores : (s.setAff w l).sched.cores = s.sched.cores := rfl
@[simp] theorem State.setAff_sched_workers : (s.setAff w l).sched.workers = s.sched.workers := rfl
@[simp] theorem State.setAff_sched_prioq : (s.setAff w l).sched.prioq = s.sched.prioq := rfl
@[simp] theorem State.setAff_sched_tasks : (s.setAff w l).sched.tasks = s.sched.tasks := rfl
@[simp] theorem State.setAff_sched_hwWait : (s.setAff w l).sched.hwWait = s.sched.hwWait := rfl
@[simp] theorem State.setAff_sched_parity : (s.setAff w l).sched.parity = s.sched.parity := rfl

end

section
variable (s : State) (cls prio : Nat) (l : List Nat)

@[simp] theorem State.setPrioq_regs : (s.setPrioq cls prio l).regs = s.regs := rfl
@[simp] theorem State.setPrioq_mem : (s.setPrioq cls prio l).mem = s.mem := rfl
@[simp] theorem State.setPrioq_poison : (s.setPrioq cls prio l).poison = s.poison := rfl
@[simp] theorem State.setPrioq_now : (s.setPrioq cls prio l).now = s.now := rfl
@[simp] theorem State.setPrioq_jobs : (s.setPrioq cls prio l).jobs = s.jobs := rfl
@[simp] theorem State.setPrioq_host : (s.setPrioq cls prio l).host = s.host := rfl
@[simp] theorem State.setPrioq_epoch : (s.setPrioq cls prio l).epoch = s.epoch := rfl
@[simp] theorem State.setPrioq_ctxs : (s.setPrioq cls prio l).ctxs = s.ctxs := rfl
@[simp] theorem State.setPrioq_keys : (s.setPrioq cls prio l).keys = s.keys := rfl
@[simp] theorem State.setPrioq_ent : (s.setPrioq cls prio l).ent = s.ent := rfl
@[simp] theorem State.setPrioq_dike : (s.setPrioq cls prio l).dike = s.dike := rfl
@[simp] theorem State.setPrioq_fcl : (s.setPrioq cls prio l).fcl = s.fcl := rfl
@[simp] theorem State.setPrioq_test : (s.setPrioq cls prio l).test = s.test := rfl
@[simp] theorem State.setPrioq_power : (s.setPrioq cls prio l).power = s.power := rfl
@[simp] theorem State.setPrioq_dbg : (s.setPrioq cls prio l).dbg = s.dbg := rfl
@[simp] theorem State.setPrioq_mcs : (s.setPrioq cls prio l).mcs = s.mcs := rfl
@[simp] theorem State.setPrioq_net : (s.setPrioq cls prio l).net = s.net := rfl
@[simp] theorem State.setPrioq_col : (s.setPrioq cls prio l).col = s.col := rfl
@[simp] theorem State.setPrioq_opu : (s.setPrioq cls prio l).opu = s.opu := rfl
@[simp] theorem State.setPrioq_card : (s.setPrioq cls prio l).card = s.card := rfl
@[simp] theorem State.setPrioq_peers : (s.setPrioq cls prio l).peers = s.peers := rfl
@[simp] theorem State.setPrioq_pins : (s.setPrioq cls prio l).pins = s.pins := rfl
@[simp] theorem State.setPrioq_out : (s.setPrioq cls prio l).out = s.out := rfl
@[simp] theorem State.setPrioq_free : (s.setPrioq cls prio l).free = s.free := rfl
@[simp] theorem State.setPrioq_pending : (s.setPrioq cls prio l).pending = s.pending := rfl
@[simp] theorem State.setPrioq_sched_cores : (s.setPrioq cls prio l).sched.cores = s.sched.cores := rfl
@[simp] theorem State.setPrioq_sched_workers : (s.setPrioq cls prio l).sched.workers = s.sched.workers := rfl
@[simp] theorem State.setPrioq_sched_aff : (s.setPrioq cls prio l).sched.aff = s.sched.aff := rfl
@[simp] theorem State.setPrioq_sched_tasks : (s.setPrioq cls prio l).sched.tasks = s.sched.tasks := rfl
@[simp] theorem State.setPrioq_sched_hwWait : (s.setPrioq cls prio l).sched.hwWait = s.sched.hwWait := rfl
@[simp] theorem State.setPrioq_sched_parity : (s.setPrioq cls prio l).sched.parity = s.sched.parity := rfl

end

section
variable (s : State) (e : Nat) (j : Job)

@[simp] theorem State.setJob_regs : (s.setJob e j).regs = s.regs := rfl
@[simp] theorem State.setJob_mem : (s.setJob e j).mem = s.mem := rfl
@[simp] theorem State.setJob_poison : (s.setJob e j).poison = s.poison := rfl
@[simp] theorem State.setJob_now : (s.setJob e j).now = s.now := rfl
@[simp] theorem State.setJob_sched : (s.setJob e j).sched = s.sched := rfl
@[simp] theorem State.setJob_host : (s.setJob e j).host = s.host := rfl
@[simp] theorem State.setJob_epoch : (s.setJob e j).epoch = s.epoch := rfl
@[simp] theorem State.setJob_ctxs : (s.setJob e j).ctxs = s.ctxs := rfl
@[simp] theorem State.setJob_keys : (s.setJob e j).keys = s.keys := rfl
@[simp] theorem State.setJob_ent : (s.setJob e j).ent = s.ent := rfl
@[simp] theorem State.setJob_dike : (s.setJob e j).dike = s.dike := rfl
@[simp] theorem State.setJob_fcl : (s.setJob e j).fcl = s.fcl := rfl
@[simp] theorem State.setJob_test : (s.setJob e j).test = s.test := rfl
@[simp] theorem State.setJob_power : (s.setJob e j).power = s.power := rfl
@[simp] theorem State.setJob_dbg : (s.setJob e j).dbg = s.dbg := rfl
@[simp] theorem State.setJob_mcs : (s.setJob e j).mcs = s.mcs := rfl
@[simp] theorem State.setJob_net : (s.setJob e j).net = s.net := rfl
@[simp] theorem State.setJob_col : (s.setJob e j).col = s.col := rfl
@[simp] theorem State.setJob_opu : (s.setJob e j).opu = s.opu := rfl
@[simp] theorem State.setJob_card : (s.setJob e j).card = s.card := rfl
@[simp] theorem State.setJob_peers : (s.setJob e j).peers = s.peers := rfl
@[simp] theorem State.setJob_pins : (s.setJob e j).pins = s.pins := rfl
@[simp] theorem State.setJob_out : (s.setJob e j).out = s.out := rfl
@[simp] theorem State.setJob_free : (s.setJob e j).free = s.free := rfl
@[simp] theorem State.setJob_pending : (s.setJob e j).pending = s.pending := rfl

end

section
variable (s : State) (cls : Nat) (l : List Nat)

@[simp] theorem State.setJobQueue_regs : (s.setJobQueue cls l).regs = s.regs := rfl
@[simp] theorem State.setJobQueue_mem : (s.setJobQueue cls l).mem = s.mem := rfl
@[simp] theorem State.setJobQueue_poison : (s.setJobQueue cls l).poison = s.poison := rfl
@[simp] theorem State.setJobQueue_now : (s.setJobQueue cls l).now = s.now := rfl
@[simp] theorem State.setJobQueue_sched : (s.setJobQueue cls l).sched = s.sched := rfl
@[simp] theorem State.setJobQueue_host : (s.setJobQueue cls l).host = s.host := rfl
@[simp] theorem State.setJobQueue_epoch : (s.setJobQueue cls l).epoch = s.epoch := rfl
@[simp] theorem State.setJobQueue_ctxs : (s.setJobQueue cls l).ctxs = s.ctxs := rfl
@[simp] theorem State.setJobQueue_keys : (s.setJobQueue cls l).keys = s.keys := rfl
@[simp] theorem State.setJobQueue_ent : (s.setJobQueue cls l).ent = s.ent := rfl
@[simp] theorem State.setJobQueue_dike : (s.setJobQueue cls l).dike = s.dike := rfl
@[simp] theorem State.setJobQueue_fcl : (s.setJobQueue cls l).fcl = s.fcl := rfl
@[simp] theorem State.setJobQueue_test : (s.setJobQueue cls l).test = s.test := rfl
@[simp] theorem State.setJobQueue_power : (s.setJobQueue cls l).power = s.power := rfl
@[simp] theorem State.setJobQueue_dbg : (s.setJobQueue cls l).dbg = s.dbg := rfl
@[simp] theorem State.setJobQueue_mcs : (s.setJobQueue cls l).mcs = s.mcs := rfl
@[simp] theorem State.setJobQueue_net : (s.setJobQueue cls l).net = s.net := rfl
@[simp] theorem State.setJobQueue_col : (s.setJobQueue cls l).col = s.col := rfl
@[simp] theorem State.setJobQueue_opu : (s.setJobQueue cls l).opu = s.opu := rfl
@[simp] theorem State.setJobQueue_card : (s.setJobQueue cls l).card = s.card := rfl
@[simp] theorem State.setJobQueue_peers : (s.setJobQueue cls l).peers = s.peers := rfl
@[simp] theorem State.setJobQueue_pins : (s.setJobQueue cls l).pins = s.pins := rfl
@[simp] theorem State.setJobQueue_out : (s.setJobQueue cls l).out = s.out := rfl
@[simp] theorem State.setJobQueue_free : (s.setJobQueue cls l).free = s.free := rfl
@[simp] theorem State.setJobQueue_pending : (s.setJobQueue cls l).pending = s.pending := rfl

end

section
variable (s : State) (k : Nat) (x : KeySlot)

@[simp] theorem State.setKey_regs : (s.setKey k x).regs = s.regs := rfl
@[simp] theorem State.setKey_mem : (s.setKey k x).mem = s.mem := rfl
@[simp] theorem State.setKey_poison : (s.setKey k x).poison = s.poison := rfl
@[simp] theorem State.setKey_now : (s.setKey k x).now = s.now := rfl
@[simp] theorem State.setKey_sched : (s.setKey k x).sched = s.sched := rfl
@[simp] theorem State.setKey_jobs : (s.setKey k x).jobs = s.jobs := rfl
@[simp] theorem State.setKey_host : (s.setKey k x).host = s.host := rfl
@[simp] theorem State.setKey_epoch : (s.setKey k x).epoch = s.epoch := rfl
@[simp] theorem State.setKey_ctxs : (s.setKey k x).ctxs = s.ctxs := rfl
@[simp] theorem State.setKey_ent : (s.setKey k x).ent = s.ent := rfl
@[simp] theorem State.setKey_dike : (s.setKey k x).dike = s.dike := rfl
@[simp] theorem State.setKey_fcl : (s.setKey k x).fcl = s.fcl := rfl
@[simp] theorem State.setKey_test : (s.setKey k x).test = s.test := rfl
@[simp] theorem State.setKey_power : (s.setKey k x).power = s.power := rfl
@[simp] theorem State.setKey_dbg : (s.setKey k x).dbg = s.dbg := rfl
@[simp] theorem State.setKey_mcs : (s.setKey k x).mcs = s.mcs := rfl
@[simp] theorem State.setKey_net : (s.setKey k x).net = s.net := rfl
@[simp] theorem State.setKey_col : (s.setKey k x).col = s.col := rfl
@[simp] theorem State.setKey_opu : (s.setKey k x).opu = s.opu := rfl
@[simp] theorem State.setKey_card : (s.setKey k x).card = s.card := rfl
@[simp] theorem State.setKey_peers : (s.setKey k x).peers = s.peers := rfl
@[simp] theorem State.setKey_pins : (s.setKey k x).pins = s.pins := rfl
@[simp] theorem State.setKey_out : (s.setKey k x).out = s.out := rfl
@[simp] theorem State.setKey_free : (s.setKey k x).free = s.free := rfl
@[simp] theorem State.setKey_pending : (s.setKey k x).pending = s.pending := rfl
@[simp] theorem State.setKey_keys_saltGen : (s.setKey k x).keys.saltGen = s.keys.saltGen := rfl
@[simp] theorem State.setKey_keys_scrubKeepDevice : (s.setKey k x).keys.scrubKeepDevice = s.keys.scrubKeepDevice := rfl
@[simp] theorem State.setKey_keys_rcptStaged : (s.setKey k x).keys.rcptStaged = s.keys.rcptStaged := rfl
@[simp] theorem State.setKey_keys_rcptInForce : (s.setKey k x).keys.rcptInForce = s.keys.rcptInForce := rfl
@[simp] theorem State.setKey_keys_checkB : (s.setKey k x).keys.checkB = s.keys.checkB := rfl
@[simp] theorem State.setKey_keys_embGone : (s.setKey k x).keys.embGone = s.keys.embGone := rfl

end

section
variable (s : State) (x : Nat) (c : Ctx)

@[simp] theorem State.setCtx_regs : (s.setCtx x c).regs = s.regs := rfl
@[simp] theorem State.setCtx_mem : (s.setCtx x c).mem = s.mem := rfl
@[simp] theorem State.setCtx_poison : (s.setCtx x c).poison = s.poison := rfl
@[simp] theorem State.setCtx_now : (s.setCtx x c).now = s.now := rfl
@[simp] theorem State.setCtx_sched : (s.setCtx x c).sched = s.sched := rfl
@[simp] theorem State.setCtx_jobs : (s.setCtx x c).jobs = s.jobs := rfl
@[simp] theorem State.setCtx_host : (s.setCtx x c).host = s.host := rfl
@[simp] theorem State.setCtx_epoch : (s.setCtx x c).epoch = s.epoch := rfl
@[simp] theorem State.setCtx_keys : (s.setCtx x c).keys = s.keys := rfl
@[simp] theorem State.setCtx_ent : (s.setCtx x c).ent = s.ent := rfl
@[simp] theorem State.setCtx_dike : (s.setCtx x c).dike = s.dike := rfl
@[simp] theorem State.setCtx_fcl : (s.setCtx x c).fcl = s.fcl := rfl
@[simp] theorem State.setCtx_test : (s.setCtx x c).test = s.test := rfl
@[simp] theorem State.setCtx_power : (s.setCtx x c).power = s.power := rfl
@[simp] theorem State.setCtx_dbg : (s.setCtx x c).dbg = s.dbg := rfl
@[simp] theorem State.setCtx_mcs : (s.setCtx x c).mcs = s.mcs := rfl
@[simp] theorem State.setCtx_net : (s.setCtx x c).net = s.net := rfl
@[simp] theorem State.setCtx_col : (s.setCtx x c).col = s.col := rfl
@[simp] theorem State.setCtx_opu : (s.setCtx x c).opu = s.opu := rfl
@[simp] theorem State.setCtx_card : (s.setCtx x c).card = s.card := rfl
@[simp] theorem State.setCtx_peers : (s.setCtx x c).peers = s.peers := rfl
@[simp] theorem State.setCtx_pins : (s.setCtx x c).pins = s.pins := rfl
@[simp] theorem State.setCtx_out : (s.setCtx x c).out = s.out := rfl
@[simp] theorem State.setCtx_free : (s.setCtx x c).free = s.free := rfl
@[simp] theorem State.setCtx_pending : (s.setCtx x c).pending = s.pending := rfl

end

section
variable (s : State) (n : Nat) (x : PolderQ)

@[simp] theorem State.setPq_regs : (s.setPq n x).regs = s.regs := rfl
@[simp] theorem State.setPq_mem : (s.setPq n x).mem = s.mem := rfl
@[simp] theorem State.setPq_poison : (s.setPq n x).poison = s.poison := rfl
@[simp] theorem State.setPq_now : (s.setPq n x).now = s.now := rfl
@[simp] theorem State.setPq_sched : (s.setPq n x).sched = s.sched := rfl
@[simp] theorem State.setPq_jobs : (s.setPq n x).jobs = s.jobs := rfl
@[simp] theorem State.setPq_epoch : (s.setPq n x).epoch = s.epoch := rfl
@[simp] theorem State.setPq_ctxs : (s.setPq n x).ctxs = s.ctxs := rfl
@[simp] theorem State.setPq_keys : (s.setPq n x).keys = s.keys := rfl
@[simp] theorem State.setPq_ent : (s.setPq n x).ent = s.ent := rfl
@[simp] theorem State.setPq_dike : (s.setPq n x).dike = s.dike := rfl
@[simp] theorem State.setPq_fcl : (s.setPq n x).fcl = s.fcl := rfl
@[simp] theorem State.setPq_test : (s.setPq n x).test = s.test := rfl
@[simp] theorem State.setPq_power : (s.setPq n x).power = s.power := rfl
@[simp] theorem State.setPq_dbg : (s.setPq n x).dbg = s.dbg := rfl
@[simp] theorem State.setPq_mcs : (s.setPq n x).mcs = s.mcs := rfl
@[simp] theorem State.setPq_net : (s.setPq n x).net = s.net := rfl
@[simp] theorem State.setPq_col : (s.setPq n x).col = s.col := rfl
@[simp] theorem State.setPq_opu : (s.setPq n x).opu = s.opu := rfl
@[simp] theorem State.setPq_card : (s.setPq n x).card = s.card := rfl
@[simp] theorem State.setPq_peers : (s.setPq n x).peers = s.peers := rfl
@[simp] theorem State.setPq_pins : (s.setPq n x).pins = s.pins := rfl
@[simp] theorem State.setPq_out : (s.setPq n x).out = s.out := rfl
@[simp] theorem State.setPq_free : (s.setPq n x).free = s.free := rfl
@[simp] theorem State.setPq_pending : (s.setPq n x).pending = s.pending := rfl
@[simp] theorem State.setPq_host_eps : (s.setPq n x).host.eps = s.host.eps := rfl
@[simp] theorem State.setPq_host_ats : (s.setPq n x).host.ats = s.host.ats := rfl
@[simp] theorem State.setPq_host_progs : (s.setPq n x).host.progs = s.host.progs := rfl
@[simp] theorem State.setPq_host_lib : (s.setPq n x).host.lib = s.host.lib := rfl
@[simp] theorem State.setPq_host_nextHandle : (s.setPq n x).host.nextHandle = s.host.nextHandle := rfl

end

section
variable (s : State) (e : Nat) (x : Endpoint)

@[simp] theorem State.setEp_regs : (s.setEp e x).regs = s.regs := rfl
@[simp] theorem State.setEp_mem : (s.setEp e x).mem = s.mem := rfl
@[simp] theorem State.setEp_poison : (s.setEp e x).poison = s.poison := rfl
@[simp] theorem State.setEp_now : (s.setEp e x).now = s.now := rfl
@[simp] theorem State.setEp_sched : (s.setEp e x).sched = s.sched := rfl
@[simp] theorem State.setEp_jobs : (s.setEp e x).jobs = s.jobs := rfl
@[simp] theorem State.setEp_epoch : (s.setEp e x).epoch = s.epoch := rfl
@[simp] theorem State.setEp_ctxs : (s.setEp e x).ctxs = s.ctxs := rfl
@[simp] theorem State.setEp_keys : (s.setEp e x).keys = s.keys := rfl
@[simp] theorem State.setEp_ent : (s.setEp e x).ent = s.ent := rfl
@[simp] theorem State.setEp_dike : (s.setEp e x).dike = s.dike := rfl
@[simp] theorem State.setEp_fcl : (s.setEp e x).fcl = s.fcl := rfl
@[simp] theorem State.setEp_test : (s.setEp e x).test = s.test := rfl
@[simp] theorem State.setEp_power : (s.setEp e x).power = s.power := rfl
@[simp] theorem State.setEp_dbg : (s.setEp e x).dbg = s.dbg := rfl
@[simp] theorem State.setEp_mcs : (s.setEp e x).mcs = s.mcs := rfl
@[simp] theorem State.setEp_net : (s.setEp e x).net = s.net := rfl
@[simp] theorem State.setEp_col : (s.setEp e x).col = s.col := rfl
@[simp] theorem State.setEp_opu : (s.setEp e x).opu = s.opu := rfl
@[simp] theorem State.setEp_card : (s.setEp e x).card = s.card := rfl
@[simp] theorem State.setEp_peers : (s.setEp e x).peers = s.peers := rfl
@[simp] theorem State.setEp_pins : (s.setEp e x).pins = s.pins := rfl
@[simp] theorem State.setEp_out : (s.setEp e x).out = s.out := rfl
@[simp] theorem State.setEp_free : (s.setEp e x).free = s.free := rfl
@[simp] theorem State.setEp_pending : (s.setEp e x).pending = s.pending := rfl
@[simp] theorem State.setEp_host_polders : (s.setEp e x).host.polders = s.host.polders := rfl
@[simp] theorem State.setEp_host_ats : (s.setEp e x).host.ats = s.host.ats := rfl
@[simp] theorem State.setEp_host_progs : (s.setEp e x).host.progs = s.host.progs := rfl
@[simp] theorem State.setEp_host_lib : (s.setEp e x).host.lib = s.host.lib := rfl
@[simp] theorem State.setEp_host_nextHandle : (s.setEp e x).host.nextHandle = s.host.nextHandle := rfl

end

section
variable (s : State) (n h : Nat) (p : Program)

@[simp] theorem State.setProg_regs : (s.setProg n h p).regs = s.regs := rfl
@[simp] theorem State.setProg_mem : (s.setProg n h p).mem = s.mem := rfl
@[simp] theorem State.setProg_poison : (s.setProg n h p).poison = s.poison := rfl
@[simp] theorem State.setProg_now : (s.setProg n h p).now = s.now := rfl
@[simp] theorem State.setProg_sched : (s.setProg n h p).sched = s.sched := rfl
@[simp] theorem State.setProg_jobs : (s.setProg n h p).jobs = s.jobs := rfl
@[simp] theorem State.setProg_epoch : (s.setProg n h p).epoch = s.epoch := rfl
@[simp] theorem State.setProg_ctxs : (s.setProg n h p).ctxs = s.ctxs := rfl
@[simp] theorem State.setProg_keys : (s.setProg n h p).keys = s.keys := rfl
@[simp] theorem State.setProg_ent : (s.setProg n h p).ent = s.ent := rfl
@[simp] theorem State.setProg_dike : (s.setProg n h p).dike = s.dike := rfl
@[simp] theorem State.setProg_fcl : (s.setProg n h p).fcl = s.fcl := rfl
@[simp] theorem State.setProg_test : (s.setProg n h p).test = s.test := rfl
@[simp] theorem State.setProg_power : (s.setProg n h p).power = s.power := rfl
@[simp] theorem State.setProg_dbg : (s.setProg n h p).dbg = s.dbg := rfl
@[simp] theorem State.setProg_mcs : (s.setProg n h p).mcs = s.mcs := rfl
@[simp] theorem State.setProg_net : (s.setProg n h p).net = s.net := rfl
@[simp] theorem State.setProg_col : (s.setProg n h p).col = s.col := rfl
@[simp] theorem State.setProg_opu : (s.setProg n h p).opu = s.opu := rfl
@[simp] theorem State.setProg_card : (s.setProg n h p).card = s.card := rfl
@[simp] theorem State.setProg_peers : (s.setProg n h p).peers = s.peers := rfl
@[simp] theorem State.setProg_pins : (s.setProg n h p).pins = s.pins := rfl
@[simp] theorem State.setProg_out : (s.setProg n h p).out = s.out := rfl
@[simp] theorem State.setProg_free : (s.setProg n h p).free = s.free := rfl
@[simp] theorem State.setProg_pending : (s.setProg n h p).pending = s.pending := rfl
@[simp] theorem State.setProg_host_polders : (s.setProg n h p).host.polders = s.host.polders := rfl
@[simp] theorem State.setProg_host_eps : (s.setProg n h p).host.eps = s.host.eps := rfl
@[simp] theorem State.setProg_host_ats : (s.setProg n h p).host.ats = s.host.ats := rfl
@[simp] theorem State.setProg_host_lib : (s.setProg n h p).host.lib = s.host.lib := rfl
@[simp] theorem State.setProg_host_nextHandle : (s.setProg n h p).host.nextHandle = s.host.nextHandle := rfl

end

section
variable (s : State) (a : Nat) (l : List Byte)

@[simp] theorem State.put_regs : (s.put a l).regs = s.regs := rfl
@[simp] theorem State.put_now : (s.put a l).now = s.now := rfl
@[simp] theorem State.put_sched : (s.put a l).sched = s.sched := rfl
@[simp] theorem State.put_jobs : (s.put a l).jobs = s.jobs := rfl
@[simp] theorem State.put_host : (s.put a l).host = s.host := rfl
@[simp] theorem State.put_epoch : (s.put a l).epoch = s.epoch := rfl
@[simp] theorem State.put_ctxs : (s.put a l).ctxs = s.ctxs := rfl
@[simp] theorem State.put_keys : (s.put a l).keys = s.keys := rfl
@[simp] theorem State.put_ent : (s.put a l).ent = s.ent := rfl
@[simp] theorem State.put_dike : (s.put a l).dike = s.dike := rfl
@[simp] theorem State.put_fcl : (s.put a l).fcl = s.fcl := rfl
@[simp] theorem State.put_test : (s.put a l).test = s.test := rfl
@[simp] theorem State.put_power : (s.put a l).power = s.power := rfl
@[simp] theorem State.put_dbg : (s.put a l).dbg = s.dbg := rfl
@[simp] theorem State.put_mcs : (s.put a l).mcs = s.mcs := rfl
@[simp] theorem State.put_net : (s.put a l).net = s.net := rfl
@[simp] theorem State.put_col : (s.put a l).col = s.col := rfl
@[simp] theorem State.put_opu : (s.put a l).opu = s.opu := rfl
@[simp] theorem State.put_card : (s.put a l).card = s.card := rfl
@[simp] theorem State.put_peers : (s.put a l).peers = s.peers := rfl
@[simp] theorem State.put_pins : (s.put a l).pins = s.pins := rfl
@[simp] theorem State.put_out : (s.put a l).out = s.out := rfl
@[simp] theorem State.put_free : (s.put a l).free = s.free := rfl
@[simp] theorem State.put_pending : (s.put a l).pending = s.pending := rfl

end

section
variable (s : State)

@[simp] theorem State.repin_regs : (s.repin).regs = s.regs := rfl
@[simp] theorem State.repin_mem : (s.repin).mem = s.mem := rfl
@[simp] theorem State.repin_poison : (s.repin).poison = s.poison := rfl
@[simp] theorem State.repin_now : (s.repin).now = s.now := rfl
@[simp] theorem State.repin_sched : (s.repin).sched = s.sched := rfl
@[simp] theorem State.repin_jobs : (s.repin).jobs = s.jobs := rfl
@[simp] theorem State.repin_host : (s.repin).host = s.host := rfl
@[simp] theorem State.repin_epoch : (s.repin).epoch = s.epoch := rfl
@[simp] theorem State.repin_ctxs : (s.repin).ctxs = s.ctxs := rfl
@[simp] theorem State.repin_keys : (s.repin).keys = s.keys := rfl
@[simp] theorem State.repin_ent : (s.repin).ent = s.ent := rfl
@[simp] theorem State.repin_dike : (s.repin).dike = s.dike := rfl
@[simp] theorem State.repin_fcl : (s.repin).fcl = s.fcl := rfl
@[simp] theorem State.repin_test : (s.repin).test = s.test := rfl
@[simp] theorem State.repin_power : (s.repin).power = s.power := rfl
@[simp] theorem State.repin_dbg : (s.repin).dbg = s.dbg := rfl
@[simp] theorem State.repin_mcs : (s.repin).mcs = s.mcs := rfl
@[simp] theorem State.repin_net : (s.repin).net = s.net := rfl
@[simp] theorem State.repin_col : (s.repin).col = s.col := rfl
@[simp] theorem State.repin_opu : (s.repin).opu = s.opu := rfl
@[simp] theorem State.repin_card : (s.repin).card = s.card := rfl
@[simp] theorem State.repin_peers : (s.repin).peers = s.peers := rfl
@[simp] theorem State.repin_out : (s.repin).out = s.out := rfl
@[simp] theorem State.repin_free : (s.repin).free = s.free := rfl
@[simp] theorem State.repin_pending : (s.repin).pending = s.pending := rfl

end

end Sys2Proof.Machine
end

