-- ==== Sys2Proof/Laws/Tbl.lean ====
section
/-!
SUPPORT. Sys2Proof/Laws/Tbl.lean: a read after a write of a sparse table, its canonical form, and the bit fields of words.
-/

namespace Sys2Proof.Machine

theorem tget_tdel_same {α : Type} (d : Nat → α) (t : Tbl α) (k : Nat) : tget d (tdel t k) k = d k := by
  induction t with
  | nil => rfl
  | cons e t ih =>
    unfold tdel
    split
    · exact ih
    · simp only [tget]
      rw [if_neg (by assumption)]
      exact ih

theorem tget_tdel_ne {α : Type} (d : Nat → α) (t : Tbl α) {k j : Nat} (h : j ≠ k) : tget d (tdel t k) j = tget d t j := by
  induction t with
  | nil => rfl
  | cons e t ih =>
    unfold tdel
    split
    · rename_i hk
      simp only [tget]
      rw [if_neg (by omega)]
      exact ih
    · simp only [tget]
      split
      · rfl
      · exact ih

theorem tget_tput_same {α : Type} (d : Nat → α) (t : Tbl α) (k : Nat) (v : α) : tget d (tput t k v) k = v := by
  induction t with
  | nil => simp [tput, tget]
  | cons e t ih =>
    unfold tput
    split
    · simp [tget]
    · split
      · simp [tget]
      · simp only [tget]
        rw [if_neg (by assumption)]
        exact ih

theorem tget_tput_ne {α : Type} (d : Nat → α) (t : Tbl α) {k j : Nat} (v : α) (h : j ≠ k) : tget d (tput t k v) j = tget d t j := by
  induction t with
  | nil => simp [tput, tget, h]
  | cons e t ih =>
    unfold tput
    split
    · simp [tget, h]
    · split
      · rename_i hk
        simp only [tget]
        rw [if_neg h, if_neg (by omega)]
      · simp only [tget]
        split
        · rfl
        · exact ih

/-- A read of the key just written gives the value written. -/
@[simp] theorem tget_tset_same {α : Type} [DecidableEq α] (d : Nat → α) (t : Tbl α) (k : Nat) (v : α) :
    tget d (tset d t k v) k = v := by
  unfold tset
  split
  · rename_i h
    rw [tget_tdel_same, h]
  · exact tget_tput_same d t k v

/-- A write leaves every other key alone. -/
theorem tget_tset_ne {α : Type} [DecidableEq α] (d : Nat → α) (t : Tbl α) {k j : Nat} (v : α) (h : j ≠ k) :
    tget d (tset d t k v) j = tget d t j := by
  unfold tset
  split
  · exact tget_tdel_ne d t h
  · exact tget_tput_ne d t v h

/-! ## The canonical form -/

theorem tsorted_cons {α : Type} (a : Nat) (v : α) (t : Tbl α) (lo : Option Nat) (h : tsorted lo ((a, v) :: t) = true) :
    tsorted (some a) t = true := by
  cases lo with
  | none => exact h
  | some l =>
    simp only [tsorted, Bool.and_eq_true] at h
    exact h.2

theorem tsorted_weaken {α : Type} {lo lo' : Nat} (t : Tbl α) (h : lo' ≤ lo) (ht : tsorted (some lo) t = true) :
    tsorted (some lo') t = true := by
  cases t with
  | nil => rfl
  | cons e t =>
    simp only [tsorted, Bool.and_eq_true, decide_eq_true_eq] at ht ⊢
    exact ⟨by omega, ht.2⟩

theorem tsorted_none {α : Type} {lo : Nat} (t : Tbl α) (ht : tsorted (some lo) t = true) : tsorted none t = true := by
  cases t with
  | nil => rfl
  | cons e t =>
    simp only [tsorted, Bool.and_eq_true] at ht ⊢
    exact ht.2

theorem tsorted_tdel {α : Type} (t : Tbl α) (k lo : Nat) (h : tsorted (some lo) t = true) : tsorted (some lo) (tdel t k) = true := by
  induction t generalizing lo with
  | nil => exact h
  | cons e t ih =>
    simp only [tsorted, Bool.and_eq_true, decide_eq_true_eq] at h
    unfold tdel
    split
    · exact ih lo (tsorted_weaken t (by omega) h.2)
    · simp only [tsorted, Bool.and_eq_true, decide_eq_true_eq]
      exact ⟨h.1, ih e.1 h.2⟩

theorem tsorted_tput {α : Type} (t : Tbl α) (k lo : Nat) (v : α) (hk : lo < k) (h : tsorted (some lo) t = true) :
    tsorted (some lo) (tput t k v) = true := by
  induction t generalizing lo with
  | nil => simp [tput, tsorted, hk]
  | cons e t ih =>
    simp only [tsorted, Bool.and_eq_true, decide_eq_true_eq] at h
    unfold tput
    split
    · simp [tsorted, hk, h.2]
      omega
    · split
      · rename_i hka
        simp only [tsorted, Bool.and_eq_true, decide_eq_true_eq]
        subst hka
        exact ⟨hk, h.2⟩
      · simp only [tsorted, Bool.and_eq_true, decide_eq_true_eq]
        exact ⟨h.1, ih e.1 (by omega) h.2⟩

theorem tsorted_none_tdel {α : Type} (t : Tbl α) (k : Nat) (h : tsorted none t = true) : tsorted none (tdel t k) = true := by
  induction t with
  | nil => exact h
  | cons e t ih =>
    unfold tdel
    split
    · exact ih (tsorted_none t h)
    · exact tsorted_tdel t k e.1 h

theorem tsorted_none_tput {α : Type} (t : Tbl α) (k : Nat) (v : α) (h : tsorted none t = true) : tsorted none (tput t k v) = true := by
  cases t with
  | nil => rfl
  | cons e t =>
    unfold tput
    split
    · simp only [tsorted, Bool.and_eq_true, decide_eq_true_eq]
      exact ⟨by assumption, h⟩
    · split
      · rename_i hka
        subst hka
        exact h
      · exact tsorted_tput t k e.1 v (by omega) h

theorem mem_tdel {α : Type} (t : Tbl α) (k : Nat) (e : Nat × α) (h : e ∈ tdel t k) : e ∈ t := by
  induction t with
  | nil => exact h
  | cons x t ih =>
    unfold tdel at h
    split at h
    · exact List.mem_cons_of_mem _ (ih h)
    · cases h with
      | head => exact List.mem_cons_self
      | tail _ h => exact List.mem_cons_of_mem _ (ih h)

theorem mem_tput {α : Type} (t : Tbl α) (k : Nat) (v : α) (e : Nat × α) (h : e ∈ tput t k v) : e = (k, v) ∨ e ∈ t := by
  induction t with
  | nil => simpa [tput] using h
  | cons x t ih =>
    unfold tput at h
    split at h
    · simpa using h
    · split at h
      · rcases List.mem_cons.1 h with h | h
        · exact .inl h
        · exact .inr (List.mem_cons_of_mem _ h)
      · rcases List.mem_cons.1 h with h | h
        · exact .inr (h ▸ List.mem_cons_self)
        · rcases ih h with h | h
          · exact .inl h
          · exact .inr (List.mem_cons_of_mem _ h)

/-- A write keeps the canonical form. -/
theorem twf_tset {α : Type} [DecidableEq α] (d : Nat → α) (t : Tbl α) (k : Nat) (v : α) (h : twf d t = true) :
    twf d (tset d t k v) = true := by
  simp only [twf, Bool.and_eq_true, List.all_eq_true, decide_eq_true_eq] at h ⊢
  unfold tset
  split
  · exact ⟨tsorted_none_tdel t k h.1, fun e he => h.2 e (mem_tdel t k e he)⟩
  · refine ⟨tsorted_none_tput t k v h.1, fun e he => ?_⟩
    rcases mem_tput t k v e he with rfl | he
    · assumption
    · exact h.2 e he

/-! ## Bit fields -/

/-- A field just replaced holds the value, modulo its width. -/
theorem putBits_same (x lo w v : Nat) : putBits x lo w v / 2 ^ lo % 2 ^ w = v % 2 ^ w := by
  unfold putBits
  have h1 : (x / 2 ^ (lo + w) * 2 ^ (lo + w) + v % 2 ^ w * 2 ^ lo + x % 2 ^ lo) / 2 ^ lo
      = x / 2 ^ (lo + w) * 2 ^ w + v % 2 ^ w := by
    rw [Nat.pow_add, Nat.mul_comm (2 ^ lo) (2 ^ w), ← Nat.mul_assoc, ← Nat.add_mul, Nat.mul_comm, Nat.mul_add_div (Nat.two_pow_pos lo),
      Nat.div_eq_of_lt (Nat.mod_lt _ (Nat.two_pow_pos lo)), Nat.add_zero]
  rw [h1, Nat.mul_comm, Nat.mul_add_mod]
  exact Nat.mod_mod _ _

/-- The bits below a field stay. -/
theorem putBits_mod (x lo w v : Nat) : putBits x lo w v % 2 ^ lo = x % 2 ^ lo := by
  unfold putBits
  rw [Nat.pow_add, Nat.mul_comm (2 ^ lo) (2 ^ w), ← Nat.mul_assoc, ← Nat.add_mul, Nat.mul_comm, Nat.mul_add_mod, Nat.mod_mod]

/-- The bits above a field stay. -/
theorem putBits_div (x lo w v : Nat) : putBits x lo w v / 2 ^ (lo + w) = x / 2 ^ (lo + w) := by
  unfold putBits
  have hb : v % 2 ^ w * 2 ^ lo + x % 2 ^ lo < 2 ^ (lo + w) := by
    have h1 := Nat.mod_lt v (Nat.two_pow_pos w)
    have h2 := Nat.mod_lt x (Nat.two_pow_pos lo)
    have h3 : (v % 2 ^ w + 1) * 2 ^ lo ≤ 2 ^ w * 2 ^ lo := Nat.mul_le_mul_right _ h1
    rw [Nat.pow_add, Nat.mul_comm (2 ^ lo) (2 ^ w)]
    rw [Nat.add_mul, Nat.one_mul] at h3
    omega
  rw [Nat.add_assoc, Nat.mul_comm (x / 2 ^ (lo + w)), Nat.mul_add_div (Nat.two_pow_pos _), Nat.div_eq_of_lt hb, Nat.add_zero]

/-- A field below the one replaced stays. -/
theorem putBits_below (x lo w v lo' w' : Nat) (h : lo' + w' ≤ lo) :
    putBits x lo w v / 2 ^ lo' % 2 ^ w' = x / 2 ^ lo' % 2 ^ w' := by
  have key (y : Nat) : y / 2 ^ lo' % 2 ^ w' = y % 2 ^ lo / 2 ^ lo' % 2 ^ w' := by
    obtain ⟨k, rfl⟩ := Nat.exists_eq_add_of_le h
    rw [Nat.add_assoc, Nat.pow_add, Nat.mod_mul_right_div_self, Nat.pow_add, Nat.mod_mul_right_mod]
  rw [key, key x, putBits_mod]

/-- A field above the one replaced stays. -/
theorem putBits_above (x lo w v lo' w' : Nat) (h : lo + w ≤ lo') :
    putBits x lo w v / 2 ^ lo' % 2 ^ w' = x / 2 ^ lo' % 2 ^ w' := by
  obtain ⟨k, rfl⟩ := Nat.exists_eq_add_of_le h
  rw [Nat.pow_add 2 (lo + w) k, ← Nat.div_div_eq_div_mul, ← Nat.div_div_eq_div_mul, putBits_div]

/-- A word stays a word. -/
theorem putBits_lt (x lo w v n : Nat) (hx : x < 2 ^ n) (h : lo + w ≤ n) : putBits x lo w v < 2 ^ n := by
  have h1 : putBits x lo w v / 2 ^ (lo + w) < 2 ^ (n - (lo + w)) := by
    rw [putBits_div]
    apply Nat.div_lt_of_lt_mul
    rw [← Nat.pow_add]
    simpa [Nat.add_sub_cancel' h] using hx
  have h2 := Nat.lt_mul_of_div_lt h1 (Nat.two_pow_pos _)
  rwa [← Nat.pow_add, Nat.sub_add_cancel h] at h2

end Sys2Proof.Machine
end

