-- ==== Sys2Proof/Laws/Ops.lean ====
section
/-!
SUPPORT. Sys2Proof/Laws/Ops.lean: what each shared operation can do: a read after a write of each table, memory and its canonical form,
the frame an instruction runs on, the taking of an exception, and the wrappers of the commands.
-/

namespace Sys2Proof.Machine

/-! ## Registers -/

@[simp] theorem State.reg_setReg_same (s : State) (off : Nat) (v : Word) : (s.setReg off v).reg off = v :=
  tget_tset_same resetWord s.regs off v

theorem State.reg_setReg_ne (s : State) {off o : Nat} (v : Word) (h : o ≠ off) : (s.setReg off v).reg o = s.reg o :=
  tget_tset_ne resetWord s.regs v h

/-- A register other than the field's own stays. -/
theorem State.reg_setFld_ne (s : State) (f : Fld) (v : Nat) {o : Nat} (h : o ≠ f.off) : (s.setFld f v).reg o = s.reg o :=
  s.reg_setReg_ne _ h

/-- A field of another register stays. -/
theorem State.fld_setFld_ne (s : State) (f g : Fld) (v : Nat) (h : g.off ≠ f.off) : (s.setFld f v).fld g = s.fld g := by
  unfold State.fld
  rw [s.reg_setFld_ne f v h]

theorem State.fld_congr {s t : State} (h : t.regs = s.regs) (f : Fld) : t.fld f = s.fld f := by
  unfold State.fld State.reg
  rw [h]

/-- The word a field's write leaves. -/
theorem State.reg_setFld (s : State) (f : Fld) (v : Nat) (h : f.lo + f.w ≤ 64) :
    ((s.setFld f v).reg f.off).toNat = putBits (s.reg f.off).toNat f.lo f.w v := by
  unfold State.setFld
  rw [s.reg_setReg_same, BitVec.toNat_ofNat, Nat.mod_eq_of_lt (putBits_lt _ _ _ _ _ (s.reg f.off).isLt h)]

/-- A field just written holds the value, modulo its width. -/
theorem State.fld_setFld_same (s : State) (f : Fld) (v : Nat) (h : f.lo + f.w ≤ 64) : (s.setFld f v).fld f = v % 2 ^ f.w := by
  unfold State.fld
  rw [s.reg_setFld f v h, putBits_same]

/-- A field of the same register that lies beside the one written stays. -/
theorem State.fld_setFld_beside (s : State) (f g : Fld) (v : Nat) (h : f.lo + f.w ≤ 64) (ho : g.off = f.off)
    (hd : g.lo + g.w ≤ f.lo ∨ f.lo + f.w ≤ g.lo) : (s.setFld f v).fld g = s.fld g := by
  unfold State.fld
  rw [ho, s.reg_setFld f v h]
  rcases hd with hd | hd
  · exact putBits_below _ _ _ _ _ _ hd
  · exact putBits_above _ _ _ _ _ _ hd

/-! ## Tables of the Pump, jobs, keys and the host -/

@[simp] theorem State.task_setTask_same (s : State) (t : Nat) (x : Task) : (s.setTask t x).task t = x := tget_tset_same _ _ t x

theorem State.task_setTask_ne (s : State) {t u : Nat} (x : Task) (h : u ≠ t) : (s.setTask t x).task u = s.task u :=
  tget_tset_ne _ _ x h

@[simp] theorem State.core_setCore_same (s : State) (c : Nat) (x : Core) : (s.setCore c x).core c = x := tget_tset_same _ _ c x

theorem State.core_setCore_ne (s : State) {c d : Nat} (x : Core) (h : d ≠ c) : (s.setCore c x).core d = s.core d :=
  tget_tset_ne _ _ x h

@[simp] theorem State.worker_setWorker_same (s : State) (w : Nat) (x : Worker) : (s.setWorker w x).worker w = x :=
  tget_tset_same _ _ w x

theorem State.worker_setWorker_ne (s : State) {w v : Nat} (x : Worker) (h : v ≠ w) : (s.setWorker w x).worker v = s.worker v :=
  tget_tset_ne _ _ x h

@[simp] theorem State.job_setJob_same (s : State) (e : Nat) (j : Job) : (s.setJob e j).job e = j := tget_tset_same _ _ e j

theorem State.job_setJob_ne (s : State) {e f : Nat} (j : Job) (h : f ≠ e) : (s.setJob e j).job f = s.job f := tget_tset_ne _ _ j h

@[simp] theorem State.key_setKey_same (s : State) (k : Nat) (x : KeySlot) : (s.setKey k x).key k = x := tget_tset_same _ _ k x

theorem State.key_setKey_ne (s : State) {k l : Nat} (x : KeySlot) (h : l ≠ k) : (s.setKey k x).key l = s.key l :=
  tget_tset_ne _ _ x h

@[simp] theorem State.ctx_setCtx_same (s : State) (x : Nat) (c : Ctx) : (s.setCtx x c).ctx x = c := tget_tset_same _ _ x c

@[simp] theorem State.pq_setPq_same (s : State) (n : Nat) (x : PolderQ) : (s.setPq n x).pq n = x := tget_tset_same _ _ n x

theorem State.pq_setPq_ne (s : State) {n m : Nat} (x : PolderQ) (h : m ≠ n) : (s.setPq n x).pq m = s.pq m := tget_tset_ne _ _ x h

@[simp] theorem State.ep_setEp_same (s : State) (e : Nat) (x : Endpoint) : (s.setEp e x).ep e = x := tget_tset_same _ _ e x

@[simp] theorem State.task_setCore (s : State) (c t : Nat) (x : Core) : (s.setCore c x).task t = s.task t := rfl
@[simp] theorem State.worker_setCore (s : State) (c w : Nat) (x : Core) : (s.setCore c x).worker w = s.worker w := rfl
@[simp] theorem State.core_setTask (s : State) (c t : Nat) (x : Task) : (s.setTask t x).core c = s.core c := rfl
@[simp] theorem State.worker_setTask (s : State) (w t : Nat) (x : Task) : (s.setTask t x).worker w = s.worker w := rfl

/-! ## Memory (R28, R142) -/

/-- The memory keeps its canonical form, under the key pairs of the CXL ports. -/
abbrev Memory.wf (k : List (List Byte)) (m : Tbl Byte) : Bool := twf (memDefault k) m

/-- A write of bytes keeps the canonical form. -/
theorem memPut_wf (k : List (List Byte)) (m : Tbl Byte) (a : Nat) (l : List Byte) (h : Memory.wf k m = true) :
    Memory.wf k (memPut k m a l) = true := by
  induction l generalizing m a with
  | nil => exact h
  | cons b t ih => exact ih _ _ (twf_tset (memDefault k) m a b h)

/-- Every write of the state's memory keeps the canonical form. -/
theorem State.put_wf (s : State) (a : Nat) (l : List Byte) (h : Memory.wf s.power.cxlKeys s.mem = true) :
    Memory.wf (s.put a l).power.cxlKeys (s.put a l).mem = true :=
  memPut_wf s.power.cxlKeys s.mem a l h

/-- Reset memory has the canonical form. -/
theorem State.reset_wf : Memory.wf State.reset.power.cxlKeys State.reset.mem = true := rfl

/-- A byte outside those written reads as before. -/
theorem memPut_outside (k : List (List Byte)) (m : Tbl Byte) (a : Nat) (l : List Byte) (x : Nat) (h : x < a ∨ a + l.length ≤ x) :
    tget (memDefault k) (memPut k m a l) x = tget (memDefault k) m x := by
  induction l generalizing m a with
  | nil => rfl
  | cons b t ih =>
    simp only [List.length_cons] at h
    rw [memPut, ih _ _ (by omega), tget_tset_ne _ _ _ (by omega)]

/-- A byte just written reads as written. -/
theorem memPut_inside (k : List (List Byte)) (m : Tbl Byte) (a : Nat) (l : List Byte) (i : Nat) (h : i < l.length) :
    tget (memDefault k) (memPut k m a l) (a + i) = l[i] := by
  induction l generalizing m a i with
  | nil => simp at h
  | cons b t ih =>
    rw [memPut]
    cases i with
    | zero =>
      show tget (memDefault k) (memPut k (tset (memDefault k) m a b) (a + 1) t) a = b
      rw [memPut_outside _ _ _ _ _ (.inl (by omega)), tget_tset_same]
    | succ i =>
      have := ih (tset (memDefault k) m a b) (a + 1) i (by simpa using h)
      rw [show a + (i + 1) = a + 1 + i by omega, this]
      rfl

/-- Reading a byte depends on the memory alone, below the host window. -/
theorem State.byte_congr {s t : State} (h : t.mem = s.mem) (hf : t.free = s.free) (hp : t.power = s.power) (x : Nat) :
    t.byte x = s.byte x := by
  unfold State.byte
  rw [h, hf, hp]

/-- A byte outside those written reads as before. -/
theorem State.byte_put_outside (s : State) (a : Nat) (l : List Byte) (x : Nat) (h : x < a ∨ a + l.length ≤ x) :
    (s.put a l).byte x = s.byte x := by
  unfold State.byte
  split
  · rfl
  · exact memPut_outside s.power.cxlKeys s.mem a l x h

/-! ## Frames (R34, R37) -/

@[simp] theorem Frame.gr_zero (f : Frame) : f.gr 0 = 0 := rfl

@[simp] theorem Frame.setG_zero (f : Frame) (v : Word) : f.setG 0 v = f := rfl

theorem Frame.gr_setG_same (f : Frame) (r : Reg) (v : Word) (h : r ≠ 0) : (f.setG r v).gr r = v := by
  simp [Frame.gr, Frame.setG, h]

theorem Frame.gr_setG_ne (f : Frame) (r q : Reg) (v : Word) (h : q ≠ r) : (f.setG r v).gr q = f.gr q := by
  unfold Frame.gr Frame.setG
  split
  · rfl
  · split
    · rfl
    · have : (r : Nat) ≠ q := fun e => h (Fin.ext e.symm)
      simp [Vector.getElem_set_ne, this]

/-- What `setFrame` does: the firmware context in P, the task's frame in U, nothing on a core with no task. -/
theorem State.setFrame_cases (s : State) (c : Nat) (f : Frame) :
    ((s.core c).mode = .P ∧ s.setFrame c f = s.setCore c { s.core c with pframe := f }) ∨
    (∃ t, (s.core c).mode = .U ∧ (s.worker c).task = some t ∧ s.setFrame c f = s.setTask t { s.task t with frame := f }) ∨
    ((s.core c).mode = .U ∧ (s.worker c).task = none ∧ s.setFrame c f = s) := by
  unfold State.setFrame
  split
  · rename_i h
    exact .inl ⟨h, rfl⟩
  · rename_i h
    split
    · rename_i t ht
      exact .inr (.inl ⟨t, h, ht, rfl⟩)
    · rename_i ht
      exact .inr (.inr ⟨h, ht, rfl⟩)

/-- An instruction's effect on its core's frame leaves all else of the state alone. -/
theorem State.setFrame_keeps (s : State) (c : Nat) (f : Frame) :
    (s.setFrame c f).regs = s.regs ∧ (s.setFrame c f).mem = s.mem ∧ (s.setFrame c f).free = s.free ∧
    (s.setFrame c f).out = s.out ∧ (s.setFrame c f).pending = s.pending ∧ (s.setFrame c f).power = s.power ∧
    (s.setFrame c f).card = s.card ∧ (s.setFrame c f).keys = s.keys ∧ (s.setFrame c f).jobs = s.jobs ∧
    (s.setFrame c f).dike = s.dike ∧ (s.setFrame c f).fcl = s.fcl := by
  rcases s.setFrame_cases c f with ⟨-, h⟩ | ⟨t, -, -, h⟩ | ⟨-, -, h⟩ <;> rw [h] <;> and_intros <;> rfl

/-- An instruction runs on the frame its core executes in. -/
theorem State.withFrame_some (s : State) (c : Nat) (k : Frame → State) {f : Frame} (h : s.frame c = some f)
    (hf : s.fetchStop c f = none) (hs : (s.core c).stepping = false) : s.withFrame c k = k f := by
  simp [State.withFrame, h, hf, hs]

/-- An instruction that is not fetched leaves what the failed fetch leaves. -/
theorem State.withFrame_stop (s u : State) (c : Nat) (k : Frame → State) {f : Frame} (h : s.frame c = some f)
    (hf : s.fetchStop c f = some u) (hs : (s.core c).stepping = false) : s.withFrame c k = u := by
  simp [State.withFrame, h, hf, hs]

/-- A core that does not execute changes nothing. -/
theorem State.withFrame_none (s : State) (c : Nat) (k : Frame → State) (h : s.frame c = none) : s.withFrame c k = s := by
  simp [State.withFrame, h]

/-! ## Exceptions (R69 to R72) -/

/-- What an exception does: in P the core stops and bit 4 latches; in U the handler is entered, or the task ends with its record. -/
theorem State.raise_cases (s : State) (c : Nat) (f : Frame) (cause trap : Nat) (xaddr : Word) (len : Bool) :
    ((s.core c).mode = .P ∧ s.raise c f cause trap xaddr len =
      (s.setCore c { s.core c with stopped := true }).latchAt 4 c (hwCtrl s 0 4) dataNone) ∨
    (∃ t, (s.core c).mode = .U ∧ (s.worker c).task = some t ∧ f.xhnd ≠ 0 ∧ f.xact = false ∧
      s.raise c f cause trap xaddr len = s.setFrame c (f.enter cause trap xaddr)) ∨
    (∃ t, (s.core c).mode = .U ∧ (s.worker c).task = some t ∧ (f.xhnd = 0 ∨ f.xact = true) ∧
      s.raise c f cause trap xaddr len = s.killTask t c (excStatus cause len) cause xaddr) ∨
    ((s.core c).mode = .U ∧ (s.worker c).task = none ∧ s.raise c f cause trap xaddr len = s) := by
  unfold State.raise
  split
  · rename_i h
    exact .inl ⟨h, rfl⟩
  · rename_i h
    split
    · rename_i ht
      exact .inr (.inr (.inr ⟨h, ht, rfl⟩))
    · rename_i t ht
      split
      · rename_i hx
        exact .inr (.inl ⟨t, h, ht, hx.1, by simpa using hx.2, rfl⟩)
      · rename_i hx
        refine .inr (.inr (.inl ⟨t, h, ht, ?_, rfl⟩))
        by_cases h0 : f.xhnd = 0
        · exact .inl h0
        · refine .inr ?_
          cases hq : f.xact with
          | true => rfl
          | false => exact absurd ⟨h0, by rw [hq]; rfl⟩ hx

/-! ## The wrappers of the commands (R491, R515) -/

theorem State.live_held (s : State) (k : State → State) (h : s.running = false) : s.live k = s := by
  simp [State.live, h]

theorem State.unreset_held (s : State) (k : State → State) (h : s.running = false) : s.unreset k = s := by
  simp [State.unreset, h]

theorem State.onCore_held (s : State) (c : Nat) (k : State → State) (h : s.running = false) : s.onCore c k = s :=
  s.unreset_held _ h

theorem State.live_run (s : State) (k : State → State) (h : s.running = true) : s.live k = (k s).settle.repin := by
  simp [State.live, h]

theorem State.unreset_run (s : State) (k : State → State) (h : s.running = true) : s.unreset k = (k s).repin := by
  simp [State.unreset, h]

/-- An instruction that is fetched and ends no task. -/
theorem State.onPlain_run (s : State) (c : Nat) (k : State → State) (h : s.running = true) (hc : s.fetchFails c = false) :
    s.onPlain c k = (k s).repin := by
  simp [State.onPlain, State.unreset, h, hc]

/-- An instruction that does not end its core's task. -/
theorem State.onCore_same (s : State) (c : Nat) (k : State → State) (h : s.running = true) (hc : s.endedOn (k s) c = false) :
    s.onCore c k = (k s).repin := by
  simp [State.onCore, State.unreset, h, hc]

end Sys2Proof.Machine
end

