-- ==== Sys2Proof/Laws/PerInstr.lean ====
section
/-!
SUPPORT. Sys2Proof/Laws/PerInstr.lean: the family Wf: which operands a command must bound to be well formed. One lemma for each command.
-/

namespace Sys2Proof.Laws

/-- The operands of a well-formed command lie where the units, lengths and ranges of the spec put them. -/
def Wf.Statement (i : Instr) : Prop :=
  i.wf = true →
  match i with
  | .add _ _ _ _ => True
  | .sub _ _ _ _ => True
  | .andOp _ _ _ _ => True
  | .orOp _ _ _ _ => True
  | .xorOp _ _ _ _ => True
  | .sll _ _ _ _ => True
  | .srl _ _ _ _ => True
  | .sra _ _ _ _ => True
  | .rotr _ _ _ _ => True
  | .mul _ _ _ _ => True
  | .mulhu _ _ _ _ => True
  | .mulh _ _ _ _ => True
  | .divu _ _ _ _ => True
  | .div _ _ _ _ => True
  | .remu _ _ _ _ => True
  | .rem _ _ _ _ => True
  | .minu _ _ _ _ => True
  | .min _ _ _ _ => True
  | .maxu _ _ _ _ => True
  | .max _ _ _ _ => True
  | .clz _ _ _ => True
  | .ctz _ _ _ => True
  | .popc _ _ _ => True
  | .bswap _ _ _ => True
  | .sel _ _ _ _ _ => True
  | .cmpeq _ _ _ _ => True
  | .cmpne _ _ _ _ => True
  | .cmplt _ _ _ _ => True
  | .cmpltu _ _ _ _ => True
  | .cmpge _ _ _ _ => True
  | .cmpgeu _ _ _ _ => True
  | .pand _ _ _ _ => True
  | .por _ _ _ _ => True
  | .pxor _ _ _ _ => True
  | .pnot _ _ _ => True
  | .mfp _ _ => True
  | .mtp _ _ => True
  | .addi _ _ _ _ => True
  | .andi _ _ _ _ => True
  | .ori _ _ _ _ => True
  | .xori _ _ _ _ => True
  | .slli _ _ _ _ => True
  | .srli _ _ _ _ => True
  | .srai _ _ _ _ => True
  | .cmpeqi _ _ _ _ => True
  | .cmplti _ _ _ _ => True
  | .cmpltui _ _ _ _ => True
  | .limm _ _ _ _ _ => True
  | .ld _ _ _ _ _ _ => True
  | .st _ _ _ _ _ => True
  | .amoSwap _ _ _ _ _ => True
  | .amoAdd _ _ _ _ _ => True
  | .amoAnd _ _ _ _ _ => True
  | .amoOr _ _ _ _ _ => True
  | .amoXor _ _ _ _ _ => True
  | .amoMax _ _ _ _ _ => True
  | .amoMin _ _ _ _ _ => True
  | .amoMaxu _ _ _ _ _ => True
  | .amoMinu _ _ _ _ _ => True
  | .amoCas _ _ _ _ _ => True
  | .br _ _ _ _ => True
  | .j _ _ => True
  | .call _ _ => True
  | .jr _ _ => True
  | .callr _ _ => True
  | .nop _ => True
  | .fence _ => True
  | .mfs _ _ _ => True
  | .mts _ _ _ => True
  | .trap _ _ => True
  | .xret _ => True
  | .bkpt _ => True
  | .halt _ => True
  | .eret _ => True
  | .waitwork _ _ => True
  | .taskDispatch _ => True
  | .operatorUnitWorkRequest w => 64 ≤ w.val
  | .done _ => True
  | .yield _ => True
  | .spawn _ _ _ => True
  | .free _ _ _ => True
  | .setev _ _ _ _ => True
  | .clrev _ _ => True
  | .waitev _ _ _ _ _ => True
  | .sleep _ _ => True
  | .timerExpiry _ => True
  | .timerRetirement => True
  | .affinityHoldExpiry _ _ => True
  | .slotWaitExpiry => True
  | .hwRequesterSlotGrant => True
  | .pmpWoffWrite _ _ => True
  | .eng _ _ _ _ _ _ => True
  | .abort _ _ _ => True
  | .probe _ _ _ => True
  | .jobCompletion _ => True
  | .kinfo _ _ _ => True
  | .kalloc _ _ _ => True
  | .kzero _ _ _ => True
  | .kpub _ _ _ _ _ => True
  | .kimp _ _ _ _ _ => True
  | .kexp _ _ _ _ _ => True
  | .kattr _ _ _ _ => True
  | .opDef _ _ _ _ => True
  | .opRun _ _ _ _ => True
  | .opStop _ _ => True
  | .tld _ _ _ => True
  | .tst _ _ _ => True
  | .tset _ _ _ _ => True
  | .tadv _ _ => True
  | .tcnt _ _ _ => True
  | .vadd _ _ _ _ _ => True
  | .vsub _ _ _ _ _ => True
  | .vand _ _ _ _ _ => True
  | .vor _ _ _ _ _ => True
  | .vxor _ _ _ _ _ => True
  | .vmin _ _ _ _ _ _ => True
  | .vmax _ _ _ _ _ _ => True
  | .vadds _ _ _ _ _ _ => True
  | .vsubs _ _ _ _ _ _ => True
  | .vabsd _ _ _ _ _ _ => True
  | .vmul _ _ _ _ _ _ => True
  | .vmulh _ _ _ _ _ _ => True
  | .vbsel _ _ _ _ _ => True
  | .vcmpeq _ _ _ _ _ _ => True
  | .vcmplt _ _ _ _ _ _ => True
  | .vcmple _ _ _ _ _ _ => True
  | .vtany _ _ _ => True
  | .vtall _ _ _ => True
  | .vsll _ _ _ _ _ => True
  | .vsrl _ _ _ _ _ => True
  | .vsra _ _ _ _ _ => True
  | .vperm _ _ _ _ => True
  | .vmacc _ _ _ _ _ => True
  | .vsad _ _ _ _ _ _ => True
  | .vradd _ _ _ _ _ => True
  | .vbcst _ _ _ _ => True
  | .vins _ _ _ _ _ => True
  | .vext _ _ _ _ _ _ => True
  | .vmov _ _ _ => True
  | .vld _ _ _ _ => True
  | .vst _ _ _ _ => True
  | .lvBinary _ _ _ _ _ _ => True
  | .lvBinaryScalar _ _ _ _ _ _ => True
  | .lvsad _ _ _ _ _ => True
  | .lvsum _ _ _ _ => True
  | .lvmin _ _ _ _ => True
  | .lvmax _ _ _ _ => True
  | .lvcnt _ _ _ => True
  | .lvcpy _ _ _ _ => True
  | .lvcmpeq _ _ _ _ _ => True
  | .lvcmplt _ _ _ _ _ => True
  | .lvcmple _ _ _ _ _ => True
  | .lvgath _ _ _ _ => True
  | .lvcomp _ _ _ _ _ => True
  | .lds2 _ _ => True
  | .lds3 _ _ => True
  | .lds4 _ _ => True
  | .mlkemKeygen _ => True
  | .mlkemEncaps _ => True
  | .mlkemDecaps _ => True
  | .mldsaKeygen _ => True
  | .mldsaSign _ => True
  | .mldsaVerify _ => True
  | .mceKeygen _ => True
  | .mceEncaps _ => True
  | .mceDecaps _ => True
  | .hqcKeygen _ => True
  | .hqcEncaps _ => True
  | .hqcDecaps _ => True
  | .ecKeygen _ => True
  | .ecdhEph _ => True
  | .ecdh _ => True
  | .ecdsaSign _ => True
  | .ecdsaVerify _ => True
  | .eddsaSign _ => True
  | .eddsaVerify _ => True
  | .rsaPssSign _ => True
  | .rsaPssVerify _ => True
  | .rsaPkcs1Verify _ => True
  | .aeadSeal _ => True
  | .aeadOpen _ => True
  | .customerOperation _ => True
  | .engineFault cls k _ => k.val < 32 ∧ (cls.val = 1 → k.val < 4) ∧ (cls.val = 2 ∨ cls.val = 4 → k.val < 16) ∧ cls.val ≠ 3 ∧ cls.val < 5
  | .dgOpen _ => True
  | .dgUpdate _ => True
  | .dgFinal _ => True
  | .dgPeek _ => True
  | .dgOneshot _ => True
  | .dgClose _ => True
  | .hkdfExtract _ => True
  | .hkdfExpand _ => True
  | .ctCompare _ => True
  | .slhKeygen _ => True
  | .slhSign _ => True
  | .slhVerify _ => True
  | .hbsKeygen _ => True
  | .hbsSign _ => True
  | .hbsFloorCommit _ => True
  | .hbsVerify _ => True
  | .hbsSplit _ => True
  | .contextExpiry _ => True
  | .digestFault _ _ _ => True
  | .zcomp _ => True
  | .zdecomp _ => True
  | .compressionLaneFault _ _ => True
  | .tblCreate _ => True
  | .tblDrop _ => True
  | .append _ => True
  | .tblSeal _ => True
  | .segInfo _ => True
  | .segExport _ => True
  | .segImport _ => True
  | .tblInfo _ => True
  | .segmentWindowClose _ => True
  | .segmentPublish _ => True
  | .sealGranuleGrant _ => True
  | .segmentMigration _ _ => True
  | .migrationPublish _ _ => True
  | .retentionDrop _ _ => True
  | .tblDropStaging _ => True
  | .tblDropComplete _ => True
  | .scan w => 64 ≤ w.val
  | .filter w => 64 ≤ w.val
  | .project w => 64 ≤ w.val
  | .sink w => 64 ≤ w.val
  | .seal w => 64 ≤ w.val
  | .hbuild w => 64 ≤ w.val
  | .hprobe w => 64 ≤ w.val
  | .asof w => 64 ≤ w.val
  | .group w => 64 ≤ w.val
  | .window w => 64 ≤ w.val
  | .windowClose _ _ => True
  | .psad w => 64 ≤ w.val
  | .sort w => 64 ≤ w.val
  | .merge w => 64 ≤ w.val
  | .topk w => 64 ≤ w.val
  | .operatorFinalEmit _ _ => True
  | .exchange w => 64 ≤ w.val
  | .exchangeTimeout _ _ => True
  | .udo w => 64 ≤ w.val
  | .receipt w => 64 ≤ w.val
  | .runQueueGrant _ => True
  | .producerTaskCreate _ _ => True
  | .consumerTaskCreate _ _ => True
  | .runComplete _ => True
  | .operatorUnitFault w _ _ => 64 ≤ w.val
  | .opuCisModeWrite _ => True
  | .cisModeStagingEdge => True
  | .cisModeApply => True
  | .sqTailDoorbell _ _ _ => True
  | .cqHeadDoorbell _ _ => True
  | .sqFetch _ _ entry => entry.length = 64
  | .loadProgram _ _ _ _ => True
  | .unloadProgram _ _ => True
  | .unloadRelease _ _ => True
  | .run _ _ => True
  | .runSlotGrant _ _ => True
  | .runWaitExpiry _ _ => True
  | .dmaIn _ _ _ _ => True
  | .dmaOut _ _ _ => True
  | .signal _ _ => True
  | .sqFence _ _ => True
  | .msixCoalesceExpiry _ => True
  | .unsupportedRequest _ _ _ _ => True
  | .doorbellAtomicop _ _ _ => True
  | .pcieLinkDown _ => True
  | .pcieLinkUp _ => True
  | .pcieLinkRetrain _ _ _ => True
  | .functionLevelReset _ => True
  | .d3hotEntry _ => True
  | .d0Return _ => True
  | .atsInvalidationRequest _ page pages => 1 ≤ pages ∧ page < 2 ^ 52
  | .atsInvalidationCompletion _ => True
  | .pldDptInv _ => True
  | .pldPasidWrite _ _ => True
  | .polderEnable _ => True
  | .quiesce _ _ => True
  | .polderReset _ => True
  | .polderRemove _ => True
  | .drainEnd _ => True
  | .drainLimitExpiry _ => True
  | .resetDone _ => True
  | .dirtySwap _ => True
  | .swapDone _ => True
  | .epcEnable => True
  | .epcTickWrite _ => True
  | .epcSrcDisable => True
  | .epcSrcStage _ => True
  | .ptpMessage m => m.version < 16 ∧ m.phaseNs < 1000000000
  | .ptpDelayRequestSend x => x.phaseNs < 1000000000
  | .irigbFrame f => f.elems.length = 100 ∧ f.phaseNs < 1000000000
  | .ppsEdge us ns => us < 1000000 ∧ ns < 1000
  | .referenceLoss phaseNs => phaseNs < 1000000000
  | .holdoverExpiry => True
  | .rngEnable => True
  | .rngRestart => True
  | .rngTestsrcWrite _ => True
  | .wellStartupComplete _ _ => True
  | .sourceHealthFailure _ _ => True
  | .drbgReseed _ => True
  | .entropyWaitExpiry _ => True
  | .rngStallExpiry _ => True
  | .entropyDelivery => True
  | .kstRcptWrite _ _ _ => True
  | .receiptSlotStaging => True
  | .scrubComplete => True
  | .rewrapComplete => True
  | .mcsLoad => True
  | .mcsClear cls => cls.val < 5
  | .custEnWrite _ => True
  | .microcodeStagingEdge => True
  | .microcodeApply => True
  | .mwIssue _ k => k.val < 152
  | .mwBranch _ k => k.val < 152
  | .mwLdi _ k => k.val < 152
  | .mwLda _ k => k.val < 152
  | .mwDjnz _ k => k.val < 152
  | .mwCall _ k => k.val < 152
  | .mwReturn _ k => k.val < 152
  | .mwYield _ k => k.val < 152
  | .mwDone _ k => k.val < 152
  | .mwSync _ k => k.val < 152
  | .yieldLimitExpiry _ k => k.val < 152
  | .controlStoreError _ k _ _ => k.val < 152
  | .frameReceive _ _ frame => 14 ≤ frame.length ∧ frame.length ≤ 9216
  | .cookieKeyRotation => True
  | .handshakeLimitExpiry _ => True
  | .idleLimitExpiry _ => True
  | .sessionTimerExpiry _ => True
  | .tcpRtoExpiry _ => True
  | .delayedAckExpiry _ => True
  | .persistTimerExpiry _ => True
  | .ethLinkDown _ => True
  | .netPortCfgWrite _ _ => True
  | .sesCtrlModeWrite _ => True
  | .sesLsnWrite _ _ _ => True
  | .sesPrivgrpWrite _ _ => True
  | .dkeCommit => True
  | .dikeGenerationEdge => True
  | .dkeThaw _ mcls _ => mcls.val ≤ 12
  | .dkeNtcPop => True
  | .faultGroupResolve => True
  | .blockResetUnitReturn _ _ _ => True
  | .fclStatusClear _ => True
  | .fclErrnClear => True
  | .fclRecPop => True
  | .fclReactWrite _ _ => True
  | .testItemRun item unit _ => item.val ≠ 7 ∧ unit.val < 152
  | .testAbandon _ _ => True
  | .bankRotationStep _ _ _ => True
  | .testOverdue _ => True
  | .thermalWarning temp => -32768 ≤ temp ∧ temp < 32768
  | .thermalCritical temp => -32768 ≤ temp ∧ temp < 32768
  | .nonceGen => True
  | .transition _ => True
  | .keyInstall => True
  | .unlock => True
  | .bypass _ => True
  | .idcode _ => True
  | .samplePreload _ => True
  | .extest _ => True
  | .dbgAuth token => 80 ≤ token.length
  | .dap op => ∀ a, op ≠ .write a []
  | .debugTokenExpiry => True
  | .tamperAlarm on off => on &&& off = 0
  | .release => True
  | .selftest _ _ => True
  | .tmpRespWrite _ => True
  | .batteryAlarm _ => True
  | .embCfgWrite _ => True
  | .embLogClr => True
  | .cardInsertion m => m.cid.length = 16
  | .reinit => True
  | .cardInitComplete _ _ _ => True
  | .mountScan => True
  | .cardRemoval _ => True
  | .cardSleep => True
  | .cardRetune _ _ => True
  | .crdSubmit _ => True
  | .cardRead => True
  | .cardWrite => True
  | .jnlAppend => True
  | .jnlRead => True
  | .jnlFormat => True
  | .rpRead => True
  | .rpWrite => True
  | .rpBind => True
  | .linkTrained _ _ => True
  | .linkTrainingTimeout _ => True
  | .perCfgEnWrite _ _ => True
  | .flitReceive _ flit => flit.length = 256
  | .peerLinkDown _ => True
  | .rekey _ => True
  | .peerFlitCountRekey _ => True
  | .epochSend => True
  | .perTx _ _ => True
  | .perRxHeadWrite _ _ => True
  | .porstRelease _ _ cxl => cxl.length ≤ 4
  | .perst _ => True
  | .pwrBootGo _ _ => True
  | .bootSourceTimeout => True
  | .pwrFailAssert => True
  | .pwrFailDeassert => True
  | .powerEstimate _ _ _ _ => True
  | .pwrCapWrite _ => True
  | .smbReadId => True
  | .smbReadTemperature => True
  | .smbReadPower => True
  | .smbReadFaults => True
  | .smbReadLcs => True
  | .smbReadBootState => True
  | .smbWriteRefused => True
  | .registerWrite _ _ _ _ _ => True
  | .tokenBucketRefill => True
  | .ethLinkUp _ => True
  | .cxlLinkDown _ _ => True
  | .managementWatchdogExpiry => True
  | .porstAssert => True
  | .powerLoss _ => True
  | .pcieConfigRequest _ => True

/-- Operator units have Worker IDs from 64. -/
theorem isOpUnit_bound (w : WorkerId) (h : isOpUnit w = true) : 64 ≤ w.val := of_decide_eq_true h

/-- Every sequencer's unit number lies below 152. -/
theorem isSequencer_bound (m : Fin 5) (k : Fin 256) (h : isSequencer m k = true) : k.val < 152 := by
  unfold isSequencer at h
  split at h <;> simp at h <;> omega

/-- The engines of a class. -/
theorem isEngine_bound (cls : Fin 8) (k : Fin 32) (h : isEngine cls k = true) :
    k.val < 32 ∧ (cls.val = 1 → k.val < 4) ∧ (cls.val = 2 ∨ cls.val = 4 → k.val < 16) ∧ cls.val ≠ 3 ∧ cls.val < 5 := by
  unfold isEngine at h
  split at h <;> simp at h <;> omega

/-- The units of test items. -/
theorem testUnitOk_bound (item : Fin 11) (unit : Fin 256) (h : testUnitOk item unit = true) :
    item.val ≠ 7 ∧ unit.val < 152 := by
  unfold testUnitOk at h
  split at h <;> simp at h <;> first | omega | exact ⟨by assumption, by omega⟩

/-- An invalidation's pages. -/
theorem pagesOk_bound (page pages : Nat) (h : pagesOk page pages = true) : 1 ≤ pages ∧ page < 2 ^ 52 := by
  simp [pagesOk] at h
  omega

/-- An IRIG-B frame's ranges. -/
theorem irigOk_bound (f : IrigFrame) (h : irigOk f = true) : f.elems.length = 100 ∧ f.phaseNs < 1000000000 := by
  simpa [irigOk, phaseOk] using h

/-- A frame's length. -/
theorem frameOk_bound (l : List (BitVec 8)) (h : frameOk l = true) : 14 ≤ l.length ∧ l.length ≤ 9216 := by
  simpa [frameOk] using h

/-- A temperature's range. -/
theorem tempOk_bound (t : Int) (h : tempOk t = true) : -32768 ≤ t ∧ t < 32768 := by
  simpa [tempOk] using h

/-- A card's CID. -/
theorem mediumOk_bound (m : CardMedium) (h : mediumOk m = true) : m.cid.length = 16 := by
  simp only [mediumOk, Bool.and_eq_true, decide_eq_true_eq] at h
  exact h.1.1

/-- A debugger's write has data. -/
theorem dapOk_bound (op : DapOp) (h : dapOk op = true) (a : BitVec 48) : op ≠ .write a [] := by
  intro e
  subst e
  simp [dapOk] at h

theorem Wf.add (c : CoreId) (rd ra rb : Reg) : Wf.Statement (.add c rd ra rb) := fun _ => trivial
theorem Wf.sub (c : CoreId) (rd ra rb : Reg) : Wf.Statement (.sub c rd ra rb) := fun _ => trivial
theorem Wf.andOp (c : CoreId) (rd ra rb : Reg) : Wf.Statement (.andOp c rd ra rb) := fun _ => trivial
theorem Wf.orOp (c : CoreId) (rd ra rb : Reg) : Wf.Statement (.orOp c rd ra rb) := fun _ => trivial
theorem Wf.xorOp (c : CoreId) (rd ra rb : Reg) : Wf.Statement (.xorOp c rd ra rb) := fun _ => trivial
theorem Wf.sll (c : CoreId) (rd ra rb : Reg) : Wf.Statement (.sll c rd ra rb) := fun _ => trivial
theorem Wf.srl (c : CoreId) (rd ra rb : Reg) : Wf.Statement (.srl c rd ra rb) := fun _ => trivial
theorem Wf.sra (c : CoreId) (rd ra rb : Reg) : Wf.Statement (.sra c rd ra rb) := fun _ => trivial
theorem Wf.rotr (c : CoreId) (rd ra rb : Reg) : Wf.Statement (.rotr c rd ra rb) := fun _ => trivial
theorem Wf.mul (c : CoreId) (rd ra rb : Reg) : Wf.Statement (.mul c rd ra rb) := fun _ => trivial
theorem Wf.mulhu (c : CoreId) (rd ra rb : Reg) : Wf.Statement (.mulhu c rd ra rb) := fun _ => trivial
theorem Wf.mulh (c : CoreId) (rd ra rb : Reg) : Wf.Statement (.mulh c rd ra rb) := fun _ => trivial
theorem Wf.divu (c : CoreId) (rd ra rb : Reg) : Wf.Statement (.divu c rd ra rb) := fun _ => trivial
theorem Wf.div (c : CoreId) (rd ra rb : Reg) : Wf.Statement (.div c rd ra rb) := fun _ => trivial
theorem Wf.remu (c : CoreId) (rd ra rb : Reg) : Wf.Statement (.remu c rd ra rb) := fun _ => trivial
theorem Wf.rem (c : CoreId) (rd ra rb : Reg) : Wf.Statement (.rem c rd ra rb) := fun _ => trivial
theorem Wf.minu (c : CoreId) (rd ra rb : Reg) : Wf.Statement (.minu c rd ra rb) := fun _ => trivial
theorem Wf.min (c : CoreId) (rd ra rb : Reg) : Wf.Statement (.min c rd ra rb) := fun _ => trivial
theorem Wf.maxu (c : CoreId) (rd ra rb : Reg) : Wf.Statement (.maxu c rd ra rb) := fun _ => trivial
theorem Wf.max (c : CoreId) (rd ra rb : Reg) : Wf.Statement (.max c rd ra rb) := fun _ => trivial
theorem Wf.clz (c : CoreId) (rd ra : Reg) : Wf.Statement (.clz c rd ra) := fun _ => trivial
theorem Wf.ctz (c : CoreId) (rd ra : Reg) : Wf.Statement (.ctz c rd ra) := fun _ => trivial
theorem Wf.popc (c : CoreId) (rd ra : Reg) : Wf.Statement (.popc c rd ra) := fun _ => trivial
theorem Wf.bswap (c : CoreId) (rd ra : Reg) : Wf.Statement (.bswap c rd ra) := fun _ => trivial
theorem Wf.sel (c : CoreId) (rd ra rb : Reg) (px : Prd) : Wf.Statement (.sel c rd ra rb px) := fun _ => trivial
theorem Wf.cmpeq (c : CoreId) (px : Prd) (ra rb : Reg) : Wf.Statement (.cmpeq c px ra rb) := fun _ => trivial
theorem Wf.cmpne (c : CoreId) (px : Prd) (ra rb : Reg) : Wf.Statement (.cmpne c px ra rb) := fun _ => trivial
theorem Wf.cmplt (c : CoreId) (px : Prd) (ra rb : Reg) : Wf.Statement (.cmplt c px ra rb) := fun _ => trivial
theorem Wf.cmpltu (c : CoreId) (px : Prd) (ra rb : Reg) : Wf.Statement (.cmpltu c px ra rb) := fun _ => trivial
theorem Wf.cmpge (c : CoreId) (px : Prd) (ra rb : Reg) : Wf.Statement (.cmpge c px ra rb) := fun _ => trivial
theorem Wf.cmpgeu (c : CoreId) (px : Prd) (ra rb : Reg) : Wf.Statement (.cmpgeu c px ra rb) := fun _ => trivial
theorem Wf.pand (c : CoreId) (pd pa pb : Prd) : Wf.Statement (.pand c pd pa pb) := fun _ => trivial
theorem Wf.por (c : CoreId) (pd pa pb : Prd) : Wf.Statement (.por c pd pa pb) := fun _ => trivial
theorem Wf.pxor (c : CoreId) (pd pa pb : Prd) : Wf.Statement (.pxor c pd pa pb) := fun _ => trivial
theorem Wf.pnot (c : CoreId) (pd pa : Prd) : Wf.Statement (.pnot c pd pa) := fun _ => trivial
theorem Wf.mfp (c : CoreId) (rd : Reg) : Wf.Statement (.mfp c rd) := fun _ => trivial
theorem Wf.mtp (c : CoreId) (ra : Reg) : Wf.Statement (.mtp c ra) := fun _ => trivial
theorem Wf.addi (c : CoreId) (rd ra : Reg) (imm : BitVec 12) : Wf.Statement (.addi c rd ra imm) := fun _ => trivial
theorem Wf.andi (c : CoreId) (rd ra : Reg) (imm : BitVec 12) : Wf.Statement (.andi c rd ra imm) := fun _ => trivial
theorem Wf.ori (c : CoreId) (rd ra : Reg) (imm : BitVec 12) : Wf.Statement (.ori c rd ra imm) := fun _ => trivial
theorem Wf.xori (c : CoreId) (rd ra : Reg) (imm : BitVec 12) : Wf.Statement (.xori c rd ra imm) := fun _ => trivial
theorem Wf.slli (c : CoreId) (rd ra : Reg) (sh : BitVec 6) : Wf.Statement (.slli c rd ra sh) := fun _ => trivial
theorem Wf.srli (c : CoreId) (rd ra : Reg) (sh : BitVec 6) : Wf.Statement (.srli c rd ra sh) := fun _ => trivial
theorem Wf.srai (c : CoreId) (rd ra : Reg) (sh : BitVec 6) : Wf.Statement (.srai c rd ra sh) := fun _ => trivial
theorem Wf.cmpeqi (c : CoreId) (px : Prd) (ra : Reg) (imm : BitVec 12) : Wf.Statement (.cmpeqi c px ra imm) := fun _ => trivial
theorem Wf.cmplti (c : CoreId) (px : Prd) (ra : Reg) (imm : BitVec 12) : Wf.Statement (.cmplti c px ra imm) := fun _ => trivial
theorem Wf.cmpltui (c : CoreId) (px : Prd) (ra : Reg) (imm : BitVec 12) : Wf.Statement (.cmpltui c px ra imm) := fun _ => trivial
theorem Wf.limm (c : CoreId) (rd : Reg) (q : Fin 4) (k : Bool) (imm : BitVec 16) : Wf.Statement (.limm c rd q k imm) := fun _ => trivial
theorem Wf.ld (c : CoreId) (rd ra : Reg) (sz : Fin 4) (sx : Bool) (off : BitVec 12) : Wf.Statement (.ld c rd ra sz sx off) := fun _ => trivial
theorem Wf.st (c : CoreId) (rs ra : Reg) (sz : Fin 4) (off : BitVec 12) : Wf.Statement (.st c rs ra sz off) := fun _ => trivial
theorem Wf.amoSwap (c : CoreId) (rd ra rb : Reg) (w64 : Bool) : Wf.Statement (.amoSwap c rd ra rb w64) := fun _ => trivial
theorem Wf.amoAdd (c : CoreId) (rd ra rb : Reg) (w64 : Bool) : Wf.Statement (.amoAdd c rd ra rb w64) := fun _ => trivial
theorem Wf.amoAnd (c : CoreId) (rd ra rb : Reg) (w64 : Bool) : Wf.Statement (.amoAnd c rd ra rb w64) := fun _ => trivial
theorem Wf.amoOr (c : CoreId) (rd ra rb : Reg) (w64 : Bool) : Wf.Statement (.amoOr c rd ra rb w64) := fun _ => trivial
theorem Wf.amoXor (c : CoreId) (rd ra rb : Reg) (w64 : Bool) : Wf.Statement (.amoXor c rd ra rb w64) := fun _ => trivial
theorem Wf.amoMax (c : CoreId) (rd ra rb : Reg) (w64 : Bool) : Wf.Statement (.amoMax c rd ra rb w64) := fun _ => trivial
theorem Wf.amoMin (c : CoreId) (rd ra rb : Reg) (w64 : Bool) : Wf.Statement (.amoMin c rd ra rb w64) := fun _ => trivial
theorem Wf.amoMaxu (c : CoreId) (rd ra rb : Reg) (w64 : Bool) : Wf.Statement (.amoMaxu c rd ra rb w64) := fun _ => trivial
theorem Wf.amoMinu (c : CoreId) (rd ra rb : Reg) (w64 : Bool) : Wf.Statement (.amoMinu c rd ra rb w64) := fun _ => trivial
theorem Wf.amoCas (c : CoreId) (rd ra rb : Reg) (w64 : Bool) : Wf.Statement (.amoCas c rd ra rb w64) := fun _ => trivial
theorem Wf.br (c : CoreId) (p : Prd) (sense : Bool) (off : BitVec 22) : Wf.Statement (.br c p sense off) := fun _ => trivial
theorem Wf.j (c : CoreId) (off : BitVec 24) : Wf.Statement (.j c off) := fun _ => trivial
theorem Wf.call (c : CoreId) (off : BitVec 24) : Wf.Statement (.call c off) := fun _ => trivial
theorem Wf.jr (c : CoreId) (ra : Reg) : Wf.Statement (.jr c ra) := fun _ => trivial
theorem Wf.callr (c : CoreId) (ra : Reg) : Wf.Statement (.callr c ra) := fun _ => trivial
theorem Wf.nop (c : CoreId) : Wf.Statement (.nop c) := fun _ => trivial
theorem Wf.fence (c : CoreId) : Wf.Statement (.fence c) := fun _ => trivial
theorem Wf.mfs (c : CoreId) (r : Reg) (num : BitVec 15) : Wf.Statement (.mfs c r num) := fun _ => trivial
theorem Wf.mts (c : CoreId) (r : Reg) (num : BitVec 15) : Wf.Statement (.mts c r num) := fun _ => trivial
theorem Wf.trap (c : CoreId) (num : BitVec 15) : Wf.Statement (.trap c num) := fun _ => trivial
theorem Wf.xret (c : CoreId) : Wf.Statement (.xret c) := fun _ => trivial
theorem Wf.bkpt (c : CoreId) : Wf.Statement (.bkpt c) := fun _ => trivial
theorem Wf.halt (c : CoreId) : Wf.Statement (.halt c) := fun _ => trivial
theorem Wf.eret (c : CoreId) : Wf.Statement (.eret c) := fun _ => trivial
theorem Wf.waitwork (c : CoreId) (rd : Reg) : Wf.Statement (.waitwork c rd) := fun _ => trivial
theorem Wf.taskDispatch (w : WorkerId) : Wf.Statement (.taskDispatch w) := fun _ => trivial
theorem Wf.operatorUnitWorkRequest (w : WorkerId) : Wf.Statement (.operatorUnitWorkRequest w) := fun h => isOpUnit_bound w h
theorem Wf.done (c : CoreId) : Wf.Statement (.done c) := fun _ => trivial
theorem Wf.yield (c : CoreId) : Wf.Statement (.yield c) := fun _ => trivial
theorem Wf.spawn (c : CoreId) (rd ra : Reg) : Wf.Statement (.spawn c rd ra) := fun _ => trivial
theorem Wf.free (c : CoreId) (rd ra : Reg) : Wf.Statement (.free c rd ra) := fun _ => trivial
theorem Wf.setev (c : CoreId) (rd ra rb : Reg) : Wf.Statement (.setev c rd ra rb) := fun _ => trivial
theorem Wf.clrev (c : CoreId) (rb : Reg) : Wf.Statement (.clrev c rb) := fun _ => trivial
theorem Wf.waitev (c : CoreId) (rd ra rb : Reg) (all : Bool) : Wf.Statement (.waitev c rd ra rb all) := fun _ => trivial
theorem Wf.sleep (c : CoreId) (ra : Reg) : Wf.Statement (.sleep c ra) := fun _ => trivial
theorem Wf.timerExpiry (t : SlotId) : Wf.Statement (.timerExpiry t) := fun _ => trivial
theorem Wf.timerRetirement : Wf.Statement (.timerRetirement) := fun _ => trivial
theorem Wf.affinityHoldExpiry (w : WorkerId) (t : SlotId) : Wf.Statement (.affinityHoldExpiry w t) := fun _ => trivial
theorem Wf.slotWaitExpiry : Wf.Statement (.slotWaitExpiry) := fun _ => trivial
theorem Wf.hwRequesterSlotGrant : Wf.Statement (.hwRequesterSlotGrant) := fun _ => trivial
theorem Wf.pmpWoffWrite (m : Fin 4) (v : Word) : Wf.Statement (.pmpWoffWrite m v) := fun _ => trivial
theorem Wf.eng (c : CoreId) (cls : Fin 8) (ev : Fin 32) (ra rd : Reg) (opc : BitVec 8) : Wf.Statement (.eng c cls ev ra rd opc) := fun _ => trivial
theorem Wf.abort (c : CoreId) (rd ra : Reg) : Wf.Statement (.abort c rd ra) := fun _ => trivial
theorem Wf.probe (c : CoreId) (rd ra : Reg) : Wf.Statement (.probe c rd ra) := fun _ => trivial
theorem Wf.jobCompletion (e : SlotId) : Wf.Statement (.jobCompletion e) := fun _ => trivial
theorem Wf.kinfo (c : CoreId) (rd ra : Reg) : Wf.Statement (.kinfo c rd ra) := fun _ => trivial
theorem Wf.kalloc (c : CoreId) (rd rb : Reg) : Wf.Statement (.kalloc c rd rb) := fun _ => trivial
theorem Wf.kzero (c : CoreId) (rd ra : Reg) : Wf.Statement (.kzero c rd ra) := fun _ => trivial
theorem Wf.kpub (c : CoreId) (rd ra rb : Reg) (ev : Fin 32) : Wf.Statement (.kpub c rd ra rb ev) := fun _ => trivial
theorem Wf.kimp (c : CoreId) (rd ra rb : Reg) (ev : Fin 32) : Wf.Statement (.kimp c rd ra rb ev) := fun _ => trivial
theorem Wf.kexp (c : CoreId) (rd ra rb : Reg) (ev : Fin 32) : Wf.Statement (.kexp c rd ra rb ev) := fun _ => trivial
theorem Wf.kattr (c : CoreId) (rd ra rb : Reg) : Wf.Statement (.kattr c rd ra rb) := fun _ => trivial
theorem Wf.opDef (c : CoreId) (pipe : Fin 16) (ra : Reg) (opc : BitVec 6) : Wf.Statement (.opDef c pipe ra opc) := fun _ => trivial
theorem Wf.opRun (c : CoreId) (pipe : Fin 16) (ra : Reg) (ev : Fin 32) : Wf.Statement (.opRun c pipe ra ev) := fun _ => trivial
theorem Wf.opStop (c : CoreId) (pipe : Fin 16) : Wf.Statement (.opStop c pipe) := fun _ => trivial
theorem Wf.tld (c : CoreId) (td : StreamId) (ga : Reg) : Wf.Statement (.tld c td ga) := fun _ => trivial
theorem Wf.tst (c : CoreId) (td : StreamId) (ga : Reg) : Wf.Statement (.tst c td ga) := fun _ => trivial
theorem Wf.tset (c : CoreId) (td : StreamId) (ga gb : Reg) : Wf.Statement (.tset c td ga gb) := fun _ => trivial
theorem Wf.tadv (c : CoreId) (td : StreamId) : Wf.Statement (.tadv c td) := fun _ => trivial
theorem Wf.tcnt (c : CoreId) (td : StreamId) (ga : Reg) : Wf.Statement (.tcnt c td ga) := fun _ => trivial
theorem Wf.vadd (c : CoreId) (vd va vb : Reg) (ew : Fin 4) : Wf.Statement (.vadd c vd va vb ew) := fun _ => trivial
theorem Wf.vsub (c : CoreId) (vd va vb : Reg) (ew : Fin 4) : Wf.Statement (.vsub c vd va vb ew) := fun _ => trivial
theorem Wf.vand (c : CoreId) (vd va vb : Reg) (ew : Fin 4) : Wf.Statement (.vand c vd va vb ew) := fun _ => trivial
theorem Wf.vor (c : CoreId) (vd va vb : Reg) (ew : Fin 4) : Wf.Statement (.vor c vd va vb ew) := fun _ => trivial
theorem Wf.vxor (c : CoreId) (vd va vb : Reg) (ew : Fin 4) : Wf.Statement (.vxor c vd va vb ew) := fun _ => trivial
theorem Wf.vmin (c : CoreId) (vd va vb : Reg) (ew : Fin 4) (sg : Bool) : Wf.Statement (.vmin c vd va vb ew sg) := fun _ => trivial
theorem Wf.vmax (c : CoreId) (vd va vb : Reg) (ew : Fin 4) (sg : Bool) : Wf.Statement (.vmax c vd va vb ew sg) := fun _ => trivial
theorem Wf.vadds (c : CoreId) (vd va vb : Reg) (ew : Fin 4) (sg : Bool) : Wf.Statement (.vadds c vd va vb ew sg) := fun _ => trivial
theorem Wf.vsubs (c : CoreId) (vd va vb : Reg) (ew : Fin 4) (sg : Bool) : Wf.Statement (.vsubs c vd va vb ew sg) := fun _ => trivial
theorem Wf.vabsd (c : CoreId) (vd va vb : Reg) (ew : Fin 4) (sg : Bool) : Wf.Statement (.vabsd c vd va vb ew sg) := fun _ => trivial
theorem Wf.vmul (c : CoreId) (vd va vb : Reg) (ew : Fin 4) (sg : Bool) : Wf.Statement (.vmul c vd va vb ew sg) := fun _ => trivial
theorem Wf.vmulh (c : CoreId) (vd va vb : Reg) (ew : Fin 4) (sg : Bool) : Wf.Statement (.vmulh c vd va vb ew sg) := fun _ => trivial
theorem Wf.vbsel (c : CoreId) (vd va vb : Reg) (ew : Fin 4) : Wf.Statement (.vbsel c vd va vb ew) := fun _ => trivial
theorem Wf.vcmpeq (c : CoreId) (vd va vb : Reg) (ew : Fin 4) (sg : Bool) : Wf.Statement (.vcmpeq c vd va vb ew sg) := fun _ => trivial
theorem Wf.vcmplt (c : CoreId) (vd va vb : Reg) (ew : Fin 4) (sg : Bool) : Wf.Statement (.vcmplt c vd va vb ew sg) := fun _ => trivial
theorem Wf.vcmple (c : CoreId) (vd va vb : Reg) (ew : Fin 4) (sg : Bool) : Wf.Statement (.vcmple c vd va vb ew sg) := fun _ => trivial
theorem Wf.vtany (c : CoreId) (px : Prd) (va : Reg) : Wf.Statement (.vtany c px va) := fun _ => trivial
theorem Wf.vtall (c : CoreId) (px : Prd) (va : Reg) : Wf.Statement (.vtall c px va) := fun _ => trivial
theorem Wf.vsll (c : CoreId) (vd va vb : Reg) (ew : Fin 4) : Wf.Statement (.vsll c vd va vb ew) := fun _ => trivial
theorem Wf.vsrl (c : CoreId) (vd va vb : Reg) (ew : Fin 4) : Wf.Statement (.vsrl c vd va vb ew) := fun _ => trivial
theorem Wf.vsra (c : CoreId) (vd va vb : Reg) (ew : Fin 4) : Wf.Statement (.vsra c vd va vb ew) := fun _ => trivial
theorem Wf.vperm (c : CoreId) (vd va vb : Reg) : Wf.Statement (.vperm c vd va vb) := fun _ => trivial
theorem Wf.vmacc (c : CoreId) (vd va vb : Reg) (ew : Fin 4) : Wf.Statement (.vmacc c vd va vb ew) := fun _ => trivial
theorem Wf.vsad (c : CoreId) (vd va vb : Reg) (ew : Fin 4) (sg : Bool) : Wf.Statement (.vsad c vd va vb ew sg) := fun _ => trivial
theorem Wf.vradd (c : CoreId) (vd va : Reg) (ew : Fin 4) (sg : Bool) : Wf.Statement (.vradd c vd va ew sg) := fun _ => trivial
theorem Wf.vbcst (c : CoreId) (vd ga : Reg) (ew : Fin 4) : Wf.Statement (.vbcst c vd ga ew) := fun _ => trivial
theorem Wf.vins (c : CoreId) (vd ga : Reg) (idx : Fin 32) (ew : Fin 4) : Wf.Statement (.vins c vd ga idx ew) := fun _ => trivial
theorem Wf.vext (c : CoreId) (rd va : Reg) (idx : Fin 32) (ew : Fin 4) (sg : Bool) : Wf.Statement (.vext c rd va idx ew sg) := fun _ => trivial
theorem Wf.vmov (c : CoreId) (vd va : Reg) : Wf.Statement (.vmov c vd va) := fun _ => trivial
theorem Wf.vld (c : CoreId) (vd ga : Reg) (off : BitVec 15) : Wf.Statement (.vld c vd ga off) := fun _ => trivial
theorem Wf.vst (c : CoreId) (vs ga : Reg) (off : BitVec 15) : Wf.Statement (.vst c vs ga off) := fun _ => trivial
theorem Wf.lvBinary (c : CoreId) (td ta tb : StreamId) (fn : Fin 12) (sg : Bool) : Wf.Statement (.lvBinary c td ta tb fn sg) := fun _ => trivial
theorem Wf.lvBinaryScalar (c : CoreId) (td ta : StreamId) (fn : Fin 12) (sv : Reg) (sg : Bool) : Wf.Statement (.lvBinaryScalar c td ta fn sv sg) := fun _ => trivial
theorem Wf.lvsad (c : CoreId) (ta tb : StreamId) (sv : Reg) (sg : Bool) : Wf.Statement (.lvsad c ta tb sv sg) := fun _ => trivial
theorem Wf.lvsum (c : CoreId) (ta : StreamId) (sv : Reg) (sg : Bool) : Wf.Statement (.lvsum c ta sv sg) := fun _ => trivial
theorem Wf.lvmin (c : CoreId) (ta : StreamId) (sv : Reg) (sg : Bool) : Wf.Statement (.lvmin c ta sv sg) := fun _ => trivial
theorem Wf.lvmax (c : CoreId) (ta : StreamId) (sv : Reg) (sg : Bool) : Wf.Statement (.lvmax c ta sv sg) := fun _ => trivial
theorem Wf.lvcnt (c : CoreId) (ta : StreamId) (sv : Reg) : Wf.Statement (.lvcnt c ta sv) := fun _ => trivial
theorem Wf.lvcpy (c : CoreId) (td ta : StreamId) (sg : Bool) : Wf.Statement (.lvcpy c td ta sg) := fun _ => trivial
theorem Wf.lvcmpeq (c : CoreId) (td ta tb : StreamId) (sg : Bool) : Wf.Statement (.lvcmpeq c td ta tb sg) := fun _ => trivial
theorem Wf.lvcmplt (c : CoreId) (td ta tb : StreamId) (sg : Bool) : Wf.Statement (.lvcmplt c td ta tb sg) := fun _ => trivial
theorem Wf.lvcmple (c : CoreId) (td ta tb : StreamId) (sg : Bool) : Wf.Statement (.lvcmple c td ta tb sg) := fun _ => trivial
theorem Wf.lvgath (c : CoreId) (td ta tb : StreamId) : Wf.Statement (.lvgath c td ta tb) := fun _ => trivial
theorem Wf.lvcomp (c : CoreId) (td ta tb : StreamId) (sv : Reg) : Wf.Statement (.lvcomp c td ta tb sv) := fun _ => trivial
theorem Wf.lds2 (c : CoreId) (f : LdsForm) : Wf.Statement (.lds2 c f) := fun _ => trivial
theorem Wf.lds3 (c : CoreId) (f : LdsForm) : Wf.Statement (.lds3 c f) := fun _ => trivial
theorem Wf.lds4 (c : CoreId) (f : LdsForm) : Wf.Statement (.lds4 c f) := fun _ => trivial
theorem Wf.mlkemKeygen (e : SlotId) : Wf.Statement (.mlkemKeygen e) := fun _ => trivial
theorem Wf.mlkemEncaps (e : SlotId) : Wf.Statement (.mlkemEncaps e) := fun _ => trivial
theorem Wf.mlkemDecaps (e : SlotId) : Wf.Statement (.mlkemDecaps e) := fun _ => trivial
theorem Wf.mldsaKeygen (e : SlotId) : Wf.Statement (.mldsaKeygen e) := fun _ => trivial
theorem Wf.mldsaSign (e : SlotId) : Wf.Statement (.mldsaSign e) := fun _ => trivial
theorem Wf.mldsaVerify (e : SlotId) : Wf.Statement (.mldsaVerify e) := fun _ => trivial
theorem Wf.mceKeygen (e : SlotId) : Wf.Statement (.mceKeygen e) := fun _ => trivial
theorem Wf.mceEncaps (e : SlotId) : Wf.Statement (.mceEncaps e) := fun _ => trivial
theorem Wf.mceDecaps (e : SlotId) : Wf.Statement (.mceDecaps e) := fun _ => trivial
theorem Wf.hqcKeygen (e : SlotId) : Wf.Statement (.hqcKeygen e) := fun _ => trivial
theorem Wf.hqcEncaps (e : SlotId) : Wf.Statement (.hqcEncaps e) := fun _ => trivial
theorem Wf.hqcDecaps (e : SlotId) : Wf.Statement (.hqcDecaps e) := fun _ => trivial
theorem Wf.ecKeygen (e : SlotId) : Wf.Statement (.ecKeygen e) := fun _ => trivial
theorem Wf.ecdhEph (e : SlotId) : Wf.Statement (.ecdhEph e) := fun _ => trivial
theorem Wf.ecdh (e : SlotId) : Wf.Statement (.ecdh e) := fun _ => trivial
theorem Wf.ecdsaSign (e : SlotId) : Wf.Statement (.ecdsaSign e) := fun _ => trivial
theorem Wf.ecdsaVerify (e : SlotId) : Wf.Statement (.ecdsaVerify e) := fun _ => trivial
theorem Wf.eddsaSign (e : SlotId) : Wf.Statement (.eddsaSign e) := fun _ => trivial
theorem Wf.eddsaVerify (e : SlotId) : Wf.Statement (.eddsaVerify e) := fun _ => trivial
theorem Wf.rsaPssSign (e : SlotId) : Wf.Statement (.rsaPssSign e) := fun _ => trivial
theorem Wf.rsaPssVerify (e : SlotId) : Wf.Statement (.rsaPssVerify e) := fun _ => trivial
theorem Wf.rsaPkcs1Verify (e : SlotId) : Wf.Statement (.rsaPkcs1Verify e) := fun _ => trivial
theorem Wf.aeadSeal (e : SlotId) : Wf.Statement (.aeadSeal e) := fun _ => trivial
theorem Wf.aeadOpen (e : SlotId) : Wf.Statement (.aeadOpen e) := fun _ => trivial
theorem Wf.customerOperation (e : SlotId) : Wf.Statement (.customerOperation e) := fun _ => trivial
theorem Wf.engineFault (cls : Fin 8) (k : Fin 32) (cause : BitVec 8) : Wf.Statement (.engineFault cls k cause) := fun h => isEngine_bound cls k h
theorem Wf.dgOpen (e : SlotId) : Wf.Statement (.dgOpen e) := fun _ => trivial
theorem Wf.dgUpdate (e : SlotId) : Wf.Statement (.dgUpdate e) := fun _ => trivial
theorem Wf.dgFinal (e : SlotId) : Wf.Statement (.dgFinal e) := fun _ => trivial
theorem Wf.dgPeek (e : SlotId) : Wf.Statement (.dgPeek e) := fun _ => trivial
theorem Wf.dgOneshot (e : SlotId) : Wf.Statement (.dgOneshot e) := fun _ => trivial
theorem Wf.dgClose (e : SlotId) : Wf.Statement (.dgClose e) := fun _ => trivial
theorem Wf.hkdfExtract (e : SlotId) : Wf.Statement (.hkdfExtract e) := fun _ => trivial
theorem Wf.hkdfExpand (e : SlotId) : Wf.Statement (.hkdfExpand e) := fun _ => trivial
theorem Wf.ctCompare (e : SlotId) : Wf.Statement (.ctCompare e) := fun _ => trivial
theorem Wf.slhKeygen (e : SlotId) : Wf.Statement (.slhKeygen e) := fun _ => trivial
theorem Wf.slhSign (e : SlotId) : Wf.Statement (.slhSign e) := fun _ => trivial
theorem Wf.slhVerify (e : SlotId) : Wf.Statement (.slhVerify e) := fun _ => trivial
theorem Wf.hbsKeygen (e : SlotId) : Wf.Statement (.hbsKeygen e) := fun _ => trivial
theorem Wf.hbsSign (e : SlotId) : Wf.Statement (.hbsSign e) := fun _ => trivial
theorem Wf.hbsFloorCommit (k : SlotId) : Wf.Statement (.hbsFloorCommit k) := fun _ => trivial
theorem Wf.hbsVerify (e : SlotId) : Wf.Statement (.hbsVerify e) := fun _ => trivial
theorem Wf.hbsSplit (e : SlotId) : Wf.Statement (.hbsSplit e) := fun _ => trivial
theorem Wf.contextExpiry (x : Fin 256) : Wf.Statement (.contextExpiry x) := fun _ => trivial
theorem Wf.digestFault (ctxRam : Bool) (core : Fin 32) (x : Fin 256) : Wf.Statement (.digestFault ctxRam core x) := fun _ => trivial
theorem Wf.zcomp (e : SlotId) : Wf.Statement (.zcomp e) := fun _ => trivial
theorem Wf.zdecomp (e : SlotId) : Wf.Statement (.zdecomp e) := fun _ => trivial
theorem Wf.compressionLaneFault (k : Fin 8) (cause : BitVec 8) : Wf.Statement (.compressionLaneFault k cause) := fun _ => trivial
theorem Wf.tblCreate (e : SlotId) : Wf.Statement (.tblCreate e) := fun _ => trivial
theorem Wf.tblDrop (e : SlotId) : Wf.Statement (.tblDrop e) := fun _ => trivial
theorem Wf.append (e : SlotId) : Wf.Statement (.append e) := fun _ => trivial
theorem Wf.tblSeal (e : SlotId) : Wf.Statement (.tblSeal e) := fun _ => trivial
theorem Wf.segInfo (e : SlotId) : Wf.Statement (.segInfo e) := fun _ => trivial
theorem Wf.segExport (e : SlotId) : Wf.Statement (.segExport e) := fun _ => trivial
theorem Wf.segImport (e : SlotId) : Wf.Statement (.segImport e) := fun _ => trivial
theorem Wf.tblInfo (e : SlotId) : Wf.Statement (.tblInfo e) := fun _ => trivial
theorem Wf.segmentWindowClose (t : Fin 4096) : Wf.Statement (.segmentWindowClose t) := fun _ => trivial
theorem Wf.segmentPublish (t : Fin 4096) : Wf.Statement (.segmentPublish t) := fun _ => trivial
theorem Wf.sealGranuleGrant (t : Fin 4096) : Wf.Statement (.sealGranuleGrant t) := fun _ => trivial
theorem Wf.segmentMigration (t : Fin 4096) (seg : BitVec 25) : Wf.Statement (.segmentMigration t seg) := fun _ => trivial
theorem Wf.migrationPublish (t : Fin 4096) (seg : BitVec 25) : Wf.Statement (.migrationPublish t seg) := fun _ => trivial
theorem Wf.retentionDrop (t : Fin 4096) (seg : BitVec 25) : Wf.Statement (.retentionDrop t seg) := fun _ => trivial
theorem Wf.tblDropStaging (t : Fin 4096) : Wf.Statement (.tblDropStaging t) := fun _ => trivial
theorem Wf.tblDropComplete (t : Fin 4096) : Wf.Statement (.tblDropComplete t) := fun _ => trivial
theorem Wf.scan (w : WorkerId) : Wf.Statement (.scan w) := fun h => isOpUnit_bound w h
theorem Wf.filter (w : WorkerId) : Wf.Statement (.filter w) := fun h => isOpUnit_bound w h
theorem Wf.project (w : WorkerId) : Wf.Statement (.project w) := fun h => isOpUnit_bound w h
theorem Wf.sink (w : WorkerId) : Wf.Statement (.sink w) := fun h => isOpUnit_bound w h
theorem Wf.seal (w : WorkerId) : Wf.Statement (.seal w) := fun h => isOpUnit_bound w h
theorem Wf.hbuild (w : WorkerId) : Wf.Statement (.hbuild w) := fun h => isOpUnit_bound w h
theorem Wf.hprobe (w : WorkerId) : Wf.Statement (.hprobe w) := fun h => isOpUnit_bound w h
theorem Wf.asof (w : WorkerId) : Wf.Statement (.asof w) := fun h => isOpUnit_bound w h
theorem Wf.group (w : WorkerId) : Wf.Statement (.group w) := fun h => isOpUnit_bound w h
theorem Wf.window (w : WorkerId) : Wf.Statement (.window w) := fun h => isOpUnit_bound w h
theorem Wf.windowClose (e : SlotId) (op : Fin 255) : Wf.Statement (.windowClose e op) := fun _ => trivial
theorem Wf.psad (w : WorkerId) : Wf.Statement (.psad w) := fun h => isOpUnit_bound w h
theorem Wf.sort (w : WorkerId) : Wf.Statement (.sort w) := fun h => isOpUnit_bound w h
theorem Wf.merge (w : WorkerId) : Wf.Statement (.merge w) := fun h => isOpUnit_bound w h
theorem Wf.topk (w : WorkerId) : Wf.Statement (.topk w) := fun h => isOpUnit_bound w h
theorem Wf.operatorFinalEmit (e : SlotId) (op : Fin 255) : Wf.Statement (.operatorFinalEmit e op) := fun _ => trivial
theorem Wf.exchange (w : WorkerId) : Wf.Statement (.exchange w) := fun h => isOpUnit_bound w h
theorem Wf.exchangeTimeout (e : SlotId) (op : Fin 255) : Wf.Statement (.exchangeTimeout e op) := fun _ => trivial
theorem Wf.udo (w : WorkerId) : Wf.Statement (.udo w) := fun h => isOpUnit_bound w h
theorem Wf.receipt (w : WorkerId) : Wf.Statement (.receipt w) := fun h => isOpUnit_bound w h
theorem Wf.runQueueGrant (e : SlotId) : Wf.Statement (.runQueueGrant e) := fun _ => trivial
theorem Wf.producerTaskCreate (e : SlotId) (op : Fin 255) : Wf.Statement (.producerTaskCreate e op) := fun _ => trivial
theorem Wf.consumerTaskCreate (e : SlotId) (op : Fin 255) : Wf.Statement (.consumerTaskCreate e op) := fun _ => trivial
theorem Wf.runComplete (e : SlotId) : Wf.Statement (.runComplete e) := fun _ => trivial
theorem Wf.operatorUnitFault (w : WorkerId) (cause : BitVec 8) (begun : Bool) : Wf.Statement (.operatorUnitFault w cause begun) := fun h => isOpUnit_bound w h
theorem Wf.opuCisModeWrite (mode : Fin 4) : Wf.Statement (.opuCisModeWrite mode) := fun _ => trivial
theorem Wf.cisModeStagingEdge : Wf.Statement (.cisModeStagingEdge) := fun _ => trivial
theorem Wf.cisModeApply : Wf.Statement (.cisModeApply) := fun _ => trivial
theorem Wf.sqTailDoorbell (n : PolderId) (q : Fin 4) (v : Word) : Wf.Statement (.sqTailDoorbell n q v) := fun _ => trivial
theorem Wf.cqHeadDoorbell (n : PolderId) (v : Word) : Wf.Statement (.cqHeadDoorbell n v) := fun _ => trivial
theorem Wf.sqFetch (n : PolderId) (q : Fin 4) (entry : List (BitVec 8)) : Wf.Statement (.sqFetch n q entry) := fun h => of_decide_eq_true h
theorem Wf.loadProgram (n : PolderId) (q : Fin 4) (image : List (BitVec 8)) (grant : Bool) : Wf.Statement (.loadProgram n q image grant) := fun _ => trivial
theorem Wf.unloadProgram (n : PolderId) (q : Fin 4) : Wf.Statement (.unloadProgram n q) := fun _ => trivial
theorem Wf.unloadRelease (n : PolderId) (h : Fin 4096) : Wf.Statement (.unloadRelease n h) := fun _ => trivial
theorem Wf.run (n : PolderId) (q : Fin 4) : Wf.Statement (.run n q) := fun _ => trivial
theorem Wf.runSlotGrant (n : PolderId) (q : Fin 4) : Wf.Statement (.runSlotGrant n q) := fun _ => trivial
theorem Wf.runWaitExpiry (n : PolderId) (q : Fin 4) : Wf.Statement (.runWaitExpiry n q) := fun _ => trivial
theorem Wf.dmaIn (n : PolderId) (q : Fin 4) (data : List (BitVec 8)) (grant : Bool) : Wf.Statement (.dmaIn n q data grant) := fun _ => trivial
theorem Wf.dmaOut (n : PolderId) (q : Fin 4) (grant : Bool) : Wf.Statement (.dmaOut n q grant) := fun _ => trivial
theorem Wf.signal (n : PolderId) (q : Fin 4) : Wf.Statement (.signal n q) := fun _ => trivial
theorem Wf.sqFence (n : PolderId) (q : Fin 4) : Wf.Statement (.sqFence n q) := fun _ => trivial
theorem Wf.msixCoalesceExpiry (n : PolderId) : Wf.Statement (.msixCoalesceExpiry n) := fun _ => trivial
theorem Wf.unsupportedRequest (ep : Fin 2) (posted uncorr : Bool) (header : BitVec 128) : Wf.Statement (.unsupportedRequest ep posted uncorr header) := fun _ => trivial
theorem Wf.doorbellAtomicop (n : PolderId) (q : Fin 5) (op : AtomicOp) : Wf.Statement (.doorbellAtomicop n q op) := fun _ => trivial
theorem Wf.pcieLinkDown (ep : Fin 2) : Wf.Statement (.pcieLinkDown ep) := fun _ => trivial
theorem Wf.pcieLinkUp (ep : Fin 2) : Wf.Statement (.pcieLinkUp ep) := fun _ => trivial
theorem Wf.pcieLinkRetrain (ep : Fin 2) (width : Fin 5) (rate : Fin 6) : Wf.Statement (.pcieLinkRetrain ep width rate) := fun _ => trivial
theorem Wf.functionLevelReset (ep : Fin 2) : Wf.Statement (.functionLevelReset ep) := fun _ => trivial
theorem Wf.d3hotEntry (ep : Fin 2) : Wf.Statement (.d3hotEntry ep) := fun _ => trivial
theorem Wf.d0Return (ep : Fin 2) : Wf.Statement (.d0Return ep) := fun _ => trivial
theorem Wf.atsInvalidationRequest (n : PolderId) (page : Nat) (pages : Nat) : Wf.Statement (.atsInvalidationRequest n page pages) := fun h => pagesOk_bound page pages h
theorem Wf.atsInvalidationCompletion (n : PolderId) : Wf.Statement (.atsInvalidationCompletion n) := fun _ => trivial
theorem Wf.pldDptInv (n : PolderId) : Wf.Statement (.pldDptInv n) := fun _ => trivial
theorem Wf.pldPasidWrite (n : PolderId) (v : Word) : Wf.Statement (.pldPasidWrite n v) := fun _ => trivial
theorem Wf.polderEnable (n : PolderId) : Wf.Statement (.polderEnable n) := fun _ => trivial
theorem Wf.quiesce (n : PolderId) (set : Bool) : Wf.Statement (.quiesce n set) := fun _ => trivial
theorem Wf.polderReset (n : PolderId) : Wf.Statement (.polderReset n) := fun _ => trivial
theorem Wf.polderRemove (n : PolderId) : Wf.Statement (.polderRemove n) := fun _ => trivial
theorem Wf.drainEnd (n : PolderId) : Wf.Statement (.drainEnd n) := fun _ => trivial
theorem Wf.drainLimitExpiry (n : PolderId) : Wf.Statement (.drainLimitExpiry n) := fun _ => trivial
theorem Wf.resetDone (n : PolderId) : Wf.Statement (.resetDone n) := fun _ => trivial
theorem Wf.dirtySwap (n : PolderId) : Wf.Statement (.dirtySwap n) := fun _ => trivial
theorem Wf.swapDone (n : PolderId) : Wf.Statement (.swapDone n) := fun _ => trivial
theorem Wf.epcEnable : Wf.Statement (.epcEnable) := fun _ => trivial
theorem Wf.epcTickWrite (v : BitVec 20) : Wf.Statement (.epcTickWrite v) := fun _ => trivial
theorem Wf.epcSrcDisable : Wf.Statement (.epcSrcDisable) := fun _ => trivial
theorem Wf.epcSrcStage (w : EpcSel) : Wf.Statement (.epcSrcStage w) := fun _ => trivial
theorem Wf.ptpMessage (m : PtpMsg) : Wf.Statement (.ptpMessage m) := fun h => by simpa [Instr.wf, phaseOk] using h
theorem Wf.ptpDelayRequestSend (x : PtpSend) : Wf.Statement (.ptpDelayRequestSend x) := fun h => of_decide_eq_true h
theorem Wf.irigbFrame (f : IrigFrame) : Wf.Statement (.irigbFrame f) := fun h => irigOk_bound f h
theorem Wf.ppsEdge (us ns : Nat) : Wf.Statement (.ppsEdge us ns) := fun h => of_decide_eq_true h
theorem Wf.referenceLoss (phaseNs : Nat) : Wf.Statement (.referenceLoss phaseNs) := fun h => of_decide_eq_true h
theorem Wf.holdoverExpiry : Wf.Statement (.holdoverExpiry) := fun _ => trivial
theorem Wf.rngEnable : Wf.Statement (.rngEnable) := fun _ => trivial
theorem Wf.rngRestart : Wf.Statement (.rngRestart) := fun _ => trivial
theorem Wf.rngTestsrcWrite (v : Bool) : Wf.Statement (.rngTestsrcWrite v) := fun _ => trivial
theorem Wf.wellStartupComplete (failed : StartupFailures) (kat : Bool) : Wf.Statement (.wellStartupComplete failed kat) := fun _ => trivial
theorem Wf.sourceHealthFailure (k : Fin 8) (window : BitVec 1024) : Wf.Statement (.sourceHealthFailure k window) := fun _ => trivial
theorem Wf.drbgReseed (inst : Fin 288) : Wf.Statement (.drbgReseed inst) := fun _ => trivial
theorem Wf.entropyWaitExpiry (e : SlotId) : Wf.Statement (.entropyWaitExpiry e) := fun _ => trivial
theorem Wf.rngStallExpiry (e : SlotId) : Wf.Statement (.rngStallExpiry e) := fun _ => trivial
theorem Wf.entropyDelivery : Wf.Statement (.entropyDelivery) := fun _ => trivial
theorem Wf.kstRcptWrite (n : PolderId) (valid : Bool) (k : SlotId) : Wf.Statement (.kstRcptWrite n valid k) := fun _ => trivial
theorem Wf.receiptSlotStaging : Wf.Statement (.receiptSlotStaging) := fun _ => trivial
theorem Wf.scrubComplete : Wf.Statement (.scrubComplete) := fun _ => trivial
theorem Wf.rewrapComplete : Wf.Statement (.rewrapComplete) := fun _ => trivial
theorem Wf.mcsLoad : Wf.Statement (.mcsLoad) := fun _ => trivial
theorem Wf.mcsClear (cls : Fin 8) : Wf.Statement (.mcsClear cls) := fun h => of_decide_eq_true h
theorem Wf.custEnWrite (v : Bool) : Wf.Statement (.custEnWrite v) := fun _ => trivial
theorem Wf.microcodeStagingEdge : Wf.Statement (.microcodeStagingEdge) := fun _ => trivial
theorem Wf.microcodeApply : Wf.Statement (.microcodeApply) := fun _ => trivial
theorem Wf.mwIssue (m : Fin 5) (k : Fin 256) : Wf.Statement (.mwIssue m k) := fun h => isSequencer_bound m k h
theorem Wf.mwBranch (m : Fin 5) (k : Fin 256) : Wf.Statement (.mwBranch m k) := fun h => isSequencer_bound m k h
theorem Wf.mwLdi (m : Fin 5) (k : Fin 256) : Wf.Statement (.mwLdi m k) := fun h => isSequencer_bound m k h
theorem Wf.mwLda (m : Fin 5) (k : Fin 256) : Wf.Statement (.mwLda m k) := fun h => isSequencer_bound m k h
theorem Wf.mwDjnz (m : Fin 5) (k : Fin 256) : Wf.Statement (.mwDjnz m k) := fun h => isSequencer_bound m k h
theorem Wf.mwCall (m : Fin 5) (k : Fin 256) : Wf.Statement (.mwCall m k) := fun h => isSequencer_bound m k h
theorem Wf.mwReturn (m : Fin 5) (k : Fin 256) : Wf.Statement (.mwReturn m k) := fun h => isSequencer_bound m k h
theorem Wf.mwYield (m : Fin 5) (k : Fin 256) : Wf.Statement (.mwYield m k) := fun h => isSequencer_bound m k h
theorem Wf.mwDone (m : Fin 5) (k : Fin 256) : Wf.Statement (.mwDone m k) := fun h => isSequencer_bound m k h
theorem Wf.mwSync (m : Fin 5) (k : Fin 256) : Wf.Statement (.mwSync m k) := fun h => isSequencer_bound m k h
theorem Wf.yieldLimitExpiry (m : Fin 5) (k : Fin 256) : Wf.Statement (.yieldLimitExpiry m k) := fun h => isSequencer_bound m k h
theorem Wf.controlStoreError (m : Fin 5) (k : Fin 256) (region : Fin 3) (addr : BitVec 16) : Wf.Statement (.controlStoreError m k region addr) := fun h => isSequencer_bound m k h
theorem Wf.frameReceive (port : Fin 32) (fcsOk : Bool) (frame : List (BitVec 8)) : Wf.Statement (.frameReceive port fcsOk frame) := fun h => frameOk_bound frame h
theorem Wf.cookieKeyRotation : Wf.Statement (.cookieKeyRotation) := fun _ => trivial
theorem Wf.handshakeLimitExpiry (k : Fin 2097152) : Wf.Statement (.handshakeLimitExpiry k) := fun _ => trivial
theorem Wf.idleLimitExpiry (k : Fin 2097152) : Wf.Statement (.idleLimitExpiry k) := fun _ => trivial
theorem Wf.sessionTimerExpiry (k : Fin 2097152) : Wf.Statement (.sessionTimerExpiry k) := fun _ => trivial
theorem Wf.tcpRtoExpiry (k : Fin 2097152) : Wf.Statement (.tcpRtoExpiry k) := fun _ => trivial
theorem Wf.delayedAckExpiry (k : Fin 2097152) : Wf.Statement (.delayedAckExpiry k) := fun _ => trivial
theorem Wf.persistTimerExpiry (k : Fin 2097152) : Wf.Statement (.persistTimerExpiry k) := fun _ => trivial
theorem Wf.ethLinkDown (p : Fin 32) : Wf.Statement (.ethLinkDown p) := fun _ => trivial
theorem Wf.netPortCfgWrite (p : Fin 32) (v : Word) : Wf.Statement (.netPortCfgWrite p v) := fun _ => trivial
theorem Wf.sesCtrlModeWrite (v : Bool) : Wf.Statement (.sesCtrlModeWrite v) := fun _ => trivial
theorem Wf.sesLsnWrite (k : Fin 256) (reg : Fin 3) (v : Word) : Wf.Statement (.sesLsnWrite k reg v) := fun _ => trivial
theorem Wf.sesPrivgrpWrite (k : Fin 4) (v : Word) : Wf.Statement (.sesPrivgrpWrite k v) := fun _ => trivial
theorem Wf.dkeCommit : Wf.Statement (.dkeCommit) := fun _ => trivial
theorem Wf.dikeGenerationEdge : Wf.Statement (.dikeGenerationEdge) := fun _ => trivial
theorem Wf.dkeThaw (endTask : Bool) (mcls : Fin 16) (unit : Fin 256) : Wf.Statement (.dkeThaw endTask mcls unit) := fun h => of_decide_eq_true h
theorem Wf.dkeNtcPop : Wf.Statement (.dkeNtcPop) := fun _ => trivial
theorem Wf.faultGroupResolve : Wf.Statement (.faultGroupResolve) := fun _ => trivial
theorem Wf.blockResetUnitReturn (src : Fin 37) (unit : Fin 256) (pass : Bool) : Wf.Statement (.blockResetUnitReturn src unit pass) := fun _ => trivial
theorem Wf.fclStatusClear (v : Word) : Wf.Statement (.fclStatusClear v) := fun _ => trivial
theorem Wf.fclErrnClear : Wf.Statement (.fclErrnClear) := fun _ => trivial
theorem Wf.fclRecPop : Wf.Statement (.fclRecPop) := fun _ => trivial
theorem Wf.fclReactWrite (j : Fin 4) (v : Word) : Wf.Statement (.fclReactWrite j v) := fun _ => trivial
theorem Wf.testItemRun (item : Fin 11) (unit : Fin 256) (result : Option Bool) : Wf.Statement (.testItemRun item unit result) := fun h => testUnitOk_bound item unit h
theorem Wf.testAbandon (cls : Fin 8) (unit : Fin 32) : Wf.Statement (.testAbandon cls unit) := fun _ => trivial
theorem Wf.bankRotationStep (k : Fin 16) (bank : Fin 17) (pass : Bool) : Wf.Statement (.bankRotationStep k bank pass) := fun _ => trivial
theorem Wf.testOverdue (item : Fin 11) : Wf.Statement (.testOverdue item) := fun _ => trivial
theorem Wf.thermalWarning (temp : Int) : Wf.Statement (.thermalWarning temp) := fun h => tempOk_bound temp h
theorem Wf.thermalCritical (temp : Int) : Wf.Statement (.thermalCritical temp) := fun h => tempOk_bound temp h
theorem Wf.nonceGen : Wf.Statement (.nonceGen) := fun _ => trivial
theorem Wf.transition (lost : Option (Fin 5)) : Wf.Statement (.transition lost) := fun _ => trivial
theorem Wf.keyInstall : Wf.Statement (.keyInstall) := fun _ => trivial
theorem Wf.unlock : Wf.Statement (.unlock) := fun _ => trivial
theorem Wf.bypass (tdi : List Bool) : Wf.Statement (.bypass tdi) := fun _ => trivial
theorem Wf.idcode (tdi : List Bool) : Wf.Statement (.idcode tdi) := fun _ => trivial
theorem Wf.samplePreload (tdi : List Bool) : Wf.Statement (.samplePreload tdi) := fun _ => trivial
theorem Wf.extest (tdi : List Bool) : Wf.Statement (.extest tdi) := fun _ => trivial
theorem Wf.dbgAuth (token : List (BitVec 8)) : Wf.Statement (.dbgAuth token) := fun h => of_decide_eq_true h
theorem Wf.dap (op : DapOp) : Wf.Statement (.dap op) := fun h => dapOk_bound op h
theorem Wf.debugTokenExpiry : Wf.Statement (.debugTokenExpiry) := fun _ => trivial
theorem Wf.tamperAlarm (on off : BitVec 10) : Wf.Statement (.tamperAlarm on off) := fun h => of_decide_eq_true h
theorem Wf.release : Wf.Statement (.release) := fun _ => trivial
theorem Wf.selftest (src : Fin 16) (pass : Bool) : Wf.Statement (.selftest src pass) := fun _ => trivial
theorem Wf.tmpRespWrite (v : BitVec 40) : Wf.Statement (.tmpRespWrite v) := fun _ => trivial
theorem Wf.batteryAlarm (src : Fin 10) : Wf.Statement (.batteryAlarm src) := fun _ => trivial
theorem Wf.embCfgWrite (v : BitVec 4) : Wf.Statement (.embCfgWrite v) := fun _ => trivial
theorem Wf.embLogClr : Wf.Statement (.embLogClr) := fun _ => trivial
theorem Wf.cardInsertion (m : CardMedium) : Wf.Statement (.cardInsertion m) := fun h => mediumOk_bound m h
theorem Wf.reinit : Wf.Statement (.reinit) := fun _ => trivial
theorem Wf.cardInitComplete (answers switchOk : Bool) (tuned : BitVec 12) : Wf.Statement (.cardInitComplete answers switchOk tuned) := fun _ => trivial
theorem Wf.mountScan : Wf.Statement (.mountScan) := fun _ => trivial
theorem Wf.cardRemoval (started : Bool) : Wf.Statement (.cardRemoval started) := fun _ => trivial
theorem Wf.cardSleep : Wf.Statement (.cardSleep) := fun _ => trivial
theorem Wf.cardRetune (cause : Fin 3) (tuned : BitVec 12) : Wf.Statement (.cardRetune cause tuned) := fun _ => trivial
theorem Wf.crdSubmit (addr : BitVec 48) : Wf.Statement (.crdSubmit addr) := fun _ => trivial
theorem Wf.cardRead : Wf.Statement (.cardRead) := fun _ => trivial
theorem Wf.cardWrite : Wf.Statement (.cardWrite) := fun _ => trivial
theorem Wf.jnlAppend : Wf.Statement (.jnlAppend) := fun _ => trivial
theorem Wf.jnlRead : Wf.Statement (.jnlRead) := fun _ => trivial
theorem Wf.jnlFormat : Wf.Statement (.jnlFormat) := fun _ => trivial
theorem Wf.rpRead : Wf.Statement (.rpRead) := fun _ => trivial
theorem Wf.rpWrite : Wf.Statement (.rpWrite) := fun _ => trivial
theorem Wf.rpBind : Wf.Statement (.rpBind) := fun _ => trivial
theorem Wf.linkTrained (l : Fin 16) (lanes : BitVec 8) : Wf.Statement (.linkTrained l lanes) := fun _ => trivial
theorem Wf.linkTrainingTimeout (l : Fin 16) : Wf.Statement (.linkTrainingTimeout l) := fun _ => trivial
theorem Wf.perCfgEnWrite (l : Fin 16) (v : Bool) : Wf.Statement (.perCfgEnWrite l v) := fun _ => trivial
theorem Wf.flitReceive (l : Fin 16) (flit : List (BitVec 8)) : Wf.Statement (.flitReceive l flit) := fun h => of_decide_eq_true h
theorem Wf.peerLinkDown (l : Fin 16) : Wf.Statement (.peerLinkDown l) := fun _ => trivial
theorem Wf.rekey (l : Fin 16) : Wf.Statement (.rekey l) := fun _ => trivial
theorem Wf.peerFlitCountRekey (l : Fin 16) : Wf.Statement (.peerFlitCountRekey l) := fun _ => trivial
theorem Wf.epochSend : Wf.Statement (.epochSend) := fun _ => trivial
theorem Wf.perTx (l : Fin 16) (addr : BitVec 48) : Wf.Statement (.perTx l addr) := fun _ => trivial
theorem Wf.perRxHeadWrite (l : Fin 16) (head : BitVec 7) : Wf.Statement (.perRxHeadWrite l head) := fun _ => trivial
theorem Wf.porstRelease (straps : Fin 4) (nor : List (BitVec 8)) (cxl : List (BitVec 32)) : Wf.Statement (.porstRelease straps nor cxl) := fun h => of_decide_eq_true h
theorem Wf.perst (ep : Fin 2) : Wf.Statement (.perst ep) := fun _ => trivial
theorem Wf.pwrBootGo (ep : Fin 2) (image : List (BitVec 8)) : Wf.Statement (.pwrBootGo ep image) := fun _ => trivial
theorem Wf.bootSourceTimeout : Wf.Statement (.bootSourceTimeout) := fun _ => trivial
theorem Wf.pwrFailAssert : Wf.Statement (.pwrFailAssert) := fun _ => trivial
theorem Wf.pwrFailDeassert : Wf.Statement (.pwrFailDeassert) := fun _ => trivial
theorem Wf.powerEstimate (engines scan cores total : BitVec 16) : Wf.Statement (.powerEstimate engines scan cores total) := fun _ => trivial
theorem Wf.pwrCapWrite (v : BitVec 11) : Wf.Statement (.pwrCapWrite v) := fun _ => trivial
theorem Wf.smbReadId : Wf.Statement (.smbReadId) := fun _ => trivial
theorem Wf.smbReadTemperature : Wf.Statement (.smbReadTemperature) := fun _ => trivial
theorem Wf.smbReadPower : Wf.Statement (.smbReadPower) := fun _ => trivial
theorem Wf.smbReadFaults : Wf.Statement (.smbReadFaults) := fun _ => trivial
theorem Wf.smbReadLcs : Wf.Statement (.smbReadLcs) := fun _ => trivial
theorem Wf.smbReadBootState : Wf.Statement (.smbReadBootState) := fun _ => trivial
theorem Wf.smbWriteRefused : Wf.Statement (.smbWriteRefused) := fun _ => trivial
theorem Wf.registerWrite (bar2 : Bool) (off : Nat) (half : Option Bool) (aligned : Bool) (v : Word) : Wf.Statement (.registerWrite bar2 off half aligned v) := fun _ => trivial
theorem Wf.tokenBucketRefill : Wf.Statement (.tokenBucketRefill) := fun _ => trivial
theorem Wf.ethLinkUp (p : Fin 32) : Wf.Statement (.ethLinkUp p) := fun _ => trivial
theorem Wf.cxlLinkDown (p : Fin 4) (error : Bool) : Wf.Statement (.cxlLinkDown p error) := fun _ => trivial
theorem Wf.managementWatchdogExpiry : Wf.Statement (.managementWatchdogExpiry) := fun _ => trivial
theorem Wf.porstAssert : Wf.Statement (.porstAssert) := fun _ => trivial
theorem Wf.powerLoss (vbat : Bool) : Wf.Statement (.powerLoss vbat) := fun _ => trivial
theorem Wf.pcieConfigRequest (ep : Fin 2) : Wf.Statement (.pcieConfigRequest ep) := fun _ => trivial

end Sys2Proof.Laws
end

