-- ==== Sys2Proof/Laws/Records.lean ====
section
/-!
SUPPORT. Sys2Proof/Laws/Records.lean: what an update of a chapter's records leaves alone, one lemma for each update and field, and what a read
after it finds.
-/

namespace Sys2Proof.Machine

/-! ## The DRBG instances -/

section
variable (s : State) (i : Nat) (d : Drbg)

@[simp] theorem State.setDrbg_regs : (s.setDrbg i d).regs = s.regs := rfl
@[simp] theorem State.setDrbg_mem : (s.setDrbg i d).mem = s.mem := rfl
@[simp] theorem State.setDrbg_poison : (s.setDrbg i d).poison = s.poison := rfl
@[simp] theorem State.setDrbg_now : (s.setDrbg i d).now = s.now := rfl
@[simp] theorem State.setDrbg_sched : (s.setDrbg i d).sched = s.sched := rfl
@[simp] theorem State.setDrbg_jobs : (s.setDrbg i d).jobs = s.jobs := rfl
@[simp] theorem State.setDrbg_host : (s.setDrbg i d).host = s.host := rfl
@[simp] theorem State.setDrbg_epoch : (s.setDrbg i d).epoch = s.epoch := rfl
@[simp] theorem State.setDrbg_ctxs : (s.setDrbg i d).ctxs = s.ctxs := rfl
@[simp] theorem State.setDrbg_keys : (s.setDrbg i d).keys = s.keys := rfl
@[simp] theorem State.setDrbg_dike : (s.setDrbg i d).dike = s.dike := rfl
@[simp] theorem State.setDrbg_fcl : (s.setDrbg i d).fcl = s.fcl := rfl
@[simp] theorem State.setDrbg_test : (s.setDrbg i d).test = s.test := rfl
@[simp] theorem State.setDrbg_power : (s.setDrbg i d).power = s.power := rfl
@[simp] theorem State.setDrbg_dbg : (s.setDrbg i d).dbg = s.dbg := rfl
@[simp] theorem State.setDrbg_mcs : (s.setDrbg i d).mcs = s.mcs := rfl
@[simp] theorem State.setDrbg_net : (s.setDrbg i d).net = s.net := rfl
@[simp] theorem State.setDrbg_col : (s.setDrbg i d).col = s.col := rfl
@[simp] theorem State.setDrbg_opu : (s.setDrbg i d).opu = s.opu := rfl
@[simp] theorem State.setDrbg_card : (s.setDrbg i d).card = s.card := rfl
@[simp] theorem State.setDrbg_peers : (s.setDrbg i d).peers = s.peers := rfl
@[simp] theorem State.setDrbg_pins : (s.setDrbg i d).pins = s.pins := rfl
@[simp] theorem State.setDrbg_out : (s.setDrbg i d).out = s.out := rfl
@[simp] theorem State.setDrbg_free : (s.setDrbg i d).free = s.free := rfl
@[simp] theorem State.setDrbg_pending : (s.setDrbg i d).pending = s.pending := rfl

@[simp] theorem State.drbg_setDrbg_same : (s.setDrbg i d).drbg i = d := tget_tset_same _ s.ent.drbg i d
theorem State.drbg_setDrbg_ne {j : Nat} (h : j ≠ i) : (s.setDrbg i d).drbg j = s.drbg j := tget_tset_ne _ s.ent.drbg d h

end

/-! ## The tables of the column store -/

section
variable (s : State) (t : Nat) (x : Table)

@[simp] theorem State.setTable_regs : (s.setTable t x).regs = s.regs := rfl
@[simp] theorem State.setTable_mem : (s.setTable t x).mem = s.mem := rfl
@[simp] theorem State.setTable_poison : (s.setTable t x).poison = s.poison := rfl
@[simp] theorem State.setTable_now : (s.setTable t x).now = s.now := rfl
@[simp] theorem State.setTable_sched : (s.setTable t x).sched = s.sched := rfl
@[simp] theorem State.setTable_jobs : (s.setTable t x).jobs = s.jobs := rfl
@[simp] theorem State.setTable_host : (s.setTable t x).host = s.host := rfl
@[simp] theorem State.setTable_epoch : (s.setTable t x).epoch = s.epoch := rfl
@[simp] theorem State.setTable_ctxs : (s.setTable t x).ctxs = s.ctxs := rfl
@[simp] theorem State.setTable_keys : (s.setTable t x).keys = s.keys := rfl
@[simp] theorem State.setTable_ent : (s.setTable t x).ent = s.ent := rfl
@[simp] theorem State.setTable_dike : (s.setTable t x).dike = s.dike := rfl
@[simp] theorem State.setTable_fcl : (s.setTable t x).fcl = s.fcl := rfl
@[simp] theorem State.setTable_test : (s.setTable t x).test = s.test := rfl
@[simp] theorem State.setTable_power : (s.setTable t x).power = s.power := rfl
@[simp] theorem State.setTable_dbg : (s.setTable t x).dbg = s.dbg := rfl
@[simp] theorem State.setTable_mcs : (s.setTable t x).mcs = s.mcs := rfl
@[simp] theorem State.setTable_net : (s.setTable t x).net = s.net := rfl
@[simp] theorem State.setTable_opu : (s.setTable t x).opu = s.opu := rfl
@[simp] theorem State.setTable_card : (s.setTable t x).card = s.card := rfl
@[simp] theorem State.setTable_peers : (s.setTable t x).peers = s.peers := rfl
@[simp] theorem State.setTable_pins : (s.setTable t x).pins = s.pins := rfl
@[simp] theorem State.setTable_out : (s.setTable t x).out = s.out := rfl
@[simp] theorem State.setTable_free : (s.setTable t x).free = s.free := rfl
@[simp] theorem State.setTable_pending : (s.setTable t x).pending = s.pending := rfl

@[simp] theorem State.table_setTable_same : (s.setTable t x).table t = x := tget_tset_same _ s.col.tables t x
theorem State.table_setTable_ne {j : Nat} (h : j ≠ t) : (s.setTable t x).table j = s.table j := tget_tset_ne _ s.col.tables x h

end

/-! ## The runs of pipelines -/

section
variable (s : State) (e : Nat) (r : Run)

@[simp] theorem State.setRun_regs : (s.setRun e r).regs = s.regs := rfl
@[simp] theorem State.setRun_mem : (s.setRun e r).mem = s.mem := rfl
@[simp] theorem State.setRun_poison : (s.setRun e r).poison = s.poison := rfl
@[simp] theorem State.setRun_now : (s.setRun e r).now = s.now := rfl
@[simp] theorem State.setRun_sched : (s.setRun e r).sched = s.sched := rfl
@[simp] theorem State.setRun_jobs : (s.setRun e r).jobs = s.jobs := rfl
@[simp] theorem State.setRun_host : (s.setRun e r).host = s.host := rfl
@[simp] theorem State.setRun_epoch : (s.setRun e r).epoch = s.epoch := rfl
@[simp] theorem State.setRun_ctxs : (s.setRun e r).ctxs = s.ctxs := rfl
@[simp] theorem State.setRun_keys : (s.setRun e r).keys = s.keys := rfl
@[simp] theorem State.setRun_ent : (s.setRun e r).ent = s.ent := rfl
@[simp] theorem State.setRun_dike : (s.setRun e r).dike = s.dike := rfl
@[simp] theorem State.setRun_fcl : (s.setRun e r).fcl = s.fcl := rfl
@[simp] theorem State.setRun_test : (s.setRun e r).test = s.test := rfl
@[simp] theorem State.setRun_power : (s.setRun e r).power = s.power := rfl
@[simp] theorem State.setRun_dbg : (s.setRun e r).dbg = s.dbg := rfl
@[simp] theorem State.setRun_mcs : (s.setRun e r).mcs = s.mcs := rfl
@[simp] theorem State.setRun_net : (s.setRun e r).net = s.net := rfl
@[simp] theorem State.setRun_col : (s.setRun e r).col = s.col := rfl
@[simp] theorem State.setRun_card : (s.setRun e r).card = s.card := rfl
@[simp] theorem State.setRun_peers : (s.setRun e r).peers = s.peers := rfl
@[simp] theorem State.setRun_pins : (s.setRun e r).pins = s.pins := rfl
@[simp] theorem State.setRun_out : (s.setRun e r).out = s.out := rfl
@[simp] theorem State.setRun_free : (s.setRun e r).free = s.free := rfl
@[simp] theorem State.setRun_pending : (s.setRun e r).pending = s.pending := rfl

@[simp] theorem State.run_setRun_same : (s.setRun e r).run e = r := tget_tset_same _ s.opu.runs e r
theorem State.run_setRun_ne {j : Nat} (h : j ≠ e) : (s.setRun e r).run j = s.run j := tget_tset_ne _ s.opu.runs r h

end

/-! ## The session contexts -/

section
variable (s : State) (k : Nat) (x : Session)

@[simp] theorem State.setSes_regs : (s.setSes k x).regs = s.regs := rfl
@[simp] theorem State.setSes_mem : (s.setSes k x).mem = s.mem := rfl
@[simp] theorem State.setSes_poison : (s.setSes k x).poison = s.poison := rfl
@[simp] theorem State.setSes_now : (s.setSes k x).now = s.now := rfl
@[simp] theorem State.setSes_sched : (s.setSes k x).sched = s.sched := rfl
@[simp] theorem State.setSes_jobs : (s.setSes k x).jobs = s.jobs := rfl
@[simp] theorem State.setSes_host : (s.setSes k x).host = s.host := rfl
@[simp] theorem State.setSes_epoch : (s.setSes k x).epoch = s.epoch := rfl
@[simp] theorem State.setSes_ctxs : (s.setSes k x).ctxs = s.ctxs := rfl
@[simp] theorem State.setSes_keys : (s.setSes k x).keys = s.keys := rfl
@[simp] theorem State.setSes_ent : (s.setSes k x).ent = s.ent := rfl
@[simp] theorem State.setSes_dike : (s.setSes k x).dike = s.dike := rfl
@[simp] theorem State.setSes_fcl : (s.setSes k x).fcl = s.fcl := rfl
@[simp] theorem State.setSes_test : (s.setSes k x).test = s.test := rfl
@[simp] theorem State.setSes_power : (s.setSes k x).power = s.power := rfl
@[simp] theorem State.setSes_dbg : (s.setSes k x).dbg = s.dbg := rfl
@[simp] theorem State.setSes_mcs : (s.setSes k x).mcs = s.mcs := rfl
@[simp] theorem State.setSes_col : (s.setSes k x).col = s.col := rfl
@[simp] theorem State.setSes_opu : (s.setSes k x).opu = s.opu := rfl
@[simp] theorem State.setSes_card : (s.setSes k x).card = s.card := rfl
@[simp] theorem State.setSes_peers : (s.setSes k x).peers = s.peers := rfl
@[simp] theorem State.setSes_pins : (s.setSes k x).pins = s.pins := rfl
@[simp] theorem State.setSes_out : (s.setSes k x).out = s.out := rfl
@[simp] theorem State.setSes_free : (s.setSes k x).free = s.free := rfl
@[simp] theorem State.setSes_pending : (s.setSes k x).pending = s.pending := rfl

@[simp] theorem State.ses_setSes_same : (s.setSes k x).ses k = x := tget_tset_same _ s.net.ses k x
theorem State.ses_setSes_ne {j : Nat} (h : j ≠ k) : (s.setSes k x).ses j = s.ses j := tget_tset_ne _ s.net.ses x h

end

/-! ## The peer links -/

section
variable (s : State) (l : Nat) (x : Peer)

@[simp] theorem State.setPeer_regs : (s.setPeer l x).regs = s.regs := rfl
@[simp] theorem State.setPeer_mem : (s.setPeer l x).mem = s.mem := rfl
@[simp] theorem State.setPeer_poison : (s.setPeer l x).poison = s.poison := rfl
@[simp] theorem State.setPeer_now : (s.setPeer l x).now = s.now := rfl
@[simp] theorem State.setPeer_sched : (s.setPeer l x).sched = s.sched := rfl
@[simp] theorem State.setPeer_jobs : (s.setPeer l x).jobs = s.jobs := rfl
@[simp] theorem State.setPeer_host : (s.setPeer l x).host = s.host := rfl
@[simp] theorem State.setPeer_epoch : (s.setPeer l x).epoch = s.epoch := rfl
@[simp] theorem State.setPeer_ctxs : (s.setPeer l x).ctxs = s.ctxs := rfl
@[simp] theorem State.setPeer_keys : (s.setPeer l x).keys = s.keys := rfl
@[simp] theorem State.setPeer_ent : (s.setPeer l x).ent = s.ent := rfl
@[simp] theorem State.setPeer_dike : (s.setPeer l x).dike = s.dike := rfl
@[simp] theorem State.setPeer_fcl : (s.setPeer l x).fcl = s.fcl := rfl
@[simp] theorem State.setPeer_test : (s.setPeer l x).test = s.test := rfl
@[simp] theorem State.setPeer_power : (s.setPeer l x).power = s.power := rfl
@[simp] theorem State.setPeer_dbg : (s.setPeer l x).dbg = s.dbg := rfl
@[simp] theorem State.setPeer_mcs : (s.setPeer l x).mcs = s.mcs := rfl
@[simp] theorem State.setPeer_net : (s.setPeer l x).net = s.net := rfl
@[simp] theorem State.setPeer_col : (s.setPeer l x).col = s.col := rfl
@[simp] theorem State.setPeer_opu : (s.setPeer l x).opu = s.opu := rfl
@[simp] theorem State.setPeer_card : (s.setPeer l x).card = s.card := rfl
@[simp] theorem State.setPeer_pins : (s.setPeer l x).pins = s.pins := rfl
@[simp] theorem State.setPeer_out : (s.setPeer l x).out = s.out := rfl
@[simp] theorem State.setPeer_free : (s.setPeer l x).free = s.free := rfl
@[simp] theorem State.setPeer_pending : (s.setPeer l x).pending = s.pending := rfl

@[simp] theorem State.peer_setPeer_same : (s.setPeer l x).peer l = x := tget_tset_same _ s.peers l x
theorem State.peer_setPeer_ne {j : Nat} (h : j ≠ l) : (s.setPeer l x).peer j = s.peer j := tget_tset_ne _ s.peers x h

end

/-! ## The sequencers -/

section
variable (s : State) (m k : Nat) (q : Sqr)

@[simp] theorem State.setSqr_regs : (s.setSqr m k q).regs = s.regs := rfl
@[simp] theorem State.setSqr_mem : (s.setSqr m k q).mem = s.mem := rfl
@[simp] theorem State.setSqr_poison : (s.setSqr m k q).poison = s.poison := rfl
@[simp] theorem State.setSqr_now : (s.setSqr m k q).now = s.now := rfl
@[simp] theorem State.setSqr_sched : (s.setSqr m k q).sched = s.sched := rfl
@[simp] theorem State.setSqr_jobs : (s.setSqr m k q).jobs = s.jobs := rfl
@[simp] theorem State.setSqr_host : (s.setSqr m k q).host = s.host := rfl
@[simp] theorem State.setSqr_epoch : (s.setSqr m k q).epoch = s.epoch := rfl
@[simp] theorem State.setSqr_ctxs : (s.setSqr m k q).ctxs = s.ctxs := rfl
@[simp] theorem State.setSqr_keys : (s.setSqr m k q).keys = s.keys := rfl
@[simp] theorem State.setSqr_ent : (s.setSqr m k q).ent = s.ent := rfl
@[simp] theorem State.setSqr_dike : (s.setSqr m k q).dike = s.dike := rfl
@[simp] theorem State.setSqr_fcl : (s.setSqr m k q).fcl = s.fcl := rfl
@[simp] theorem State.setSqr_test : (s.setSqr m k q).test = s.test := rfl
@[simp] theorem State.setSqr_power : (s.setSqr m k q).power = s.power := rfl
@[simp] theorem State.setSqr_dbg : (s.setSqr m k q).dbg = s.dbg := rfl
@[simp] theorem State.setSqr_net : (s.setSqr m k q).net = s.net := rfl
@[simp] theorem State.setSqr_col : (s.setSqr m k q).col = s.col := rfl
@[simp] theorem State.setSqr_opu : (s.setSqr m k q).opu = s.opu := rfl
@[simp] theorem State.setSqr_card : (s.setSqr m k q).card = s.card := rfl
@[simp] theorem State.setSqr_peers : (s.setSqr m k q).peers = s.peers := rfl
@[simp] theorem State.setSqr_pins : (s.setSqr m k q).pins = s.pins := rfl
@[simp] theorem State.setSqr_out : (s.setSqr m k q).out = s.out := rfl
@[simp] theorem State.setSqr_free : (s.setSqr m k q).free = s.free := rfl
@[simp] theorem State.setSqr_pending : (s.setSqr m k q).pending = s.pending := rfl

end

/-! ## What PTP keeps for a selection -/

section
variable (s : State) (staged : Bool) (r : PtpRx)

@[simp] theorem State.setRx_regs : (s.setRx staged r).regs = s.regs := rfl
@[simp] theorem State.setRx_mem : (s.setRx staged r).mem = s.mem := rfl
@[simp] theorem State.setRx_poison : (s.setRx staged r).poison = s.poison := rfl
@[simp] theorem State.setRx_now : (s.setRx staged r).now = s.now := rfl
@[simp] theorem State.setRx_sched : (s.setRx staged r).sched = s.sched := rfl
@[simp] theorem State.setRx_jobs : (s.setRx staged r).jobs = s.jobs := rfl
@[simp] theorem State.setRx_host : (s.setRx staged r).host = s.host := rfl
@[simp] theorem State.setRx_ctxs : (s.setRx staged r).ctxs = s.ctxs := rfl
@[simp] theorem State.setRx_keys : (s.setRx staged r).keys = s.keys := rfl
@[simp] theorem State.setRx_ent : (s.setRx staged r).ent = s.ent := rfl
@[simp] theorem State.setRx_dike : (s.setRx staged r).dike = s.dike := rfl
@[simp] theorem State.setRx_fcl : (s.setRx staged r).fcl = s.fcl := rfl
@[simp] theorem State.setRx_test : (s.setRx staged r).test = s.test := rfl
@[simp] theorem State.setRx_power : (s.setRx staged r).power = s.power := rfl
@[simp] theorem State.setRx_dbg : (s.setRx staged r).dbg = s.dbg := rfl
@[simp] theorem State.setRx_mcs : (s.setRx staged r).mcs = s.mcs := rfl
@[simp] theorem State.setRx_net : (s.setRx staged r).net = s.net := rfl
@[simp] theorem State.setRx_col : (s.setRx staged r).col = s.col := rfl
@[simp] theorem State.setRx_opu : (s.setRx staged r).opu = s.opu := rfl
@[simp] theorem State.setRx_card : (s.setRx staged r).card = s.card := rfl
@[simp] theorem State.setRx_peers : (s.setRx staged r).peers = s.peers := rfl
@[simp] theorem State.setRx_pins : (s.setRx staged r).pins = s.pins := rfl
@[simp] theorem State.setRx_out : (s.setRx staged r).out = s.out := rfl
@[simp] theorem State.setRx_free : (s.setRx staged r).free = s.free := rfl
@[simp] theorem State.setRx_pending : (s.setRx staged r).pending = s.pending := rfl

@[simp] theorem State.rxOf_setRx_same : ((s.setRx staged r).epoch.rxOf staged).2 = r := by cases staged <;> rfl
@[simp] theorem State.rxOf_setRx_other : ((s.setRx staged r).epoch.rxOf !staged).2 = (s.epoch.rxOf !staged).2 := by cases staged <;> rfl

end

end Sys2Proof.Machine
end

