-- ==== Sys2Proof/Tests/Slice0.lean ====
section
/-!
SUPPORT. Sys2Proof/Tests/Slice0.lean: the ill-formed commands that WellFormed refuses, the spec's worked examples, and for each statement with
hypotheses a concrete state that meets them.
-/

namespace Sys2Proof.Tests

open Sys2Proof Sys2Proof.Machine

set_option Elab.async false
set_option synthInstance.maxSize 4096
set_option maxRecDepth 100000
set_option synthInstance.maxHeartbeats 1000000

/-! ## States that the witnesses start from -/

/-- Fetches are allowed from the first 4 KiB of HBM. -/
def fetchable : Dike := { force := [(0x401000, 0x800C000000000000), (0x401008, 0x24)] }

/-- Core 0 in U on frame `f` of task 0, a program of polder 0 whose code begins at address 0. -/
def inU (f : Frame) : State :=
  { dike := fetchable, host := { progs := [(0, { loaded := true, code := [(0, 256)] })] },
    sched := { cores := [(0, { mode := .U })], workers := [(0, { task := some 0 })], tasks := [(0, { state := .running, vec := true, frame := f })] } }

/-- Core 0 in P on frame `f`. -/
def inP (f : Frame) : State := { dike := fetchable, sched := { cores := [(0, { pframe := f })] } }

/-- The first byte of core 0's scratch window. -/
def win : Nat := 0x200100030000

theorem reset_notFrozen : State.reset.tamperFrozen = false := by decide +kernel

theorem inU_frame (f : Frame) : (inU f).frame 0 = some f := by
  have h : (inU f).tamperFrozen = false := reset_notFrozen
  simp only [State.frame, State.executes, h]
  rfl

theorem inU_runsTask (f : Frame) (h : (inU f).fetchStop 0 f = none := by decide +kernel) : (inU f).RunsTask 0 0 f :=
  ⟨⟨⟨rfl, inU_frame f, h⟩, fun _ h => by cases h; rfl⟩, rfl⟩

theorem inU_executesVec (f : Frame) (h : (inU f).fetchStop 0 f = none := by decide +kernel) : (inU f).ExecutesVec 0 f :=
  ⟨(inU_runsTask f h).1, fun _ h => by cases h; rfl⟩

theorem inP_runs (f : Frame) (h : (inP f).fetchStop 0 f = none := by decide +kernel) : (inP f).Runs 0 f := by
  refine ⟨rfl, ?_, h⟩
  have h : (inP f).tamperFrozen = false := reset_notFrozen
  simp only [State.frame, State.executes, h]
  rfl

/-! ## Witnesses: cores -/

/-- Operands at the corners of the divisions: the most negative number, −1, and the zero of g0. -/
def fDiv : Frame := (({} : Frame).setG 1 (BitVec.ofNat 64 (2 ^ 63))).setG 2 (-1)

theorem witness_ScalarArithmeticResults :
    (inU fDiv).Runs 0 fDiv ∧ fDiv.gr 1 = BitVec.ofNat 64 (2 ^ 63) ∧ fDiv.gr 2 = -1 ∧ fDiv.gr 0 = 0 ∧ (1 : Reg) ≠ 2 :=
  ⟨(inU_runsTask _).1.1, by decide +kernel⟩

theorem witness_ScalarBitsComparesImmediates : (inU fDiv).Runs 0 fDiv ∧ (inP {}).Runs 0 {} := ⟨(inU_runsTask _).1.1, inP_runs _⟩

theorem witness_LimmPlacesQuarter : (inP fDiv).Runs 0 fDiv := inP_runs _

theorem witness_RegisterInstructionsFrame :
    (inU fDiv).Fetches 0 ∧ (∃ t, exec (.add 0 3 1 2) (inU fDiv) = .next t) ∧ (∃ t, exec (.cmpeq 0 3 1 2) (inU fDiv) = .next t) ∧
      ∃ t, exec (.mtp 0 1) (inU fDiv) = .next t :=
  ⟨fun f h => by rw [inU_frame] at h; cases h; decide +kernel, ⟨_, rfl⟩, ⟨_, rfl⟩, ⟨_, rfl⟩⟩

/-- A frame whose g1 points into the scratch window. -/
def fMem : Frame := (({} : Frame).setG 1 0x200100030000).setG 2 0x0102030405060708

theorem witness_MemoryInstructionResults :
    (inU fMem).Executes 0 fMem ∧ (fMem.gr 1).toNat = win ∧ win % 8 = 0 ∧ spaceOf (inU fMem) win = .scratch 0 ∧
      (inU fMem).dikeCheck ((inU fMem).coreMaster 0) win 8 .read false = none ∧
      (inU fMem).dikeCheck ((inU fMem).coreMaster 0) win 8 .write false = none ∧ (inU fMem).poisoned win 8 = none ∧
      (∃ l s1, (inU fMem).coreRead 0 fMem win 8 = .ok l s1) ∧
      ∃ s1, (inU fMem).coreWrite 0 fMem win (leBytes 8 1) false (fun o n v s => s.busWrite o n v) = .ok s1 :=
  have h : (fMem.gr 1).toNat = win ∧ win % 8 = 0 ∧ spaceOf (inU fMem) win = .scratch 0 ∧
      (inU fMem).dikeCheck ((inU fMem).coreMaster 0) win 8 .read false = none ∧
      (inU fMem).dikeCheck ((inU fMem).coreMaster 0) win 8 .write false = none ∧ (inU fMem).poisoned win 8 = none := by decide +kernel
  ⟨(inU_runsTask _).1, h.1, h.2.1, h.2.2.1, h.2.2.2.1, h.2.2.2.2.1, h.2.2.2.2.2, ⟨_, _, rfl⟩, ⟨_, rfl⟩⟩

theorem witness_MemoryInstructionsFrame :
    (inU fMem).Executes 0 fMem ∧ (∃ t, exec (.ld 0 3 1 3 false 0) (inU fMem) = .next t) ∧ (∃ t, exec (.st 0 2 1 3 0) (inU fMem) = .next t) ∧
      ∃ t, exec (.amoAdd 0 3 1 2 true) (inU fMem) = .next t := ⟨(inU_runsTask _).1, ⟨_, rfl⟩, ⟨_, rfl⟩, ⟨_, rfl⟩⟩

/-- What `RunsTask` asks, as a finite check. -/
theorem runsTask_of {s : State} {c t : Nat} {f : Frame}
    (h : s.running = true ∧ s.frame c = some f ∧ s.curTask c = some t ∧ (s.task t).state = .running ∧ s.fetchStop c f = none) :
    s.RunsTask c t f :=
  ⟨⟨⟨h.1, h.2.1, h.2.2.2.2⟩, fun u hu => by rw [h.2.2.1] at hu; cases hu; exact h.2.2.2.1⟩, h.2.2.1⟩

theorem witness_ControlAndSystemInstructions :
    (inU fMem).Executes 0 fMem ∧ (fMem.gr 0).toNat % 4 = 0 ∧ (inU fMem).curTask 0 = some 0 ∧ (inP fMem).Runs 0 fMem ∧
      (0x100#15).toNat = 0x100 ∧ ((inP fMem).core 0).mode = .P ∧ ((inP fMem).core 0).stepping = false ∧ ((inP fMem).worker 0).task = none ∧
      (let s := (inP fMem).setWorker 0 { task := some 5 }
       s.running = true ∧ s.frame 0 = some fMem ∧ (s.worker 0).task ≠ none) :=
  ⟨(inU_runsTask _).1, by decide +kernel, rfl, inP_runs _, by decide +kernel, rfl, rfl, rfl, by decide +kernel⟩

/-- A frame with a handler, and one whose handler runs. -/
def fHnd : Frame := { ((({} : Frame).setG 1 0x200100030001).setG 2 0x80000000).setG 3 0x100000000000 with xhnd := 4 }
def fAct : Frame := { fHnd with xcause := 0x10007 }

theorem witness_ExceptionEntersHandlerOrEndsTask :
    (inU fHnd).RunsTask 0 0 fHnd ∧ fHnd.xhnd ≠ 0 ∧ fHnd.xact = false ∧ (inU fAct).RunsTask 0 0 fAct ∧ fAct.xact = true ∧ fMem.xhnd = 0 ∧
      (inU fHnd).debugAttached = false ∧ (0x100#15).toNat = 0x100 ∧ (fHnd.gr 1).toNat % 2 ≠ 0 ∧ (fHnd.gr 2).getLsbD 31 = true ∧
      (fHnd.gr 3).toNat % 8 = 0 ∧ spaceOf ((inU fHnd).setFld (F.MEM_CXL_GIB 0) 1) 0x100000000000 = .cxl ∧ ((inU fHnd).task 0).marked = false ∧
      (fHnd.gr 0).setWidth 32 = 0#32 :=
  ⟨inU_runsTask _, by decide +kernel, by decide +kernel, inU_runsTask _, by decide +kernel⟩

theorem witness_ExceptionInFirmwareStopsCore :
    (inP {}).Runs 0 {} ∧ ((inP {}).core 0).mode = .P ∧ ((inP {}).core 0).stepping = false ∧
      bit ((inP {}).fld F.FCL_STATUS_FAULT) 4 = false ∧ (inP {}).fcl.recs.length < 256 := ⟨inP_runs _, by decide +kernel⟩

/-! ## Witnesses: tasks and the Pump -/

/-- Task 0 marked, with a job outstanding. -/
def marked0 : State :=
  let s := inU {}
  (s.setTask 0 { s.task 0 with marked := true }).setJob 3 { st := .running, task := 0 }

/-- Polder 0's completion queue has room. -/
def withCq (s : State) : State := ((s.setFld (F.PLD_CQ_CFG_EN 0) 1).setFld (F.PLD_CQ_CFG_SIZE 0) 4).setEp 0 { up := true }

theorem witness_TasksBlockYieldAndEnd :
    (inU fHnd).RunsTask 0 0 fHnd ∧ ((inU fHnd).task 0).marked = false ∧ ((inU fHnd).core 0).stepping = false ∧ (inU fHnd).holder 0 = some 0 ∧
      (inU fHnd).taskJobs 0 = [] ∧ ((inU fHnd).task 0).kind = .program ∧ (fHnd.gr 0).toNat = 0 ∧ (fMem.gr 2).toNat % 2 ^ 32 ≠ 0 ∧
      ((fMem.gr 2).setWidth 32).getLsbD 31 = false ∧ ((inU fMem).task 0).flags &&& (fMem.gr 2).setWidth 32 = 0 ∧
      marked0.RunsTask 0 0 {} ∧ (marked0.task 0).marked = true ∧ marked0.taskJobs 0 ≠ [] ∧ marked0.holder 0 = some 0 ∧
      (let s := (inU fMem).setTask 7 { state := .waiting, frame := {} }
       s.RunsTask 0 0 fMem ∧ (s.task 7).polder = (s.task 0).polder ∧ (s.task 7).state = .waiting ∧ (s.task 9).state = .free) ∧
      (let s := withCq (inU fHnd)
       s.RunsTask 0 0 fHnd ∧ s.holder 0 = some 0 ∧ s.cqOpen 0 = true ∧ 0 < s.cqFree 0 ∧ (s.pq 0).waiting = []) :=
  have own : ((inU fHnd).task 0).marked = false ∧ ((inU fHnd).core 0).stepping = false ∧ (inU fHnd).holder 0 = some 0 ∧
      (inU fHnd).taskJobs 0 = [] ∧ ((inU fHnd).task 0).kind = .program ∧ (fHnd.gr 0).toNat = 0 ∧ (fMem.gr 2).toNat % 2 ^ 32 ≠ 0 ∧
      ((fMem.gr 2).setWidth 32).getLsbD 31 = false ∧ ((inU fMem).task 0).flags &&& (fMem.gr 2).setWidth 32 = 0 := by decide +kernel
  have mk : (marked0.task 0).marked = true ∧ marked0.taskJobs 0 ≠ [] ∧ marked0.holder 0 = some 0 := by decide +kernel
  have other := runsTask_of (s := (inU fMem).setTask 7 { state := .waiting, frame := {} }) (c := 0) (t := 0) (f := fMem) (by decide +kernel)
  have ends := runsTask_of (s := withCq (inU fHnd)) (c := 0) (t := 0) (f := fHnd) (by decide +kernel)
  by
    obtain ⟨a, b, c, d, e, f, g, h, i⟩ := own
    exact ⟨inU_runsTask _, a, b, c, d, e, f, g, h, i, runsTask_of (by decide +kernel), mk.1, mk.2.1, mk.2.2, ⟨other, by decide +kernel⟩,
      ⟨ends, by decide +kernel⟩⟩

/-- Every master may reach all of HBM. -/
def allIn : Dike := { force := [(0x401000, 0x8026000000000000), (0x401008, 0xFF00FF)] }

/-- A task that spawns: its descriptor in HBM at 0x1000, its program with one entry, the new frame at 0x2000. -/
def spawner : State :=
  let s := inU (({} : Frame).setG 1 0x1000)
  (({ s with dike := allIn }).put 0x1011 [0x20]).setProg 0 0 { loaded := true, code := [(0, 256)], entries := [(0, 0)] }

theorem witness_EventsSpawnsAndTimers :
    (let f := (({} : Frame).setG 1 7).setG 2 2
     let w := fun (k : BitVec 32) (e : Option Nat) => (inU f).setTask 7 { state := .waiting, mask := k, timer := e }
     (w 2 (some 0)).RunsTask 0 0 f ∧ (f.gr 1).toNat = 7 ∧ (f.gr 2).getLsbD 31 = false ∧ ((w 4 none).task 7).flags ||| 2 ≠ 4 ∧
       0 ≤ (w 2 (some 0)).tick ∧ ¬ 9 ≤ (w 2 (some 9)).tick ∧ ((inU f).task 7).state = .free ∧ ((w 2 none).core 0).stepping = false) ∧
    (spawner.RunsTask 0 0 (({} : Frame).setG 1 0x1000) ∧ spawner.halted 0 = false ∧ spawner.plainAt 0 0x1000 ∧ spaceOf spawner 0x1000 = .hbm ∧
      spawner.dikeCheck (spawner.coreMaster 0) 0x1000 32 .read false = none ∧ spawner.poisoned 0x1000 32 = none ∧
      (let d := parseSpawn (spawner.bytes 0x1000 32)
       d.entry < (spawner.prog 0 0).entries.length ∧ d.mode < 32 ∧ d.rsv = 0 ∧ d.wait = 0 ∧ d.frame = 0x2000) ∧
      spawner.dikeCheck (spawner.coreMaster 0) 0x2000 512 .write false = none ∧ spawner.serveHw.freeSlotFor 0 false = some 1 ∧
      ((spawner.setFld (F.PMP_QUOTA_LIMIT 0) 0).serveHw).freeSlotFor 0 false = none) ∧
    (let s := State.reset.setTask 3 { state := .waiting, mask := 1, timer := some 0, dueAt := some 0 }
     s.running = true ∧ (s.task 3).timer = some 0 ∧ 0 ≤ s.tick ∧ (s.task 3).flags &&& (s.task 3).mask = 0#32 ∧ (s.task 3).dueAt = some 0 ∧ s.now - 0 < 2 ^ 32 ∧ tsorted none s.sched.tasks = true) :=
  ⟨⟨runsTask_of (by decide +kernel), by decide +kernel⟩, ⟨runsTask_of (by decide +kernel), by unfold State.plainAt; decide +kernel⟩, by decide +kernel⟩

theorem witness_PumpServesInOrder :
    (let s := (State.reset.setAff 0 [4, 5]).setTask 5 { state := .ready, prio := 3 }
     s.affList 0 ≠ [] ∧ s.halted 0 = false ∧ s.nextFor 0 = some 5) ∧
    (let s := State.reset.setPrioq 0 2 [9, 8]
     s.affList 0 = [] ∧ s.prioq 0 2 ≠ [] ∧ (∀ k, 2 < k → k < 8 → s.prioq 0 k = []) ∧ s.nextFor 0 = some 9) := by
  have base : (State.reset.setPrioq 0 2 [9, 8]).affList 0 = [] ∧ (State.reset.setPrioq 0 2 [9, 8]).prioq 0 2 ≠ [] ∧
      (State.reset.setPrioq 0 2 [9, 8]).nextFor 0 = some 9 := by decide +kernel
  refine ⟨by decide +kernel, base.1, base.2.1, fun k h1 h2 => ?_, base.2.2⟩
  have h : ∀ k, k < 8 → 2 < k → (State.reset.setPrioq 0 2 [9, 8]).prioq 0 k = [] := by decide +kernel
  exact h k h2 h1

theorem witness_DispatchAndSlotRequests :
    (let s := ((State.reset.setWorker 0 { asking := true }).setTask 9 { state := .ready, resumeRd := some 4 }).setPrioq 0 2 [9]
     s.running = true ∧ (s.worker 0).asking = true ∧ s.workerFrozen 0 = false ∧ s.workerOff 0 = false ∧ s.tamperFrozen = false ∧ s.unitHeld 0 = false ∧ s.nextFor 0 = some 9 ∧
       (s.core 0).lastPolder ≠ some 0 ∧ (s.worker 64).task = none ∧ s.workerFrozen 64 = false) ∧
    (let s := { (State.reset.setAff 0 [9]).setTask 9 { state := .ready } with now := 2 ^ 40 }
     9 ∈ s.affList 0 ∧ s.fld F.PMP_AFFHOLD_HOLD < s.now - (s.task 9).readyAt) ∧
    (let r : SlotReq := { task := { polder := 0 }, since := 0 }
     let s := State.setFld { State.reset with sched := { hwWait := [r] } } F.EPC_COUNT_COUNT 2000000
     s.running = true ∧ s.sched.hwWait = [r] ∧ s.checkSlots.freeSlotFor 0 true = some 0 ∧ s.fld F.PMP_SLOTWAIT_TICKS ≠ 0 ∧ r.latched = false ∧
       r.since + s.fld F.PMP_SLOTWAIT_TICKS ≤ s.tick ∧
       (let u : State := { s with sched := { s.sched with parity := [16383] } }
        u.sched.hwWait = [r] ∧ 16383 ∈ u.sched.parity ∧ (u.task 16383).state = .free)) := by decide +kernel

/-! ## Witnesses: vectors -/

/-- g1 points into the scratch window, g2 holds a stream word of 3 elements of 4 bytes, g3 is misaligned; streams 0 to 2 are three elements of
the window, stream 3 two records of bytes, stream 4 is too long, stream 5 has other elements, stream 6 none. -/
def fVec : Frame :=
  let st := fun (o : Nat) (ew : BitVec 2) (n : BitVec 16) => ({ base := BitVec.ofNat 48 (win + o), stride := 4, ew := ew, count := n } : Stream)
  { (((({} : Frame).setG 1 0x200100030000).setG 2 0x0003000200000004).setG 3 0x200100030001) with
    t := #v[st 0 2 3, st 256 2 3, st 512 2 3, { st 0 0 2 with stride := 8 }, st 0 2 4097, st 0 1 3, st 0 1 0, st 0 2 3], xhnd := 4 }

/-- A stream lies in the core's window, element for element. -/
def streamOk (s : State) (d : Dir) (x : Stream) : Prop :=
  ∀ i, i < x.count.toNat → s.elementOk 0 d ((x.base.toNat + i * x.stride.toInt) % 2 ^ 48).toNat (2 ^ x.ew.toNat)

theorem witness_ShortVectorRegisterResults : (inU fVec).ExecutesVec 0 fVec ∧ (0 : Fin 4) ≠ 3 ∧ (31 : Fin 32).val < 256 / (8 * 2 ^ (0 : Fin 4).val) :=
  ⟨inU_executesVec _, by decide⟩

theorem witness_VectorExceptionsAndRestart :
    ((inU fVec).RunsTask 0 0 fVec ∧ fVec.xhnd ≠ 0 ∧ fVec.xact = false ∧ ((inU fVec).task 0).vec = true ∧
      256 / (8 * 2 ^ (0 : Fin 4).val) ≤ 32 ∧ 256 / (8 * 2 ^ (3 : Fin 4).val) ≤ (4 : Fin 32).val ∧ (fVec.gr 3).toNat % 32 ≠ 0 ∧
      (fVec.gr 3).toNat % 16 ≠ 0 ∧ 4096 < (fVec.st 4).count.toNat ∧ (fVec.st 0).ew ≠ (fVec.st 5).ew ∧ (fVec.st 0).count ≠ 0) ∧
    (let s := (inU fVec).setTask 0 { state := .running, frame := fVec }
     s.RunsTask 0 0 fVec ∧ (s.task 0).vec = false) ∧
    (let s : State := { inU fVec with poison := [win + 8] }
     s.RunsTask 0 0 fVec ∧ fVec.eix.toNat ≤ 2 ∧ 2 < (fVec.st 0).count.toNat ∧ s.poisoned (win + 8) 4 = some (win + 8) ∧
       (∀ i, i < 2 → s.elementOk 0 .read (win + i * 4) 4) ∧ s.plainAt 0 (win + 8) ∧
       s.dikeCheck (s.coreMaster 0) (win + 8) 4 .read false = none ∧ effReact (eccSource win) (s.react (eccSource win)) < 3) :=
  ⟨⟨inU_runsTask _, by decide +kernel⟩, ⟨runsTask_of (by decide +kernel), rfl⟩,
    ⟨runsTask_of (by decide +kernel), by unfold State.elementOk State.plainAt; decide +kernel⟩⟩

theorem witness_StreamAndShortVectorMemory :
    (inU fVec).ExecutesVec 0 fVec ∧ (fVec.gr 1).toNat = win ∧ win < 2 ^ 48 ∧ (fVec.gr 2).extractLsb' 34 14 = 0 ∧ (fVec.gr 0).toNat < 2 ^ 16 ∧
      win % 32 = 0 ∧ (inU fVec).elementOk 0 .read win 128 ∧ (inU fVec).elementOk 0 .write win 32 ∧
      (let l := (inU fVec).bytes win 16
       leAt l 6 2 = 0 ∧ leAt l 12 1 < 4 ∧ leAt l 13 1 = 0) ∧ (28 : Reg).val + 4 ≤ 32 :=
  ⟨inU_executesVec _, by unfold State.elementOk State.plainAt; decide +kernel⟩

theorem witness_LongVectorResults :
    (inU fVec).ExecutesVec 0 fVec ∧ (streamOk (inU fVec) .read (fVec.st 0) ∧ streamOk (inU fVec) .read (fVec.st 1)) ∧
      (streamOk (inU fVec) .write (fVec.st 2) ∧ streamOk (inU fVec) .write (fVec.st 5)) ∧
      (fVec.eix = 0 ∧ (fVec.st 0).ew = (fVec.st 1).ew ∧ (fVec.st 0).ew = (fVec.st 2).ew ∧ (fVec.st 0).ew ≠ 3 ∧ (fVec.st 6).count = 0 ∧
        (∀ x ∈ [fVec.st 0, fVec.st 1, fVec.st 2], x.base.toNat % 4 = 0 ∧ x.stride.toNat % 4 = 0)) ∧
      (∀ i, i < 3 → (inU fVec).elementOk 0 .read (((fVec.st 0).base.toNat + ((inU fVec).load (win + 256 + 4 * i) 4) * 4) % 2 ^ 48) 4) ∧
      ((fVec.st 3).ew = 0 ∧ 0 < (fVec.st 3).count.toNat ∧ (5 : StreamId).val + 2 ≤ 8 ∧ (fVec.st 5).ew = 1 ∧ (fVec.st 6).ew = 1 ∧
        2 + 2 ≤ (fVec.st 3).stride.toInt.natAbs ∧ (fVec.st 3).base.toNat % 2 = 0 ∧ (fVec.st 3).stride.toNat % 2 = 0) ∧
      (∀ i, i < 8 → (inU fVec).elementOk 0 .read (win + 2 * i) 2) :=
  ⟨inU_executesVec _, by unfold streamOk State.elementOk State.plainAt; decide +kernel,
    by unfold streamOk State.elementOk State.plainAt; decide +kernel, by decide +kernel,
    by unfold State.elementOk State.plainAt; decide +kernel, by decide +kernel, by unfold State.elementOk State.plainAt; decide +kernel⟩

/-! ## Witnesses: the epoch unit -/

/-- The epoch unit enabled on a source, in a state, at tick 5 and 2 s of its oscillator. -/
def onSource (src st : Nat) : State :=
  let s := (((State.reset.setFld F.EPC_CTRL_ENABLE 1).setFld F.EPC_SRC_SRC src).setFld F.EPC_STATUS_STATE st).setFld F.EPC_COUNT_COUNT 5
  { s with epoch := { cur := { src := src }, good := 3, clock := 3000000000, rx := { sender := some 7, delay := 100 } } }

/-- The same with a change to what the unit keeps. -/
def epochWith (src st : Nat) (f : Epoch → Epoch) : State := { onSource src st with epoch := f (onSource src st).epoch }

/-- A message of the transmitter that `onSource` follows. -/
def sync1 : PtpMsg :=
  { kind := .sync, port := 0, transport := 0, vid := none, domain := 0, version := 2, timescale := true, sender := 7,
    clock := { prio1 := 128, cls := 6, accuracy := 0x21, variance := 0, prio2 := 128, gm := 1, steps := 0 }, interval := 0, seq := 4,
    twoStep := false, refNs := 6000000, phaseNs := 0 }

/-- An IRIG-B frame: digits of 4 bits at each given element, over the position markers. -/
def irig (l : List (Nat × Nat)) : IrigFrame :=
  { elems := (List.range 100).map (fun i => if i = 0 ∨ i % 10 = 9 then 2 else
      Fin.ofNat 3 ((l.map (fun e => if e.1 ≤ i ∧ i < e.1 + 4 then e.2 / 2 ^ (i - e.1) % 2 else 0)).sum)), withYear := true, phaseNs := 0 }

/-- Second 7 of minute 26, hour 1, of day 2 of 2025; and the same with the seconds' digit 12. -/
def irig1 : IrigFrame := irig [(1, 7), (10, 6), (15, 2), (20, 1), (30, 2), (50, 5), (55, 2)]
def irigBad : IrigFrame := irig [(1, 12), (10, 6), (15, 2), (20, 1), (30, 2), (50, 5), (55, 2)]

/-- 2025-01-02 01:26:07, with EPC_UTC_OFFSET at 37: 20,090 days and 5,204 s after the epoch. -/
theorem test_irig : irigMarkers irig1 = true ∧ ((State.reset.setFld F.EPC_UTC_OFFSET_SECONDS 37).irigNs irig1) =
    some ((20090 * 86400 + 5167 + 37) * 1000000000) ∧ State.reset.irigNs irigBad = none ∧
    (State.reset.irigNs { irig1 with elems := irig1.elems.set 9 0 }) = none := by decide +kernel

/-- A transmitter that announced itself twice in the last second. -/
def foreign8 : Foreign := { sender := 8, clock := sync1.clock, interval := 1000000000, last := 2900000000, prev := some 1900000000 }

theorem witness_EpochIsDisciplined :
    State.reset.running = true ∧ State.reset.fld F.EPC_CTRL_ENABLE = 0 ∧ 1000000 % 10 = 0 ∧ 1000000 % 1000000 = 0 ∧ 1000000 % 999999 ≠ 0 ∧
      (onSource 1 2).fld F.EPC_SRC_SRC ≠ 0 ∧
      (let s := (epochWith 3 1 (fun e => { e with ppsWritten := true, ppsAt := some 2100000000 })).setFld F.EPC_NEXT_SEC_SECONDS 1
       s.running = true ∧ s.epoch.staged = none ∧ s.fld F.EPC_CTRL_ENABLE = 1 ∧ 0 < s.fld F.EPC_TICK_US ∧ s.epoch.cur.src = 3 ∧
         s.fld F.EPC_NEXT_SEC_SECONDS ≠ 0 ∧ s.epoch.ppsAt = some 2100000000 ∧ 2100000000 + 900000000 ≤ s.oscAt 0 ∧ s.fld F.EPC_STATUS_STATE = 1 ∧
         3 ≤ s.epoch.good) ∧
      ((onSource 2 2).epoch.cur.src = 2 ∧ ((onSource 2 2).irigNs irig1).isSome = true) ∧
      (let s := onSource 1 2
       ptpOn sync1 s.epoch.cur = true ∧ sync1.domain.toNat = s.epoch.cur.domain ∧ s.epoch.rx.sender = some sync1.sender ∧
         sync1.sender ∉ s.epoch.rx.arb ∧ (sync1.refNs + s.epoch.rx.delay) / (s.fld F.EPC_TICK_US * 1000) < 2 ^ 64) ∧
      (let s := epochWith 1 2 (fun e => { e with rx := { e.rx with pend := some (4, 2999999000) } })
       s.epoch.rx.pend = some (sync1.seq.toNat, 2999999000) ∧ ptpOn { sync1 with kind := .followUp } s.epoch.cur = true) := by decide +kernel

theorem witness_EpochInputsRefusedAndLost :
    ((onSource 1 2).epoch.cur.src = 1 ∧ (∀ m ∈ [{ sync1 with version := 1 }, { sync1 with kind := .management }, { sync1 with kind := .signaling },
        { sync1 with domain := 1 }, { sync1 with kind := .announce, timescale := false }], ptpOn m (onSource 1 2).epoch.cur = true) ∧
      7 ∈ (epochWith 1 2 (fun e => { e with rx := { e.rx with arb := [7] } })).epoch.rx.arb) ∧
    (let s := epochWith 1 2 (fun e => { e with rx := { e.rx with req := some (4, 300), lastSync := some (100, 200) } })
     ptpOn { sync1 with kind := .delayResp } s.epoch.cur = true ∧ s.epoch.cur.delay = false ∧ s.epoch.rx.sender = some 7 ∧
       s.epoch.rx.req = some (sync1.seq.toNat, 300) ∧ s.epoch.rx.lastSync = some (100, 200)) ∧
    ((onSource 2 2).epoch.cur.src = 2 ∧ (onSource 2 2).irigNs irigBad = none ∧ irigMarkers { irig1 with elems := [] } = false ∧ irigPair irigBad 1 3 = none) ∧
    (let s := (epochWith 3 2 (fun e => { e with ppsAt := some 2100000001 })).setFld F.EPC_NEXT_SEC_SECONDS 1
     s.epoch.cur.src = 3 ∧ s.fld F.EPC_NEXT_SEC_SECONDS ≠ 0 ∧ s.epoch.ppsAt = some 2100000001 ∧ s.oscAt 0 < 2100000001 + 900000000 ∧
       (onSource 3 2).fld F.EPC_NEXT_SEC_SECONDS = 0) ∧
    (let s := epochWith 1 2 (fun e => { e with cur := { e.cur with delay := true }, rx := { e.rx with owed := [9, 10] } })
     s.epoch.cur.src = 1 ∧ s.epoch.cur.delay = true ∧ s.epoch.rx.owed = 9 :: [10] ∧ (onSource 1 2).epoch.rx.sender ≠ none) ∧
    ((onSource 1 1).fld F.EPC_STATUS_STATE = 1 ∧ (onSource 1 2).fld F.EPC_STATUS_STATE = 2 ∧
      (let s := epochWith 1 2 (fun e => { e with rx := { e.rx with syncAt := some 0 } })
       0 + 3 * s.epoch.rx.interval ≤ s.oscAt 0 ∧ ¬0 + 3 * s.epoch.rx.interval ≤ (epochWith 1 2 (fun e => { e with clock := 0 })).oscAt 2999999999 ∧
         s.epoch.rx.best (s.oscAt 0) s.epoch.rx.sender = none ∧ ({ s.epoch.rx with foreign := [foreign8] } : PtpRx).best (s.oscAt 0) (some 7) = some 8) ∧
      (let s := epochWith 2 1 (fun e => { e with irigAt := some 1000000000, irigBad := 1 })
       s.epoch.irigAt = some 1000000000 ∧ 1000000000 + 2000000000 ≤ s.oscAt 0 ∧ s.epoch.staged = none ∧ 1 ≤ s.epoch.irigBad) ∧
      (let s := epochWith 3 1 (fun e => { e with ppsAt := some 1900000000 })
       1900000000 + 1100000000 ≤ s.oscAt 0)) ∧
    (let s := (onSource 1 3).setFld F.EPC_COUNT_COUNT 20000000
     s.fld F.EPC_STATUS_STATE = 3 ∧ s.epoch.holdStart + min (s.fld F.EPC_HOLDOVER_TICKS) (10000000 / s.fld F.EPC_TICK_US) ≤ s.tick) := by
  decide +kernel

/-! ## Witnesses: polders and the host -/

/-- Bytes with little-endian numbers at given places: offset, size, value. -/
def record (n : Nat) (l : List (Nat × Nat × Nat)) : List Byte :=
  l.foldl (fun b e => b.take e.1 ++ leBytes e.2.1 e.2.2 ++ b.drop (e.1 + e.2.1)) (List.replicate n 0)

/-- Polder 1 ACTIVE with its queues enabled, one page of device memory at 2^21 mapped, and a command in flight. -/
def active (l : List Byte) : State :=
  let s := (((((((State.reset.setFld (F.PLD_STATUS_STATE 1) 1).setFld (F.PLD_PASID_VALID 1) 1).setFld (F.PLD_SQ_CFG_EN 1 0) 1).setFld
    (F.PLD_SQ_CFG_SIZE 1 0) 4).setFld (F.PLD_CQ_CFG_EN 1) 1).setFld (F.PLD_CQ_CFG_SIZE 1) 4).setFld (F.PLD_DPT_CFG_PAGES 1) 1).put 0
    (leBytes 8 0xE000000000200000)
  let e : SqEntry := { sq := 0, cid := 9, opc := leAt l 0 1, bytes := l, head := 1 }
  { s.setPq 1 { inflight := if l.isEmpty then [] else [e], reserved := 1, held := #v[2, 0, 0, 0] } with dike := allIn }

/-- The command that `active` has in flight. -/
def cmd (l : List Byte) : SqEntry := { sq := 0, cid := 9, opc := leAt l 0 1, bytes := l, head := 1 }

theorem witness_DoorbellsAndFetch :
    (let s := active []
     s.running = true ∧ s.fld (F.PLD_SQ_CFG_EN 1 0) = 1 ∧ (s.pq 1).tails[0] < 2 ^ s.fld (F.PLD_SQ_CFG_SIZE 1 0) ∧
       (s.pq 1).held[0] + (13 + 16 - (s.pq 1).tails[0]) % 16 ≤ 16 ∧ ¬((s.pq 1).held[0] + (15 + 16 - (s.pq 1).tails[0]) % 16 ≤ 16) ∧
       s.fld (F.PLD_CQ_CFG_EN 1) = 1 ∧ (1 : Nat) ≠ (s.pq 1).cqHead ∧ 0 < s.cqFree 1 ∧ s.fld (F.PLD_STATUS_STATE 1) = 1 ∧ s.fld (F.PLD_PASID_VALID 1) = 1 ∧
       s.epUp 1 = true ∧ (s.ep (s.epOf 1)).d3 = false ∧ s.frozen 9 1 = false ∧ s.tamperFrozen = false ∧ (s.pq 1).held[0] ≠ 0 ∧
       (cmd (record 64 [(0, 1, 7)])).ok = true ∧ (s.pq 1).inflight = [] ∧ (record 64 []).length = 64) ∧
    (let s := (active []).setPq 1 { reserved := 16 }
     s.cqFree 1 = 0) := by decide +kernel

/-- A command that is next, as the witnesses ask it. -/
def nextIs (l : List Byte) : Prop := (active l).NextEntry 1 0 (cmd l)

/-- The entries of the seven opcodes: LOAD_PROGRAM, UNLOAD_PROGRAM, RUN, DMA_IN, DMA_OUT, SIGNAL, FENCE. -/
def eLoad : List Byte := record 64 [(0, 1, 1), (4, 4, 88)]
def eUnload : List Byte := record 64 [(0, 1, 2), (24, 8, 5)]
def eRun : List Byte := record 64 [(0, 1, 3), (24, 8, 5), (48, 8, 0x800)]
def eIn : List Byte := record 64 [(0, 1, 4), (4, 4, 16), (8, 8, 0x5000), (16, 8, 0x100)]
def eOut : List Byte := record 64 [(0, 1, 5), (4, 4, 16), (8, 8, 0x5000), (16, 8, 0x100)]
def eSignal : List Byte := record 64 [(0, 1, 6), (24, 8, 3), (32, 4, 1)]
def eFence : List Byte := record 64 [(0, 1, 7)]

theorem witness_nextEntries :
    nextIs eLoad ∧ nextIs eUnload ∧ nextIs eIn ∧ nextIs eOut ∧ nextIs eSignal ∧ nextIs eFence ∧ nextIs (record 64 [(0, 1, 4)]) := by
  unfold nextIs State.NextEntry; decide +kernel

/-- A program of polder 1 under handle 5, loaded. -/
def withProg (l : List Byte) (unloading : Bool) : State :=
  (active l).setProg 1 5 { loaded := true, unloading := unloading, code := [(0x300000, 64)], entries := [(0, 0)] }

theorem witness_EntriesPerformAndComplete :
    (let s := active eIn
     (cmd eIn).len = 16 ∧ s.epUp 1 = true ∧ s.mapped 1 0x100 16 true false = some [(0x200100, 16)] ∧ (s.hostPages 1 0x5000 16 false).1 = false ∧
       spaceOf s 0x200100 = .hbm ∧
       (s.hostPages 1 0x5000 16 true).2.dikeCheck { mcls := 9, unit := 1, acts := [1] } 0x200100 16 .write false = none ∧
       (s.setFld (F.PLD_DPT_CFG_PAGES 1) 0).mapped 1 0x100 16 true false = none) ∧
    (let s := active eOut
     (cmd eOut).len = 16 ∧ s.mapped 1 0x100 16 false true = some [(0x200100, 16)] ∧
       (s.hostPages 1 0x5000 16 true).2.dikeCheck { mcls := 9, unit := 1, acts := [1] } 0x200100 16 .read false = none ∧
       s.poisoned 0x200100 16 = none) ∧
    ((active eSignal).setTask 3 { state := .waiting, polder := 1 }).task 3 = { state := .waiting, polder := 1 } ∧
    (let s := withProg eRun false
     let c := s.unitCheckW (pldMaster 1) (pldCtrl s 1 15) 0x200800 512 false
     (s.NextEntry 1 0 (cmd eRun)) ∧ (cmd eRun).opc = 3 ∧ (s.prog 1 5).loaded = true ∧ (s.runSpawn 1 (cmd eRun) (s.prog 1 5)).map (·.frame) = some 0x200800 ∧
       c.1 = .ok ∧ c.2.serveHw.freeSlotFor 1 false = some 0 ∧
       ((s.setFld (F.PMP_QUOTA_LIMIT 1) 0).serveHw).freeSlotFor 1 false = none ∧ s.fld (F.PLD_RUNWAIT_TICKS 1) = 0 ∧
       (s.setFld (F.PLD_RUNWAIT_TICKS 1) 4).fld (F.PLD_RUNWAIT_TICKS 1) = 4) ∧
    ((cmd eLoad).lib = false ∧ programCheck true (List.replicate 88 0) = some 0x12 ∧ (active eLoad).nextProg 1 = some 1 ∧
      ((active eLoad).hostPages 1 0 88 true).1 = true ∧ (active eLoad).dptBad 1 [(0, 8192)] = none) ∧
    (let s := withProg eUnload false
     (s.prog 1 5).loaded = true ∧ (s.prog 1 5).pipes = [] ∧ ((active eUnload).prog 1 5).loaded = false) ∧
    (let s := withProg eUnload true
     (s.prog 1 5).unloading = true ∧ s.progTasks 1 5 = []) := by
  unfold State.NextEntry; decide +kernel

/-- A RUN that waits for a slot of a polder that may have none. -/
theorem witness_RunWaits :
    (let e : SqEntry := { cmd eRun with waiting := true, since := 4 }
     let s := (((withProg eRun false).setFld (F.PLD_RUNWAIT_TICKS 1) 10).setPq 1 { ((withProg eRun false).pq 1) with inflight := [e] }).setFld
       F.EPC_COUNT_COUNT 13
     s.nextEntry 1 0 = some e ∧ e.ok = true ∧ e.waiting = true ∧ s.cqOpen 1 = true ∧ s.dptBad 1 e.ranges = none ∧ s.entriesRun 1 = true ∧
       s.tick < e.since + s.fld (F.PLD_RUNWAIT_TICKS 1) ∧
       (let c := s.unitCheckW (pldMaster 1) (pldCtrl s 1 15) 0x200800 512 false
        c.1 = .ok ∧ c.2.serveHw.freeSlotFor 1 false = some 0) ∧
       e.since + s.fld (F.PLD_RUNWAIT_TICKS 1) ≤ (s.setFld F.EPC_COUNT_COUNT 14).tick) := by decide +kernel

/-- An image of one word of code whose digest field holds `d`. -/
def imageOf (d : List Byte) : List Byte :=
  (record 48 [(0, 4, 0x54534B49), (4, 2, 1), (8, 4, 88), (12, 4, 4), (16, 4, 92), (28, 2, 1), (32, 4, 80), (36, 4, 92)]) ++ d ++ record 12 []

/-- What the digest of `imageOf` covers does not depend on the digest field. -/
theorem witness_imagePasses : ∃ l : List Byte, l.length = 92 ∧ programCheck true l = none ∧ imageFormOk true l = true ∧ imageToVerify true l = false := by
  let z := fitLen 32 (Config.hash 0x12 32 [] [] (record 12 []))
  obtain ⟨f, hf⟩ : ∃ f : Nat → Byte, z = (List.range 32).map f := by
    refine ⟨fun i => z.getD i 0, List.ext_getElem (by simp [z, fitLen]; omega) fun i h1 h2 => ?_⟩
    simp [List.getElem?_eq_getElem h1]
  have hd : fitLen 32 (Config.hash 0x12 32 [] [] (record 12 [])) = (List.range 32).map f := hf
  have h0 : imageFormOk true (imageOf ((List.range 32).map f)) = true := by cbv
  have h1 : ((imageOf ((List.range 32).map f)).take (parseImage (imageOf ((List.range 32).map f))).len).drop 80 = record 12 [] := rfl
  have h2 : bytesAt (imageOf ((List.range 32).map f)) 48 32 = (List.range 32).map f := rfl
  have h3 : imageDigestOk (imageOf ((List.range 32).map f)) = true := by
    unfold imageDigestOk
    rw [h1, h2, hd]
    exact decide_eq_true rfl
  have h4 : imageSigned true (imageOf ((List.range 32).map f)) = false := rfl
  exact ⟨imageOf ((List.range 32).map f), rfl, by simp [programCheck, h0, h3, h4], h0, by simp [imageToVerify, h4]⟩

/-- A load that finds its engine and hash core, and one that finds every hash core offline. -/
theorem witness_loadWaits : State.reset.hwCan 1 [0, 3] = true ∧ (State.reset.setFld F.DIG_CORE_ONLINE_ONLINE 0).hwCan 1 [3] = false ∧
    ((active eLoad).placePieces 1 true [(0x200000, 4)] (record 4 [])).1 = true ∧
    (active eLoad).mapped 1 0 4096 true false = some [(0x200000, 4096)] := by decide +kernel

/-! ## Witnesses: jobs and engines -/

/-- Core 0 in U with a register file for ENG: g1 a descriptor at 0x1000, g2 misaligned, g3 the handle of job 3 with sequence number 2, g4 too large for a
key slot's number. -/
def fEng : Frame := { (((({} : Frame).setG 1 0x1000).setG 2 0x1001).setG 3 0x8003).setG 4 0x4000 with xhnd := 4 }

/-- The same with all of HBM open and a job outstanding. -/
def issuing : State := { (inU fEng).setJob 3 { st := .queued, seq := 2, cls := 0, opc := 1 } with dike := allIn }

theorem issuing_runsTask : issuing.RunsTask 0 0 fEng := runsTask_of (by decide +kernel)

theorem witness_JobsIssueAbortProbe :
    issuing.RunsTask 0 0 fEng ∧ (fEng.gr 1).toNat % 64 = 0 ∧ (fEng.gr 2).toNat % 64 ≠ 0 ∧ issuing.freeEntry = some 0 ∧ knownOpc 0 1 = true ∧
      knownOpc 3 1 = true ∧ issuing.frozen 5 33 = false ∧ issuing.gives { mcls := 5, unit := 33, acts := [0] } 0x1000 128 .read ∧
      issuing.gives { mcls := 5, unit := 33, acts := [0] } 0x1000 32 .write ∧ fEng.xhnd ≠ 0 ∧ fEng.xact = false ∧
      (let j := issuing.job ((fEng.gr 3).toNat % 2 ^ 14)
       j.st = .queued ∧ j.inner = false ∧ j.seq = (fEng.gr 3).toNat / 2 ^ 14 ∧ j.polder = 0 ∧ j.slotBegun = false ∧ j.cls < 9) ∧
      (issuing.job ((fEng.gr 1).toNat % 2 ^ 14)).st = .free :=
  ⟨issuing_runsTask, by unfold State.gives; decide +kernel⟩

/-- The job table is full. -/
theorem witness_noFreeEntry : ∃ s : State, s.freeEntry = none := by
  refine ⟨{ jobs := { tab := (List.range 16384).map (fun e => (e, { st := .queued })) } }, ?_⟩
  have h : ∀ (p : Nat → Bool) (n k : Nat), (∀ j, k ≤ j → j < k + n → p j = false) → findFrom p n k = none := by
    intro p n
    induction n with
    | zero => intro k _; rfl
    | succ n ih =>
      intro k hp
      have h0 : p k = false := hp k (Nat.le_refl k) (by omega)
      simp only [findFrom, h0]
      exact ih (k + 1) (fun j h1 h2 => hp j (by omega) (by omega))
  have ht : ∀ (l : List Nat) (j : Nat), j ∈ l → (tget (fun _ => ({} : Job)) (l.map (fun e => (e, ({ st := .queued } : Job)))) j).st = .queued := by
    intro l
    induction l with
    | nil => intro j hj; cases hj
    | cons a l ih =>
      intro j hj
      simp only [List.map_cons, tget]
      split
      · rfl
      · rename_i hne
        rcases List.mem_cons.mp hj with h1 | h1
        · exact absurd h1 hne
        · exact ih j h1
  apply h
  intro j _ hj
  have := ht (List.range 16384) j (List.mem_range.mpr (by omega))
  simp only [State.job, this]
  rfl

theorem witness_CompletionWritesHeaderThenFlag :
    let s := (State.reset.setTask 4 { state := .waiting }).setJob 2
      { st := .finished, task := 4, bytes := [0], desc := 0x1000, granted := true, ev := 7, writes := [(0x2000, [1, 2])], outlen := 2,
        fill := some (5, {}, false) }
    s.running = true ∧ (s.job 2).st = .finished ∧ (s.job 2).inner = false ∧ (s.job 2).cls < 9 ∧ (s.job 2).granted = true ∧ s.power.pwrFail = false ∧ s.canFill (s.job 2).polder 5 = false ∧ (s.job 2).leaf = none ∧ (s.job 2).scrub = [] ∧
      (s.job 2).desc % 64 = 0 ∧ 0x2000 + 2 ≤ 0x23C0000000 ∧ (s.task (s.job 2).task).state = .waiting ∧ (s.job 2).ev < 32 := by decide +kernel

/-- The state that an engine job of a row finds: the Well READY, a filled slot 5, an empty slot 6, the job's descriptor read. -/
def engState (cls opc : Nat) (ty p : Nat) (l : List Byte) : State :=
  let s := (State.reset.setFld F.RNG_STATUS_STATE 2).setFld (F.KST_GQUOTA_LIMIT 0) 80000
  { s with
    dike := allIn
    ent := { buf := 3 }
    keys := { s.keys with slots := [(5, { allocated := true, ty := ty, alg := p, usage := 0xFF }), (6, { allocated := true })] }
    jobs := { tab := [(2, { st := .queued, cls := cls, opc := opc, bytes := l, desc := 0x1000, granted := true })], queues := [(cls, [2])] } }

/-- A descriptor for a row: parameter set, mode, lengths of operands A, B and K. -/
def engDesc (r : EngRow) (p mode a b k : Nat) : List Byte :=
  let on := fun (c : Bool) (n : Nat) => if c then n else 0
  record 128 [(8, 2, on (decide (r.op.slot = .needed)) 0x8005), (16, 8, on r.op.useA 0x100000), (24, 4, a), (28, 4, b), (32, 8, on r.op.useB 0x400000),
    (52, 4, k), (56, 8, on r.op.useK 0x600000), (64, 8, on r.op.useOut 0x800000), (72, 4, on r.op.useOut 0x200000), (76, 2, on r.op.useOslot 0x8006),
    (78, 1, p), (79, 1, mode)]

/-- Parameter set, mode, lengths of operands A, B and K, and the type of the slot, for each row of `engRows`. -/
def engParams : List (Nat × Nat × Nat × Nat × Nat × Nat) :=
  [(1, 0, 0, 0, 0, 0), (1, 0, 0, 0, pkLen 1, 0), (1, 0, sigLen 1, 0, 0, 1), (0x11, 0, 0, 0, 0, 0), (0x11, 0, 32, 0, 0, 1),
   (0x11, 0, 32, sigLen 0x11, pkLen 0x11, 0), (0x21, 0, 0, 1048576, 0, 0), (0x21, 0, 0, 0, pkLen 0x21, 0), (0x21, 0, sigLen 0x21, 0, 0, 1),
   (0x31, 0, 0, 0, 0, 0), (0x31, 0, 0, 0, pkLen 0x31, 0), (0x31, 0, sigLen 0x31, 0, 0, 1), (0x41, 0, 0, 0, 0, 0),
   (0x41, 0, pkLen 0x41, 0, 0, 0), (0x41, 0, pkLen 0x41, 0, 0, 1), (0x41, 2, 32, 0, 0, 1), (0x41, 2, 32, sigLen 0x41, pkLen 0x41, 0),
   (0x46, 0, 32, 0, 0, 1), (0x46, 0, 32, sigLen 0x46, pkLen 0x46, 0), (0x51, 2, 32, 0, 0, 1), (0x51, 2, 32, sigLen 0x51, pkLen 0x51, 0),
   (0x51, 2, 32, sigLen 0x51, pkLen 0x51, 0), (0x61, 0, 16, 16, 0, 5), (0x61, 0, 32, 16, 0, 5)]

/-- The job of a row and its descriptor, from the row's parameters. -/
def engCase (x : EngRow × Nat × Nat × Nat × Nat × Nat × Nat) : List Byte × State :=
  let l := engDesc x.1 x.2.1 x.2.2.1 x.2.2.2.1 x.2.2.2.2.1 x.2.2.2.2.2.1
  (l, engState x.1.cls x.1.opc x.2.2.2.2.2.2 x.2.1 l)

theorem witness_engTurn : ∀ x ∈ engRows.zip engParams, (engCase x).2.EngTurn x.1 2 0 (engCase x).1 := by
  unfold State.EngTurn State.descIs State.gives
  decide +kernel

theorem witness_engVerdict : engParams.length = engRows.length ∧ ∀ x ∈ engRows.zip engParams, x.1.verdict (engCase x).2 0 (engCase x).1 = none := by
  decide +kernel

/-- One of a case's operands, as the witnesses ask it: who accesses it, where, how long. -/
def engGives (x : EngRow × Nat × Nat × Nat × Nat × Nat × Nat) (a n : Nat) (w : Dir) : Prop :=
  (engCase x).2.gives { mcls := clsMaster x.1.cls, unit := 0, acts := [0] } a n w

theorem engGives_A : ∀ x ∈ engRows.zip engParams, x.1.op.useA = true → engGives x (parseEng (engCase x).1).aAddr (parseEng (engCase x).1).aLen .read := by
  unfold engGives State.gives; decide +kernel

theorem engGives_B : ∀ x ∈ engRows.zip engParams, x.1.op.useB = true →
    engGives x (parseEng (engCase x).1).bAddr (parseEng (engCase x).1).bLen (if x.1.cls = 1 then .write else .read) := by
  unfold engGives State.gives; decide +kernel

theorem engGives_C : ∀ x ∈ engRows.zip engParams, x.1.op.useC = true → engGives x (parseEng (engCase x).1).cAddr (parseEng (engCase x).1).cLen .read := by
  unfold engGives State.gives; decide +kernel

theorem engGives_K : ∀ x ∈ engRows.zip engParams, x.1.op.useK = true → engGives x (parseEng (engCase x).1).kAddr (parseEng (engCase x).1).kLen .read := by
  unfold engGives State.gives; decide +kernel

theorem engGives_out : ∀ x ∈ engRows.zip engParams,
    engGives x (parseEng (engCase x).1).out (x.1.op.outSize (parseEng (engCase x).1)) .write := by
  unfold engGives State.gives; decide +kernel

theorem witness_engOperands : ∀ x ∈ engRows.zip engParams, (engCase x).2.engOperands x.1 0 0 (engCase x).1 := fun x hx =>
  ⟨engGives_A x hx, engGives_B x hx, engGives_C x hx, fun h _ => engGives_K x hx h, engGives_out x hx⟩

theorem witness_EngineOperationsAndFaults :
    (∀ x ∈ engRows.zip engParams, (engCase x).2.EngTurn x.1 2 0 (engCase x).1 ∧ x.1.verdict (engCase x).2 0 (engCase x).1 = none ∧
      (engCase x).2.engOperands x.1 0 0 (engCase x).1) ∧
    (let s := (State.reset.setJob 2 { st := .running, cls := 4, engine := some 3 })
     s.jobOn 4 3 = some 2 ∧ (s.job 2).slotBegun = false ∧ s.fld F.ENG_FAULT_V = 0 ∧ effReact 9 (s.react 9) < 3 ∧ (s.job 2).retried = false ∧
       (let u := s.setFld (F.FCL_REACT_REACT 0) 0x3000000000
        3 ≤ effReact 9 (u.react 9) ∧ bit (u.fld F.FCL_STATUS_FAULT) 9 = false)) :=
  ⟨fun x hx => ⟨witness_engTurn x hx, witness_engVerdict.2 x hx, witness_engOperands x hx⟩, by decide +kernel⟩

theorem witness_EngineChecksInOrder :
    ∀ x ∈ engRows.zip engParams,
      let l := engDesc x.1 0xFF 0 0 0 0
      let s := engState x.1.cls x.1.opc 0 0 l
      s.EngTurn x.1 2 0 l ∧ x.1.verdict s 0 l = some 0x13 := by
  unfold State.EngTurn State.descIs State.gives
  decide +kernel

/-! ## Witnesses: endpoints and polders -/

theorem witness_EndpointsAndTranslations :
    (let s := (((State.reset.setFld F.GLB_PCIE_EXP_A_EN 1).setFld F.GLB_PCIE_EXP_A_WIDTH 4).setFld F.GLB_PCIE_EXP_A_RATE 5)
     s.running = true ∧ (s.ep 0).up = true ∧ ((s.setEp 1 { up := false }).ep 1).up = false ∧ s.fld F.GLB_PCIE_EXP_A_EN = 1 ∧
       (3 : Fin 5).val < min 4 (s.fld F.GLB_PCIE_EXP_A_WIDTH) ∧ (4 : Fin 6).val < min 5 (s.fld F.GLB_PCIE_EXP_A_RATE)) ∧
    (let s := (State.reset.setPq 1 { irqPending := 1 }).setFld (F.PLD_IRQ_DELAY 1) 0
     0 < (s.pq 1).irqPending ∧ s.fld (F.PLD_IRQ_DELAY 1) ≤ s.now - (s.pq 1).irqSince ∧ s.fld (F.PLD_IRQ_MASK 1) = 0 ∧
       (s.setFld (F.PLD_IRQ_MASK 1) 1).fld (F.PLD_IRQ_MASK 1) = 1) ∧
    (let s := State.reset.setPq 1 { invPending := 1, swapTo := some 0x5000 }
     0 < (s.pq 1).invPending ∧ s.descInHost 1 = false ∧ (s.pq 1).swapTo = some 0x5000 ∧ (State.reset.pq 1).swapTo = none) ∧
    (let s := (State.reset.setFld (F.PLD_PASID_VALID 2) 1).setFld (F.PLD_PASID_EP 2) 1
     let v : Word := BitVec.ofNat 64 (2 ^ 63 + 2 ^ 32)
     v.getLsbD 63 = true ∧ (2 : PolderId) ≠ 1 ∧ s.fld (F.PLD_PASID_VALID 2) = 1 ∧ s.fld (F.PLD_PASID_EP 2) = (v.extractLsb' 32 1).toNat ∧
       v.getLsbD 20 = false ∧ s.fld (F.PLD_PASID_PASID_EN 2) = 0 ∧ (0 : Word).getLsbD 63 = false ∧
       (let s := (s.setFld (F.PLD_PASID_PASID_EN 2) 1).setFld (F.PLD_PASID_PASID 2) 7
        let v : Word := BitVec.ofNat 64 (2 ^ 63 + 2 ^ 32 + 2 ^ 20 + 7)
        s.fld (F.PLD_PASID_PASID 2) = (v.extractLsb' 0 20).toNat)) := by decide +kernel

theorem witness_PolderLifeAndSquash :
    (∀ k ∈ [0, 1, 2, 3, 4, 5], let s := (active []).setFld (F.PLD_STATUS_STATE 1) k
      s.running = true ∧ s.net.ses = [] ∧ s.fld (F.PLD_STATUS_STATE 1) = k ∧ (1 : PolderId) ≠ 0) ∧
    ((active []).fld (F.PLD_PASID_VALID 1) = 1 ∧ (active []).fld (F.PLD_CTRL_QUIESCE 1) = 0 ∧ State.reset.fld (F.PLD_PASID_VALID 1) = 0 ∧
      (active []).poldersOf 0 = [(1 : PolderId).val] ∧ (active []).fld (F.PLD_STATUS_STATE 1) = 1) ∧
    (let s : State := { ((active []).setFld (F.PLD_STATUS_STATE 1) 3).setPq 1 { drainLimit := 10 } with now := 9 }
     s.fld (F.PLD_STATUS_STATE 1) = 3 ∧ s.now - (s.pq 1).drainStart < (s.pq 1).drainLimit ∧ (s.pq 1).waiting = [] ∧ (s.pq 1).inflight = [] ∧
       (let u : State := { s with now := 10 }
        (u.pq 1).drainLimit ≤ u.now - (u.pq 1).drainStart)) ∧
    (∀ k ∈ [1, 2], let s := (State.reset.setFld (F.PLD_STATUS_STATE 1) 4).setPq 1 { drainOp := k }
      s.fld (F.PLD_STATUS_STATE 1) = 4 ∧ s.polderIdle 1 = true ∧ (s.pq 1).drainOp = k ∧ s.power.pwrFail = false) := by decide +kernel

/-! ## Witnesses: keys and entropy -/

/-- Core 0 in U with slot number `k` in g1 and a descriptor `l` at the address in g2, under a READY Well. -/
def keyState (slots : Tbl KeySlot) (k : Nat) (l : List Byte) : State :=
  let s := inU ((({} : Frame).setG 1 (BitVec.ofNat 64 k)).setG 2 0x1000)
  let s := (s.setFld F.RNG_STATUS_STATE 2).setFld (F.KST_GQUOTA_LIMIT 0) 80000
  ({ s with dike := allIn, keys := { s.keys with slots := slots }, ent := { buf := 18 } }).put 0x1000 l

/-- What every key job asks of its state (R62, R65, R230). -/
def keyTurn (s : State) (l : List Byte) : Prop :=
  let m : Master := { mcls := 0, unit := 0, acts := [0] }
  s.freeEntry = some 0 ∧ s.gives m 0x1000 128 .read ∧ s.gives m 0x1000 8 .write ∧ l = s.bytes 0x1000 128 ∧ (parseKey l).mbz l = true ∧
    hdrHreq l < 3 ∧ s.keysBarred = false ∧ s.lcs < 3 ∧ s.power.pwrFail = false

/-- An LMS public key of height 5 and W8, one level: 60 bytes. -/
def lmsPub : List Byte := record 60 [(3, 1, 1), (7, 1, 5), (11, 1, 4), (12, 1, 9)]

/-- Slots: 5 an exportable MAC key, 6 empty, 7 a wrapping key, 8 an LMS public key, 16383 the device's identity. -/
def slots1 : Tbl KeySlot :=
  [(5, { allocated := true, ty := 4, usage := 0x30, exportP := 1, secret := List.replicate 32 7 }), (6, { allocated := true }),
   (7, { allocated := true, ty := 7, usage := 0x40, secret := List.replicate 32 9 }),
   (8, { allocated := true, ty := 8, alg := 0x80, usage := 2, pub := lmsPub }), (16383, { allocated := true, device := true, ty := 2, alg := 0x75 })]

/-- KPUB of slot 8 with 60 bytes of room, and the same with an attestation; KPUB of the tenant's DRBG; KIMP of a blob at 0x2000; KEXP under slot 7. -/
def kPub : List Byte := record 128 [(16, 8, 0x2000), (24, 4, 60)]
def kAtt : List Byte := record 128 [(16, 8, 0x2000), (24, 4, 4815), (28, 1, 1)]
def kRand : List Byte := record 128 [(16, 8, 0x2000), (24, 4, 65536)]
def kImp : List Byte := record 128 [(16, 8, 0x2000), (24, 4, 140)]
def kExp : List Byte := record 128 [(8, 2, 0x8007), (16, 8, 0x2000), (24, 4, 128)]

/-- A blob of an LMS public key without wrapping. -/
def blob0 : List Byte :=
  record 80 [(0, 4, 0x424C424B), (4, 1, 1), (8, 8, (8 * 2 ^ 60 + 0x80 * 2 ^ 52 + 2 * 2 ^ 36 + 0x1FFFFFFF : Nat)), (16, 1, 9), (52, 4, 60)] ++ lmsPub

theorem witness_keyTurns :
    (keyTurn (keyState slots1 8 kPub) kPub ∧ keyTurn (keyState slots1 8 kAtt) kAtt) ∧ keyTurn (keyState slots1 16368 kRand) kRand ∧
      keyTurn ((keyState slots1 6 kImp).put 0x2000 blob0) kImp ∧ keyTurn (keyState slots1 5 kExp) kExp := by
  unfold keyTurn State.gives; decide +kernel

theorem witness_KeySlotsAndKeyJobs :
    (let s := keyState slots1 5 []
     s.RunsTask 0 0 ((({} : Frame).setG 1 5).setG 2 0x1000) ∧ s.locked = false ∧ s.fld F.KST_STATUS_SCRUB = 0 ∧ (s.key 5).allocated = true ∧
       (s.key 5).device = false ∧ (s.key 5).owner = 0 ∧ s.power.pwrFail = false ∧ s.net.ses = [] ∧ s.liveJobs = [] ∧ (s.key 5).ty ≠ 0 ∧
       (s.key 9).allocated = false ∧ narrows true ((s.key 5).attrWord s.tick).toNat ((s.key 5).attrWord s.tick).toNat = true ∧
       narrows true ((s.key 5).attrWord s.tick).toNat 0x1000 = false ∧ s.freeKey 0 = some 0 ∧
       (s.setFld (F.KST_QUOTA_LIMIT 0) 4).freeKey 0 = none ∧ (s.setFld F.KST_STATUS_SCRUB 1).fld F.KST_STATUS_SCRUB = 1 ∧
       (let u := s.setJob 3 { st := .queued, cls := 8, subject := 5, bytes := [0] }
        u.liveJobs.filter (fun e => (u.jobSlots e).contains 5) = [3] ∧ (u.job 3).slotBegun = false ∧ u.inMicro 3 = false)) ∧
    (let s := keyState slots1 (2 ^ 14) []
     s.RunsTask 0 0 ((({} : Frame).setG 1 0x4000).setG 2 0x1000) ∧ (fEng.gr 4).toNat = 2 ^ 14 ∧ fEng.xhnd ≠ 0 ∧ fEng.xact = false) ∧
    (let s := keyState slots1 8 kPub
     s.RunsTask 0 0 ((({} : Frame).setG 1 8).setG 2 0x1000) ∧ s.ownsKey 0 8 = true ∧ (s.key 8).ty = 8 ∧ s.engineFor 0 = some 0 ∧
       s.drbgReady (instFor 0 0) = true ∧ s.wellUp = true ∧ 18 ≤ s.ent.buf ∧ (s.key 8).pubPart.length = 60 ∧
       (s.key 16383).ty ≠ 0 ∧ s.drbgReady 30 = true ∧ s.gives { mcls := 0, unit := 0, acts := [0] } 0x2000 4815 .write) ∧
    (let s := keyState slots1 16368 kRand
     s.RunsTask 0 0 ((({} : Frame).setG 1 16368).setG 2 0x1000) ∧ (parseKey kRand).cap = 65536 ∧ s.wellReady = true ∧ s.ent.tenants = [] ∧
       s.gives { mcls := 0, unit := 0, acts := [0] } 0x2000 65536 .write ∧
       (let u := s.setFld F.RNG_STATUS_STATE 3
        (u.drbg 32).seeded = false ∧ u.wellReady = false ∧ u.wellFailed = true)) ∧
    (let s := (keyState slots1 6 kImp).put 0x2000 blob0
     let b := parseBlob (s.bytes 0x2000 140)
     s.RunsTask 0 0 ((({} : Frame).setG 1 6).setG 2 0x1000) ∧ s.canFill 0 6 = true ∧ s.gives { mcls := 0, unit := 0, acts := [0] } 0x2000 140 .read ∧
       b.headerOk (s.bytes 0x2000 140) 0 = true ∧ s.heapRoom 0 (granulesFor b.secLen b.pubLen (bit b.attr 30)) = true ∧ bit b.attr 30 = false ∧
       b.open (s.key 0) = some []) ∧
    (let s := keyState slots1 5 kExp
     s.RunsTask 0 0 ((({} : Frame).setG 1 5).setG 2 0x1000) ∧ hdrSv kExp = true ∧ s.ownsKey 0 5 = true ∧ s.ownsKey 0 7 = true ∧
       s.fld F.RNG_CTRL_TESTSRC = 0 ∧ (s.key 5).exportP = 1 ∧ (s.key 5).stateful = false ∧ (s.key 5).expired s = false ∧ (s.key 7).expired s = false ∧
       s.drbgReady 30 = true ∧ exportMethod (s.key 7) = some 1 ∧ bit (s.key 7).usage useWrap = true ∧ 80 + 32 + 16 ≤ (parseKey kExp).cap ∧
       s.gives { mcls := 0, unit := 0, acts := [0] } 0x2000 128 .write) :=
  ⟨⟨runsTask_of (by decide +kernel), by decide +kernel⟩, ⟨runsTask_of (by decide +kernel), by decide +kernel⟩,
    ⟨runsTask_of (by decide +kernel), by unfold State.gives; decide +kernel⟩, ⟨runsTask_of (by decide +kernel), by unfold State.gives; decide +kernel⟩,
    ⟨runsTask_of (by decide +kernel), by unfold State.gives; decide +kernel⟩, ⟨runsTask_of (by decide +kernel), by unfold State.gives; decide +kernel⟩⟩

/-- A tenant's job that waits for entropy, and one held back under a FAILED Well. -/
def waitsEntropy : State :=
  let s := (State.reset.setJob 3 { st := .queued, cls := 8 }).setFld (F.PLD_ENTWAIT_TICKS 0) 0
  { s with ent := { s.ent with tenants := [3] } }

theorem witness_WellAndKeyStore :
    (State.reset.running = true ∧ State.reset.fld F.RNG_CTRL_ENABLE = 0 ∧ State.reset.lcs = 0 ∧
      (State.reset.setFld F.RNG_CTRL_ENABLE 1).fld F.RNG_CTRL_ENABLE = 1 ∧ (State.reset.setFld F.LCS_STATE_STATE 2).lcs ≠ 0 ∧
      (State.reset.setFld F.RNG_CTRL_TESTSRC 1).fld F.RNG_CTRL_TESTSRC = 1) ∧
    (let s := State.reset.setFld F.RNG_STATUS_STATE 1
     s.fld F.RNG_STATUS_STATE = 1 ∧ s.ent.tenants = [] ∧ 4 ≤ popN 8 (0x0F &&& (255 - s.fld F.RNG_SRC_CTRL_DISABLE)) ∧
       popN 8 (0x07 &&& (255 - s.fld F.RNG_SRC_CTRL_DISABLE)) < 4) ∧
    (let s := (State.reset.setFld F.RNG_STATUS_STATE 2).setFld F.RNG_STATUS_HEALTHY 0x0F
     bit (s.fld F.RNG_STATUS_HEALTHY) 3 = true ∧ (∀ j, j < 51 → (0 : BitVec 1024).getLsbD (0 + j) = (0 : BitVec 1024).getLsbD 0) ∧ s.fld F.RNG_STATUS_STATE = 2 ∧ s.ent.tenants = [] ∧ (s.drbg 30).seeded = false ∧
       findFrom s.seedDue 32 0 = some 0 ∧ State.reset.fld F.RNG_STATUS_STATE ≠ 2) ∧
    (3 ∈ waitsEntropy.ent.tenants ∧ (waitsEntropy.job 3).since + waitsEntropy.fld (F.PLD_ENTWAIT_TICKS 0) ≤ waitsEntropy.tick) ∧
    (let s := ((State.reset.setJob 3 { st := .queued, held := true }).setFld F.RNG_STATUS_STATE 3).setFld F.RNG_STALL_LIMIT_TICKS 0
     s.fld F.RNG_STATUS_STATE = 3 ∧ (s.job 3).held = true ∧ (s.job 3).st = .queued ∧ (s.job 3).since + s.fld F.RNG_STALL_LIMIT_TICKS ≤ s.tick) ∧
    (let s := (keyState [(7, { allocated := true, ty := 7, owner := 0, usage := 0x10, secret := [1] }),
        (8, { allocated := true, ty := 1, alg := 0x12, owner := 0, usage := 1, secret := [1] })] 7 [])
     s.power.pwrFail = false ∧ s.rcptOk 0 7 = false ∧ s.rcptOk 0 8 = true ∧
       (let u : State := { s with keys := { s.keys with rcptStaged := [(0, some (true, 8))] } }
        u.keys.rcptStaged = [(0, some (true, 8))] ∧ (u.setFld F.EPC_STATUS_STATE 1).counting = true)) ∧
    ((State.reset.setFld F.KST_STATUS_SCRUB 1).fld F.KST_STATUS_SCRUB = 1 ∧ (State.reset.setFld F.KST_STATUS_REWRAP 1).fld F.KST_STATUS_REWRAP = 1) := by
  decide +kernel

/-- The internal instances are seeded, so a tenant's request is served; a run whose receipt waits for entropy. -/
theorem witness_servedTenant :
    (let s := keyState slots1 16368 kRand
     let u : State := { s with ent := { s.ent with drbg := (List.range 32).map (fun i => (i, { seeded := true })) } }
     u.wellReady = true ∧ u.internalDue = none ∧ u.ent.tenants = [] ∧ u.freeEntry = some 0) ∧
    (let s := ((State.reset.setJob 3 { st := .running, cls := 9, held := true }).setFld F.RNG_STATUS_STATE 3).setFld F.RNG_STALL_LIMIT_TICKS 0
     let u := s.setRun 3 { ops := [{}] }
     u.fld F.RNG_STATUS_STATE = 3 ∧ (u.job 3).held = true ∧ (u.job 3).cls = 9 ∧ (u.job 3).since + u.fld F.RNG_STALL_LIMIT_TICKS ≤ u.tick ∧
       (u.run 3).ops ≠ [] ∧ (u.run 3).fail = none) := by decide +kernel

/-! ## Witnesses: digests and hash-based signatures -/

/-- Slots of digest jobs: 5 derives and authenticates, 6 is empty, 7 wraps, 9 signs with SLH-DSA, 10 and 11 with LMS at the last leaf and past it. -/
def slots2 : Tbl KeySlot :=
  let lms : KeySlot := { allocated := true, ty := 2, alg := 0x80, usage := 1, exportP := 1, stateful := true, pub := lmsPub, p1 := 5, p2 := 4, levels := 1,
                         limit := 31, secret := List.replicate 64 3 }
  [(5, { allocated := true, ty := 4, usage := 0x30, secret := List.replicate 32 7 }), (6, { allocated := true }),
   (7, { allocated := true, ty := 7, usage := 0x40, secret := List.replicate 32 9 }), (9, { allocated := true, ty := 2, alg := 0x75, usage := 1 }),
   (10, { lms with cursor := 31 }), (11, { lms with cursor := 32, pendFloor := some 32 })]

/-- Job 2 of a digest operation with a descriptor `l`, context 0 open for its polder with 8 bytes absorbed, and an LMS public key at 0x600000. -/
def digState (opc : Nat) (l : List Byte) : State :=
  let s := (State.reset.setFld F.RNG_STATUS_STATE 2).setFld (F.KST_GQUOTA_LIMIT 0) 80000
  ({ s with
     dike := allIn
     keys := { s.keys with slots := slots2 }
     ent := { buf := 3 }
     ctxs := [(0, { st := .open, seq := 1, alg := 2, data := List.replicate 8 1, total := 8 })]
     jobs := { tab := [(2, { st := .queued, cls := 3, opc := opc, bytes := l, desc := 0x1000, granted := true })], queues := [(3, [2])] } }).put 0x600000 lmsPub

/-- Descriptors: data of 16 bytes at 0x100000, output at 0x200000, for each operation in turn. -/
def dOpen : List Byte := record 128 [(16, 8, 0x100000), (24, 4, 16), (78, 1, 2)]
def dOpenMac : List Byte := record 128 [(8, 2, 0x8005), (16, 8, 0x100000), (24, 4, 16), (32, 8, 8), (78, 1, 2), (79, 1, 3)]
def dUpdate : List Byte := record 128 [(16, 8, 0x100000), (24, 4, 16), (28, 4, 0x100)]
def dFinal : List Byte := record 128 [(16, 8, 0x100000), (24, 4, 16), (28, 4, 0x100), (64, 8, 0x200000), (72, 4, 32)]
def dPeek : List Byte := record 128 [(28, 4, 0x100), (64, 8, 0x200000), (72, 4, 32)]
def dOnce : List Byte := record 128 [(16, 8, 0x100000), (24, 4, 16), (64, 8, 0x200000), (72, 4, 1), (78, 1, 0x18), (80, 4, 1)]
def dCmp : List Byte := record 128 [(16, 8, 0x100000), (24, 4, 16), (40, 8, 0x300000), (48, 4, 4), (78, 1, 2), (79, 1, 4)]
def dClose : List Byte := record 128 [(28, 4, 0x100)]
def dExtract : List Byte := record 128 [(8, 2, 0x8005), (16, 8, 0x100000), (24, 4, 16), (76, 2, 0x8006), (78, 1, 2)]
def dExpand : List Byte := record 128 [(8, 2, 0x8005), (40, 8, 0x300000), (48, 4, 8), (76, 2, 0x8006), (78, 1, 2), (80, 4, 64)]
def dExpand12 : List Byte := record 128 [(8, 2, 0x8005), (40, 8, 0x300000), (48, 4, 8), (64, 8, 0x200000), (72, 4, 12), (78, 1, 2), (80, 4, 12)]
def dComp : List Byte := record 128 [(16, 8, 0x100000), (24, 4, 4096), (40, 8, 0x300000), (48, 4, 4096)]
def dComp1 : List Byte := record 128 [(16, 8, 0x100000), (24, 4, 16), (40, 8, 0x300000), (48, 4, 17)]
def dSlhGen : List Byte := record 128 [(64, 8, 0x200000), (72, 4, 64), (76, 2, 0x8006), (78, 1, 0x75)]
def dSlhSign : List Byte := record 128 [(8, 2, 0x8009), (16, 8, 0x100000), (24, 4, 16), (64, 8, 0x200000), (72, 4, 29792), (78, 1, 0x75)]
def dSlhVerify : List Byte :=
  record 128 [(16, 8, 0x100000), (24, 4, 16), (40, 8, 0x300000), (48, 4, 29792), (78, 1, 0x75), (96, 8, 0x600000), (104, 4, 64)]
def dHbsGen : List Byte := record 128 [(64, 8, 0x200000), (72, 4, 60), (76, 2, 0x8006), (78, 1, 0x80), (87, 1, 1), (88, 4, 5), (92, 4, 4)]
def dHbsSign (k : Nat) : List Byte :=
  record 128 [(8, 2, 0x8000 + k), (16, 8, 0x100000), (24, 4, 16), (64, 8, 0x200000), (72, 4, 0x10000), (78, 1, 0x80)]
def dHbsVerify : List Byte :=
  record 128 [(16, 8, 0x100000), (24, 4, 16), (40, 8, 0x300000), (48, 4, hbsSigLen 0x80 5 4 1), (78, 1, 0x80), (96, 8, 0x600000), (104, 4, 60)]
def dSplit : List Byte :=
  record 128 [(8, 2, 0x800A), (64, 8, 0x200000), (72, 4, 0x10000), (78, 1, 0x80), (80, 4, 32), (84, 2, 0x8007)]

/-- The operations with their descriptors. -/
def digCases : List (Nat × List Byte) :=
  [(1, dOpen), (1, dOpenMac), (2, dUpdate), (3, dFinal), (4, dPeek), (5, dOnce), (5, dCmp), (6, dClose), (8, dExtract), (9, dExpand), (9, dExpand12),
   (0x0B, dComp), (0x0B, dComp1), (0x10, dSlhGen), (0x11, dSlhSign), (0x12, dSlhVerify), (0x18, dHbsGen), (0x19, dHbsSign 10), (0x19, dHbsSign 11),
   (0x1A, dHbsVerify), (0x1B, dSplit)]

/-- The unit that performs an operation: the first hash core, or the comparison unit. -/
def digOn (opc : Nat) : Nat := if opc = 0x0B then 32 else 0

theorem witness_digTurns : ∀ x ∈ digCases, (digState x.1 x.2).DigTurn (digState x.1 x.2).expireCtxs 2 x.1 (digOn x.1) x.2 := by
  have h : ∀ x ∈ digCases, let s := (digState x.1 x.2).expireCtxs
      (digState x.1 x.2).running = true ∧ (s.job 2).opc = x.1 ∧ s.digMay 2 = true ∧ s.digUnit x.1 = some (digOn x.1) ∧ (s.job 2).granted = true ∧
        (s.job 2).bytes = x.2 ∧ digMbz x.1 (parseDig x.2) x.2 = true ∧ hdrHreq x.2 < 3 ∧ s.locked = false ∧ s.lcs ≠ 4 := by decide +kernel
  intro x hx
  obtain ⟨h1, h2, h3, h4, h5, h6, h7⟩ := h x hx
  exact ⟨h1, rfl, h2, h3, h4, by unfold State.descIs; rw [if_neg (by simp [h5]), h6], h7⟩

/-- The master of core 0 and of the comparison unit give what the cases read and write. -/
theorem witness_digOperands : ∀ u ∈ [0, 32], ∀ x ∈ [(0x100000, 4096), (0x300000, 29792), (0x600000, 64)],
    (digState 1 dOpen).gives { mcls := 5, unit := u, acts := [0] } x.1 x.2 .read ∧
      (digState 1 dOpen).gives { mcls := 5, unit := u, acts := [0] } 0x200000 0x10000 .write := by
  unfold State.gives; decide +kernel

theorem witness_DigestContexts :
    (∀ x ∈ digCases, (digState x.1 x.2).DigTurn (digState x.1 x.2).expireCtxs 2 x.1 (digOn x.1) x.2) ∧
    (let s := (digState 1 dOpenMac).expireCtxs
     s.takesCtx 2 1 ∧ isHash 2 = true ∧ isHash 0x18 = true ∧ s.usable 0 5 [3, 4, 6] useHmac ∧ s.drbgReady 29 = true ∧ (parseDig dOpenMac).dl = true ∧
       (parseDig dOpenMac).decl < 2 ^ 61 ∧ (parseDig dOpenMac).decl < (parseDig dOpenMac).aLen ∧ (parseDig dOpen).dl = false) ∧
    (let x := (digState 3 dFinal).ctx 0
     x.st = .open ∧ x.temp = false ∧ x.seq = (parseDig dFinal).ctx / 256 ∧ x.polder = 0 ∧ x.dl = false ∧ x.total + 16 < 2 ^ 61 ∧ hashOut x.alg = 32 ∧
       (parseDig dCmp).cmp = true ∧ 4 ≤ (parseDig dCmp).bLen ∧ 1 ≤ (parseDig dOnce).outLen ∧ (parseDig dOnce).outLen ≤ (parseDig dOnce).cap) ∧
    (let s := State.setFld { digState 1 [] with ctxs := [(0, { st := .open })] } F.DIG_IDLE_TICKS 1
     s.running = true ∧ (s.ctx 0).st = .open ∧ s.fld F.DIG_IDLE_TICKS ≠ 0 ∧ ¬(s.ctx 0).idleSince + s.fld F.DIG_IDLE_TICKS ≤ s.tick ∧
       (s.ctx 0).idleSince + s.fld F.DIG_IDLE_TICKS ≤ (s.setFld F.EPC_COUNT_COUNT 1).tick ∧
       (∀ f ∈ s.jobQueue 3, s.namedCtx f ≠ some 0)) ∧
    (let s := digState 4 dPeek
     effReact 8 (s.react 8) < 3 ∧ s.fld F.DIG_FAULT_V = 0 ∧ (s.job 2).slotBegun = false ∧ s.inMicro 2 = false ∧ s.bringsReset 8 = false ∧
       s.liveJobs.filter (fun f => decide ((s.job f).cls = 3) && (decide ((s.job f).ctx = some 0) ||
         (decide ((s.job f).st = .queued) && s.namedCtx f == some 0))) = [2]) :=
  ⟨witness_digTurns, by unfold State.takesCtx State.usable; decide +kernel, by decide +kernel, by decide +kernel, by decide +kernel⟩

theorem witness_DerivationComparisonSignatures :
    (∀ x ∈ digCases, (digState x.1 x.2).DigTurn (digState x.1 x.2).expireCtxs 2 x.1 (digOn x.1) x.2) ∧
    (let s := (digState 8 dExtract).expireCtxs
     let d := parseDig dExpand
     hashOut 2 = 32 ∧ s.canFill 0 6 = true ∧ s.heapRoom 0 (granulesFor 64 60 true) = true ∧ s.takesCtx 2 1 ∧ s.drbgReady 29 = true ∧
       s.usable 0 5 [3, 4] useDerive ∧ d.bLen ≤ 1024 ∧ 1 ≤ d.outLen ∧ d.outLen ≤ min 64 (255 * 32) ∧ d.ov = true ∧ s.drbgReady 30 = true ∧
       s.fld F.RNG_CTRL_TESTSRC = 0) ∧
    (let d := parseDig dExpand12
     d.ov = false ∧ d.otype = 0 ∧ d.outLen ≤ d.cap ∧ d.outLen ≤ 12) ∧
    ((parseDig dComp).aLen = (parseDig dComp).bLen ∧ (parseDig dComp).aLen ≤ 4096 ∧ (parseDig dComp1).aLen ≠ (parseDig dComp1).bLen) ∧
    (isSlh 0x75 = true ∧ 2 * slhN 0x75 ≤ (parseDig dSlhGen).cap ∧ slhSig 0x75 ≤ (parseDig dSlhSign).cap ∧
      (digState 0x11 dSlhSign).usable 0 9 [2] useSign ∧ (parseDig dSlhSign).ph = 0 ∧ (parseDig dSlhVerify).kLen = 2 * slhN 0x75 ∧
      (parseDig dSlhVerify).bLen = slhSig 0x75) ∧
    (let s := digState 0x19 (dHbsSign 10)
     isHbs 0x80 = true ∧ hbsParam 0x80 5 4 1 = some (32, 5) ∧ hbsPubLen 0x80 5 ≤ (parseDig dHbsGen).cap ∧ s.usable 0 10 [2] useSign ∧
       s.usable 0 11 [2] useSign ∧ (s.key 10).cursor ≤ (s.key 10).limit ∧ (s.key 11).limit < (s.key 11).cursor ∧
       hbsSigLen 0x80 5 4 1 ≤ (parseDig (dHbsSign 10)).cap ∧ s.bytes 0x600000 60 = lmsPub ∧ hbsOfPub 0x80 lmsPub = (5, 4, 1) ∧
       lmsPub.length = hbsPubLen 0x80 5 ∧ (parseDig dHbsVerify).bLen = hbsSigLen 0x80 5 4 1 ∧ (s.key 11).pendFloor = some 32 ∧
       (s.setFld F.DIG_LMS_RESERVE_LEAVES 8).fld F.DIG_LMS_RESERVE_LEAVES ≠ 0) ∧
    (let s := digState 0x1B dSplit
     let d := parseDig dSplit
     s.ownsKey 0 10 = true ∧ (s.key 10).exportP = 1 ∧ (s.key 10).expired s = false ∧ d.i2v = true ∧ d.islot2 = 7 ∧ s.ownsKey 0 7 = true ∧
       exportMethod (s.key 7) = some 1 ∧ bit (s.key 7).usage useWrap = true ∧ 1 ≤ d.outLen ∧ d.outLen ≤ (s.key 10).limit + 1 - (s.key 10).floor ∧
       blobLen 1 (s.key 10).secret.length (s.key 10).pub.length ≤ d.cap) :=
  ⟨witness_digTurns, by unfold State.takesCtx State.usable; decide +kernel, by decide +kernel, by decide +kernel,
    by unfold State.usable; decide +kernel, by unfold State.usable; decide +kernel, by decide +kernel⟩

/-! ## Witnesses: microcode -/

/-- Unit 3 of class 0 runs job 2's customer function on the word `w` at 0x8080; a nanoword that does nothing stands at index 0xC00. -/
def atWord (w : Nat) (q : Sqr) : State :=
  let s := State.reset.setJob 2 { st := .running, opc := 0x80, bytes := record 128 [(24, 4, 256), (64, 8, 0x200000)], engine := some 3 }
  { s with mcs := { s.mcs with micro := [(0x8080, w + 1)], nano := [(0xC00, 1)], seqs := [(3, { q with work := 2, pc := 0x8080 })] } }

/-- `atWord` has met what every microword asks, and reads its word as `x`. -/
def reads (w : Nat) (q : Sqr) (x : MWord) : Prop :=
  let s := atWord w q
  s.running = true ∧ s.sqrAt 0 3 = some { q with work := 2, pc := 0x8080 } ∧ s.sqr 0 3 = s.sqrAt 0 3 ∧ s.matched 0 0x8080 = 0x8080 ∧ s.mcsRuns 0 3 = true ∧
    (s.fetchMicro 0 0x8080).map parseMWord = some x

theorem witness_microwords :
    (reads 0x80_0100 {} (.ldi 0 256) ∧ reads 0x90_0004 {} (.lda 0 4) ∧ reads 0xA0_8081 { lc := #v[2, 0, 0, 0] } (.djnz 0 0x8081)) ∧
    (reads 0xA0_0081 { lc := #v[2, 0, 0, 0] } (.djnz 0 0x81) ∧ reads 0x40_9FFF {} (.branch 0 0x9FFF) ∧ reads 0x40_A000 {} (.branch 0 0xA000)) ∧
    (reads 0x60_8081 {} (.branch 32 0x8081) ∧ reads 0xC0_00FF {} (.call 0xFF) ∧ reads 0xC0_0100 {} (.call 0x100)) ∧
    (reads 0xC8_0000 { stack := [0x8100] } .ret ∧ reads 0xC8_0000 {} .ret ∧ reads 0xD0_0000 {} .yield) ∧
    (reads 0xE0_0001 { loaded := true } (.sync 1) ∧ reads 0xD8_0001 {} (.done 1) ∧ reads 0xD8_0012 {} (.done 0x12)) ∧
    (reads 0xD8_0002 {} (.done 2) ∧ reads 0x30_0021 {} (.issue 0xC00 1 1) ∧ reads 0xF8_0000 {} .bad) := by
  unfold reads; decide +kernel

theorem witness_transfers :
    mayGo 0x8080 0x8081 false = true ∧ mayGo 0x8080 0x81 false = false ∧ mayGo 0x8080 0x9FFF false = true ∧ mayGo 0x8080 0xA000 false = false ∧
      mayGo 0x8080 0xFF true = true ∧ mayGo 0x8080 0x100 true = false ∧ mayIssue 0x8080 0xC00 = true ∧
      (let s := atWord 0x40_9FFF {}
       s.mcond 0 3 { work := 2, pc := 0x8080 } 0 = true ∧ s.mcond 0 3 { work := 2, pc := 0x8080 } 32 = false) ∧
      bit (leAt ((atWord 0xD8_0001 {}).job 2).bytes 76 2) 15 = false ∧
      (((atWord 0x30_0021 {}).fetchNano 0 0xC00).any fun n => nanoOk 0 n && !nanoDraws n && decide (bits n 187 184 ≠ 4)) = true := by decide +kernel

/-- A nanoword that draws on a unit whose DRBG cannot give, a stop that waits, a ROM operation, and a function that a hash core wrote back. -/
theorem witness_sequencers :
    (nanoOk 0 (2 ^ 190) = true ∧ nanoDraws (2 ^ 190) = true ∧ (atWord 0 {}).drbgReady (instFor 0 3) = false) ∧
    (let s := (atWord 0xD0_0000 {}).setJob 2 { st := .running, stop := some (6, 0) }
     s.mcsRuns 0 3 = true ∧ s.stopPending 0 { work := 2, pc := 0x8080 } = some (6, 0) ∧ s.sqr 0 3 = some { work := 2, pc := 0x8080 }) ∧
    (let q : Sqr := { work := 2, pc := 0x8080 }
     let s := (atWord 0xD0_0000 {}).setJob 2 { st := .running, cls := 3, opc := 0x80 }
     let u : State := { s with mcs := { s.mcs with seqs := [], parked := [q] } }
     u.sqrAt 3 5 = some q ∧ u.mcsRuns 3 5 = true ∧ q ∈ u.mcs.parked ∧
       (let v : State := { s with mcs := { s.mcs with seqs := [(256 * 3 + 5, { q with work := 7 })], parked := [q] } }
        v.sqrAt 3 5 = some { q with work := 7 } ∧ v.mcs.parked ≠ [] ∧ { q with work := 7 } ∉ v.mcs.parked)) := by decide +kernel

/-- The sequencer of a ROM operation stands at the operation's entry. -/
theorem witness_romSequencer :
    ((State.reset.setJob 2 { st := .running, opc := 1, engine := some 3 }).sqrAt 0 3).map (fun q => (q.rom, q.work, q.fn)) = some (true, 2, 1) := by
  decide +kernel

theorem witness_MicrocodeRuns :
    let l := record 128 [(64, 8, 0x800000), (72, 4, 0x200000), (76, 2, 0x8006)]
    let s := (engState 0 0x80 0 0 l).setFld (F.MCS_PUBMAP_PUB 0 0) 1
    s.power.pwrFail = false ∧ (s.job 2).st = .queued ∧ s.mcsHeld 0 0x80 = false ∧ s.descIs 2 { mcls := clsMaster 0, unit := 0, acts := [0] } 8 l ∧
      s.engineFor 0 = some 0 ∧ s.headOf 0 0 = some 2 ∧ s.custOn 0 = false ∧
      ((s.setFld (F.MCS_STATE_CUST_VALID 0) 1).setFld F.MCS_CTRL_CUST_EN 1).custOn 0 = true ∧
      (parseEng l).mbz l = true ∧ (parseEng l).hash < 6 ∧ hdrHreq l < 3 ∧ hdrSv l = false ∧ s.mcsPublic 0 0 = true ∧ bit (leAt l 76 2) 15 = true ∧
      s.canFill 0 (leAt l 76 2 % 2 ^ 14) = true ∧ s.locked = false ∧ s.lcs ≠ 4 := by
  unfold State.descIs State.gives; decide +kernel

/-- A staged load of a class, at its edge or before it. -/
def stagedAt (edge : Bool) (kind : Nat) : State := { State.reset with mcs := { staged := some { m := 0, kind := kind, edge := edge } } }

/-- A patch of class 0 without a body: its form is good, so its signature decides, which rests on Config.verify. -/
def patch0 : List Byte := record 192 [(0, 4, 0x444F434D), (4, 2, 1), (7, 1, 1), (18, 1, 3)]

theorem witness_MicrocodeLoads :
    (let s := (State.reset.setFld F.MCS_LOAD_LEN_LEN 191).setFld F.MCS_LOAD_ADDR_ADDR 64
     let s : State := { s with dike := allIn }
     s.running = true ∧ s.fld F.MCS_STATUS_BUSY = 0 ∧ (s.setFld F.MCS_STATUS_BUSY 1).fld F.MCS_STATUS_BUSY = 1 ∧
       s.gives { mcls := 12, unit := 0 } 4096 191 .read ∧ s.imageCheck1 191 (s.bytes 4096 191) = some (0x12, 0) ∧
       s.imageCheck1 192 patch0 = none ∧ s.hwCan 0 (mcsVerifiers patch0) = true ∧
       (s.setFld (F.ENG_ONLINE_ONLINE 0) 0).hwCan 0 (mcsVerifiers patch0) = false) ∧
    (State.reset.custWritable = false ∧ (State.reset.setFld F.PWR_BOOT_STATE 4).custWritable = true ∧
      (State.reset.setFld F.LCS_STATE_STATE 1).lcs = 1 ∧ State.reset.lcs = 0 ∧ State.reset.fld F.EPC_STATUS_STATE = 0) ∧
    ((stagedAt false 1).mcs.staged = some { m := 0, kind := 1 } ∧ (stagedAt false 1).mcs.verifying = none ∧ ((stagedAt false 1).setFld F.EPC_STATUS_STATE 1).counting = true ∧
      (∀ k ∈ [1, 2, 3], (stagedAt true k).loadClear { m := 0, kind := k, edge := true } = true) ∧
      ((stagedAt true 1).setJob 2 { st := .running }).loadClear { m := 0, kind := 1, edge := true } = false ∧
      (stagedAt true 1).power.pwrFail = false) ∧
    (31 < unitCount 0 ∧ effReact 24 (State.reset.react 24) < 3) := by
  unfold State.gives; decide +kernel

/-! ## Witnesses: the network -/

/-- An untagged IPv4 datagram for 10.0.0.1, port 4433, from 10.0.0.2, port 1000, with checksum `c` of its header. -/
def udpFrame (c : Nat) (data : List Byte) : List Byte :=
  beBytes 6 0x020000000001 ++ beBytes 6 0x020000000002 ++ beBytes 2 0x0800 ++
    ([(0x45 : Byte), 0] ++ beBytes 2 (28 + data.length) ++ beBytes 4 0 ++ [(64 : Byte), 17] ++ beBytes 2 c ++ beBytes 4 0x0A000002 ++ beBytes 4 0x0A000001) ++
    (beBytes 2 1000 ++ beBytes 2 4433 ++ beBytes 2 (8 + data.length) ++ beBytes 2 0) ++ data

/-- The checksum that makes the header of a datagram of `n` bytes good. -/
def udpSum (n : Nat) : Nat := 0xFFFF - fold16 3 (sum16 (((udpFrame 0 (List.replicate n 0)).drop 14).take 20))

def udp (data : List Byte) : List Byte := udpFrame (udpSum data.length) data

/-- The flow of those datagrams. -/
def flow1 : Flow := { port := 0, mac := 0x020000000002, src := 0x0A000002, dst := 0x0A000001, proto := 17, sport := 1000, dport := 4433 }

/-- A ClientHello of DTLS 1.3 that offers suite 0x1301, with extensions `x` beside the versions. -/
def hello (x : List Byte) : List Byte :=
  let ex := beBytes 2 43 ++ beBytes 2 3 ++ [(2 : Byte), 0xFE, 0xFC] ++ x
  let b := beBytes 2 0xFEFD ++ List.replicate 32 5 ++ [(0 : Byte), 0] ++ beBytes 2 2 ++ beBytes 2 0x1301 ++ [(1 : Byte), 0] ++ beBytes 2 ex.length ++ ex
  let h := [(1 : Byte)] ++ beBytes 3 b.length ++ beBytes 2 0 ++ beBytes 3 0 ++ beBytes 3 b.length ++ b
  [(22 : Byte)] ++ beBytes 2 0xFEFD ++ beBytes 2 0 ++ beBytes 6 0 ++ beBytes 2 h.length ++ h

/-- A cookie extension that holds a cookie. -/
def cookieExt (c : List Byte) : List Byte := beBytes 2 44 ++ beBytes 2 (c.length + 2) ++ beBytes 2 c.length ++ c

/-- Port 0 with its link, address 0 of polder 0 on it, a DTLS listener on port 4433, tokens for its source, keys for cookies and connection IDs. -/
def lsnState : State :=
  let s := ((((State.reset.setFld F.NET_STATUS_LINK 1).setFld (F.NET_ADDR_CFG_V 0) 1).setFld (F.NET_ADDR_PORTS_PORTS 0) 1).setFld (F.NET_ADDR_LO_ADDR 0)
    0x0A000001)
  let s := (((s.setFld (F.SES_LSN_A_V 0) 1).setFld (F.SES_LSN_A_L4PORT 0) 4433).setFld (F.SES_LSN_C_SUITES 0) 7).setFld (F.PLD_QUOTA_SES_LIMIT 0) 4
  { s with net := { s.net with tokens := [(0, 5)], cookieKey := [1], cidKey := [2] } }
/-- A ClientHello that returns a cookie of window 0 for suite 0x1301 whose MAC is the bytes of `g`. -/
def cookieOf (g : Nat → Byte) : List Byte := record 56 [(6, 2, 0x1301)] ++ (List.range 16).map g
def returned (g : Nat → Byte) : List Byte := hello (cookieExt (cookieOf g))



theorem returned_hello (g : Nat → Byte) : ∃ h, parseHello (returned g) = some h ∧ h.v13 = true ∧ h.ext 44 = some (beBytes 2 72 ++ cookieOf g) :=
  ⟨_, by cbv, by cbv, by cbv⟩

theorem returned_ip4 (g : Nat → Byte) (f : Flow) (s : State) :
    s.ip4In f ((udp (returned g)).drop 14) (udp (returned g)) =
      s.ipIn { f with v6 := false, src := 0x0A000002, dst := 0x0A000001, proto := 17 } 64 ((udp (returned g)).drop 34) (udp (returned g)) := by
  unfold State.ip4In
  rw [if_neg (by cbv), if_neg (by cbv)]
  have e1 : beAt ((udp (returned g)).drop 14) 12 4 = 0x0A000002 := by cbv
  have e2 : beAt ((udp (returned g)).drop 14) 16 4 = 0x0A000001 := by cbv
  have e3 : leAt ((udp (returned g)).drop 14) 9 1 = 17 := by cbv
  have e4 : leAt ((udp (returned g)).drop 14) 8 1 = 64 := by cbv
  have e5 : (((udp (returned g)).drop 14).take (beAt ((udp (returned g)).drop 14) 2 2)).drop 20 = (udp (returned g)).drop 34 := by cbv
  simp only [e1, e2, e3, e4, e5]

theorem returned_ip (g : Nat → Byte) (s : State) (hl : s.localAddr 0 none false 0x0A000001 = some 0) (hb : s.byFlow flow1 = none)
    (hn : (s.incFld F.SES_MISS_LOOKUP).listener 0 4433 [0] = some 0) (ht : (s.incFld F.SES_MISS_LOOKUP).rlFor false 0x0A000002 = 0)
    (h0 : (s.incFld F.SES_MISS_LOOKUP).tokens 0 ≠ 0) :
    s.ipIn { port := 0, mac := 0x020000000002, v6 := false, src := 0x0A000002, dst := 0x0A000001, proto := 17 } 64
        ((udp (returned g)).drop 34) (udp (returned g)) =
      (s.incFld F.SES_MISS_LOOKUP).dtlsHello 0 flow1 0 (returned g) := by
  have e1 : beAt ((udp (returned g)).drop 34) 0 2 = 1000 := by cbv
  have e2 : beAt ((udp (returned g)).drop 34) 2 2 = 4433 := by cbv
  have e3 : l4Ok flow1 ((udp (returned g)).drop 34) = true := by cbv
  have e5 : (((udp (returned g)).drop 34).take (beAt ((udp (returned g)).drop 34) 4 2)).drop 8 = returned g := by cbv
  have e6 : leAt (returned g) 0 1 / 32 ≠ 1 := by cbv
  have e7 : flow1 = { port := 0, vlan := none, v6 := false, mac := 0x020000000002, src := 0x0A000002, dst := 0x0A000001, proto := 17, sport := 1000, dport := 4433 } := rfl
  rw [e7] at e3 hb
  simp [State.ipIn, e1, e2, e3, hl, State.packetIn, e5, State.resolve, e6, hb, hn, ht, h0, e7]

theorem returned_frame (g : Nat → Byte) (s : State) :
    s.frameIn 0 true (udp (returned g)) = ((s.incFld (F.NET_PORT_STAT_FRAMES 0)).netKeys).ip4In { port := 0, mac := 0x020000000002 }
      ((udp (returned g)).drop 14) (udp (returned g)) := by
  have e1 : beAt (udp (returned g)) 12 2 = 0x0800 := by cbv
  have e2 : (udp (returned g)).length = 196 := by cbv
  have e3 : beAt (udp (returned g)) 6 6 = 0x020000000002 := by cbv
  simp [State.frameIn, e1, e2, e3]


/-- `lsnState` with the frame and the lookup counted. -/
def counted : State := ((lsnState.incFld (F.NET_PORT_STAT_FRAMES 0)).netKeys).incFld F.SES_MISS_LOOKUP

/-- The source's token spent, and session 0 made. -/
def madeSes : State := ((counted.createSes 0 flow1 0x1301).getD (0, counted)).2

theorem counted_cookie (g : Nat → Byte) (h : cookieMac [1] (record 56 [(6, 2, 0x1301)]) flow1 0 = (List.range 16).map g) :
    counted.cookieOk (cookieOf g) flow1 0 = true := by
  have e1 : (cookieOf g).length = 72 := by cbv
  have e2 : counted.cookieKeyFor (leAt (cookieOf g) 0 4) = some [1] := by
    have : leAt (cookieOf g) 0 4 = 0 := by cbv
    rw [this]; decide +kernel
  have e3 : (cookieOf g).drop 56 = (List.range 16).map g := by cbv
  have e4 : (cookieOf g).take 56 = record 56 [(6, 2, 0x1301)] := by cbv
  simp only [State.cookieOk, e1, e2, e3, e4, h]; simp

theorem counted_create : counted.createSes 0 flow1 0x1301 = some (0, madeSes) := by
  have h : (counted.createSes 0 flow1 0x1301).map (·.1) = some 0 := by decide +kernel
  unfold madeSes
  cases hc : counted.createSes 0 flow1 0x1301 with
  | none => rw [hc] at h; cases h
  | some p => rw [hc] at h; cases p; simp at h; subst h; rfl

theorem returned_makes (g : Nat → Byte) (h : cookieMac [1] (record 56 [(6, 2, 0x1301)]) flow1 0 = (List.range 16).map g) :
    lsnState.frameIn 0 true (udp (returned g)) = (madeSes.setTokens 0 (madeSes.tokens 0 - 1)).incFld F.SES_ERR_NOPROG := by
  obtain ⟨x, h1, h2, h3⟩ := returned_hello g
  rw [returned_frame, returned_ip4, returned_ip _ _ (by decide +kernel) (by decide +kernel) (by decide +kernel) (by decide +kernel) (by decide +kernel)]
  show counted.dtlsHello 0 flow1 0 (returned g) = _
  have e0 : (beBytes 2 72 ++ cookieOf g).drop 2 = cookieOf g := by cbv
  have e5 : leAt (cookieOf g) 6 2 = 0x1301 := by cbv
  simp only [State.dtlsHello, h1, h2, h3, e0, counted_cookie g h, e5, counted_create]
  have e6 : ((madeSes.setTokens 0 (madeSes.tokens 0 - 1)).ses 0).st ≠ 0 := by decide +kernel
  have e7 : ((madeSes.setTokens 0 (madeSes.tokens 0 - 1)).prog ((madeSes.setTokens 0 (madeSes.tokens 0 - 1)).ses 0).polder
    ((madeSes.setTokens 0 (madeSes.tokens 0 - 1)).fld (F.SES_LSN_A_PROG ((madeSes.setTokens 0 (madeSes.tokens 0 - 1)).ses 0).listener))).loaded = false := by decide +kernel
  simp [State.addItem, e6, e7]

/-- The bytes of the MAC that the endpoint computes for that cookie. -/
def macOf (j : Nat) : Byte := (cookieMac [1] (record 56 [(6, 2, 0x1301)]) flow1 0).getD j 0

theorem macOf_is : cookieMac [1] (record 56 [(6, 2, 0x1301)]) flow1 0 = (List.range 16).map macOf := by
  have h : (cookieMac [1] (record 56 [(6, 2, 0x1301)]) flow1 0).length = 16 := by unfold cookieMac fitLen; simp; omega
  have e : ∀ l : List Byte, l.length = 16 → l = (List.range 16).map (fun j => l.getD j 0) := fun l hl =>
    List.ext_getElem (by simp [hl]) (fun i h1 h2 => by simp [h1])
  exact e _ h

theorem witness_ContextsNeedACookie :
    ∃ t, lsnState.running = true ∧ exec (.frameReceive 0 true (udp (returned macOf))) lsnState = .next t ∧ (lsnState.ses 0).st = 0 ∧ (t.ses 0).st ≠ 0 := by
  have h1 : lsnState.running = true := by decide +kernel
  have h2 : bit (lsnState.fld F.NET_STATUS_LINK) (0 : Fin 32).val = true := by decide +kernel
  refine ⟨((madeSes.setTokens 0 (madeSes.tokens 0 - 1)).incFld F.SES_ERR_NOPROG).settle.repin, h1, ?_, by decide +kernel, by decide +kernel⟩
  show execFrameReceive 0 true (udp (returned macOf)) lsnState = _
  unfold execFrameReceive State.live
  rw [if_pos h1]
  dsimp only
  rw [if_pos h2, show ((0 : Fin 32) : Nat) = 0 from rfl, returned_makes macOf macOf_is]

/-- An untagged frame of a type, padded to 60 bytes. -/
def eth (ty : Nat) (l : List Byte) : List Byte := fitLen (max 60 (14 + l.length)) (beBytes 12 0x020000000001020000000002 ++ beBytes 2 ty ++ l)

/-- A tagged frame for VLAN 7. -/
def ethTag (ty : Nat) : List Byte := fitLen 60 (beBytes 12 0x020000000001020000000002 ++ beBytes 2 0x8100 ++ beBytes 2 7 ++ beBytes 2 ty)

/-- An ARP request for 10.0.0.1, and one for another address. -/
def arp (a : Nat) : List Byte :=
  eth 0x0806 (beBytes 2 1 ++ beBytes 2 0x0800 ++ [(6 : Byte), 4] ++ beBytes 2 1 ++ beBytes 6 0x020000000002 ++ beBytes 4 0x0A000002 ++ beBytes 6 0 ++ beBytes 4 a)

/-- An IPv4 header that is a fragment, with its checksum. -/
def fragment : List Byte :=
  let h := fun (c : Nat) => [(0x45 : Byte), 0] ++ beBytes 2 20 ++ beBytes 2 0 ++ beBytes 2 0x2000 ++ [(64 : Byte), 17] ++ beBytes 2 c ++ beBytes 8 0
  eth 0x0800 (h (0xFFFF - fold16 3 (sum16 (h 0))))

/-- An IPv6 header with a next header. -/
def ip6 (nh : Byte) : List Byte := eth 0x86DD ([(0x60 : Byte), 0, 0, 0, 0, 0, nh, 64] ++ List.replicate 32 0)

/-- A frame's fields as FramesAreChecked reads them: its length with the FCS, TYPE, and the packet. -/
def frameIs (l : List Byte) (ty : Nat) (p : List Byte → Prop) : Prop :=
  64 ≤ l.length + 4 ∧ l.length + 4 ≤ 9216 ∧ beAt l 12 2 ≠ 0x8100 ∧ beAt l 12 2 = ty ∧ p (l.drop 14)

theorem witness_FramesAreChecked :
    (lsnState.running = true ∧ bit (lsnState.fld F.NET_STATUS_LINK) 0 = true ∧ bit (lsnState.fld F.NET_STATUS_LINK) 1 = false ∧
      (List.replicate 59 (0 : Byte)).length + 4 < 64 ∧ 9216 < (List.replicate 9213 (0 : Byte)).length + 4) ∧
    (frameIs (eth 0x8808 []) 0x8808 (fun _ => True) ∧ frameIs (eth 0x0842 []) 0x0842 (fun _ => True) ∧
      beAt (ethTag 0x0800) 12 2 = 0x8100 ∧ beAt (ethTag 0x0800) 16 2 = 0x0800 ∧ lsnState.vlanOk 0 7 = false) ∧
    (frameIs (eth 0x0800 []) 0x0800 (fun b => leAt b 0 1 ≠ 0x45) ∧
      frameIs fragment 0x0800 (fun b => leAt b 0 1 = 0x45 ∧ 20 ≤ beAt b 2 2 ∧ beAt b 2 2 ≤ b.length ∧ fold16 3 (sum16 (b.take 20)) = 0xFFFF ∧
        beAt b 6 2 % 2 ^ 14 ≠ 0)) ∧
    (frameIs (ip6 44) 0x86DD (fun b => leAt b 0 1 / 16 = 6 ∧ 40 + beAt b 4 2 ≤ b.length ∧ leAt b 6 1 = 44) ∧
      frameIs (ip6 60) 0x86DD (fun b => leAt b 0 1 / 16 = 6 ∧ 40 + beAt b 4 2 ≤ b.length ∧ leAt b 6 1 ≠ 44 ∧ extHeader (leAt b 6 1) = true)) ∧
    (frameIs (arp 0x0A000009) 0x0806 (fun b => lsnState.localAddr 0 none false (beAt b 24 4) = none) ∧
      frameIs (arp 0x0A000001) 0x0806 (fun b => lsnState.localAddr 0 none false (beAt b 24 4) ≠ none ∧ beAt b 0 2 = 1 ∧ beAt b 2 2 = 0x0800 ∧
        beAt b 6 2 = 1)) := by
  unfold frameIs; decide +kernel

/-- `lsnState` with the listener's program loaded. -/
def lsnProg : State := (lsnState.setProg 0 0 { loaded := true, code := [(0, 256)], entries := [(0, 0)] }).setFld (F.PLD_QUOTA_CIS_LIMIT 0) 16

/-- Session 3 of flow1, without keys: its records are in the clear. -/
def withSes : State := lsnProg.setSes 3 { st := 1, flow := flow1, listener := 0 }

/-- A record in the clear of 4 bytes. -/
def plainRecord : List Byte := [(23 : Byte), 0xFE, 0xFD, 0, 0, 0, 0, 0, 0, 0, 9, 0, 4, 1, 2, 3, 4]

/-- The returned ClientHello is brought to address 0. -/
theorem returned_brings (g : Nat → Byte) : lsnProg.Brings 0 (udp (returned g)) flow1 0 ((udp (returned g)).drop 34) := by
  refine ⟨by cbv, by cbv, by cbv, by cbv, by cbv, by cbv, by cbv, by cbv, by cbv, ?_, Or.inr rfl, ?_, by decide, by decide, by decide +kernel⟩
  · have e1 : beAt (udp (returned g)) 6 6 = 0x020000000002 := by cbv
    have e2 : beAt ((udp (returned g)).drop 14) 12 4 = 0x0A000002 := by cbv
    have e3 : beAt ((udp (returned g)).drop 14) 16 4 = 0x0A000001 := by cbv
    have e4 : leAt ((udp (returned g)).drop 14) 9 1 = 17 := by cbv
    have e5 : beAt ((udp (returned g)).drop 34) 0 2 = 1000 := by cbv
    have e6 : beAt ((udp (returned g)).drop 34) 2 2 = 4433 := by cbv
    simp only [e1, e2, e3, e4, e5, e6]
    rfl
  · cbv

theorem witness_datagrams :
    (lsnProg.running = true ∧ bit (lsnProg.fld F.NET_STATUS_LINK) 0 = true ∧ lsnProg.byFlow flow1 = none ∧ lsnProg.listener 0 flow1.dport [0] = some 0 ∧
      lsnProg.tokens (lsnProg.rlFor false flow1.src) ≠ 0 ∧ (lsnProg.setTokens 0 0).tokens 0 = 0 ∧ lsnProg.sesOf 0 < lsnProg.fld (F.PLD_QUOTA_SES_LIMIT 0) ∧
      (lsnProg.setFld (F.PLD_QUOTA_SES_LIMIT 0) 0).fld (F.PLD_QUOTA_SES_LIMIT 0) = 0 ∧ (lsnProg.prog 0 0).loaded = true ∧
      findFrom (fun i => decide ((lsnProg.ses i).st = 0)) lsnProg.sesMax 0 = some 0 ∧ (lsnProg.cellAlloc 0 3).isSome = true) ∧
    (lsnProg.Brings 0 (udp (hello [])) flow1 0 ((udp (hello [])).drop 34) ∧ leAt (hello []) 0 1 / 32 ≠ 1 ∧
      (parseHello (hello [])).any (fun h => h.v13 && decide (h.ext 44 = none) && decide (h.suites.find? (lsnProg.suiteOn 0) = some 0x1301)) = true) ∧
    ((parseHello (hello (cookieExt [1]))).any (fun h => h.v13 && decide (h.ext 44 = some [0, 1, 1])) = true ∧ counted.cookieOk [1] flow1 0 = false) ∧
    (lsnProg.Brings 0 (udp (returned macOf)) flow1 0 ((udp (returned macOf)).drop 34) ∧ counted.cookieOk (cookieOf macOf) flow1 0 = true ∧
      ∃ h, parseHello (returned macOf) = some h ∧ h.v13 = true ∧ h.ext 44 = some (beBytes 2 72 ++ cookieOf macOf)) ∧
    (withSes.Brings 0 (udp (plainRecord ++ List.replicate 15 0)) flow1 0 ((udp (plainRecord ++ List.replicate 15 0)).drop 34) ∧
      withSes.byFlow flow1 = some 3 ∧ (withSes.ses 3).st ≠ 0 ∧ withSes.dtlsRecord 3 plainRecord = (some (plainRecord, 13, 9), some [])) := by
  refine ⟨by decide +kernel, by unfold State.Brings; decide +kernel, by decide +kernel,
    ⟨returned_brings macOf, counted_cookie macOf macOf_is, returned_hello macOf⟩, by unfold State.Brings; decide +kernel, by decide +kernel⟩

/-- Session 3 with its timers due at tick 5 and one byte not acknowledged. -/
def timers (retx : Nat) : State :=
  let t : Tcp := { rtoAt := some 5, ackAt := some 5, persistAt := some 5, retx := retx, unacked := [1] }
  let s := withSes.setSes 3 { st := 1, flow := flow1, hsAt := some 5, idleAt := some 5, expiry := some 4, tcp := t }
  (s.setFld F.EPC_COUNT_COUNT 5).setFld F.EPC_STATUS_STATE 1

theorem witness_DatagramsAndSessionTimers :
    (lsnProg.Brings 0 (udp (hello [])) flow1 0 ((udp (hello [])).drop 34)) ∧
    (let s := timers 0
     s.running = true ∧ s.counting = true ∧ (s.ses 3).st = 1 ∧ (s.ses 3).hsAt = some 5 ∧ (s.ses 3).idleAt = some 5 ∧ (s.ses 3).expiry = some 4 ∧
       (s.ses 3).tcp.rtoAt = some 5 ∧ (s.ses 3).tcp.dead = false ∧ 5 ≤ s.tick ∧ (s.ses 3).tcp.retx < s.fld F.SES_TCP_MAXRETX ∧
       s.fld F.SES_TCP_MAXRETX ≤ ((timers 15).ses 3).tcp.retx ∧ lsnProg.counting = false) :=
  ⟨witness_datagrams.2.1.1, by decide +kernel⟩

/-- Task 0 on core 0 is the item in flight of session 3: a RECORD whose first action is of operation `op`. -/
def itemOf (op : Nat) : State :=
  let s := (inU {}).setTask 0 { state := .running, kind := .session 3 }
  let s := s.setSes 3 { st := 1, flow := flow1, cur := some { item := { kind := 2, data := plainRecord, rseq := 9, arrival := 2 }, cells := (0x4000, 3) } }
  s.put (0x4000 + 128) (leBytes 1 op)

theorem witness_NetworkRegistersAndItems :
    (let s := (State.reset.setFld (F.NET_PORT_CFG_EN 8) 1).setFld F.NET_STATUS_LINK 1
     s.running = true ∧ (speedWidths 5).contains 3 = true ∧ 16 % laneCount 3 = 0 ∧ s.portOverlap 16 8 = false ∧ 17 % laneCount 3 ≠ 0 ∧
       s.fld (F.NET_PORT_CFG_EN 8) = 1 ∧ bit (s.fld F.NET_STATUS_LINK) 0 = true ∧ bit (s.fld F.NET_STATUS_LINK) 1 = false ∧
       bit (s.fld F.FCL_STATUS_FAULT) 28 = false ∧ s.fcl.recs.length < 256 ∧ tsorted none s.net.rl = true) ∧
    (lsnState.net.cookieKey ≠ [] ∧ lsnState.net.cookieWin = lsnState.window ∧
      (let s := lsnState.setFld F.EPC_COUNT_COUNT (lsnState.fld F.SES_COOKIE_WINDOW)
       s.net.cookieWin + 1 = s.window)) ∧
    ((∀ e ∈ lsnState.net.ses, e.2.st = 0) ∧ (∃ e ∈ withSes.net.ses, e.2.st ≠ 0) ∧ lsnState.fld (F.NET_ADDR_CFG_V 0) = 1 ∧
      lsnState.fld (F.NET_ADDR_CFG_POLDER 0) = 0 ∧ lsnState.fld (F.NET_ADDR_CFG_V 1) = 0) ∧
    (∀ op ∈ [0, 7], let s := itemOf op
     s.RunsTask 0 0 {} ∧ (s.task 0).kind = .session 3 ∧ (∃ r, (s.ses 3).cur = some r ∧ r.item.kind = 2 ∧ r.item.rseq / 2 ^ 48 = (s.ses 3).rseq / 2 ^ 48 ∧
       leNat (s.bytes (r.cells.1 + 128) 1) = op ∧ leNat (s.bytes (r.cells.1 + 144) 1) = 0) ∧ (s.core 0).stepping = false ∧ (s.ses 3).proto = 0 ∧
       (s.ses 3).st ≠ 0) := by
  refine ⟨by decide +kernel, by decide +kernel, by decide +kernel, ?_⟩
  intro op h
  simp only [List.mem_cons, List.not_mem_nil, or_false] at h
  rcases h with rfl | rfl
  all_goals exact ⟨runsTask_of (by decide +kernel), by decide +kernel, ⟨_, rfl, by decide +kernel⟩, by decide +kernel⟩

/-- A session without limits due, and an item of a program that is not the supplied one. -/
theorem witness_quietItem : (∀ op ∈ [0, 7], (itemOf op).suppliedRun 0 3 {} = none ∧ (itemOf op).limitsDue 3 = itemOf op) ∧
    (withSes.ses 3).st = 1 ∧ withSes.dueAt (withSes.ses 3).hsAt = false ∧ withSes.dueAt (withSes.ses 3).idleAt = false ∧
      withSes.dueAt (withSes.ses 3).expiry = false := by decide +kernel

/-- Frames of the supplied parsers: a HEARTBEAT and a DATA frame of a known schema, one that runs past its record, one of no schema; APDUs in and out
of sequence. -/
theorem witness_SuppliedParsers :
    let x : Table := { desc := record 96 [(4, 1, 1), (5, 1, 4), (6, 1, 1), (8, 2, 263), (64, 1, 3), (72, 1, 4), (80, 1, 3), (88, 1, 2)] }
    let s : State := { State.reset with col := { tables := [(5, x)] } }
    let beat : List Byte := [(0x12 : Byte), 2, 7, 1, 0, 0, 0, 0, 0, 0, 2, 0]
    let data : List Byte := [(0x11 : Byte), 2, 7, 1, 0, 0, 0, 0, 1, 0, 2, 0, 5, 6]
    let r : IecRun := { s := s, x := { started := true, vr := 3 } }
    let i := iFrame 3 0 []
    (s.schemaTable 0 263 = some 5 ∧ (s.table 5).rowLen = 2 ∧ leAt beat 0 1 = 0x12 ∧ leAt beat 8 2 = 0 ∧ leAt beat 10 2 = 2 ∧
      leAt data 0 1 = 0x11 ∧ leAt data 8 2 = 1 ∧ leAt data 1 1 < 4 ∧ data.length = 12 + leAt data 8 2 * leAt data 10 2) ∧
    ((data.take 13).length < 14 ∧ s.schemaTable 0 264 = none ∧ 3 ≤ x.ncol ∧ ([3, 1] : List (Fin 10)) ≠ []) ∧
    (leAt i 2 1 % 2 = 0 ∧ bit (leAt i 4 1) 0 = false ∧ r.x.started = true ∧ leAt i 2 2 / 2 = r.x.vr ∧ leAt (iFrame 4 0 []) 2 2 / 2 ≠ r.x.vr) := by
  decide +kernel

/-! ## Witnesses: compression and the column store -/

/-- Every master may reach all of HBM and the CXL tier's first port. -/
def allCxl : Dike := { force := allIn.force ++ [(0x401010, 0x8026100000000000), (0x401018, 0xFF00FF)] }

/-- Job 2 of class ZE with a descriptor, over tables, HBM granules 16 to 31 and the CXL tier of port 0. -/
def zeState (opc : Nat) (l : List Byte) (tables : Tbl Table) : State :=
  let s := (((State.reset.setFld F.COL_HBM_BASE_BASE 16).setFld F.COL_HBM_LIMIT_LIMIT 32).setFld (F.COL_QUOTA_H_LIMIT 0) 100).setFld (F.COL_QUOTA_T_LIMIT 0) 8
  let s := (s.setFld (F.COL_QUOTA_X_LIMIT 0) 8).setFld (F.MEM_CXL_GIB 0) 1
  { s with
    dike := allCxl
    col := { tables := tables }
    jobs := { tab := [(2, { st := .queued, cls := 5, opc := opc, bytes := l, desc := 0x1000, granted := true })], queues := [(5, [2])] } }

/-- A table's descriptor: the three columns that every table has, with WINDOW, MIGRATE and RETAIN. -/
def tblDesc (w m r : Nat) : List Byte :=
  record 88 [(0, 4, 0x444C4254), (4, 1, 1), (5, 1, 3), (16, 8, w), (24, 8, m), (32, 8, r), (64, 1, 3), (72, 1, 4), (80, 1, 3)]

/-- A segment of one row, sealed, as its three column segments. -/
def cols1 : List (List Byte) :=
  [sealNumeric 0 3 0 0 1 5 5 (List.replicate 32 0) [(some [1], 1)], sealNumeric 1 4 0 0 1 5 5 (List.replicate 32 0) [(some [5], 1)],
   sealNumeric 2 3 0 0 1 5 5 (List.replicate 32 0) [(some [2], 1)]]

def anchors0 : List (List Byte) := List.replicate 3 (List.replicate 32 0)

/-- An open segment of window 0 with one row. -/
def seg0 : Seg := { num := 0, rows := 1, win := some 0, plain := [[0x2000000], [0x2200000], [0x2400000]], emin := 5, emax := 5 }

/-- A sealed segment. -/
def seg1 : Seg := { num := 0, st := .closedS, rows := 1, sealedAt := 0, enc := [([0x2000000], 300)] }

/-- Descriptors of the store's operations on table 5. -/
def zCreate : List Byte := record 128 [(16, 8, 0x100000), (24, 4, 88), (40, 8, 0x200000), (48, 4, 2)]
def zTab : List Byte := record 128 [(52, 2, 5)]
def zAppend : List Byte := record 128 [(16, 8, 0x100000), (24, 4, 24), (40, 8, 0x200000), (48, 4, 8), (52, 2, 5), (60, 4, 1)]
def zInfo : List Byte := record 128 [(40, 8, 0x200000), (48, 4, 4096), (52, 2, 5)]
def zImport : List Byte := record 128 [(16, 8, 0x100000), (24, 4, (cols1.map List.length).sum), (52, 2, 5)]
def zComp (n m cap : Nat) : List Byte := record 128 [(16, 8, 0x100000), (24, 4, n), (40, 8, 0x200000), (48, 4, cap), (54, 1, m)]

/-- The operations of the store with their descriptors. -/
def zeCases : List (Nat × List Byte) :=
  [(0x40, zCreate), (0x41, zTab), (0x42, zAppend), (0x43, zTab), (0x44, zInfo), (0x45, zInfo), (0x46, zImport), (0x47, zInfo)]

theorem witness_storeTurns : ∀ x ∈ zeCases, (zeState x.1 x.2 [(5, { desc := tblDesc 0 0 0 })]).StoreTurn 2 x.1 x.2 := by
  unfold State.StoreTurn State.ZeTurn State.descIs State.gives; decide +kernel

theorem witness_CompressionJobs :
    (let l := zComp 16777216 0 4096
     (zeState 1 l []).LaneTurn 2 1 0 l ∧ (zeState 1 l []).running = true ∧ flushOk 16777216 0 [] = true ∧
       (zeState 1 l []).gives { mcls := 7, unit := 0, acts := [0] } 0x100000 4096 .read) ∧
    (let l := zComp 0 0 4096
     let s := zeState 1 l []
     s.LaneTurn 2 1 0 l ∧ (dbsEncode false [] []).length ≤ 4096 ∧ dbsEncode false [] [] ≠ [] ∧
       s.gives { mcls := 7, unit := 0, acts := [0] } 0x200000 4096 .write ∧ 0 < (dbsEncode false [] []).length) ∧
    (let l := zComp 13 0 7
     let s := zeState 2 l []
     let u := s.put 0x100000 [7, 0, 0, 0, 5, 0, 0, 0xC0, 0x41, 0x84, 4, 0x1C, 8]
     s.LaneTurn 2 2 0 l ∧ (dbsDecode 2 true {} (s.bytes 0x100000 13) []).1 = .malformed ∧
       (dbsDecode 2 true {} (u.bytes 0x100000 13) []).2.length = 7) ∧
    (let l := zComp 16777217 0 0
     (zeState 2 l []).LaneTurn 2 2 0 l) ∧
    (let s := State.reset.setJob 2 { st := .running, cls := 5, engine := some 3 }
     s.jobOn 5 3 = some 2 ∧ effReact 10 (s.react 10) < 3 ∧ s.fld F.CMP_FAULT_V = 0) := by
  unfold State.LaneTurn State.ZeTurn State.descIs State.gives
  decide +kernel

theorem witness_storeClauses :
    (let s := (zeState 0x40 zCreate []).put 0x100000 (tblDesc 0 0 0)
     tblDescOk s 0 (s.bytes 0x100000 88) = true ∧ findFrom (fun k => !(s.table k).live) 4096 0 = some 0 ∧ s.tablesLive.length < 4096 ∧
       (s.tablesLive.filter (fun y => decide (y.2.polder = 0))).length < min 4096 (s.fld (F.COL_QUOTA_T_LIMIT 0)) ∧
       tblDescOk s 0 (s.bytes 0x100100 88) = false) ∧
    (let x : Table := { desc := tblDesc 0 0 0, segs := [seg0], next := 1, anchors := anchors0 }
     let s := (zeState 0x42 zAppend [(5, x)]).put 0x100000 (leBytes 8 0x110000 ++ leBytes 8 0x120000 ++ leBytes 8 0x130000)
     let a := s.bytes 0x100000 24
     s.tableNamed 0 (parseZe zAppend) = some 5 ∧ x.polder = 0 ∧ x.staged = false ∧ x.dropping = false ∧ x.full = false ∧ x.taking = some seg0 ∧
       x.seg 0 = some seg0 ∧ x.openSeg = some seg0 ∧ x.ncol = 3 ∧ (parseZe zAppend).count = 1 ∧ seg0.rows + 1 ≤ 65536 ∧
       (∀ c, c < 3 → x.ty c ≠ 12 ∧ x.ty c ≠ 13 ∧ leAt a (8 * c) 8 < 2 ^ 48 ∧ s.gives (scMaster 0) (leAt a (8 * c) 8) (natWidth (x.ty c)) .read ∧
         s.gives (scMaster 0) (seg0.plainAt x c 1) (natWidth (x.ty c)) .write ∧ seg0.plainAt x c 1 + natWidth (x.ty c) ≤ 0x23C0000000) ∧
       seg0.plainAt x 0 1 + natWidth (x.ty 0) ≤ seg0.plainAt x 1 1 ∧ seg0.plainAt x 1 1 + natWidth (x.ty 1) ≤ seg0.plainAt x 2 1) ∧
    (let x : Table := { desc := tblDesc 0 0 0, segs := [seg1], next := 1 }
     let s := zeState 0x45 zInfo [(5, x)]
     s.tableNamed 0 (parseZe zInfo) = some 5 ∧ x.openSeg = none ∧ x.seg 0 = some seg1 ∧ (seg1.enc.getD 0 ([], 0)).2 = 300 ∧
       s.gives (scMaster 0) 0x2000000 300 .read ∧ (segRecord x { seg1 with st := .dropped }).length ≤ 4096 ∧ 64 + x.desc.length ≤ 4096 ∧
       s.gives (scMaster 0) 0x200000 4096 .write) := by
  unfold State.gives; decide +kernel

theorem witness_importClause :
    let x : Table := { desc := tblDesc 0 0 0, anchors := anchors0 }
    let s := (zeState 0x46 zImport [(5, x)]).put 0x100000 cols1.flatten
    let a := s.bytes 0x100000 (parseZe zImport).aLen
    s.tableNamed 0 (parseZe zImport) = some 5 ∧ cutColumns x.ncol a = some cols1 ∧
      (∀ c, c < x.ncol → colValid (cols1.getD c []) c (x.ty c) = true) ∧ epochOk (cols1.getD 1 []) = true ∧
      (∀ y ∈ cols1, (parseCol y).seg = 0 ∧ (parseCol y).rows = (parseCol (cols1.headD [])).rows ∧
        (parseCol y).emin = (parseCol (cols1.headD [])).emin ∧ (parseCol y).emax = (parseCol (cols1.headD [])).emax) ∧
      (s.granAllocs false 0 (cols1.map (fun y => cdiv y.length granBytes))).any (fun p => decide (p.1 = [[0x2000000], [0x2200000], [0x2400000]])) = true ∧
      s.granHbm 0 + (cols1.map (fun y => cdiv y.length granBytes)).sum ≤ s.fld (F.COL_QUOTA_H_LIMIT 0) ∧
      (∀ b ∈ [0x2000000, 0x2200000, 0x2400000], s.gives (scMaster 0) b 1000 .write ∧ spaceOf s b = .hbm) ∧ (∀ y ∈ cols1, y.length ≤ 1000) ∧
      cutColumns x.ncol (s.bytes 0x100001 (parseZe zImport).aLen) = none := by
  unfold State.gives; decide +kernel

theorem witness_ColumnStoreJobsAndSegments :
    (∀ x ∈ zeCases, (zeState x.1 x.2 [(5, { desc := tblDesc 0 0 0 })]).StoreTurn 2 x.1 x.2) ∧
    (let x : Table := { desc := tblDesc 1000 0 0, segs := [seg0], next := 1, anchors := anchors0 }
     let s := ((zeState 1 [] [(5, x)]).setFld F.EPC_STATUS_STATE 1).setFld F.EPC_COUNT_COUNT 1000
     s.running = true ∧ (s.table 5).openSeg = some seg0 ∧ (0 + 1) * tblWindow x.desc ≤ s.tick ∧ ¬(1 + 1) * tblWindow x.desc ≤ s.tick ∧ seg0.closing = false ∧
       s.frozen 7 8 = false ∧ s.fld F.EPC_STATUS_STATE ≠ 0) ∧
    (let g := { seg0 with closing := true }
     let x : Table := { desc := tblDesc 0 0 0, segs := [g], next := 1, anchors := anchors0 }
     let s := zeState 1 [] [(5, x)]
     let cols := (List.range x.ncol).map (s.sealColumn x g)
     x.openSeg = some g ∧ g.hidden = [] ∧ g.sealWait = false ∧
       (s.granAllocs false 0 (cols.map (fun y => cdiv y.length granBytes))).any (fun p => decide (p.1 = [[0x2000000], [0x2200000], [0x2400000]])) = true ∧
       ((s.setFld F.COL_HBM_LIMIT_LIMIT 16).granAllocs false 0 (cols.map (fun y => cdiv y.length granBytes))).isNone = true ∧
       s.readers 5 0 = [] ∧ s.lostBlocks x g = [] ∧ (∀ y ∈ cols, y.length ≤ 1000) ∧
       (∀ b ∈ [0x2000000, 0x2200000, 0x2400000], s.gives (scMaster 0) b 1000 .write ∧ spaceOf s b = .hbm)) ∧
    (let x : Table := { desc := tblDesc 0 10 10, segs := [seg1], next := 1 }
     let s := (zeState 1 [] [(5, x)]).setFld F.EPC_COUNT_COUNT 10
     (s.table 5).seg 0 = some seg1 ∧ tblMigrate x.desc ≠ 0 ∧ seg1.sealedAt + tblMigrate x.desc ≤ s.tick ∧ tblRetain x.desc ≠ 0 ∧
       seg1.sealedAt + tblRetain x.desc ≤ s.tick ∧ (s.granAllocs true 0 [1]).any (fun p => decide (p.1 = [[0x100000000000]])) = true ∧
       s.granCxl 0 + 1 ≤ s.fld (F.COL_QUOTA_X_LIMIT 0) ∧ ((s.setFld (F.MEM_CXL_GIB 0) 0).granAllocs true 0 [1]).isNone = true ∧
       s.gives (scMaster 0) 0x2000000 300 .read ∧ s.gives (scMaster 0) 0x100000000000 300 .write ∧ spaceOf s 0x100000000000 = .cxl ∧
       ¬seg1.sealedAt + 10 ≤ (zeState 1 [] [(5, x)]).tick) ∧
    (let x : Table := { desc := tblDesc 0 0 0, segs := [seg1], dropping := true, dropJob := some 2 }
     let s := (zeState 1 [] [(5, x)]).setJob 2 { st := .running }
     (∀ y ∈ x.segs, (y.st = .opened → y.closing = false) ∧ y.moving = false) ∧ s.opu.runs = [] ∧ (s.job 2).st = .running) := by
  unfold State.gives
  exact ⟨witness_storeTurns, by decide +kernel, by decide +kernel, by decide +kernel, by decide +kernel⟩

/-- Digests and lanes for a seal and an import, and without them; appends that come before a window's edge and not; jobs accepted after a drop's edge. -/
theorem witness_storeGuards :
    (let x : Table := { desc := tblDesc 1000 0 0, segs := [seg0], next := 1, anchors := anchors0 }
     let s := ((zeState 0x42 zAppend [(5, x)]).setFld F.EPC_STATUS_STATE 1).setFld F.EPC_COUNT_COUNT 1000
     let u := s.setJob 2 { (s.job 2) with since := 1000 }
     s.appendBefore 5 ((0 + 1) * tblWindow x.desc) = true ∧ u.appendBefore 5 ((0 + 1) * tblWindow x.desc) = false ∧ (s.job 2).since < (0 + 1) * tblWindow x.desc ∧
       s.hwDigest 0 = true ∧ (s.engineFor 5).isSome = true ∧ x.dbsCols = [] ∧
       (s.setFld F.DIG_CORE_ONLINE_ONLINE 0).hwDigest 0 = false) ∧
    (let x : Table := { desc := tblDesc 0 0 0, staged := true, stagedAt := 4 }
     let s := zeState 0x42 zAppend [(5, x)]
     x.late (s.job 2) = false ∧ x.late { (s.job 2) with since := 5 } = true ∧ x.dropping = false ∧ x.noref = false ∧ x.stagedAt < (s.setFld F.EPC_COUNT_COUNT 5).tick ∧
       ({ x with dropping := true } : Table).late (s.job 2) = false ∧ s.jobTable 2 = some 5) ∧
    (let g := { seg0 with closing := true, sealWait := true, granted := true }
     g.hidden = [] ∧ g.granted = true ∧ g.sealWait = true) := by decide +kernel

/-! ## Witnesses: operators -/

/-- A batch of one row (7, 100), of types u32 and u64. -/
def batch1 : Batch := denseBatch [3, 4] [[7, 100]]

/-- The batch lies in the Cistern; operator units run customer microcode; a table has one open segment of one row. -/
def opBase : State :=
  let s := ((State.reset.setFld (F.PLD_QUOTA_CIS_LIMIT 0) 64).setFld (F.MCS_STATE_CUST_VALID 4) 1).setFld F.MCS_CTRL_CUST_EN 1
  ({ s with dike := allIn, col := { tables := [(5, { desc := tblDesc 0 0 0, segs := [seg0] })] } }).put 0x200000000000 batch1.bytes

/-- An operator of a code at an index, with its inputs and parameter block; its entries are of 8,192 bytes. -/
def opOf (code idx in0 in1 : Nat) (params : List Byte) : OpDef :=
  { code := code, index := idx, bytes := record 32 [(0, 1, idx), (1, 1, in0), (2, 1, in1), (4, 1, 1), (5, 1, 1)], params := params }

/-- Worker 192 holds task 5, the task of operator 1 in run 2, whose input is the batch in operator 0's queue; operator 2 is a build. -/
def opState (code in0 in1 : Nat) (params : List Byte) (item out : Nat) (x : OpRun) : State :=
  let build : OpRun := { types := some [3, 4], groups := [{ key := [7], row := [1] }] }
  { opBase with
    sched := { workers := [(192, { task := some 5 })], tasks := [(5, { state := .running, kind := .operator 2 1 item out })] }
    opu := { runs := [(2, { ops := [opOf 3 0 255 255 [], opOf code 1 in0 in1 params, opOf 4 2 255 255 (record 80 [(0, 1, 1), (1, 1, 1), (64, 1, 1)])],
                            sinkAddr := 0x300000, sinkCap := 4096,
                            st := [(0, { q := [{ addr := 0x200000000000, st := 3 }] }), (1, { x with q := [{ addr := 0x200000010000, st := 1 }] }),
                                   (2, build)] })] } }

/-- What the task of that state works with. -/
def opEnv (code in0 in1 : Nat) (params : List Byte) (item out : Nat) (x : OpRun) : OpEnv :=
  { w := 192, t := 5, e := 2, op := 1, item := item, out := out, o := opOf code 1 in0 in1 params, m := workerActs 192 0,
    ctrl := ctrlOfTask (opState code in0 in1 params item out x) 5 192 15 }

theorem batch1_read : parseBatch (opBase.bytes 0x200000000000 8192) = some batch1 := by decide +kernel

/-- The parameter block of a stateful operator with one key column: FLAGS, TCOL, VCOL, LIMIT, P0, P1 and P2. -/
def aggBlock (flags tcol vcol limit p0 p1 p2 : Nat) (more : List (Nat × Nat × Nat)) : List Byte :=
  record 80 ([(0, 1, 1), (3, 1, flags), (4, 4, 0xFFFFFF00), (9, 1, tcol), (10, 1, vcol), (12, 4, limit), (32, 8, p0), (40, 8, p1), (56, 8, p2),
    (64, 8, 2 ^ 64 - 1), (72, 8, 2 ^ 64 - 1)] ++ more)

/-- Parameter blocks of the operators in turn. -/
def pScan : List Byte := record 64 [(0, 2, 5), (3, 1, 1), (16, 8, 0xFFFFFFFFFFFFFF00), (24, 8, 2 ^ 64 - 1), (32, 8, 2 ^ 64 - 1), (40, 8, 2 ^ 64 - 1)]
def pFilter : List Byte := record 48 [(0, 1, 1), (24, 8, 7)]
def pProject : List Byte := record 32 [(0, 1, 1), (17, 1, 3), (19, 1, 0xFF)]
def pKey : List Byte := aggBlock 0 255 255 0 0 0 0 []
def pBuild : List Byte := aggBlock 1 255 255 0 0 0 0 [(1, 1, 1), (64, 1, 1)]
def pAsof : List Byte := aggBlock 0 1 255 0 (2 ^ 64 - 1) 0 0 []
def pWindow : List Byte := aggBlock 0 1 255 0 100 100 (2 ^ 64 - 1) []
def pPsad (limit : Nat) : List Byte := aggBlock 0 1 0 limit 100 0 0 [(28, 4, 1)]
def pMerge (cap : Nat) : List Byte := aggBlock 0 255 255 0 0 0 0 [(16, 8, 0x300000), (24, 4, cap)]
def pTopk : List Byte := aggBlock 0 255 255 1 0 0 0 []
def pRcpt (n : Nat) : List Byte := record 80 [(12, 4, n), (16, 8, 0x300000), (24, 4, 4096)]
def pEx : List Byte := record 64 [(4, 1, 2), (5, 1, 1), (6, 1, 1), (8, 4, 0xFFFFFF00), (16, 8, 0xFFFFFFFFFFFFFF01), (24, 8, 2 ^ 64 - 1), (32, 8, 10)]

/-- A stored group of the key 7, as GROUP, WINDOW and ASOF keep it. -/
def kept7 : OpRun := { groups := [{ key := [7], row := [50] }], types := some [3, 4], types1 := some [3, 4] }

/-- The operators that take a batch, by code, IN1, block, input entry and output entry. -/
def opCases : List (Nat × Nat × List Byte × Nat × Nat) :=
  [(2, 255, pFilter, 0, 0), (3, 255, pProject, 0, 0), (13, 255, [], 0, 255), (9, 255, pKey, 0, 0), (5, 2, pKey, 0, 0), (6, 2, pAsof, 0, 0),
   (16, 255, [], 0, 0), (15, 255, pRcpt 1, 0, 0), (4, 255, pBuild, 0, 255), (7, 255, pKey, 0, 0), (8, 255, pWindow, 0, 0), (14, 255, pPsad 2, 0, 0),
   (10, 255, pMerge 1, 0, 0), (11, 255, pTopk, 0, 0)]

theorem witness_opTurns : ∀ x ∈ opCases,
    (opState x.1 0 x.2.1 x.2.2.1 x.2.2.2.1 x.2.2.2.2 kept7).OpTurn 192 x.1 (opEnv x.1 0 x.2.1 x.2.2.1 x.2.2.2.1 x.2.2.2.2 kept7) := by
  unfold State.OpTurn; decide +kernel

theorem batch1_clean : opBase.poisoned 0x200000000000 batch1.bytes.length = none := by decide +kernel

theorem bytes_of_mem {s u : State} (hm : s.mem = u.mem) (hf : s.free = u.free) (hk : s.power.cxlKeys = u.power.cxlKeys) : ∀ n a, s.bytes a n = u.bytes a n := by
  intro n
  induction n with
  | zero => intro a; rfl
  | succ n ih => intro a; simp only [State.bytes, State.byte, hm, hf, hk, ih]

/-- A state with `opBase`'s memory, whose task's input entry is operator 0's, reads `batch1` there. -/
theorem reads_batch1 (s : State) (v : OpEnv) (hm : s.mem = opBase.mem) (hf : s.free = opBase.free) (hp : s.poison = opBase.poison)
    (hk : s.power.cxlKeys = opBase.power.cxlKeys) (h1 : v.o.ins ≠ [])
    (h2 : v.producer = 0) (h3 : v.op = 1) (h4 : opAt (s.run v.e).ops 0 = some (opOf 3 0 255 255 []))
    (h5 : (s.entryAt v.e 0 (v.item % 256)).addr = 0x200000000000) : s.InputIs v batch1 := by
  refine ⟨h1, by rw [h2, h3]; decide, _, by rw [h2]; exact h4, ?_, ?_⟩
  · rw [h2, h5, show (opOf 3 0 255 255 []).qentry = 8192 by decide +kernel, bytes_of_mem hm hf hk]
    exact batch1_read
  · rw [h2, h5, show s.poisoned 0x200000000000 batch1.bytes.length = opBase.poisoned 0x200000000000 batch1.bytes.length by simp only [State.poisoned, hp]]
    exact batch1_clean

/-- In every such state the input is `batch1`. -/
theorem witness_input (code in0 in1 : Nat) (params : List Byte) (item out : Nat) (x : OpRun)
    (h : (in0, in1, item) = (0, 255, 0) ∨ (in0, in1, item) = (0, 2, 0) ∨ (in0, in1, item) = (2, 0, 256)) :
    (opState code in0 in1 params item out x).InputIs (opEnv code in0 in1 params item out x) batch1 := by
  have e : ∀ i ∈ [0, 2, 255], ∀ j ∈ [0, 2, 255], (opOf code 1 i j params).in0 = i ∧ (opOf code 1 i j params).in1 = j := by
    have h : ∀ i ∈ [0, 2, 255], ∀ j ∈ [0, 2, 255], leAt (opOf 0 1 i j []).bytes 1 1 = i ∧ leAt (opOf 0 1 i j []).bytes 2 1 = j := by decide +kernel
    exact h
  rcases h with h | h | h
  all_goals
    obtain ⟨rfl, rfl, rfl⟩ : in0 = _ ∧ in1 = _ ∧ item = _ := by simpa using h
    apply reads_batch1
    · unfold opState; rfl
    · unfold opState; rfl
    · unfold opState; rfl
    · unfold opState; rfl
    · show [_, _].filter _ ≠ []
      simp [opEnv, e]
    · simp [OpEnv.producer, opEnv, e]
    · rfl
    · simp [opEnv, State.run, opState, tget, opAt, opOf]
    · simp [opEnv, State.entryAt, State.opRun, Run.op, State.run, opState, tget]

theorem witness_inputs : ∀ x ∈ opCases,
    (opState x.1 0 x.2.1 x.2.2.1 x.2.2.2.1 x.2.2.2.2 kept7).InputIs (opEnv x.1 0 x.2.1 x.2.2.1 x.2.2.2.1 x.2.2.2.2 kept7) batch1 := by
  have h : ∀ x ∈ opCases, (x.2.1 = 255 ∨ x.2.1 = 2) ∧ x.2.2.2.1 = 0 := by decide
  intro x hx
  obtain ⟨h1, h2⟩ := h x hx
  rw [h2]
  exact witness_input _ _ _ _ _ _ _ (by simpa using h1)

theorem witness_OperatorsPassRows :
    (∀ x ∈ opCases, (opState x.1 0 x.2.1 x.2.2.1 x.2.2.2.1 x.2.2.2.2 kept7).OpTurn 192 x.1 (opEnv x.1 0 x.2.1 x.2.2.1 x.2.2.2.1 x.2.2.2.2 kept7)) ∧
    (∀ x ∈ opCases, (opState x.1 0 x.2.1 x.2.2.1 x.2.2.2.1 x.2.2.2.2 kept7).InputIs (opEnv x.1 0 x.2.1 x.2.2.1 x.2.2.2.1 x.2.2.2.2 kept7) batch1) ∧
    (let s := opState 1 255 255 pScan 0 0 {}
     let v := opEnv 1 255 255 pScan 0 0 {}
     s.OpTurn 192 1 v ∧ v.o.ins = [] ∧ (s.table 5).seg 0 = some seg0 ∧ seg0.enc = [] ∧ (parseScan pScan).dense = false ∧ (parseScan pScan).out = [0] ∧
       (s.table 5).ty 0 ≠ 13 ∧ s.gives v.m (seg0.plainAt (s.table 5) 0 0) 4 .read) ∧
    (filterOk pFilter (some batch1.types) = true ∧ filterKeeps pFilter batch1 = [0] ∧ projOk pProject (some batch1.types) = true ∧ batch1.sel ≠ [] ∧
      (∀ c ∈ batch1.cols, c.ty ≠ 13)) ∧
    (let s := opState 13 0 255 [] 0 255 {}
     0 + batch1.toDense.bytes.length ≤ 4096 ∧ s.gives (workerActs 192 0) 0x300000 768 .write) ∧
    (let s := opState 17 255 255 [5, 0] 0 255 {}
     s.OpTurn 192 17 (opEnv 17 255 255 [5, 0] 0 255 {}) ∧ s.taskJobs 5 = [] ∧ s.freeEntry = some 0) ∧
    (let s := opState 9 0 255 pKey 0 0 {}
     aggTypesOk 9 pKey batch1.types = true ∧ s.OutFits (opEnv 9 0 255 pKey 0 0 {}) batch1) ∧
    (let s := opState 5 0 2 pKey 0 0 {}
     let build := s.opRun 2 2
     aggTypesOk 5 pKey batch1.types = true ∧ (opAt (s.run 2).ops 2).isSome = true ∧ build.spilled = 0 ∧ build.types = some [3, 4]) ∧
    (let s := opState 6 0 2 pAsof 0 0 kept7
     aggTypesOk 6 pAsof batch1.types = true ∧ asofFits (parseAgg pAsof) (some batch1.types) (some [3, 4]) = true ∧
       (asofMatch 4 (2 ^ 64 - 1) 100 (s.opRun 2 1).groups).isSome = true) ∧
    (let s := opState 16 0 255 [] 0 0 {}
     s.mcs.seqs = [] ∧ s.mcsHeld 4 0x80 = false ∧ s.mcsRuns 4 128 = true ∧ s.udoReady = true ∧ cisSliceOf 0x200000000000 = 0) ∧
    ((parseRcpt (pRcpt 1)).rlim = 1 ∧ (parseRcpt (pRcpt 0)).rlim < 0 + batch1.sel.length ∧
      (opState 15 0 255 (pRcpt 1) 0 0 {}).gives (workerActs 192 0) 0x300000 12 .write) ∧
    (let s := opState 12 0 255 pEx 0 0 {}
     let v := opEnv 12 0 255 pEx 0 0 {}
     s.opTask 192 12 = some v ∧ s.InputIs v batch1 ∧ (parseEx pEx).n = 2 ∧ (parseEx pEx).self = 1 ∧ (parseEx pEx).peers = [1] ∧
       batch1.rowList.filter (fun r => decide ((hashOf batch1.types (parseEx pEx).key (keyOf batch1.types (parseEx pEx).key r) % 2 ^ 32) * 2 / 2 ^ 32 = 1)) =
         [[7, 100]] ∧ s.OutFits v batch1) ∧
    (let s := (opState 12 0 255 pEx 0 0 { inEndedAt := some 0 }).setFld F.EPC_COUNT_COUNT 10
     s.runLive 2 = true ∧ (s.opRun 2 1).emitted = false ∧ 0 + (parseEx pEx).timeout ≤ s.tick ∧ (s.opRun 2 1).peersEnded = []) := by
  refine ⟨witness_opTurns, witness_inputs, by unfold State.OpTurn State.gives; decide +kernel, by decide +kernel,
    by unfold State.gives; decide +kernel, by unfold State.OpTurn; decide +kernel, by unfold State.OutFits; decide +kernel, by decide +kernel, by decide +kernel,
    by decide +kernel, by unfold State.gives; decide +kernel,
    ⟨by decide +kernel, witness_input 12 0 255 pEx 0 0 {} (by simp), by unfold State.OutFits; decide +kernel⟩, by decide +kernel⟩

theorem witness_collectClauses :
    ((parseAgg pBuild).flags = 1 ∧ aggTypesOk 4 pBuild batch1.types = true ∧
      (let s := opState 4 0 255 pBuild 0 255 {}
       let g : Grp := { key := [7], hash := hashOf [3, 4] [0] [7], row := [100] }
       (s.growAll (opEnv 4 0 255 pBuild 0 255 {}) [g] 0 (buildSize [3, 4] (parseAgg pBuild))).isSome = true)) ∧
    (let s := opState 7 0 255 pKey 0 0 {}
     let h := hashOf [3, 4] [0] [7]
     aggTypesOk 7 pKey batch1.types = true ∧ batch1.rowList = [[7, 100]] ∧
       (s.growTable 0 2 1 (bits h 63 60) ((residentIn [] 0 (bits h 63 60) + 1) * groupSize [3, 4] (parseAgg pKey) false)).isSome = true ∧
       ((opState 7 0 255 pKey 0 0 kept7).opRun 2 1).groups.any (fun g => decide (g.key = [7]) && decide (g.win = 0)) = true) ∧
    (let s := opState 8 0 255 pWindow 0 0 { closedTo := 2 }
     aggTypesOk 8 pWindow batch1.types = true ∧ windowsOf (parseAgg pWindow) 100 = [1] ∧ s.windowsDue (parseAgg pWindow) = 0 ∧
       1 < max (s.opRun 2 1).closedTo (s.windowsDue (parseAgg pWindow))) ∧
    (aggTypesOk 14 (pPsad 2) batch1.types = true ∧ (parseAgg (pPsad 2)).pay = [] ∧ ((100 : Int) - 0).fdiv 100 = 1 ∧ (parseAgg (pPsad 2)).limit = 2 ∧
      0 < (parseAgg (pPsad 2)).aux ∧ (parseAgg (pPsad 1)).limit = 1) ∧
    (let s := opState 6 2 0 pAsof 256 0 kept7
     s.OpTurn 192 6 (opEnv 6 2 0 pAsof 256 0 kept7) ∧ s.InputIs (opEnv 6 2 0 pAsof 256 0 kept7) batch1 ∧ (s.opRun 2 1).types1 = some batch1.types ∧
       asofFits (parseAgg pAsof) (s.opRun 2 1).types (some batch1.types) = true ∧
       (s.growAll (opEnv 6 2 0 pAsof 256 0 kept7) [{ key := [7], row := [50] }, { key := [7], row := [100] }] 0 (refSize [3, 4] 1)).isSome = true) ∧
    (aggTypesOk 10 (pMerge 1) batch1.types = true ∧ 2 * (0 + (rowBytes [3, 4] [7, 100]).length) ≤ (parseAgg (pMerge 1)).cap ∧
      (parseAgg (pMerge 0)).cap < 2 * (0 + (rowBytes [3, 4] [7, 100]).length) ∧
      (opState 10 0 255 (pMerge 1) 0 0 {}).gives (workerActs 192 0) 0x300000 12 .write ∧ aggTypesOk 11 pTopk batch1.types = true) := by
  refine ⟨by decide +kernel, by decide +kernel, by decide +kernel, by decide +kernel,
    ⟨by unfold State.OpTurn; decide +kernel, witness_input 6 2 0 pAsof 256 0 kept7 (by simp), by decide +kernel⟩,
    by unfold State.gives; decide +kernel⟩

theorem witness_OperatorsCollectAndEnd :
    (∀ x ∈ opCases, (opState x.1 0 x.2.1 x.2.2.1 x.2.2.2.1 x.2.2.2.2 kept7).OpTurn 192 x.1 (opEnv x.1 0 x.2.1 x.2.2.1 x.2.2.2.1 x.2.2.2.2 kept7)) ∧
    (∀ x ∈ opCases, (opState x.1 0 x.2.1 x.2.2.1 x.2.2.2.1 x.2.2.2.2 kept7).InputIs (opEnv x.1 0 x.2.1 x.2.2.1 x.2.2.2.1 x.2.2.2.2 kept7) batch1) ∧
    (let s := (opState 7 255 255 pKey 0 0 { out := [[[7]], [[8]]], outTypes := [3], ended := true }).setRun 2
       { ops := [opOf 7 1 255 255 pKey], st := [(1, { q := [{ addr := 0x200000010000 }], out := [[[7]], [[8]]], outTypes := [3], ended := true })] }
     s.running = true ∧ s.runLive 2 = true ∧ (opAt (s.run 2).ops 1).isSome = true ∧ (s.opRun 2 1).emitted = false ∧ (s.opRun 2 1).freeEnt = some 0 ∧
       (denseBatch [3] [[7]]).bytes.length ≤ 8192) ∧
    (let s := opBase.setRun 2 { ops := [opOf 7 1 255 255 pKey], st := [(1, { ended := true })] }
     s.inputEnded 2 1 = true ∧ needsFinal 7 = true ∧ statsAddr (opOf 7 1 255 255 pKey) = 0 ∧ (s.opRun 2 1).out = []) ∧
    (let s := opBase.setRun 2 { ops := [opOf 11 1 255 255 pTopk], st := [(1, {})] }
     s.inputEnded 2 1 = true ∧ (s.opRun 2 1).rows = [] ∧ statsAddr (opOf 11 1 255 255 pTopk) = 0 ∧ s.runLive 2 = true) ∧
    (let p := aggBlock 0 1 255 0 100 100 0 []
     let s := ((opBase.setRun 2 { ops := [opOf 8 1 255 255 p], st := [(1, { types := some [3, 4] })] }).setFld F.EPC_COUNT_COUNT 100).setFld F.EPC_STATUS_STATE 1
     s.runLive 2 = true ∧ (s.opRun 2 1).closedTo < s.windowsDue (parseAgg p) ∧ opBase.windowsDue (parseAgg p) = 0 ∧
       s.partsFit 0 [] [] (groupSize [3, 4] (parseAgg p) true) = true) :=
  ⟨witness_opTurns, witness_inputs, by decide +kernel, by decide +kernel, by decide +kernel,
    by decide +kernel⟩

/-! ## Witnesses: pipelines -/

/-- Core 0 in U with a definition of an operator at the address in g1, and pipeline 1 of its program idle, or with run 2 under way. -/
def fOp : Frame := { (({} : Frame).setG 1 0x1000).setG 3 1 with xhnd := 4 }

def defBytes : List Byte := record 32 [(0, 1, 1), (4, 1, 1), (5, 1, 1), (8, 8, 0x2000), (16, 4, 64)]

def defining : State := { (inU fOp).put 0x1000 defBytes with dike := allIn }

def piped : State := { defining.setPipe 0 0 1 { running := some 2 } with opu := { runs := [(2, { ops := [opOf 13 1 0 255 []] })] } }

theorem witness_pipeTasks : defining.RunsTask 0 0 fOp ∧ piped.RunsTask 0 0 fOp := ⟨runsTask_of (by decide +kernel), runsTask_of (by decide +kernel)⟩

theorem witness_pipeInstructions :
    fOp.xhnd ≠ 0 ∧ fOp.xact = false ∧ (fOp.gr 1).toNat = 0x1000 ∧ (fOp.gr 0).toNat = 0 ∧ defining.bytes 0x1000 32 = defBytes ∧ defining.plainAt 0 0x1000 ∧
      defining.elementOk 0 .read 0x1000 32 ∧ opDefOk defBytes 1 = true ∧ opDefOk defBytes 0x11 = true ∧ leAt defBytes 16 4 = 64 ∧
      defining.elementOk 0 .read 0x2000 64 ∧ defining.elementOk 0 .read 0x1000 64 ∧ defining.elementOk 0 .write 0x1000 8 ∧ defining.halted 0 = false ∧
      defining.freeEntry = some 0 ∧ (defining.pipe 0 0 1).running = none ∧
      (piped.pipe 0 0 1).running = some 2 ∧ piped.elementOk 0 .read 0x1000 64 ∧ piped.elementOk 0 .write 0x1000 8 ∧ piped.freeEntry = some 0 ∧
      piped.halted 0 = false ∧ (defining.setFld (F.PLD_STATUS_STATE 0) 3).halted 0 = true ∧
      (piped.run 2).ops ≠ [] ∧ (piped.run 2).fail = none ∧ 0 ∉ piped.runTasks 2 ∧ graphOk [] = false ∧ hdrHreq defBytes < 3 := by
  unfold State.elementOk State.plainAt; decide +kernel

/-- A pipeline of a SCAN and a SINK that may run, with OP RUN's block at 0x1000. -/
theorem witness_runStarts :
    let ops := [{ opOf 1 0 255 255 pScan with bytes := record 32 [(1, 1, 255), (2, 1, 255), (4, 1, 1), (5, 1, 4)] }, opOf 13 1 0 255 []]
    let j := record 64 [(32, 8, 0x300000), (40, 4, 4096)]
    let s : State := { (opBase.put 0x1000 j).setPipe 0 0 1 { ops := ops } with jobs := {} }
    let needs := (List.range 16).map (sliceNeed ops)
    s.bytes 0x1000 64 = j ∧ hdrOk j = true ∧ hdrSv j = false ∧ hdrHreq j = 0 ∧ leAt j 32 8 < 2 ^ 48 ∧ zeroAt j 44 63 = true ∧ graphOk ops = true ∧
      (s.table 5).live = true ∧ (s.table 5).edgePast s.tick = false ∧ (∀ q ∈ ops, opParOk s ops q = true) ∧ entriesOk s ops = true ∧
      (∀ q ∈ ops, q.code ≠ 12 ∧ q.code ≠ 16) ∧ needs.sum ≤ s.fld (F.PLD_QUOTA_CIS_LIMIT 0) ∧ (∀ q ∈ needs, q ≤ cisSize s.cisMode 1) := by
  decide +kernel

theorem witness_PipelinesAndUnits_runs :
    (let s := opBase.setRun 2 { ops := [opOf 2 1 0 255 pFilter], waiting := true }
     (∀ r ∈ s.opu.runs, ∀ q ∈ r.2.ops, q.code ≠ 12 ∧ q.code ≠ 17) ∧ (s.run 2).ops ≠ [] ∧ (s.run 2).waiting = true ∧
       (s.takeQueues 2 ((s.run 2).ops.filter (fun q => hasBatches q.code))).isSome = true ∧
       (let u := s.setFld (F.PLD_QUOTA_CIS_LIMIT 0) 0
        u.takeQueues 2 ((u.run 2).ops.filter (fun q => hasBatches q.code)) = none)) ∧
    (let b : ScanBlk := { op := 1, table := 5, seg := 0, blk := 0 }
     let s := opBase.setRun 2 { ops := [opOf 1 1 255 255 pScan], blocks := [b], st := [(1, { q := [{ addr := 0x200000010000 }] })] }
     s.runLive 2 = true ∧ (opAt (s.run 2).ops 1).isSome = true ∧ (s.run 2).blocks.find? (fun y => decide (y.op = 1)) = some b ∧
       (s.opRun 2 1).freeEnt = some 0 ∧ s.sched.hwWait = [] ∧ s.freeSlotFor 0 true = some 0 ∧
       ((s.setOpRun 2 1 { q := [{ addr := 0x200000010000, st := 2 }] }).opRun 2 1).freeEnt = none) ∧
    (let g : OpRun := { q := [{ addr := 0x200000010000 }] }
     let h : OpRun := { q := [{ addr := 0x200000000000, st := 2 }], ready := [0] }
     let o := opOf 2 1 0 255 pFilter
     let s := opBase.setRun 2 { ops := [opOf 1 0 255 255 pScan, o], st := [(0, h), (1, g)] }
     let z := opOf 13 1 0 255 []
     let u := opBase.setRun 2 { ops := [opOf 1 0 255 255 pScan, z], st := [(0, h)] }
     s.runLive 2 = true ∧ o.ins ≠ [] ∧ s.nextInput 2 o = some (0, 0, 0) ∧ hasBatches 2 = true ∧ (s.opRun 2 1).freeEnt = some 0 ∧
       s.freeSlotFor 0 true = some 0 ∧ u.nextInput 2 z = some (0, 0, 0) ∧ hasBatches 13 = false) ∧
    (let s := opBase.setRun 2 { ops := [opOf 13 1 0 255 []], fail := some (5, 0) }
     (s.run 2).ops ≠ [] ∧ s.runTasks 2 = [] ∧ (s.pipe 0 0 0).queued = []) ∧
    (let s := opBase.setRun 2 { ops := [opOf 1 0 255 255 pScan, opOf 13 1 0 255 []] }
     s.runTasks 2 = [] ∧ s.runLive 2 = true ∧ (∀ q ∈ (s.run 2).ops, s.opDone 2 3 q.index = true) ∧ (s.pipe 0 0 0).queued = []) ∧
    (opState 13 0 255 [] 0 255 {}).runTasks 2 ≠ [] := by decide +kernel

/-- A partition mode staged, the edge passed, and a granule of part 0 or 40 of them in a slice. -/
def cisState (cur mode : Nat) (n : Nat) : State :=
  let s := ((State.reset.setFld F.OPU_CIS_STATUS_CUR cur).setFld F.OPU_CIS_STATUS_GEN_PENDING 1).setFld F.OPU_CIS_MODE_MODE mode
  { s with opu := { limits := some mode, cis := (List.range n).map (fun i => (0x200000000000 + i * 0x10000, { part := 0, polder := 0, run := 0 })) } }

theorem witness_PipelinesAndUnits_units :
    (let s := opState 2 0 255 pFilter 0 0 {}
     s.running = true ∧ s.unitWork 4 128 = some 5 ∧ s.holder 5 = some 192 ∧ s.bringsReset (10 + workerClass 192) = false ∧ s.fld F.OPU_FAULT_V = 0 ∧ (s.task 5).kind = .operator 2 1 0 0 ∧ (s.task 5).retried = false ∧
       effReact (10 + workerClass 192) (s.react (10 + workerClass 192)) < 3) ∧
    (let s := cisState 0 1 0
     s.fld F.OPU_CIS_STATUS_GEN_PENDING = 1 ∧ (s.setFld F.EPC_STATUS_STATE 1).counting = true ∧ s.opu.limits = some (s.fld F.OPU_CIS_MODE_MODE) ∧
       ∀ p < 3, cisSize 0 p ≤ cisSize 1 p ∨ ∀ k < 16, s.cisUsed p k ≤ cisSize 1 p) ∧
    (let s := cisState 0 1 65
     ∃ p < 3, cisSize 1 p < cisSize 0 p ∧ ∃ k < 16, cisSize 1 p < s.cisUsed p k) := by
  decide +kernel

/-! ## Witnesses: Dike -/

/-- Core 0 in U, with one region that opens HBM to every master. -/
def dikeState : State := { inU (({} : Frame).setG 1 0x1000) with dike := allIn }

theorem witness_AccessesNeedARegion :
    (dikeState.coreMaster 0).priv = false ∧ dikeState.dike1 (dikeState.coreMaster 0) 0x1000 .write false = .grant ∧
      (dikeState.coreMaster 0).priv = false ∧ dikeState.dike1 (dikeState.coreMaster 0) win .read false = .grant ∧
      (let s : State := dikeState.setProg 0 0 { loaded := true, code := [(0x8000, 256)], entries := [(0, 0)] }
       s.dike1 (s.coreMaster 0) 0x80FF .fetch false = .grant ∧ s.dike1 (s.coreMaster 0) 0x8100 .fetch false ≠ .grant ∧
         s.dike1 (s.coreMaster 0) 0x8000 .write false ≠ .grant) := by decide +kernel

theorem witness_RefusalsFreezeAndThaw :
    (let f := ({} : Frame).setG 1 0x1000
     let s := inU f
     s.RunsTask 0 0 f ∧ (s.task 0).state = .running ∧ (f.gr 1 + (0 : BitVec 12).signExtend 64).toNat = 0x1000 ∧ s.plainAt 0 0x1000 ∧
       s.dikeCheck (s.coreMaster 0) 0x1000 8 .read false = some (0x1000, 0x1007, 0, 0xFFFF) ∧ s.dike.notices = []) ∧
    (let f : Frame := { pc := 0x200, xhnd := 4 }
     let s := inU f
     s.running = true ∧ s.frame 0 = some f ∧ s.curTask 0 = some 0 ∧ (s.task 0).state = .running ∧ (s.core 0).stepping = false ∧
       spaceOf s 0x200 = .hbm ∧ inPieces (s.prog 0 0).code 0x200 = false ∧
       s.dikeCheck (s.coreMaster 0) 0x200 4 .fetch false = some (0x200, 0x203, 5, 0xFFFF) ∧ s.dike.notices = []) ∧
    (let f : Frame := { pc := 0xFC, xhnd := 4 }
     let s : State := { inU f with poison := [0xE0] }
     s.running = true ∧ s.frame 0 = some f ∧ s.dikeCheck (s.coreMaster 0) 0xFC 4 .fetch false = none ∧ s.poisoned 0xFC 4 = some 0xE0 ∧
       effReact (eccSource 0xE0) (s.react (eccSource 0xE0)) < 3 ∧ f.xhnd ≠ 0 ∧ f.xact = false) ∧
    (let frz := fun (s : State) (m u : Nat) => ({ s with dike := { s.dike with frozen := [(m, u, 0)] } } : State)
     let s := inU {}
     (frz s 0 0).running = true ∧ (frz s 0 0).frozen 0 0 = true ∧ (s.worker 0).task = some 0 ∧ (s.task 0).kind = .program ∧
       (frz (inP {}) 0 0).frozen 0 0 = true ∧ ((inP {}).worker 0).task = none ∧ (inP {}).frozen 0 1 = false ∧
       (let u := opState 2 0 255 pFilter 0 0 {}
        (frz u 8 128).frozen 8 128 = true ∧ (u.worker 192).task = some 5 ∧ (u.task 5).kind = .operator 2 1 0 0) ∧
       (let u := (frz s 2 0).setJob 3 { st := .frozen, cls := 0, engine := some 0 }
        u.frozen 2 0 = true ∧ clsMaster (u.job 3).cls = 2 ∧ 3 ∈ u.liveJobs) ∧
       (let u := frz (active eIn) 9 1
        u.frozen 9 1 = true ∧ (u.pq 1).inflight ≠ [])) ∧
    (let s := State.reset.setReg 0x401000 0x8026000000000000
     let b := State.reset.setReg 0x401000 0x8026000000001000
     s.applied = true ∧ s.stagedSet ≠ [] ∧ (¬ ∃ x ∈ s.stagedSet, x.1 % 16 = 0 ∧ badRegion x.2.toNat = true) ∧ s.fld F.EPC_STATUS_STATE = 0 ∧
       (s.setFld F.EPC_STATUS_STATE 1).applied = true ∧ (s.setFld F.EPC_STATUS_STATE 1).fld F.EPC_STATUS_STATE = 1 ∧
       b.applied = true ∧ (∃ x ∈ b.stagedSet, x.1 % 16 = 0 ∧ badRegion x.2.toNat = true) ∧
       (s.setFld F.DKE_GEN_STATUS_PENDING 1).applied = false) ∧
    ({ State.reset with dike := { State.reset.dike with committed := some [] } } : State).dike.committed = some [] :=
  ⟨⟨runsTask_of (by decide +kernel), by unfold State.plainAt; decide +kernel⟩, by decide +kernel, by decide +kernel, by decide +kernel,
    by decide +kernel, rfl⟩

/-- An instruction word that is none, and a thaw of an operator unit's master while a UDO runs. -/
theorem witness_illegalWordAndUdo :
    (let f : Frame := { xhnd := 4 }
     let s : State := (inU f).put 0 (leBytes 4 0xFC000000)
     s.running = true ∧ s.frame 0 = some f ∧ s.curTask 0 = some 0 ∧ (s.task 0).state = .running ∧ (s.core 0).stepping = false ∧
       s.dikeCheck (s.coreMaster 0) 0 4 .fetch false = none ∧ s.poisoned 0 4 = none ∧ decodeCore 0 (BitVec.ofNat 32 (s.load 0 4)) = none ∧
       f.xhnd ≠ 0 ∧ f.xact = false) ∧
    (let u := opState 16 0 255 [] 0 0 {}
     let q : Sqr := { work := 5, pc := 0x8000 }
     let s : State := { u with dike := { u.dike with frozen := [(8, 128, 0)] }, mcs := { u.mcs with seqs := [(1024 + 128, q)] } }
     s.running = true ∧ s.frozen 8 128 = true ∧ s.sqr 4 128 = some q ∧ q.rom = false ∧ (s.task q.work).kind = .operator 2 1 0 0) := by decide +kernel

/-! ## Witnesses: faults and the in-service test -/

/-- A group of faults is open. -/
def grouped (g : List (Nat × Nat)) : State := { State.reset with fcl := { group := g } }

theorem witness_FaultGroupsReact :
    (grouped []).running = true ∧ (grouped []).fcl.group = [] ∧
      (∀ x ∈ [(7, 0), (7, 1), (7, 2), (7, 4)], (grouped [x]).running = true ∧ ([x].map (fun x => effReact x.1 x.2)).foldl max 0 = x.2) ∧
      (let s := grouped [(7, 2)]
       ((s.pq 0).waiting.filter (fun r => !r.reserved)).length + s.fcl.groupRecs.length ≤ 64) ∧
      (let s := (grouped [(5, 3)]).setJob 3 { st := .running, cls := 0, engine := some 31 }
       s.running = true ∧ s.fcl.resets = [] ∧ 31 < engineCount 0 ∧ 3 ∈ s.liveJobs ∧ (s.job 3).engine = some 31 ∧ (s.job 3).slotBegun = false) ∧
      15 < engineCount (9 - 5) := by decide +kernel

theorem witness_FaultRegistersAndReturns :
    (let s := (State.reset.setFld F.FCL_STATUS_FAULT 2).setFld F.FCL_ERRN_EN_EN 2
     s.fld F.FCL_STATUS_FAULT &&& s.fld F.FCL_ERRN_EN_EN ≠ 0 ∧ State.reset.fld F.FCL_STATUS_FAULT &&& State.reset.fld F.FCL_ERRN_EN_EN = 0 ∧
       s.power.pwrFail = false) ∧
    (let s := State.reset.setFld F.MEM_STATUS_CXL_UP 8
     bit (s.fld F.MEM_STATUS_CXL_UP) 3 = true ∧ bit (s.fld F.MEM_STATUS_CXL_UP) 0 = false) ∧
    (∀ k ∈ [1, 4, 5, 6, 7, 8, 9, 10, 11, 12, 13], (let s : State := { State.reset with fcl := { resets := [(k, [3])] } }
      s.running = true ∧ s.inReset k 3 = true ∧ s.inReset k 2 = false)) ∧
    ({ State.reset with fcl := { resets := [(8, [32])] } } : State).inReset 8 32 = true := by decide +kernel

theorem witness_TestsAndTemperature :
    (let s := State.reset.setFld F.TST_CTRL_EN 1
     s.running = true ∧ s.fld F.TST_CTRL_EN = 1 ∧ (s.setFld F.TST_CTRL_EN 0).fld F.TST_CTRL_EN ≠ 1 ∧
       (∀ x ∈ [(0, 31), (1, 3), (2, 15), (3, 31), (4, 15), (5, 7), (6, 151), (8, 9), (9, 99), (9, 100), (10, 7)],
         x.2 ∈ itemUnits x.1 ∧ (x.1 = 10 ∨ s.itemOff x.1 x.2 = false) ∧ s.testIdle x.1 x.2 = true) ∧
       (s.setFld F.RNG_STATUS_HEALTHY 255).itemOff 10 7 = false ∧ s.fld (F.TST_BANK_RETIRED 15) = 0 ∧ s.fld (F.TST_BANK_SPARE 15) ≠ 3 ∧
       (let q := { s.setTesting 0 31 true with test := { running := [(0, 31)], passDone := [(0, List.range 31)] } }
        (0, 31) ∈ q.test.running ∧ ∀ x ∈ itemUnits 0, x = 31 ∨ x ∈ tget (fun _ => []) q.test.passDone 0)) ∧
    (let s := (((State.reset.setFld (F.ENG_ONLINE_ONLINE 1) 1).setTesting 1 0 true).setJobQueue 1 [3])
     s.test.running.contains (1, 0) = true ∧ s.jobQueue 1 ≠ [] ∧ s.engineFor 1 = none) ∧
    (let r := ((State.reset.setFld (F.TST_INTERVAL_TICKS 10) 5).setFld F.EPC_STATUS_STATE 1).setFld F.EPC_COUNT_COUNT 5
     let s : State := { r with epoch := { leftNoref := true } }
     s.fld (F.TST_INTERVAL_TICKS 10) ≠ 0 ∧ s.epoch.leftNoref = true ∧ s.counting = true ∧
       s.fld (F.TST_LAST_TICK 10) + s.fld (F.TST_INTERVAL_TICKS 10) ≤ s.tick ∧ bit (s.fld F.TST_OVERDUE_ITEM) 10 = false) ∧
    (let s := State.reset
     s.power.main = true ∧ s.running = true ∧ s.tempRange = (0, 1520) ∧ s.power.warm = false ∧ bit (s.fld F.FCL_STATUS_FAULT) 31 = false ∧
       s.power.pwrFail = false ∧ (s.setFld F.GLB_ID_GRADE 2).tempRange = (-640, 1680)) := by decide +kernel

/-- A temperature out of its range with the source latched before, one above the maximum by more than 10 °C, and the same in reset. -/
theorem witness_temperatures :
    (let s : State := { State.reset with power := { State.reset.power with warm := true } }
     s.power.main = true ∧ s.running = true ∧ s.power.warm = true ∧ s.tempRange.1 + 48 ≤ 400 ∧ (400 : Int) ≤ s.tempRange.2 - 48 ∧
       s.tempRange.2 < 1600 ∧ ¬s.tempRange.2 + 160 < (1600 : Int) ∧ s.tempRange.2 + 160 < 1700) ∧
    (let s : State := { State.reset with power := { State.reset.power with porst := false } }
     s.power.main = true ∧ s.running = false ∧ s.power.pwrFail = false ∧ s.power.warm = false) := by decide +kernel

/-! ## Witnesses: life cycle, debug and tamper -/

/-- A request of the integrator, with an empty signature. -/
def reqBytes (kind target slot alg : Nat) (key : List Byte) : List Byte :=
  record 64 [(0, 4, 0x5152434C), (4, 1, 1), (5, 1, kind), (6, 1, target), (7, 1, 1), (56, 2, slot), (58, 1, alg), (60, 4, key.length)] ++
    fitLen (alignUp key.length 8) key ++ record 8 [(0, 1, 2), (1, 1, 1)]

/-- INTEGRATOR, with the integrator's and the owner's keys, a nonce of zeros outstanding, and a request placed at 0x1000. -/
def lcState (l : List Byte) : State :=
  let s := (((((State.reset.setFld F.LCS_STATE_STATE 1).setFld F.LCS_STATUS_NONCE_V 1).setFld F.LCS_REQ_ADDR_ADDR 0x200).setFld F.LCS_REQ_LEN_LEN
    l.length).setKey 16381 { allocated := true, device := true, ty := 8, alg := 0x13, pub := [1] }).setKey 16380
    { allocated := true, device := true, ty := 8, alg := 0x13, pub := [2] }
  s.put 0x1000 l

/-- Everything of a request but its one signature, which decides. -/
def State.MaySign (s : State) (r : Req) (x : ReqSig) (pk : List Byte) : Prop :=
  r.ok = true ∧ ¬(r.kind = 0 ∨ r.kind > 3 ∨ (r.kind = 1 ∧ (codeState r.target).isNone) ∨ (r.kind = 2 ∧ r.kalg ≠ 0x13 ∧ r.kalg ≠ 0x80) ∨
    r.sigs.any (fun x => decide (x.salg ≠ 1) && decide (x.salg ≠ 2))) ∧ r.unit = s.ownUnit ∧ s.fld F.LCS_STATUS_NONCE_V ≠ 0 ∧ r.nonce = s.nonce ∧
    (s.reqSigners r).isSome = true ∧ sameSigners (r.sigs.map (·.signer)) ((s.reqSigners r).getD []) = true ∧
    ¬(r.kind = 1 ∧ (List.range 256).any (fun n => decide (n ≠ 0) && decide (s.fld (F.PLD_STATUS_STATE n) ≠ 0))) ∧ s.fld F.RNG_CTRL_TESTSRC ≠ 1 ∧
    s.power.pwrFail = false ∧ s.locked = false ∧ r.sigs = [x] ∧ s.signerKey x.signer x.salg = some pk ∧ pk ≠ [] ∧ x.salg = 1

/-- A request that passes the other checks is accepted where its signature verifies, and else refused for it. -/
theorem reqCheck_signed {s : State} {r : Req} {x : ReqSig} {pk : List Byte} (h : State.MaySign s r x pk) :
    s.reqCheck r = if s.signedBy x.signer x.salg r.body x.sig "PYRUDRIC-LCRQ-1" then none else some (0x07, 0) := by
  obtain ⟨h1, h2, h3, h4, h5, hw, hs, h6, h7, h8, h9, h10, h11, h12, h13⟩ := h
  obtain ⟨w, hw⟩ := Option.isSome_iff_exists.mp hw
  rw [hw] at hs
  unfold State.reqCheck
  rw [if_neg (by simp [h1]), if_neg h2, if_neg (by simp [h3]), if_neg (by simp [h4, h5])]
  simp only [hw]
  rw [if_neg (by simpa using hs), if_neg h6, if_neg h7, if_neg (by simp [h8]), if_neg (by simp [h9]), if_neg (by simp [h10, h11])]
  simp only [h10, List.all_cons, List.all_nil, Bool.and_true]
  cases s.signedBy x.signer x.salg r.body x.sig "PYRUDRIC-LCRQ-1" <;> rfl

theorem signedBy_of {s : State} {r : Req} {x : ReqSig} {pk : List Byte} (h : State.MaySign s r x pk)
    (hv : Config.verify 0x13 0 pk r.body ("PYRUDRIC-LCRQ-1".toList.map (fun c => BitVec.ofNat 8 c.toNat)) x.sig = true) :
    s.signedBy x.signer x.salg r.body x.sig "PYRUDRIC-LCRQ-1" = true := by
  obtain ⟨-, -, -, -, -, -, -, -, -, -, -, -, h11, h12, h13⟩ := h
  have hp : pk.isEmpty = false := by cases pk <;> simp_all
  unfold State.signedBy
  rw [h11]
  simp only [h13, hp]
  simpa using hv

/-- The requests that the witnesses place: their kind, target, slot, algorithm and key. -/
def reqCases : List (Nat × Nat × Nat × Nat × List Byte) := [(1, 7, 0, 0, []), (3, 0, 0, 0, []), (2, 0, 16380, 0x80, lmsPub)]

def reqOf (x : Nat × Nat × Nat × Nat × List Byte) : List Byte := reqBytes x.1 x.2.1 x.2.2.1 x.2.2.2.1 x.2.2.2.2

theorem witness_maySign : ∀ x ∈ reqCases, State.MaySign (lcState (reqOf x)) (parseReq (reqOf x)) { signer := 2, salg := 1, sig := [] } [1] := by
  unfold State.MaySign; decide +kernel

/-- The requests are given, wait for units that verify them, and are refused where no nonce is outstanding. -/
theorem witness_requests : ∀ x ∈ reqCases,
    let l := reqOf x
    let s := lcState l
    let off := s.setFld (F.ENG_ONLINE_ONLINE 0) 0
    s.bytes 0x1000 (s.fld F.LCS_REQ_LEN_LEN) = l ∧ (parseReq l).kind = x.1 ∧ s.running = true ∧ s.fld F.LCS_REQ_ADDR_ADDR * 8 = 0x1000 ∧
      s.fld F.LCS_STATUS_BUSY = 0 ∧ s.gives { mcls := 12, unit := 0 } 0x1000 (s.fld F.LCS_REQ_LEN_LEN) .read ∧ 5 < s.fld F.LCS_REQ_LEN_LEN ∧
      ((s.setFld F.LCS_STATUS_NONCE_V 0).reqCheck (parseReq l)) = some (0x14, 2) ∧ s.hwCan 0 (parseReq l).units = true ∧
      off.hwCan 0 (parseReq l).units = false ∧ State.MaySign off (parseReq l) { signer := 2, salg := 1, sig := [] } [1] := by
  unfold State.gives State.MaySign; decide +kernel

/-- Each clause's premise of the requests; that a request is accepted rests on its signature, an open function of the model. -/
theorem witness_LifecycleRequests : ∀ x ∈ reqCases,
    let l := reqOf x
    let s := lcState l
    s.reqVerifies (parseReq l) = true ∧ (s.setFld (F.ENG_ONLINE_ONLINE 0) 0).reqVerifies (parseReq l) = true ∧
      (Config.verify 0x13 0 [1] (parseReq l).body ("PYRUDRIC-LCRQ-1".toList.map (fun c => BitVec.ofNat 8 c.toNat)) [] = true →
        s.reqCheck (parseReq l) = none) := by
  intro x hx l s
  have key : ∀ u : State, State.MaySign u (parseReq l) { signer := 2, salg := 1, sig := [] } [1] → u.reqVerifies (parseReq l) = true := by
    intro u hu
    unfold State.reqVerifies
    rw [reqCheck_signed hu]
    split <;> simp
  obtain ⟨-, -, -, -, -, -, -, -, -, -, ho⟩ := witness_requests x hx
  have hm := witness_maySign x hx
  refine ⟨key _ hm, key _ ho, fun hv => ?_⟩
  rw [reqCheck_signed hm, signedBy_of hm hv, if_pos rfl]

theorem witness_lcUnits :
    ({ State.reset.setFld F.RNG_STATUS_STATE 2 with ent := { buf := 3 } } : State).drbgReady 30 = true ∧
      (State.reset.setFld F.LCS_STATUS_BUSY 1).fld F.LCS_STATUS_BUSY = 1 ∧ (lcState []).dbg.firing = [] ∧
      ({ State.reset with dbg := { firing := [3] } } : State).dbg.firing ≠ [] := by decide +kernel

/-- Core 0 in U, INTEGRATOR, with the authorisation that stands there. -/
def dbgState : State :=
  let s := ((inU {}).setFld F.LCS_STATE_STATE 1).standing
  { s with dike := { force := [(0x401000, 0x8026000000000000), (0x401008, 0xFF00FF)] } }

/-- A token of the integrator with an empty signature, TSEQ 1 and EXPIRY 9. -/
def token1 : List Byte := record 80 [(0, 4, 0x4B4F5444), (4, 1, 1), (5, 1, 2), (6, 1, 15), (7, 1, 1), (24, 8, 1), (32, 8, 9)]

theorem token1_accepted : Config.verify 0x13 0 [1] token1 ("PYRUDRIC-DTOK-1".toList.map (fun c => BitVec.ofNat 8 c.toNat)) [] = true →
    ((lcState []).setFld F.EPC_STATUS_LOCK 1).tokenOk token1 = true := by
  intro hv
  have h : let s := (lcState []).setFld F.EPC_STATUS_LOCK 1
      (tokenLayoutOk token1 && decide (s.fld F.EPC_STATUS_LOCK = 1) && decide (bytesAt token1 8 16 = s.ownUnit) &&
        decide (leAt token1 5 1 = authority s.lcs) && decide (leAt token1 24 8 > s.fld F.LCS_DBG_SEQ_TSEQ) && decide (leAt token1 32 8 > s.tick)) = true ∧
      s.signerKey (leAt token1 5 1) (leAt token1 7 1) = some [1] ∧ leAt token1 7 1 = 1 ∧ token1.take 80 = token1 ∧
      bytesAt token1 80 (leAt token1 72 4) = [] := by decide +kernel
  obtain ⟨h1, h2, h3, h4, h5⟩ := h
  unfold State.tokenOk
  rw [h1, Bool.true_and]
  unfold State.signedBy
  rw [h2]
  simp only [h3, h4, h5]
  simpa using hv

/-- A set with no register of a polder's regions has none. -/
theorem polderRgns_nil {set : Tbl Word} (h : ∀ e ∈ set, e.1 < 0x410000) (n : Nat) : polderRgns set n = [] := by
  unfold polderRgns
  rw [List.filterMap_eq_nil_iff]
  intro i _
  have g : ∀ k, 0x410000 ≤ k → tget (fun _ => 0) set k = 0 := by
    intro k hk
    induction set with
    | nil => rfl
    | cons e l ih =>
      have := h e (by simp)
      have hne : ¬ k = e.1 := by omega
      simp only [tget, hne, if_false]
      exact ih (fun x hx => h x (by simp [hx]))
  unfold rgnAt
  rw [g _ (by omega)]
  rfl

theorem dbgState_named : dbgState.dbgNamed = [0] := by
  have h4 : ∀ j, j < 4 → dbgState.fld (F.LCS_DBG_POLDER_MASK j) = if j = 0 then 1 else 0 := by decide +kernel
  have hf : ∀ n ∈ List.range 256, bit (dbgState.fld (F.LCS_DBG_POLDER_MASK (n / 64))) (n % 64) = decide (n = 0) := by
    intro n hn
    rw [h4 (n / 64) (by have := List.mem_range.mp hn; omega)]
    have h : ∀ n ∈ List.range 256, bit (if n / 64 = 0 then 1 else 0) (n % 64) = decide (n = 0) := by decide +kernel
    exact h n hn
  unfold State.dbgNamed
  rw [List.filter_congr hf]
  decide +kernel

theorem dbgState_grants : dbgState.dikeCheck dbgState.debugMaster 0x1000 8 .write false = none := by
  rw [show dbgState.debugMaster = { mcls := 11, unit := 0, acts := [0] } by unfold State.debugMaster; rw [dbgState_named]]
  have hp := polderRgns_nil (set := dbgState.dike.force) (by decide)
  have hr : dbgState.byRegions { mcls := 11, unit := 0, acts := [0] } 0x1000 .write = .grant := by
    have hl : rgnsFor dbgState.dike.force { mcls := 11, unit := 0, acts := [0] } = globalRgns dbgState.dike.force := by
      unfold rgnsFor
      simp [hp]
    unfold State.byRegions
    rw [hl]
    decide +kernel
  have hg : dbgState.dike1 { mcls := 11, unit := 0, acts := [0] } 0x1000 .write false = .grant := by
    unfold State.dike1
    rw [show spaceOf dbgState 0x1000 = .hbm by decide +kernel, hr]
    simp only [hp]
    decide +kernel
  unfold State.dikeCheck
  simp [State.dikeScan, hg, toBoundary]

theorem witness_TapAndDebugPort :
    (State.reset.running = true ∧ (dbgState.setFld F.LCS_STATE_STATE 2).scanAllowed = false ∧ dbgState.scanAllowed = true) ∧
    (dbgState.running = true ∧ dbgState.lcs ≠ 4 ∧ dbgState.power.pwrFail = false ∧ dbgState.tamperFrozen = false ∧ dbgState.tokenOk [] = false ∧
      (dbgState.fld F.EPC_STATUS_STATE = 0 ∧ (dbgState.setFld F.LCS_DBG_AUTH 1).fld F.LCS_DBG_AUTH = 1) ∧
      (let s := (dbgState.setFld F.EPC_STATUS_STATE 1).setFld F.LCS_DBG_EXP_EXPIRY 9
       s.fld F.EPC_STATUS_STATE ≠ 0 ∧ s.fld F.EPC_STATUS_STATE ≠ 4 ∧ ¬ s.fld F.LCS_DBG_EXP_EXPIRY ≤ s.tick) ∧
      dbgState.frozen 11 0 = false ∧ dbgState.locked = false ∧ dbgState.noAuth.dbgAuthorised = false ∧ dbgState.coreDebuggable 0 = true ∧
      (dbgState.setCore 0 { mode := .U, halted := true }).coreDebuggable 0 = true ∧
      (dbgState.setFld F.LCS_DBG_SCOPE 1).dbgAuthorised = true ∧ (dbgState.setFld F.LCS_DBG_SCOPE 1).dbgScope 1 = false ∧
      dbgState.dbgScope 1 = true ∧ spaceOf dbgState 0x1000 = .hbm ∧
      (dbgState.setFld F.TMP_STATUS_FROZEN 1).tamperFrozen = true) ∧
    dbgState.dikeCheck dbgState.debugMaster 0x1000 8 .write false = none ∧
    (Config.verify 0x13 0 [1] token1 ("PYRUDRIC-DTOK-1".toList.map (fun c => BitVec.ofNat 8 c.toNat)) [] = true →
      ((lcState []).setFld F.EPC_STATUS_LOCK 1).tokenOk token1 = true) :=
  ⟨by decide +kernel, by decide +kernel, dbgState_grants, token1_accepted⟩

theorem witness_TamperAndEmbankment :
    (State.reset.running = true ∧ State.reset.embWatches 9 = true ∧ State.reset.power.pwrFail = false ∧
      (let s : State := ({ State.reset with dbg := { firing := [3], group := [3] } }).setFld F.TMP_STATUS_FROZEN 1
       s.dbg.group.any (fun k => s.dbg.firing.contains k) = true) ∧
      (let s : State := ({ State.reset with dbg := { group := [3] } }).setFld F.TMP_STATUS_FROZEN 1
       s.dbg.group.any (fun k => s.dbg.firing.contains k) = false ∧ s.fld F.TMP_STATUS_FROZEN = 1) ∧
      (∀ r < 5, let s := State.reset.setFld F.TMP_RESP_RESP (r * 2 ^ 36)
        (((List.range 10).filter (fun k => (512#10).getLsbD k && (decide (k < 7) || s.embWatches k))).map s.tmpResp).foldl max 0 = r) ∧
      (let s := (State.reset.setFld F.LCS_STATE_STATE 2).setFld F.TMP_RESP_RESP 3
       2 ≤ s.lcs ∧ (0#40).toNat / 2 ^ (4 * 0) % 8 < s.fld F.TMP_RESP_RESP / 2 ^ (4 * 0) % 8)) ∧
    (let s : State := { State.reset with power := { State.reset.power with main := false } }
     s.power.main = false ∧ s.embWatches 9 = true ∧ s.fld F.EMB_LOGCNT_COUNT < 8 ∧ 8 ≤ (s.setFld F.EMB_LOGCNT_COUNT 8).fld F.EMB_LOGCNT_COUNT ∧
       (s.setFld F.EMB_CFG_ERASE_ON_ALARM 1).fld F.EMB_CFG_ERASE_ON_ALARM = 1 ∧ s.fld F.EMB_CFG_ERASE_ON_ALARM = 0) ∧
    (State.reset.power.main = true ∧ State.reset.lcs ≤ 1 ∧
      (let s := (State.reset.setFld F.LCS_STATE_STATE 2).setFld F.EMB_CFG_MODE 1
       ¬(s.lcs ≤ 1 ∨ ((0 : Nat) = s.fld F.EMB_CFG_MODE ∧ (0 : Nat) = s.fld F.EMB_CFG_ERASE_ON_ALARM) ∨ (s.lcs = 2 ∧ s.fld F.EMB_CFG_MODE ≤ 0)))) := by
  decide +kernel

/-! ## Witnesses: the card port -/

theorem fitLen_append {a x : List Byte} {n : Nat} (h : a.length + x.length ≤ n) :
    fitLen n (a ++ x) = a ++ (x ++ List.replicate (n - (a.length + x.length)) 0) := by
  unfold fitLen
  rw [List.take_of_length_le (by simp; omega)]
  simp [List.append_assoc]

theorem bytesAt_second {a x : List Byte} {n o k : Nat} (h : a.length + x.length ≤ n) (ho : o = a.length) (hk : k = x.length) :
    bytesAt (fitLen n (a ++ x)) o k = x := by
  subst ho hk
  rw [fitLen_append h]
  simp [bytesAt]

theorem bytesAt_first {a x : List Byte} {n o k : Nat} (h : a.length + x.length ≤ n) (hk : o + k ≤ a.length) :
    bytesAt (fitLen n (a ++ x)) o k = bytesAt a o k := by
  rw [fitLen_append h]
  unfold bytesAt
  rw [List.drop_append_of_le_length (by omega), List.append_assoc, List.take_append_of_le_length (by simp; omega),
    List.take_append_of_le_length (by simp; omega)]

theorem fitLen_length (n : Nat) (l : List Byte) : (fitLen n l).length = n := by
  unfold fitLen
  simp
  omega

theorem fitLen_same {n : Nat} {l : List Byte} (h : l.length = n) : fitLen n l = l := by
  unfold fitLen
  simp [← h]

/-- A card that holds a marker of the journal JID 5 in its first two blocks. -/
def marker : List Byte := jnlHeader 0 5 0 0 0
def markedCard : CardMedium := { sd := false, maxMode := 11, blocks := [(0, marker), (1, jnlCommit 5 0 marker)] }

theorem markedCard_journal : jnlAt markedCard 0 2 = some (0, 5, 0, 0) := by
  have h1 : jnlParse (cardBlock markedCard 0) = some (0, 5, 0, 0) := by decide +kernel
  have h2 : cardBytes markedCard 0 512 = marker := by decide +kernel
  have hl : (sha3 marker).length = 32 := fitLen_length _ _
  let a : List Byte := [0x4A, 0x4E, 0x4C, 0x43] ++ leBytes 4 0 ++ leBytes 8 5 ++ leBytes 8 0
  have h3 : cardBlock markedCard 1 = fitLen 512 (fitLen 512 (a ++ sha3 marker)) := rfl
  have h4 : fitLen 512 (fitLen 512 (a ++ sha3 marker)) = fitLen 512 (a ++ sha3 marker) := fitLen_same (fitLen_length _ _)
  have hb : ∀ o k, o + k ≤ 24 → bytesAt (cardBlock markedCard 1) o k = bytesAt a o k := fun o k h => by
    rw [h3, h4]; exact bytesAt_first (by simp [hl, a, leBytes]) (by simpa [a, leBytes] using h)
  have hc : bytesAt (cardBlock markedCard 1) 24 32 = sha3 marker := by
    rw [h3, h4]; exact bytesAt_second (by simp [hl, a, leBytes]) (by simp [a, leBytes]) hl.symm
  unfold jnlAt
  rw [h1]
  simp only [show cdiv 0 512 = 0 by decide, show (0 : Nat) + 0 + 1 = 1 from rfl, show 512 * (0 + 1) = 512 from rfl, h2, hc]
  rw [if_neg (by decide), if_pos]
  unfold leAt
  rw [hb 0 4 (by decide), hb 8 8 (by decide), hb 16 8 (by decide)]
  decide +kernel

/-- The card port enabled with a card and jobs at 0x1000 of a descriptor: an operation with its buffer at 0x2000, LEN and argument. -/
def cardState (m : CardMedium) (st opc len arg : Nat) : State :=
  let s := ((((State.reset.setFld F.CRD_CTRL_EN 1).setFld F.CRD_STATUS_STATE st).setFld F.CRD_JNL_LEN_BLOCKS 4).setFld F.CRD_JNL_BASE_LBA 64).setFld
    F.CRD_JNL_NEXT_OFFSET 2
  { s with card := { medium := some m, jobs := [0x1000] } }.put 0x1000 (record 64 [(16, 8, 0x2000), (24, 4, len), (28, 1, opc), (32, 8, arg)])

/-- A card of an operation's turn. -/
def cardTurn (m : CardMedium) (opc len arg : Nat) : Prop :=
  let s := cardState m 3 opc len arg
  s.CardTurn opc m 0x1000 (s.bytes 0x1000 64)

theorem witness_cardTurns :
    (∀ x ∈ [(1, 512, 9), (2, 512, 300), (3, 5, 0), (4, 5, 1), (5, 0, 0), (6, 256, 255), (7, 256, 255), (8, 0, 0)], cardTurn {} x.1 x.2.1 x.2.2) ∧
    cardTurn { sd := false } 7 256 255 ∧ cardTurn { sd := false, rpmbKey := [1] } 8 0 0 ∧ cardTurn {} 2 512 64 := by
  unfold cardTurn State.CardTurn State.gives
  decide +kernel

theorem le_len (n x : Nat) : (leBytes n x).length = n := by
  induction n generalizing x with
  | zero => rfl
  | succ n ih => simp [leBytes, ih]

theorem le_val (n x : Nat) (h : x < 2 ^ (8 * n)) : leNat (leBytes n x) = x := by
  induction n generalizing x with
  | zero => simp at h; subst h; rfl
  | succ n ih =>
    have e : 2 ^ (8 * (n + 1)) = 2 ^ (8 * n) * 256 := by rw [show 8 * (n + 1) = 8 * n + 8 by omega, Nat.pow_add]
    simp only [leBytes, leNat]
    rw [ih (x / 256) (by rw [Nat.div_lt_iff_lt_mul (by decide), ← e]; exact h), BitVec.toNat_ofNat]
    omega

/-- A replay-protected unit's block as this device writes it, on an SD card. -/
def unitCard (u cnt : Nat) : CardMedium := { blocks := [(u, State.reset.rpBlock {} u cnt [1])] }

theorem unitCard_valid (s : State) (u cnt : Nat) (hu : u < 256) (hc : cnt < 2 ^ 64) (hb : s.fld F.CRD_RPA_BASE_LBA = 0) (hk : s.card.rpSalt = 0) :
    s.rpValid (unitCard u cnt) u = some cnt := by
  let b0 : List Byte := fitLen 256 [1] ++ leBytes 8 cnt ++ leBytes 1 u
  let b : List Byte := fitLen 288 b0
  let mac : List Byte := fitLen 32 (Config.hmac 2 State.reset.rpKeyNow (b ++ []))
  have hb0 : b0.length = 265 := by simp [b0, le_len, fitLen_length]
  have hbl : b.length = 288 := fitLen_length _ _
  have hml : mac.length = 32 := fitLen_length _ _
  have hr : s.rpKeyNow = State.reset.rpKeyNow := by unfold State.rpKeyNow; rw [hk]; rfl
  have hblk : cardBlock (unitCard u cnt) u = fitLen 512 (b ++ mac) := by
    have h : cardBlock (unitCard u cnt) u = fitLen 512 (fitLen 512 (b ++ mac)) := by simp [cardBlock, unitCard, tget, State.rpBlock, b, mac, b0]
    rw [h, fitLen_same (fitLen_length _ _)]
  have hle : b.length + mac.length ≤ 512 := by omega
  have h0 : ∀ o k, o + k ≤ 265 → bytesAt b o k = bytesAt b0 o k := fun o k h => by
    have := bytesAt_first (a := b0) (x := []) (n := 288) (o := o) (k := k) (by simp; omega) (by omega)
    simpa [b] using this
  have hpre : bytesAt b 264 1 = leBytes 1 u ∧ bytesAt b 256 8 = leBytes 8 cnt := by
    constructor
    · rw [h0 264 1 (by omega)]
      simp only [b0, bytesAt]
      rw [List.drop_append_of_le_length (by simp [le_len, fitLen_length])]
      rw [List.drop_of_length_le (by simp [le_len, fitLen_length])]
      simp [le_len]
    · rw [h0 256 8 (by omega)]
      simp only [b0, bytesAt, List.append_assoc]
      rw [List.drop_append_of_le_length (by simp [fitLen_length]), List.drop_of_length_le (by simp [fitLen_length])]
      simp [le_len]
  unfold State.rpValid
  simp only [hb, Nat.zero_add, hr]
  rw [if_pos, hblk]
  · unfold leAt
    rw [bytesAt_first hle (by omega), hpre.2, le_val 8 cnt (by simpa using hc)]
  · rw [hblk]
    refine ⟨?_, ?_⟩
    · rw [bytesAt_second hle hbl.symm hml.symm, fitLen_append hle, List.take_append_of_le_length (by omega), List.take_of_length_le (by omega)]
      rfl
    · unfold leAt
      rw [bytesAt_first hle (by omega), hpre.1, le_val 1 u (by simpa using hu)]

theorem witness_cardStates : (∀ x ∈ [1, 2, 3, 4], (cardState {} x 1 512 9).fld F.CRD_STATUS_STATE = x) ∧ (cardState {} 1 1 512 9).card.medium = some {} ∧
    (cardState {} 1 1 512 9).fld F.CRD_CTRL_EN = 1 := by decide +kernel

theorem witness_marked :
    let s := ((cardState markedCard 2 1 512 9).setFld F.CRD_JNL_BASE_LBA 0).setFld F.CRD_JNL_LEN_BLOCKS 2
    s.fld F.CRD_JNL_BASE_LBA = 0 ∧ s.fld F.CRD_JNL_LEN_BLOCKS = 2 ∧ s.card.medium = some markedCard := ⟨by decide +kernel, by decide +kernel, rfl⟩

/-- Each clause's premise of the card's events and jobs. Whether an SD card is bound rests on its CID's hash, an open function of the model. -/
theorem witness_CardPort :
    (State.reset.running = true ∧ (∀ x ∈ [1, 2, 3, 4], (cardState {} x 1 512 9).fld F.CRD_STATUS_STATE = x) ∧
      (cardState {} 1 1 512 9).card.medium = some {} ∧ (cardState {} 1 1 512 9).fld F.CRD_CTRL_EN = 1 ∧ ({ usable := false } : CardMedium).usable = false ∧
      (cardState {} 2 1 512 9).power.pwrFail = false ∧
      (let s := ((cardState markedCard 2 1 512 9).setFld F.CRD_JNL_BASE_LBA 0).setFld F.CRD_JNL_LEN_BLOCKS 2
       s.fld F.CRD_JNL_BASE_LBA = 0 ∧ s.fld F.CRD_JNL_LEN_BLOCKS = 2 ∧ s.card.medium = some markedCard) ∧
      jnlAt markedCard 0 2 = some (0, 5, 0, 0) ∧ jnlAt {} 0 2 = none ∧ (State.reset.setFld F.CRD_JNL_LEN_BLOCKS 0).fld F.CRD_JNL_LEN_BLOCKS = 0) ∧
    (let r := ((State.reset.setFld F.CRD_STATUS_STATE 3).setFld F.EPC_COUNT_COUNT 100).setFld F.CRD_TIMERS_IDLE 100
     r.fld F.CRD_STATUS_STATE = 3 ∧ r.card.jobs = [] ∧ r.fld F.CRD_TIMERS_IDLE ≠ 0 ∧ r.fld F.CRD_TIMERS_IDLE ≤ r.tick - r.card.idleFrom ∧
       r.fld F.CRD_CTRL_EN = 0) ∧
    (let s := cardState {} 3 1 512 9
     s.card.jobs.length ≤ 16 ∧ (∀ x ∈ s.card.jobs, s.gives mgmtMaster x 64 .read ∧ s.gives mgmtMaster x 64 .write) ∧ s.card.jobs = [0x1000] ∧
       ¬(s.fld F.CRD_CTRL_EN = 0 ∨ (0x1000#48).toNat % 64 ≠ 0 ∨ 16 ≤ s.card.jobs.length)) ∧
    ((∀ x ∈ [(1, 512, 9), (2, 512, 300), (3, 5, 0), (4, 5, 1), (5, 0, 0), (6, 256, 255), (7, 256, 255), (8, 0, 0)], cardTurn {} x.1 x.2.1 x.2.2) ∧
      cardTurn { sd := false } 7 256 255 ∧ cardTurn { sd := false, rpmbKey := [1] } 8 0 0 ∧ cardTurn {} 2 512 64) ∧
    (let s := cardState {} 3 1 512 9
     s.gives mgmtMaster 0x2000 512 .write ∧ s.gives mgmtMaster 0x2000 512 .read ∧ s.writeBarred {} 300 1 = false ∧ s.writeBarred {} 64 1 = true ∧
       s.fld F.CRD_STATUS_JNL ≠ 1 ∧ (s.setFld F.CRD_STATUS_JNL 1).fld F.CRD_STATUS_JNL = 1 ∧ s.fld F.CRD_JNL_LEN_BLOCKS < 2 + cdiv 513 512 + 2 ∧
       2 + cdiv 5 512 + 2 ≤ 5 ∧ (s.setFld F.CRD_JNL_LEN_BLOCKS 5).fld F.CRD_JNL_LEN_BLOCKS = 5 ∧ s.fld F.CRD_JNL_NEXT_OFFSET = 2 ∧
       s.card.log.find? (fun x => decide (x.2.1 = 1)) = none ∧
       ({ s.card with log := [(2, 1, 5, 0)] } : Card).log.find? (fun x => decide (x.2.1 = 1)) = some (2, 1, 5, 0) ∧
       ({ s.setFld F.RNG_STATUS_STATE 2 with ent := { buf := 3 } } : State).drbgReady 30 = true ∧ s.hwDigest 0 = true ∧
       (s.setFld F.DIG_CORE_ONLINE_ONLINE 0).hwDigest 0 = false) ∧
    ((cardState (unitCard 255 7) 3 6 256 255).rpValid (unitCard 255 7) 255 = some 7 ∧ (cardState {} 3 6 256 255).rpCounter 255 = 0 ∧
      ((cardState {} 3 6 256 255).setRpCounter 255 7).rpCounter 255 = 7 ∧ (cardState {} 3 6 256 255).card.rpBad = false) ∧
    (cardState {} 3 6 256 255).cardBound {} = false ∧
    (let m : CardMedium := { sd := false, rpmbKey := State.reset.rpKeyNow }
     (cardState m 3 7 256 255).cardBound m = true ∧ m.rpmbCnt = (cardState m 3 7 256 255).card.mmcE) ∧
    (cidHash [] ≠ 0 → ((cardState {} 3 7 256 255).setFld F.CRD_BIND_CID (cidHash [])).cardBound {} = true) ∧
    (cardState {} 3 8 0 0).rpKeyNow ≠ [1] := by
  refine ⟨⟨by decide +kernel, witness_cardStates.1, witness_cardStates.2.1, witness_cardStates.2.2, rfl, by decide +kernel,
      witness_marked, markedCard_journal, by decide +kernel⟩, by decide +kernel, by unfold State.gives; decide +kernel, witness_cardTurns,
    by unfold State.gives; decide +kernel, ⟨unitCard_valid _ _ _ (by decide) (by decide) (by decide +kernel) (by decide +kernel), by decide +kernel⟩,
    by decide +kernel, ⟨decide_eq_true rfl, by decide +kernel⟩, ?_, ?_⟩
  · intro h
    have hlt : cidHash [] < 2 ^ 64 := by
      have hl : ∀ l : List Byte, leNat l < 2 ^ (8 * l.length) := by
        intro l
        induction l with
        | nil => simp [leNat]
        | cons b l ih =>
          have e : 2 ^ (8 * (l.length + 1)) = 2 ^ (8 * l.length) * 256 := by rw [show 8 * (l.length + 1) = 8 * l.length + 8 by omega, Nat.pow_add]
          have := b.isLt
          simp only [leNat, List.length_cons]
          omega
      have h8 : ((sha3 []).take 8).length = 8 := by simp [sha3, fitLen_length]
      have := hl ((sha3 []).take 8)
      rw [h8] at this
      exact this
    have hf : ((cardState {} 3 7 256 255).setFld F.CRD_BIND_CID (cidHash [])).fld F.CRD_BIND_CID = cidHash [] := by
      rw [State.fld_setFld_same _ _ _ (by decide), show F.CRD_BIND_CID.w = 64 from rfl, Nat.mod_eq_of_lt hlt]
    simp [State.cardBound, hf, h]
  · intro h
    have := congrArg List.length h
    simp [State.rpKeyNow, fitLen_length] at this

/-! ## Witnesses: peer links -/

/-- Link 15 enabled with a peer key, in a state, with what the device holds of it. -/
def linkAt (st : Nat) (x : Peer) : State :=
  (((State.reset.setFld (F.PER_CFG_EN 15) 1).setFld (F.PER_PEERKEY_HASH 15 0) 1).setLink 15 st).setPeer 15 x

/-- A flit with a payload of zeros. -/
def flitOf (ty seq ack : Nat) (nak : Bool) (vc len : Nat) : List Byte :=
  let l := leBytes 8 ({ ty := ty, seq := seq, ack := ack, nak := nak, vc := vc, credit := 0, cvc := 0, len := len, kgen := 0 } : FlitHdr).word ++
    List.replicate 244 0
  l ++ leBytes 4 (crc32 l)

/-- An EPOCH message of one data byte, and one that is not defined. -/
def epochMsg : List Byte := peerMsg 5 100 [1]
def strayMsg : List Byte := peerMsg 6 0 [0]

/-- Link 15 UP, its receiving key [1]. -/
def upLink : State := linkAt 3 { rxk := { key := [1] } }

/-- A flit whose tag verifies and which opens to a message is one in order. The AEAD is an open function of the model. -/
theorem upLink_message (l : List Byte) (hl : l ∈ [epochMsg, strayMsg])
    (h1 : Config.aeadOk 0x02 [1] (flitNonce true 0) ((flitOf 1 0 0 false 2 17).take 8) (bytesAt (flitOf 1 0 0 false 2 17) 8 244) = true)
    (h2 : Config.aeadPlain 0x02 [1] (flitNonce true 0) ((flitOf 1 0 0 false 2 17).take 8) (bytesAt (flitOf 1 0 0 false 2 17) 8 244) = l) :
    let x := upLink.peer 15
    let pay := x.payload (flitOf 1 0 0 false 2 17)
    x.tagOk (flitOf 1 0 0 false 2 17) = true ∧ pay = l ∧ 16 + leAt pay 4 4 ≤ pay.length ∧ 16 ≤ pay.length ∧ zeroAt pay 1 3 = true := by
  have hx : upLink.peer 15 = { rxk := { key := [1] } } := by decide +kernel
  have hh : parseFlit (leAt (flitOf 1 0 0 false 2 17) 0 8) =
      { ty := 1, seq := 0, ack := 0, nak := false, vc := 2, credit := 0, cvc := 0, len := 17, kgen := 0 } := by decide +kernel
  have ht : (upLink.peer 15).tagOk (flitOf 1 0 0 false 2 17) = true := by
    rw [hx]
    unfold Peer.tagOk
    simp only [hh]
    rw [if_neg (by decide)]
    exact h1
  have hp : (upLink.peer 15).payload (flitOf 1 0 0 false 2 17) = (fitLen 228 l).take 17 := by
    rw [hx]
    unfold Peer.payload
    simp only [hh, ← h2]
    rfl
  have hq : ∀ l ∈ [epochMsg, strayMsg], (fitLen 228 l).take 17 = l ∧ 16 + leAt l 4 4 ≤ l.length ∧ 16 ≤ l.length ∧ zeroAt l 1 3 = true := by decide +kernel
  rw [(hq l hl).1] at hp
  refine ⟨ht, ?_⟩
  rw [hp]
  exact ⟨rfl, (hq l hl).2⟩

theorem witness_PeerLinksAndFlits :
    ((∀ j, j < 4 → State.reset.fld (F.PER_PEERKEY_HASH 15 j) = 0) ∧ (linkAt 1 {}).fld (F.PER_PEERKEY_HASH 15 0) ≠ 0 ∧
      (linkAt 1 {}).fld (F.PER_CFG_EN 15) = 1 ∧ ((linkAt 1 {}).setFld (F.PER_CFG_EN 15) 0).fld (F.PER_CFG_EN 15) = 0 ∧
      (linkAt 1 {}).linkState 15 = 1 ∧ (linkAt 1 {}).running = true ∧ (0xF0#8).toNat ∈ [0xFF, 0x0F, 0xF0] ∧ (0x3C#8).toNat ∉ [0xFF, 0x0F, 0xF0] ∧
      (let x : Peer := { sends := [{ desc := 2 ^ 40 - 64 }], tx := { key := [1], count := 2 ^ 32 } }
       (linkAt 3 x).linkState 15 = 3 ∧ ((linkAt 3 x).peer 15).keying.rekey = false ∧ 2 ^ 32 ≤ ((linkAt 3 x).peer 15).tx.count ∧
         ((linkAt 3 {}).peer 15).tx.count < 2 ^ 32)) ∧
    (∀ x ∈ [(2, 5, 0, false, 2, 17), (2, 0, 0, false, 2, 17), (1, 0, 0, false, 2, 17), (0, 0, 7, true, 0, 0)],
      (flitOf x.1 x.2.1 x.2.2.1 x.2.2.2.1 x.2.2.2.2.1 x.2.2.2.2.2).length = 256) ∧
    (let s := linkAt 2 {}
     s.linkState 15 = 2 ∧ (linkAt 1 {}).linkState 15 ≠ 2 ∧
       (let f := List.replicate 256 (0 : Byte)
        f.length = 256 ∧ leAt f 252 4 ≠ crc32 (f.take 252)) ∧
       (let f := flitOf 1 0 0 false 2 17
        leAt f 252 4 = crc32 (f.take 252) ∧ (s.peer 15).tagOk f = false) ∧
       (let f := flitOf 2 5 0 false 2 17
        leAt f 252 4 = crc32 (f.take 252) ∧ (s.peer 15).tagOk f = true ∧ (parseFlit (leAt f 0 8)).ty = 2 ∧
          (parseFlit (leAt f 0 8)).seq ≠ ((s.peer 15).rxSeq + 1) % 4096)) ∧
    (∀ n ∈ [7, 8],
      let s := linkAt 2 { txSeq := 9, retry := [(7, 0, []), (8, n, [])] }
      let f := flitOf 0 0 7 true 0 0
      let left := (s.peer 15).retry.filter (fun r => !decide (((parseFlit (leAt f 0 8)).ack + 4096 - r.1) % 4096 < 512))
      leAt f 252 4 = crc32 (f.take 252) ∧ (s.peer 15).tagOk f = true ∧ (parseFlit (leAt f 0 8)).ty = 0 ∧ (parseFlit (leAt f 0 8)).nak = true ∧
        (s.peer 15).sends = [] ∧ left = [(8, n, [])]) ∧
    (let f := flitOf 1 0 0 false 2 17
     upLink.linkState 15 = 3 ∧ leAt f 252 4 = crc32 (f.take 252) ∧ (parseFlit (leAt f 0 8)).ty = 1 ∧ (parseFlit (leAt f 0 8)).nak = false ∧
       (parseFlit (leAt f 0 8)).seq = ((upLink.peer 15).rxSeq + 1) % 4096 ∧ (parseFlit (leAt f 0 8)).vc = 2 ∧
       (upLink.peer 15).rx.toList.getD 2 [] = [] ∧ (upLink.peer 15).keying.rx = [] ∧ leAt epochMsg 0 1 = 5 ∧ leAt strayMsg 0 1 ∉ [1, 2, 3, 4, 5] ∧ 0 < leAt epochMsg 4 4 ∧
       bit (leAt epochMsg 16 1) 0 = true ∧ upLink.fld F.PER_EPC_TOL < ((upLink.tick : Int) - leAt epochMsg 8 8).natAbs ∧
       (upLink.setFld F.EPC_STATUS_LOCK 1).fld F.EPC_STATUS_LOCK = 1) := by
  refine ⟨?_, by decide +kernel, by decide +kernel, by decide +kernel, by decide +kernel⟩
  decide +kernel

theorem witness_LinkMessagesGoOut :
    (let x : Peer := { credits := #v[768, 192, 64], grants := [(0, 2)] }
     let s := linkAt 3 x
     let put := fun (a n h : Nat) => s.put 0x1000 (record 64 [(8, 2, h), (16, 8, a), (24, 4, n)])
     s.running = true ∧ (s.peer 15).txq = Vector.replicate 3 [] ∧ (s.peer 15).retry.length < 512 ∧ s.linkState 15 = 3 ∧
       (s.peer 15).credits.toList.getD 2 0 ≠ 0 ∧ (s.peer 15).credits.toList.getD 1 0 ≠ 0 ∧ (s.peer 15).sends = [] ∧
       tget (fun _ => 0) (s.peer 15).grants 0 = 2 ∧ s.gives { mcls := 12, unit := 0 } 0x1000 64 .read ∧ (0x1000#48).toNat / 64 * 64 = 0x1000 ∧
       (let u := ((s.setFld F.PER_EPC_INTERVAL 5).setFld F.EPC_COUNT_COUNT 10).setFld F.EPC_STATUS_STATE 1
        u.fld F.PER_EPC_INTERVAL ≠ 0 ∧ u.tick % u.fld F.PER_EPC_INTERVAL = 0 ∧ u.counting = true ∧ s.counting = false) ∧
       bulkOk ((put 0x2000 8 0).bytes 0x1000 64) = true ∧ leAt ((put 0x2000 8 0).bytes 0x1000 64) 24 4 = 8 ∧
       (put 0x2000 8 0).gives { mcls := 12, unit := 0 } 0x2000 8 .read ∧ bulkOk ((put 0x2000 0 0).bytes 0x1000 64) = true ∧
       leAt ((put 0x2000 0 0).bytes 0x1000 64) 24 4 = 0 ∧ 16777216 < leAt ((put 0x2000 16777217 0).bytes 0x1000 64) 24 4 ∧
       bulkOk ((put (2 ^ 48) 8 0).bytes 0x1000 64) = false ∧ hdrHreq ((put (2 ^ 48) 8 0).bytes 0x1000 64) ≠ 3) ∧
    hdrHreq (((linkAt 3 {}).put 0x1000 (record 64 [(10, 1, 3)])).bytes 0x1000 64) = 3 ∧
    (let b : BulkSend := { desc := 0 }
     16 ≤ ((linkAt 3 { sends := List.replicate 16 b }).peer 15).sends.length ∧ tget (fun _ => 0) ((linkAt 3 {}).peer 15).grants 0 = 0) ∧
    (let s := (linkAt 3 {}).setFld (F.PER_RX_PTR_TAIL 15) 2
     (s.fld (F.PER_RX_PTR_TAIL 15) + 128 - s.fld (F.PER_RX_PTR_HEAD 15)) % 128 < ((3#7).toNat + 128 - s.fld (F.PER_RX_PTR_HEAD 15)) % 128 ∧
       ¬ (s.fld (F.PER_RX_PTR_TAIL 15) + 128 - s.fld (F.PER_RX_PTR_HEAD 15)) % 128 < ((2#7).toNat + 128 - s.fld (F.PER_RX_PTR_HEAD 15)) % 128) := by
  unfold State.gives
  decide +kernel

/-- A keying flit in order, with what gathers of step 1: too little, a whole step in its turn or out of it, and a lattice engine or none for its work. Whose
peer key is right rests on a hash, an open function of the model. -/
theorem witness_keying :
    let f := flitOf 2 0 0 false 2 17
    let whole : List Byte := 1 :: List.replicate 3792 0
    let at_ := fun (x : Keying) => linkAt 2 { keying := x, rxSeq := 4095 }
    let s := at_ { rx := whole, init := some false }
    let pay := (s.peer 15).payload f
    s.linkState 15 = 2 ∧ leAt f 252 4 = crc32 (f.take 252) ∧ (s.peer 15).tagOk f = true ∧ (parseFlit (leAt f 0 8)).ty = 2 ∧ (parseFlit (leAt f 0 8)).nak = false ∧
      (parseFlit (leAt f 0 8)).seq = ((s.peer 15).rxSeq + 1) % 4096 ∧ (s.peer 15).sends = [] ∧ pay.length = 17 ∧ leAt (whole ++ pay) 0 1 = 1 ∧
      keyxLen 1 ≤ (whole ++ pay).length ∧ (s.peer 15).keying.expects 1 = true ∧ s.keyxUnit = none ∧
      ((at_ { rx := whole }).peer 15).keying.expects 1 = false ∧ ([(1 : Byte)] ++ pay).length < keyxLen 1 ∧
      ({ s.setFld F.RNG_STATUS_STATE 2 with ent := { buf := 3 } } : State).keyxUnit.isSome = true := by decide +kernel

/-! ## Witnesses: reset, boot, power and the bus -/

/-- An intent record of MAKER to INTEGRATOR without its commit word is open. -/
def intent1 : List Byte :=
  let a : List Byte := record 24 [(0, 4, 1), (4, 1, 1), (5, 1, 3)]
  a ++ ((sha3 a).take 8 ++ [0, 0, 0, 0])

theorem intent1_open : intentOpen intent1 = true ∧ codeState (leAt intent1 5 1) = some 1 := by
  let a : List Byte := record 24 [(0, 4, 1), (4, 1, 1), (5, 1, 3)]
  have ha : a.length = 24 := by decide +kernel
  have hh : ((sha3 a).take 8).length = 8 := by simp [sha3, fitLen_length]
  have e : intent1 = a ++ ((sha3 a).take 8 ++ [0, 0, 0, 0]) := rfl
  have hl : intent1.length = 36 := by rw [e]; simp only [List.length_append, ha, hh]; rfl
  have ht : intent1.take 24 = a := by
    rw [e, List.take_append_of_le_length (by omega), List.take_of_length_le (by omega)]
  have hs : bytesAt intent1 24 8 = (sha3 a).take 8 := by
    unfold bytesAt
    rw [e, List.drop_append_of_le_length (by omega), List.drop_of_length_le (by omega), List.nil_append, List.append_assoc,
      List.take_append_of_le_length (by omega), List.take_of_length_le (by omega)]
  have hc : bytesAt intent1 32 4 = [0, 0, 0, 0] := by
    unfold bytesAt
    rw [e, ← List.append_assoc, List.drop_append_of_le_length (by simp only [List.length_append]; omega),
      List.drop_of_length_le (by simp only [List.length_append]; omega)]
    rfl
  have h5 : bytesAt intent1 5 1 = bytesAt a 5 1 := by
    unfold bytesAt
    rw [e, List.drop_append_of_le_length (by omega), List.append_assoc, List.take_append_of_le_length (by simp; omega),
      List.take_append_of_le_length (by simp; omega)]
  unfold intentOpen intentOk leAt
  rw [hl, ht, hs, hc, h5]
  simp only [decide_true, Bool.true_and]
  decide +kernel

/-- Device in reset, with straps and a record of MRAM. -/
def heldState : State := { State.reset with power := { State.reset.power with porst := false, main := false } }

theorem witness_ResetAndBoot :
    State.reset.power.main = true ∧ State.reset.running = true ∧ heldState.power.main = false ∧ heldState.running = false ∧
      (let s := active eFence
       s.poldersOf 0 = [1] ∧ s.fld (F.PLD_STATUS_STATE 1) = 1 ∧ s.running = true) ∧
      State.reset.power.thermtrip = false ∧ ({ State.reset.power with thermtrip := true } : Power).thermtrip = true ∧
      State.reset.power.hot = false ∧ ({ State.reset.power with hot := true } : Power).hot = true ∧ intentOpen State.reset.dbg.intent = false ∧
      codeState State.reset.dbg.copyA = some 0 ∧ codeState 0 = none ∧ codeState 0x1F = some 4 ∧ State.reset.bindingLost = false ∧
      State.reset.fld F.EMB_LOGCNT_COUNT = 0 ∧ (State.reset.key 0).transient = false ∧ (State.reset.key 0).damaged = false ∧
      twf (fun _ => ({} : KeySlot)) [(5, { allocated := true, ty := 4, damaged := true }), (6, { allocated := true, ty := 4, transient := true })] = true := by
  decide +kernel

theorem witness_openIntent : intentOpen intent1 = true ∧ codeState (leAt intent1 5 1) = some 1 := intent1_open

/-- A boot image of one empty section, VERSION 3 and no signature bytes. -/
def bootImage : List Byte :=
  record 56 [(0, 4, 0x544F4F42), (4, 2, 1), (6, 2, 1), (8, 4, 3), (12, 4, 48), (32, 4, 1), (36, 4, 48)]

/-- A device that waits for a host boot through endpoint 0. -/
def hostBoot : State :=
  let s := (((State.reset.setFld F.PWR_BOOT_STATE 1).setFld F.PWR_BOOT_SRC 1).setFld F.PWR_BOOT_LEN_LEN 56).setEp 0 { up := true }
  { s with power := { s.power with step4 := true } }

/-- Each clause's premise. Whether the image's signatures verify is an open function of the model, either way. -/
theorem witness_BootSourcesAndSmbus :
    (hostBoot.running = true ∧ (hostBoot.ep 0).up = true ∧ hostBoot.power.step4 = true ∧ hostBoot.fld F.PWR_BOOT_STATE = 1 ∧
      hostBoot.fld F.PWR_BOOT_SRC = 1 ∧ 1 ∉ hostBoot.power.tried ∧ bootImage.take (hostBoot.fld F.PWR_BOOT_LEN_LEN) = bootImage ∧
      bootLayoutOk bootImage = true ∧ bootLen bootImage ≤ bootImage.length ∧ bootLayoutOk [] = false ∧ leAt bootImage 8 4 = 3 ∧
      hostBoot.fld F.PWR_BOOT_FLOOR_FLOOR ≤ 3 ∧ 3 < (hostBoot.setFld F.PWR_BOOT_FLOOR_FLOOR 4).fld F.PWR_BOOT_FLOOR_FLOOR) ∧
    (let s := ({ hostBoot with power := { hostBoot.power with straps := 3 } } : State).setFld F.PWR_BOOT_SRC 0
     s.fld F.PWR_BOOT_STATE = 1 ∧ s.power.straps = 3 ∧ s.fld F.PWR_BOOT_SRC = 0 ∧ 2 ∉ s.power.tried ∧ s.card.medium = none ∧
       hostBoot.power.straps ≠ 3 ∧ ((State.reset.setEp 0 { up := false }).ep 0).up = false ∧ State.reset.fld F.PWR_BOOT_STATE ≠ 1) ∧
    (State.reset.power.main = true ∧ State.reset.power.step4 = false ∧ hostBoot.power.main = true) := by decide +kernel

theorem witness_PowerAndRegisterWrites :
    (State.reset.running = true ∧ State.reset.power.pwrFail = false ∧ twf (fun _ => ({} : KeySlot)) State.reset.keys.slots = true ∧
      (let s : State := { State.reset with power := { State.reset.power with pwrFail := true, held := [(F.PWR_BOOT_FLOOR_FLOOR.off, 3)], heldErrn := true } }
       s.power.pwrFail = true ∧ s.power.heldTamper = 0 ∧ s.power.held = [(F.PWR_BOOT_FLOOR_FLOOR.off, 3)]) ∧
      ((500#11).toNat % 1024 = 500 ∧ (249#11).toNat % 1024 < 250 ∧ 500 < (501#11).toNat % 1024)) ∧
    (let s := hostBoot.setFld F.PWR_BOOT_STATE 4
     s.running = true ∧ s.power.step4 = true ∧ s.lcs ≠ 4 ∧ s.fld F.PWR_BOOT_STATE = 4) := by decide +kernel

/-! ## Witnesses: the whole block -/

theorem witness_StepTakesFront : State.reset.pending = [] ∧ State.reset.running = true ∧ heldState.running = false ∧ heldState.pending = [] ∧
    (State.reset.setFld F.EPC_STATUS_STATE 1).counting = true := by decide +kernel

theorem witness_PinsFollowEveryStep : State.reset.PinsShow ∧ ∃ t, step State.reset = .next t := ⟨by unfold State.PinsShow; decide +kernel, _, rfl⟩

theorem witness_HeldInReset : heldState.running = false ∧ actsInReset .nonceGen = false ∧ actsInReset .porstAssert = true := by decide +kernel

/-! ## The spec's worked examples and encodings -/

/-- The coordinate pair of 01_architecture.md: a decode error of a scan unit in table 10 of polder 3. -/
theorem test_coordinatePair : ctrlWord 3 0x12 1 2 0x46 2 11 (some 0x1A2B) = 0x030121024645DA2B ∧ dataElement 10 5 1000 0x2345 = 0x60140A0003E82345 ∧
    pairBytes 0x030121024645DA2B 0x60140A0003E82345 =
      [0x2B, 0xDA, 0x45, 0x46, 0x02, 0x21, 0x01, 0x03, 0x45, 0x23, 0xE8, 0x03, 0x00, 0x0A, 0x14, 0x60] := by decide +kernel

/-- The region of 14_dike_protection.md: polder 12's data area, with sub-region 7 disabled. -/
theorem test_polderRegion : rgnAt [(0x413000, 0x801A000800000000), (0x413008, 0xD98043)] 0x413000 (2 ^ 15) =
    some { idx := 2 ^ 15, base := 0x800000000, size := 26, attr := 0x43, srd := 0x80, emask := 0xD9 } := by decide +kernel

theorem test_subRegions : let r : Rgn := { idx := 0, base := 0x800000000, size := 26, attr := 0x43, srd := 0x80, emask := 0xD9 }
    r.holds 0x8037FFFFF = true ∧ r.holds 0x803800000 = false ∧ r.holds 0x7FFFFFFFF = false ∧
      r.allows { mcls := 6, unit := 5, acts := [12] } .write = true ∧ r.allows { mcls := 3, unit := 0, acts := [12] } .write = false := by decide +kernel

/-- The attribute word of the imported key of 08_key_store_and_entropy.md. -/
theorem test_attributeWord : ({ allocated := true, ty := 1, alg := 0x52, owner := 0x0C, usage := 1, exportP := 0, hmin := 1 } : KeySlot).attrWord 0 =
    0x1520C0111FFFFFFF := by decide +kernel

/-- The LMS key of 07_digest_and_hash_signatures.md: SHA-256/M32/H20 with W4. -/
theorem test_lmsSignatureLength : hbsSigLen 0x80 8 3 1 = 2832 ∧ hbsParam 0x80 8 3 1 = some (32, 20) := by decide +kernel

/-- The microwords of 09_engine_microcode.md's customer function. -/
theorem test_microwords : [0x408080, 0xD80013, 0x800100, 0x300021, 0xD00000, 0xA08081, 0xD80000].map parseMWord =
    [.branch 0 0x8080, .done 0x13, .ldi 0 256, .issue 0xC00 1 1, .yield, .djnz 0 0x8081, .done 0] := by decide +kernel

/-- The stream of 11_ingest_and_column_store.md, ABABABA. -/
theorem test_dbsStream : dbsEncode true [] [65, 66, 65, 66, 65, 66, 65] = [7, 0, 0, 0, 5, 0, 0, 0xC0, 0x41, 0x84, 0x04, 0x1C, 0x08] := by decide +kernel

/-- The largest batch of 32 columns of 8 bytes (R353), and the sizes of a group entry (R385) and of a profile entry. -/
theorem test_batchAndEntrySizes : batchMax (List.replicate 32 4) = 1049664 ∧
    groupSize [3, 4, 4] (parseAgg (record 112 [(0, 1, 1), (2, 1, 2), (80, 1, 5), (81, 1, 2), (82, 1, 1), (96, 1, 6), (97, 1, 2), (98, 1, 1)])) false = 48 := by
  decide +kernel

/-- The storm under a 340 W cap of 19_startup_power_modes.md: stage 1. -/
theorem test_powerCap : ∃ t, exec (.powerEstimate 89 0 0 380) ((State.reset.setFld F.PWR_CAP_MODE 1).setFld F.PWR_CAP_WATTS 340) =
    .next t ∧ t.fld F.PWR_STATUS_STAGE = 1 ∧ t.fld F.PWR_STATUS_CORE_CLK = 16 := ⟨_, rfl, by decide +kernel⟩

/-- LIMM of R44 with K 0, into quarter 2. -/
theorem test_limm : ∃ t, exec (.limm 0 5 2 false 0xBEEF) (inU fDiv) = .next t ∧ (t.task 0).frame.gr 5 = 0xBEEF00000000 := ⟨_, rfl, by decide +kernel⟩

/-- The words of the worked examples of 02_ikist_programming.md and 03_vector_extensions.md; ENG LE with OPC 0x01. -/
theorem test_programWords :
    [0x0CC00003, 0x24010901, 0x21CA7340, 0x09851003, 0x082C7003, 0x18C00003].map (fun w => decodeCore 0 (BitVec.ofNat 32 w)) =
      [some (.limm 0 6 0 false 3), some (.eng 0 0 0 8 9 1), some (.waitev 0 5 7 6 true), some (.andi 0 12 5 3), some (.cmpeqi 0 1 12 3),
       some (.br 0 1 true 3)] := by decide +kernel

theorem test_vectorWords :
    [0x6C10A002, 0x73100000, 0x6C000003, 0x40842004, 0x64140100, 0x4CA40602, 0x54C50602].map (fun w => decodeCore 0 (BitVec.ofNat 32 w)) =
      [some (.tset 0 0 4 5), some (.lds3 0 (.long 1 0)), some (.tadv 0 0), some (.vxor 0 4 4 4 0), some (.lvsad 0 1 2 4 false),
       some (.vradd 0 5 4 3 false), some (.vext 0 6 5 0 3 false)] := by decide +kernel

/-- Words that are no instruction: opcode 0x3F, an unassigned one, a NOP with a field that is not 0. -/
theorem test_illegalWords : decodeCore 0 0xFC000000 = none ∧ decodeCore 0 0x30000000 = none ∧ decodeCore 0 0x00000001 = none ∧
    decodeCore 0 0x00000000 = some (.nop 0) := by decide +kernel

/-- The two buffered readings of 11_ingest_and_column_store.md: SCHEMA 263, payload i16, i16, u32, u64. -/
def twoReadings : List Byte :=
  [(0x11 : Byte), 3, 7, 1, 0x20, 0x1C, 0, 0, 2, 0, 0x10, 0] ++
    [(0x60 : Byte), 0xEA, 0, 0, 0x40, 0x21, 0x7B, 0x12, 0xE2, 4, 0, 0, 0xA0, 0xC1, 0x17, 1, 0, 0, 0, 0] ++
    [(0 : Byte), 0, 0, 0, 0x32, 0x21, 0x70, 0x12, 0xEE, 4, 0, 0, 0xB5, 0xC1, 0x17, 1, 0, 0, 0, 0]

theorem test_twoReadings :
    let x : Table := { desc := record 120 [(4, 1, 1), (5, 1, 7), (6, 1, 1), (8, 2, 263), (64, 1, 3), (72, 1, 4), (80, 1, 3), (88, 1, 6), (96, 1, 6), (104, 1, 3), (112, 1, 4)] }
    let e := 1000000
    x.rowLen = 16 ∧
      frameColumns x 77 e 1000 twoReadings =
        [leBytes 4 77 ++ leBytes 4 77, leBytes 8 (e - 60000) ++ leBytes 8 e, leBytes 4 7200 ++ leBytes 4 7201, leBytes 2 8512 ++ leBytes 2 8498,
         leBytes 2 4731 ++ leBytes 2 4720, leBytes 4 1250 ++ leBytes 4 1262, leBytes 8 18334112 ++ leBytes 8 18334133] ∧
      ackFrame twoReadings 0 = [0x13, 0, 7, 1, 0x21, 0x1C, 0, 0, 0, 0, 0, 0] := by decide +kernel

/-- A serial number is the unit identifier (R327): decimal, from 1 to 4,294,967,295. -/
theorem test_unitOfSerial : unitOfSerial [0x34, 0x32] = some 42 ∧ unitOfSerial [0x30] = none ∧ unitOfSerial [0x34, 0x41] = none ∧
    unitOfSerial (List.replicate 11 0x39) = none := by decide +kernel

/-! ## Ill-formed commands -/

/-- One operand out of its bounds for each check of `Instr.wf`, and at the bound where it is well formed. -/
theorem test_illFormedRefused :
    (∀ i ∈ [Instr.scan 63, .operatorUnitFault 63 0 false, .engineFault 1 4 0, .engineFault 2 16 0, .engineFault 3 0 0, .engineFault 4 16 0,
        .sqFetch 1 0 (List.replicate 63 0), .atsInvalidationRequest 1 0 0, .atsInvalidationRequest 1 (2 ^ 52) 1, .ppsEdge 0 1000, .mcsClear 5,
        .mwIssue 0 32, .mwBranch 1 4, .mwDone 2 16, .mwSync 3 32, .mwYield 4 152, .frameReceive 0 false (List.replicate 13 0), .dkeThaw false 13 0,
        .testItemRun 7 0 none, .testItemRun 6 152 none, .thermalWarning 32768, .thermalCritical (-32769), .dbgAuth (List.replicate 79 0),
        .dap (.write 0 []), .tamperAlarm 1 1, .cardInsertion {}, .flitReceive 0 (List.replicate 255 0), .porstRelease 0 [] [1, 1, 1, 1, 1],
        .irigbFrame { irig1 with elems := irig1.elems.drop 1 }, .irigbFrame { irig1 with phaseNs := 2000000000 }, .ptpMessage { sync1 with version := 16 }],
      i.wf = false) ∧
    (∀ i ∈ [Instr.scan 64, .engineFault 1 3 0, .engineFault 4 15 0, .sqFetch 1 0 (List.replicate 64 0), .atsInvalidationRequest 1 (2 ^ 52 - 1) 1,
        .mcsClear 4, .mwIssue 0 31, .mwYield 4 151, .testItemRun 6 151 none, .thermalWarning 32767, .tamperAlarm 1 2, .flitReceive 0 (List.replicate 256 0),
        .porstRelease 0 [] [1, 1, 1, 1], .ptpMessage sync1], i.wf = true) := by decide +kernel

end Sys2Proof.Tests
end

section
/-!
SUPPORT. How an instruction of a core runs: fetched on its frame, its effect performed, and its end (R39, R69, R287, R445).
-/

namespace Sys2Proof.Machine

/-! ## The end of an instruction -/

/-- The effect `t` of an instruction of core `c`, with the halt of a core that a debugger steps (R445). -/
def State.stepped (s : State) (c : Nat) (t : State) : State :=
  if (s.core c).stepping then t.setCore c { t.core c with stepping := false, halted := true } else t

/-- The state after an instruction of core `c` whose effect gives `t`: the sessions go on where the effect ended the core's task. -/
def State.concludes (s : State) (c : Nat) (t : State) : State :=
  if s.endedOn t c then s.endsTask c t else s.ends c t

theorem State.ends_eq_stepped (s : State) (c : Nat) (t : State) : s.ends c t = (s.stepped c t).repin := rfl

theorem State.endsTask_eq_stepped (s : State) (c : Nat) (t : State) : s.endsTask c t = (s.stepped c t).settle.repin := rfl

@[simp] theorem State.task_stepped (s : State) (c : Nat) (t : State) (k : Nat) : (s.stepped c t).task k = t.task k := by
  unfold State.stepped
  split
  · exact t.task_setCore c k _
  · rfl

/-- A debugger's step ends no task. -/
@[simp] theorem State.endedOn_stepped (s : State) (c : Nat) (t : State) : s.endedOn (s.stepped c t) c = s.endedOn t c := by
  simp only [State.endedOn, State.task_stepped]

theorem State.stepped_of_not_stepping {s : State} {c : Nat} (h : (s.core c).stepping = false) (t : State) : s.stepped c t = t := by
  simp [State.stepped, h]

theorem State.concludes_of_ended {s t : State} {c : Nat} (h : s.endedOn t c = true) : s.concludes c t = s.endsTask c t := by
  simp [State.concludes, h]

theorem State.concludes_of_not_ended {s t : State} {c : Nat} (h : s.endedOn t c = false) : s.concludes c t = s.ends c t := by
  simp [State.concludes, h]

/-! ## An instruction that is fetched -/

section
variable {s : State} {c : Nat} {f : Frame} (h : s.Runs c f)
include h

theorem State.Runs.fetchFails : s.fetchFails c = false := by
  obtain ⟨-, hframe, hfetch⟩ := h
  simp [State.fetchFails, hframe, hfetch]

/-- The effect of a fetched instruction is performed on the frame the core executes on. -/
theorem State.Runs.withFrame (k : Frame → State) : s.withFrame c k = s.stepped c (k f) := by
  obtain ⟨-, hframe, hfetch⟩ := h
  simp [State.withFrame, hframe, hfetch, State.stepped]

/-- A fetched instruction that cannot end its task. -/
theorem State.Runs.onPlain (k : State → Frame → State) :
    s.onPlain c (fun s => s.withFrame c (k s)) = s.ends c (k s f) := by
  rw [s.onPlain_run c _ h.1 h.fetchFails, h.withFrame, State.ends_eq_stepped]

/-- A fetched instruction that may end its task. -/
theorem State.Runs.onCore (k : State → Frame → State) :
    s.onCore c (fun s => s.withFrame c (k s)) = s.concludes c (k s f) := by
  simp only [State.onCore, s.unreset_run _ h.1, h.withFrame, State.endedOn_stepped, State.concludes, State.ends_eq_stepped,
    State.endsTask_eq_stepped]
  split <;> rfl

end

/-- An ALU result to a general register (R41). -/
theorem State.Runs.aluG {s : State} {c : CoreId} {f : Frame} (h : s.Runs c f) (rd : Reg) (v : Frame → Word) :
    aluG c rd v s = .next (s.wrote c (f.setG rd (v f)).next) :=
  congrArg Host.Outcome.next (h.onPlain fun s f => s.setFrame c (f.setG rd (v f)).next)

/-! ## An instruction that raises an exception -/

/-- Instruction `i`, which core `c` runs on frame `f`, raises the exception of a cause, a TRAP number and an address. -/
def State.Raises (s : State) (c : Nat) (f : Frame) (i : Instr) (cause trap : Nat) (xaddr : Word) : Prop :=
  exec i s = .next (s.concludes c (s.raise c f cause trap xaddr false))

section
variable {s : State} {c : CoreId} {f : Frame} (h : s.Runs c f)
include h

/-- An instruction that performs `k` on its frame raises what `k` raises there. -/
theorem State.Runs.raises_of {i : Instr} (k : State → Frame → State) (hi : exec i s = .next (s.onCore c fun s => s.withFrame c (k s)))
    {cause trap : Nat} {xaddr : Word} (hk : k s f = s.raise c f cause trap xaddr false) : s.Raises c f i cause trap xaddr := by
  rw [State.Raises, hi, h.onCore, hk]

/-- TRAP (R48). -/
theorem State.Runs.trap_raises (num : BitVec 15) : s.Raises c f (.trap c num) 7 (num.toNat % 256) 0 :=
  h.raises_of (fun s f => s.raise c f 7 (num.toNat % 256) 0 false) rfl rfl

/-- MFS of a number below 0x100 that R36 does not list. -/
theorem State.Runs.mfs_raises_unlisted (rd : Reg) {num : BitVec 15} (hlow : ¬num.toNat ≥ 0x100) (hnum : s.sysreg c f num.toNat = none) :
    s.Raises c f (.mfs c rd num) 1 0 0 :=
  h.raises_of _ rfl (by simp only [if_neg hlow, hnum])

end

end Sys2Proof.Machine
end

section
/-!
SUPPORT. LIMM and the bits of a quarter that it replaces (R44).
-/

namespace Sys2Proof.Machine

/-- The bits of a number whose field was replaced: the value's in the field, the number's own beside it (R3). -/
theorem testBit_putBits (x lo w v i : Nat) :
    (putBits x lo w v).testBit i = if lo ≤ i ∧ i < lo + w then v.testBit (i - lo) else x.testBit i := by
  rcases Nat.lt_or_ge i lo with hlo | hlo
  · have h := congrArg (·.testBit i) (putBits_mod x lo w v)
    rw [if_neg (by omega)]
    simpa [Nat.testBit_mod_two_pow, hlo] using h
  · rcases Nat.lt_or_ge i (lo + w) with hw | hw
    · have h := congrArg (·.testBit (i - lo)) (putBits_same x lo w v)
      rw [if_pos ⟨hlo, hw⟩]
      simpa [Nat.testBit_mod_two_pow, Nat.testBit_div_two_pow, Nat.sub_add_cancel hlo, show i - lo < w by omega] using h
    · have h := congrArg (·.testBit (i - (lo + w))) (putBits_div x lo w v)
      rw [if_neg (by omega)]
      simpa [Nat.testBit_div_two_pow, Nat.sub_add_cancel hw] using h

/-- The word LIMM gives, bit by bit: the immediate in its quarter, beside it the old bits where K keeps them, else 0. -/
theorem getLsbD_limmW (old : Word) (q : Nat) (keep : Bool) (imm : BitVec 16) {i : Nat} (hi : i < 64) :
    (limmW old q keep imm).getLsbD i =
      if 16 * q ≤ i ∧ i < 16 * q + 16 then imm.getLsbD (i - 16 * q) else (keep && old.getLsbD i) := by
  cases keep with
  | true =>
    simp only [limmW, if_true, BitVec.getLsbD_ofNat, testBit_putBits, BitVec.testBit_toNat, hi, decide_true, Bool.true_and]
  | false =>
    have habove : i - 16 * q ≥ 16 → imm.getLsbD (i - 16 * q) = false := BitVec.getLsbD_of_ge imm _
    simp only [limmW, Bool.false_eq_true, if_false, BitVec.getLsbD_ofNat, Nat.testBit_mul_two_pow, BitVec.testBit_toNat, hi,
      decide_true, Bool.true_and, Bool.false_and]
    split
    · rename_i hq
      simp [hq.1]
    · by_cases hq : 16 * q ≤ i
      · simp [habove (by omega)]
      · simp [hq]

/-- Four LIMMs of a constant's quarters give the constant, whatever the register held. -/
theorem limmW_four_quarters (v w : Word) :
    limmW (limmW (limmW (limmW w 0 false (v.extractLsb' 0 16)) 1 true (v.extractLsb' 16 16)) 2 true
      (v.extractLsb' 32 16)) 3 true (v.extractLsb' 48 16) = v := by
  apply BitVec.eq_of_getLsbD_eq
  intro i hi
  simp only [getLsbD_limmW _ _ _ _ hi, BitVec.getLsbD_extractLsb', Bool.true_and, Bool.false_and]
  have hquarter (lo : Nat) (h : lo ≤ i ∧ i < lo + 16) : (decide (i - lo < 16) && v.getLsbD (lo + (i - lo))) = v.getLsbD i := by
    rw [Nat.add_sub_cancel' h.1, decide_eq_true (by omega), Bool.true_and]
  split
  · exact hquarter 48 ‹_›
  split
  · exact hquarter 32 ‹_›
  split
  · exact hquarter 16 ‹_›
  · rw [if_pos (by omega)]
    exact hquarter 0 (by omega)

/-- Settles O3: LIMM is an ALU result, its word is `limmW`'s, and the bits of that word are the statement's. -/
theorem limmPlacesQuarter : Obligations.LimmPlacesQuarter := by
  refine ⟨fun s c f rd q k imm h => ⟨limmW (f.gr rd) q k imm, ?_, fun i hi => getLsbD_limmW _ _ _ _ hi⟩, limmW_four_quarters⟩
  exact h.aluG rd _

end Sys2Proof.Machine
end

section
/-!
SUPPORT. What the latching of a fault source changes and what it leaves (R422, R425, R427, R500, R529).

What an update leaves alone is cited by `rw` from the laws of State: with `rfl` the kernel would compare the register tables.
-/

namespace Sys2Proof.Machine

/-! ## The latching of a source -/

@[simp] theorem State.stick_sched (s : State) (k : Nat) : (s.stick k).sched = s.sched := by
  unfold State.stick
  split
  · rfl
  · exact s.setFld_sched _ _

@[simp] theorem State.assertErrn_sched (s : State) : s.assertErrn.sched = s.sched := by
  unfold State.assertErrn
  split
  · rfl
  · exact s.setFld_sched _ _

@[simp] theorem State.stick_fcl (s : State) (k : Nat) : (s.stick k).fcl = s.fcl := by
  unfold State.stick
  split
  · rfl
  · exact s.setFld_fcl _ _

@[simp] theorem State.assertErrn_fcl (s : State) : s.assertErrn.fcl = s.fcl := by
  unfold State.assertErrn
  split
  · rfl
  · exact s.setFld_fcl _ _

/-- The sticky mask takes no register but its own, whether or not PWR_FAIL_N holds its write back. -/
theorem State.fld_stick_ne (s : State) (k : Nat) {g : Fld} (h : g.off ≠ F.FCL_STICKY_FAULT.off) : (s.stick k).fld g = s.fld g := by
  unfold State.stick
  split
  · rfl
  · exact s.fld_setFld_ne _ g _ h

theorem State.fld_assertErrn_ne (s : State) {g : Fld} (h : g.off ≠ F.FCL_ERRN_ASSERTED.off) : s.assertErrn.fld g = s.fld g := by
  unfold State.assertErrn
  split
  · rfl
  · exact s.fld_setFld_ne _ g _ h

/-- What a transition of source `k` sets in the registers: its bit of FCL_STATUS, the sticky mask, and ERROR_N where it is enabled. -/
def State.signals (s : State) (k : Nat) : State :=
  let t := (s.setFld F.FCL_STATUS_FAULT (s.fld F.FCL_STATUS_FAULT + 2 ^ k)).stick k
  if bit (s.fld F.FCL_ERRN_EN_EN) k then t.assertErrn else t

@[simp] theorem State.signals_sched (s : State) (k : Nat) : (s.signals k).sched = s.sched := by
  unfold State.signals
  split
  · rw [State.assertErrn_sched, State.stick_sched, State.setFld_sched]
  · rw [State.stick_sched, State.setFld_sched]

@[simp] theorem State.signals_fcl (s : State) (k : Nat) : (s.signals k).fcl = s.fcl := by
  unfold State.signals
  split
  · rw [State.assertErrn_fcl, State.stick_fcl, State.setFld_fcl]
  · rw [State.stick_fcl, State.setFld_fcl]

theorem State.fld_signals_status (s : State) (k : Nat) :
    (s.signals k).fld F.FCL_STATUS_FAULT = (s.fld F.FCL_STATUS_FAULT + 2 ^ k) % 2 ^ 37 := by
  have hset := s.fld_setFld_same F.FCL_STATUS_FAULT (s.fld F.FCL_STATUS_FAULT + 2 ^ k) (by decide)
  have hstick := (s.setFld F.FCL_STATUS_FAULT (s.fld F.FCL_STATUS_FAULT + 2 ^ k)).fld_stick_ne k (g := F.FCL_STATUS_FAULT) (by decide)
  unfold State.signals
  split
  · rw [State.fld_assertErrn_ne _ (by decide), hstick, hset]
    rfl
  · rw [hstick, hset]
    rfl

/-- The open record of source `k`, fired now from `unit`, in a queue that has room (R422, R427). -/
def State.openRec (s : State) (k unit : Nat) (ctrl data : Word) : FRec :=
  { ctrl := withSource ctrl k, data := data, bit := k, react := s.react k, exec := 0, group := 0, epoch := s.tick, open_ := true,
    unit := unit, queued := true }

/-- The latching of a source whose bit is not set, where the record queue has room (R422, R427). -/
theorem State.latchAt_transition {s : State} {k : Nat} (unit : Nat) (ctrl data : Word) (h0 : k ≠ 0)
    (hbit : bit (s.fld F.FCL_STATUS_FAULT) k = false) (hroom : s.fcl.recs.length < 256) :
    s.latchAt k unit ctrl data =
      { s.signals k with
        fcl := { (s.signals k).fcl with recs := (s.signals k).fcl.recs ++ [s.openRec k unit ctrl data],
                                        group := (s.signals k).fcl.group ++ [(k, s.react k)],
                                        groupRecs := (s.signals k).fcl.groupRecs ++ [s.openRec k unit ctrl data] } } := by
  unfold State.latchAt
  simp only [h0, if_false, hbit, Bool.false_eq_true, hroom, decide_true, if_true]
  rfl

section
variable {s : State} {k : Nat} (unit : Nat) (ctrl data : Word) (h0 : k ≠ 0) (hbit : bit (s.fld F.FCL_STATUS_FAULT) k = false)
  (hroom : s.fcl.recs.length < 256)
include h0 hbit hroom

/-- The source joins the open resolution group with its reaction. -/
theorem State.latchAt_group : (s.latchAt k unit ctrl data).fcl.group = s.fcl.group ++ [(k, s.react k)] := by
  rw [State.latchAt_transition unit ctrl data h0 hbit hroom, ← s.signals_fcl k]

theorem State.latchAt_recs : (s.latchAt k unit ctrl data).fcl.recs = s.fcl.recs ++ [s.openRec k unit ctrl data] := by
  rw [State.latchAt_transition unit ctrl data h0 hbit hroom, ← s.signals_fcl k]

/-- The source's bit of FCL_STATUS reads 1. -/
theorem State.latchAt_status (hk : k < 37) : bit ((s.latchAt k unit ctrl data).fld F.FCL_STATUS_FAULT) k = true := by
  have hregs : (s.latchAt k unit ctrl data).regs = (s.signals k).regs := by
    rw [State.latchAt_transition unit ctrl data h0 hbit hroom]
  rw [State.fld_congr hregs, s.fld_signals_status, bit, Nat.testBit_mod_two_pow, Nat.add_comm, Nat.testBit_two_pow_add_eq]
  simpa [hk, bit] using hbit

end

/-- A fault touches no task, worker, core or queue of the Pump. -/
@[simp] theorem State.latchAt_sched (s : State) (k unit : Nat) (ctrl data : Word) : (s.latchAt k unit ctrl data).sched = s.sched := by
  have hcount : (if k = 0 then s.incFld F.MEM_ECC_UNCORR else s).sched = s.sched := by
    split
    · exact s.incFld_sched _
    · rfl
  simp only [State.latchAt]
  generalize (if k = 0 then s.incFld F.MEM_ECC_UNCORR else s) = t at hcount ⊢
  split
  · exact hcount
  · change (if decide (t.fcl.recs.length < 256) = true then t.signals k else (t.signals k).incFld F.FCL_LOST_COUNT).sched = s.sched
    split
    · rw [t.signals_sched, hcount]
    · rw [State.incFld_sched, t.signals_sched, hcount]

@[simp] theorem State.latch_sched (s : State) (k : Nat) (ctrl data : Word) : (s.latch k ctrl data).sched = s.sched :=
  s.latchAt_sched k 0 ctrl data

/-! ## The control word of a record (R22) -/

/-- SOURCE of a control word just given one. -/
theorem bits_withSource (w : Word) (k : Nat) (hk : k < 64) : bits (withSource w k).toNat 20 15 = k := by
  have hlt : putBits w.toNat 15 6 k < 2 ^ 64 := putBits_lt _ _ _ _ _ w.isLt (by decide)
  rw [withSource, BitVec.toNat_ofNat, Nat.mod_eq_of_lt hlt, bits]
  exact (putBits_same w.toNat 15 6 k).trans (Nat.mod_eq_of_lt hk)

/-- WORKER of a control word stays where its SOURCE is replaced. -/
theorem bits_withSource_worker (w : Word) (k : Nat) : bits (withSource w k).toNat 31 24 = bits w.toNat 31 24 := by
  have hlt : putBits w.toNat 15 6 k < 2 ^ 64 := putBits_lt _ _ _ _ _ w.isLt (by decide)
  rw [withSource, BitVec.toNat_ofNat, Nat.mod_eq_of_lt hlt]
  exact putBits_above w.toNat 15 6 k 24 8 (by decide)

/-- WORKER of hardware that acts alone is 0xFF. -/
theorem bits_hwCtrl_worker (s : State) (polder source : Nat) : bits (hwCtrl s polder source).toNat 31 24 = 0xFF := by
  simp only [hwCtrl, ctrlWord, bits, BitVec.toNat_ofNat]
  omega

end Sys2Proof.Machine
end

section
/-!
SUPPORT. An exception in P stops the core (R72).
-/

namespace Sys2Proof.Machine

/-- In `t`, core `c` stands stopped by an exception in P that it raised in `s`: it executes nothing, bit 4 is set, and a record of SOURCE 4
names the core, with the reaction that `s` sets for it (R72). -/
def State.StoppedInFirmware (s t : State) (c : Nat) : Prop :=
  (t.core c).stopped = true ∧ t.frame c = none ∧ bit (t.fld F.FCL_STATUS_FAULT) 4 = true ∧
    (4, s.react 4) ∈ t.fcl.group ∧ ∃ x ∈ t.fcl.recs, x.bit = 4 ∧ x.react = s.react 4 ∧ bits x.ctrl.toNat 20 15 = 4 ∧
      bits x.ctrl.toNat 31 24 = 0xFF ∧ x.unit = c

/-- A stopped core executes nothing. -/
theorem State.frame_of_stopped {s : State} {c : Nat} (h : (s.core c).stopped = true) : s.frame c = none := by
  simp [State.frame, State.executes, h]

theorem State.core_congr {s t : State} (h : t.sched = s.sched) (c : Nat) : t.core c = s.core c := by
  unfold State.core
  rw [h]

/-- The pins that follow leave the core stopped. -/
theorem State.StoppedInFirmware.repin {s t : State} {c : Nat} (h : s.StoppedInFirmware t c) : s.StoppedInFirmware t.repin c := by
  obtain ⟨hstop, -, hbit, hgroup, hrec⟩ := h
  have hstop' : (t.repin.core c).stopped = true := by rw [State.core_congr t.repin_sched, hstop]
  refine ⟨hstop', State.frame_of_stopped hstop', ?_, ?_, ?_⟩
  · rw [State.fld_congr t.repin_regs, hbit]
  · rw [t.repin_fcl]
    exact hgroup
  · rw [t.repin_fcl]
    exact hrec

/-- An exception in P stops the core, whatever its cause. -/
theorem State.raise_stopsInFirmware {s : State} {c : Nat} (hmode : (s.core c).mode = .P)
    (hbit : bit (s.fld F.FCL_STATUS_FAULT) 4 = false) (hroom : s.fcl.recs.length < 256) (f : Frame) (cause trap : Nat) (xaddr : Word)
    (len : Bool) : s.StoppedInFirmware (s.raise c f cause trap xaddr len) c := by
  have hraise : s.raise c f cause trap xaddr len = (s.setCore c { s.core c with stopped := true }).latchAt 4 c (hwCtrl s 0 4) dataNone := by
    simp only [State.raise, hmode]
  rw [hraise]
  generalize hu : s.setCore c { s.core c with stopped := true } = u
  have hregs : u.regs = s.regs := hu ▸ s.setCore_regs _ _
  have hfcl : u.fcl = s.fcl := hu ▸ s.setCore_fcl _ _
  have hreact : u.react 4 = s.react 4 := by simp only [State.react, State.reg, hregs]
  have hbit' : bit (u.fld F.FCL_STATUS_FAULT) 4 = false := by rw [State.fld_congr hregs, hbit]
  have hroom' : u.fcl.recs.length < 256 := by rw [hfcl]; exact hroom
  have hstop : ((u.latchAt 4 c (hwCtrl s 0 4) dataNone).core c).stopped = true := by
    rw [State.core_congr (u.latchAt_sched _ _ _ _), ← hu, State.core_setCore_same]
  refine ⟨hstop, State.frame_of_stopped hstop, State.latchAt_status _ _ _ (by decide) hbit' hroom' (by decide), ?_,
    u.openRec 4 c (hwCtrl s 0 4) dataNone, ?_, rfl, hreact, bits_withSource _ 4 (by decide), ?_, rfl⟩
  · rw [State.latchAt_group _ _ _ (by decide) hbit' hroom', hreact]
    exact List.mem_append_right _ List.mem_cons_self
  · rw [State.latchAt_recs _ _ _ (by decide) hbit' hroom']
    exact List.mem_append_right _ List.mem_cons_self
  · exact (bits_withSource_worker _ 4).trans (bits_hwCtrl_worker s 0 4)

/-- A core in P runs no task that an instruction could end. -/
theorem State.endedOn_of_P {s : State} {c : Nat} (hmode : (s.core c).mode = .P) (t : State) : s.endedOn t c = false := by
  simp only [State.endedOn, State.curTask, hmode]

/-- Settles O9: an exception in P stops the core, and TRAP and an MFS of an unlisted number raise one. -/
theorem exceptionInFirmwareStopsCore : Obligations.ExceptionInFirmwareStopsCore := by
  intro s c f num h hmode hstep hbit hroom stops
  have hraise : ∀ cause trap xaddr len, s.StoppedInFirmware (s.raise c f cause trap xaddr len) c :=
    s.raise_stopsInFirmware hmode hbit hroom f
  have hends {i : Instr} {cause trap : Nat} {xaddr : Word} (hi : s.Raises c f i cause trap xaddr) : ∃ t, exec i s = .next t ∧ stops t := by
    refine ⟨_, hi, ?_⟩
    rw [State.concludes_of_not_ended (State.endedOn_of_P hmode _), State.ends_eq_stepped, State.stepped_of_not_stepping hstep]
    exact (hraise cause trap xaddr false).repin
  refine ⟨hraise, fun i hi => ?_⟩
  rcases List.mem_pair.1 hi with rfl | rfl
  · exact hends (h.trap_raises num)
  · exact hends (h.mfs_raises_unlisted 1 (by decide) rfl)

end Sys2Proof.Machine
end

section
/-!
SUPPORT. The Pump's tables while a completion queue takes a record (R131, R135, R136, R142, R145), and the slot of a task that an exception
ends (R58, R71).
-/

namespace Sys2Proof.Machine

/-! ## A completion queue's record leaves the Pump alone -/

@[simp] theorem State.translate_sched (s : State) (n page : Nat) : (s.translate n page).2.sched = s.sched := by
  unfold State.translate
  simp only
  split
  · rfl
  · split
    · rw [State.send_sched, State.bump_sched]
    · rw [State.send_sched, State.bump_sched]

@[simp] theorem State.ringPage_sched (s : State) (n h : Nat) : (s.ringPage n h).sched = s.sched := s.translate_sched n _

@[simp] theorem State.dirty_sched (s : State) (n h len : Nat) : (s.dirty n h len).sched = s.sched := by
  unfold State.dirty
  split
  · rfl
  · refine List.foldlRecOn (motive := fun t : State => t.sched = s.sched) _ _ rfl fun t ht i _ => ?_
    simp only
    split
    · rw [State.send_sched, State.ringPage_sched, ht]
    · rw [State.setFld_sched, ht]

@[simp] theorem State.fireMsix_sched (s : State) (n : Nat) : (s.fireMsix n).sched = s.sched := by
  unfold State.fireMsix
  simp only
  rw [apply_ite State.sched, State.send_sched, ite_self, State.setPq_sched]

@[simp] theorem State.writeCq_sched (s : State) (n : Nat) (l : List Byte) : (s.writeCq n l).sched = s.sched := by
  unfold State.writeCq
  simp only
  rw [apply_ite State.sched, State.fireMsix_sched, ite_self, State.setPq_sched, State.setFld_sched, State.setFld_sched,
    State.dirty_sched, State.send_sched, State.ringPage_sched]

/-- A record that is written, waits or is discarded leaves the Pump alone. -/
@[simp] theorem State.postRecord_sched (s : State) (n : Nat) (l : List Byte) : (s.postRecord n l).sched = s.sched := by
  unfold State.postRecord
  simp only
  split
  · exact s.writeCq_sched n l
  · split
    · exact s.setPq_sched n _
    · rw [State.latch_sched, State.incFld_sched]

/-! ## The slot of a task that ends -/

theorem State.task_congr {s t : State} (h : t.sched = s.sched) (k : Nat) : t.task k = s.task k := by
  unfold State.task
  rw [h]

/-- A worker that gives its task up changes no slot. -/
@[simp] theorem State.task_dropWorker (s : State) (w k : Nat) : (s.dropWorker w).task k = s.task k := by
  have hrom : (s.dropRom w).sched = s.sched := by
    unfold State.dropRom
    split <;> rfl
  have hworker (x : Worker) : ((s.dropRom w).setWorker w x).task k = s.task k := State.task_congr hrom k
  unfold State.dropWorker
  simp only
  split
  · rw [State.task_setCore, hworker]
  · exact hworker _

/-- The slot of a task that has ended is FREE, or ENDING while its jobs are outstanding (R58). -/
theorem State.state_endSlot (s : State) (t : Nat) :
    ((s.endSlot t).task t).state = .free ∨ ((s.endSlot t).task t).state = .ending := by
  unfold State.endSlot
  simp only
  split
  · rw [State.task_setTask_same]
    exact .inl rfl
  · rw [State.task_setTask_same]
    exact .inr rfl

/-- The slot of a task that an exception ends is FREE or ENDING (R71). -/
theorem State.state_killTask (s : State) (t w status cause : Nat) (xaddr : Word) :
    ((s.killTask t w status cause xaddr).task t).state = .free ∨ ((s.killTask t w status cause xaddr).task t).state = .ending := by
  have hend : (s.endTask t).task t = (s.endSlot t).task t := by
    unfold State.endTask
    simp only
    split
    · exact State.task_dropWorker _ _ _
    · rfl
  unfold State.killTask
  simp only
  rw [State.task_congr (State.postRecord_sched _ _ _), hend]
  exact s.state_endSlot t

/-- Killing the task a core runs ends it on that core. -/
theorem State.endedOn_killTask {s : State} {c t : Nat} (h : s.curTask c = some t) (w status cause : Nat) (xaddr : Word) :
    s.endedOn (s.killTask t w status cause xaddr) c = true := by
  simpa only [State.endedOn, h, Bool.or_eq_true, decide_eq_true_eq] using s.state_killTask t w status cause xaddr

end Sys2Proof.Machine
end

section
/-!
SUPPORT. An exception in U enters its task's handler or ends the task (R69 to R71): what it leaves, and the instructions that raise one.
-/

namespace Sys2Proof.Machine

/-- A core that runs a task is in U and holds it. -/
theorem State.curTask_eq_some {s : State} {c t : Nat} :
    s.curTask c = some t ↔ (s.core c).mode = .U ∧ (s.worker c).task = some t := by
  unfold State.curTask
  split <;> simp [*]

/-- The frame in the handler, with the cause word of R70 written out. -/
theorem Frame.enter_eq (f : Frame) {cause trap : Nat} (hc : cause < 256) (ht : trap < 256) (xaddr : Word) :
    f.enter cause trap xaddr =
      { f with xpc := f.pc, xcause := BitVec.ofNat 64 (cause + 256 * trap + 65536), xaddr := xaddr, pc := f.xhnd } := by
  rw [Frame.enter, xcauseWord, Nat.mod_eq_of_lt hc, Nat.mod_eq_of_lt ht, Nat.mul_comm trap]

/-! ## What an exception of a task does -/

section
variable {s : State} {c t : Nat} {f : Frame} (h : s.RunsTask c t f)
include h

theorem State.RunsTask.mode : (s.core c).mode = .U := (State.curTask_eq_some.1 h.2).1

theorem State.RunsTask.notPrivileged : s.privileged c = false := by
  simp [State.privileged, h.mode]

/-- A task whose frame changes goes on. -/
theorem State.RunsTask.endedOn_setFrame (g : Frame) : s.endedOn (s.setFrame c g) c = false := by
  obtain ⟨hmode, hworker⟩ := State.curTask_eq_some.1 h.2
  have hstate : (s.task t).state = .running := h.1.2 t h.2
  simp [State.endedOn, h.2, State.setFrame, hmode, hworker, hstate]

theorem State.RunsTask.concludes_setFrame (g : Frame) : s.concludes c (s.setFrame c g) = s.wrote c g :=
  State.concludes_of_not_ended (h.endedOn_setFrame g)

/-- The handler is entered (R70). -/
theorem State.RunsTask.raise_enters (hx : f.xhnd ≠ 0) (ha : f.xact = false) (cause trap : Nat) (xaddr : Word) (len : Bool) :
    s.raise c f cause trap xaddr len = s.setFrame c (f.enter cause trap xaddr) := by
  obtain ⟨hmode, hworker⟩ := State.curTask_eq_some.1 h.2
  have hyes : f.xhnd ≠ 0 ∧ (!f.xact) = true := ⟨hx, by rw [ha]; rfl⟩
  simp only [State.raise, hmode, hworker, if_pos hyes]

/-- The task ends: it has no handler, or its handler runs (R71). -/
theorem State.RunsTask.raise_kills (hx : f.xhnd = 0 ∨ f.xact = true) (cause trap : Nat) (xaddr : Word) (len : Bool) :
    s.raise c f cause trap xaddr len = s.killTask t c (excStatus cause len) cause xaddr := by
  obtain ⟨hmode, hworker⟩ := State.curTask_eq_some.1 h.2
  have hno : ¬(f.xhnd ≠ 0 ∧ (!f.xact) = true) := by
    rcases hx with hx | hx <;> simp [hx]
  simp only [State.raise, hmode, hworker, if_neg hno]

end

/-- What a task's raising instruction leaves: the frame in the handler, or the task's end. -/
theorem State.RunsTask.raises_entersOrEnds {s : State} {c t : Nat} {f : Frame} (h : s.RunsTask c t f) {i : Instr} {cause trap : Nat}
    {xaddr : Word} (hi : s.Raises c f i cause trap xaddr) (hc : cause < 256) (ht : trap < 256) :
    (f.xhnd ≠ 0 → f.xact = false →
      exec i s = .next (s.wrote c { f with xpc := f.pc, xcause := BitVec.ofNat 64 (cause + 256 * trap + 65536),
                                           xaddr := xaddr, pc := f.xhnd })) ∧
    (f.xhnd = 0 ∨ f.xact = true →
      exec i s = .next (s.endsTask c (s.killTask t c (excStatus cause false) cause xaddr))) := by
  unfold State.Raises at hi
  constructor
  · intro hx ha
    rw [hi, h.raise_enters hx ha, h.concludes_setFrame, f.enter_eq hc ht]
  · intro hx
    rw [hi, h.raise_kills hx, State.concludes_of_ended (State.endedOn_killTask h.2 _ _ _ _)]

/-! ## The instructions that raise -/

section
variable {s : State} {c : CoreId} {f : Frame} (h : s.Runs c f)
include h

/-- BKPT with no debugger attached (R69). -/
theorem State.Runs.bkpt_raises (hd : s.debugAttached = false) : s.Raises c f (.bkpt c) 8 0 0 :=
  h.raises_of _ rfl (by simp [hd])

/-- XRET outside a handler (R48). -/
theorem State.Runs.xret_raises (ha : f.xact = false) : s.Raises c f (.xret c) 1 0 0 :=
  h.raises_of _ rfl (by simp [ha])

/-- LD of a size that cannot be sign-extended (R45). -/
theorem State.Runs.ld_raises_illegal (rd ra : Reg) {sz : Fin 4} {sx : Bool} (off : BitVec 12) (hs : sx = true ∧ sz = 3) :
    s.Raises c f (.ld c rd ra sz sx off) 1 0 0 :=
  h.raises_of _ rfl (by simp [hs])

/-- LD of a misaligned address (R45). -/
theorem State.Runs.ld_raises_misalign (rd ra : Reg) {sz : Fin 4} {sx : Bool} {off : BitVec 12} (hs : ¬(sx = true ∧ sz = 3))
    (ha : (f.gr ra + off.signExtend 64).toNat % 2 ^ sz.val ≠ 0) :
    s.Raises c f (.ld c rd ra sz sx off) 3 0 (f.gr ra + off.signExtend 64) :=
  h.raises_of _ rfl (by rw [if_neg hs]; exact if_pos ha)

/-- ST of a misaligned address (R45). -/
theorem State.Runs.st_raises_misalign (rs ra : Reg) {sz : Fin 4} {off : BitVec 12}
    (ha : (f.gr ra + off.signExtend 64).toNat % 2 ^ sz.val ≠ 0) :
    s.Raises c f (.st c rs ra sz off) 3 0 (f.gr ra + off.signExtend 64) :=
  h.raises_of _ rfl (if_pos ha)

/-- JR to a misaligned target (R47). -/
theorem State.Runs.jr_raises (ra : Reg) (ha : (f.gr ra).toNat % 4 ≠ 0) : s.Raises c f (.jr c ra) 3 0 (f.gr ra) :=
  h.raises_of _ rfl (if_pos ha)

/-- CALLR to a misaligned target (R47). -/
theorem State.Runs.callr_raises (ra : Reg) (ha : (f.gr ra).toNat % 4 ≠ 0) : s.Raises c f (.callr c ra) 3 0 (f.gr ra) :=
  h.raises_of _ rfl (if_pos ha)

/-- AMO ADD of a misaligned address (R46). -/
theorem State.Runs.amoAdd_raises_misalign (rd ra rb : Reg) (ha : (f.gr ra).toNat % 8 ≠ 0) :
    s.Raises c f (.amoAdd c rd ra rb true) 3 0 (f.gr ra) :=
  h.raises_of _ rfl (if_pos ha)

/-- AMO ADD outside the memory that takes atomics (R46). -/
theorem State.Runs.amoAdd_raises_operand (rd ra rb : Reg) (ha : (f.gr ra).toNat % 8 = 0)
    (hat : s.atomicAt c (f.gr ra).toNat = false) : s.Raises c f (.amoAdd c rd ra rb true) 4 0 0 :=
  h.raises_of _ rfl (by simp [ha, hat])

end

section
variable {s : State} {c : CoreId} {t : Nat} {f : Frame} (h : s.RunsTask c t f)
include h

/-- A P-only instruction in U raises PRIVILEGE (R37). -/
theorem State.RunsTask.inP_raises {i : Instr} (k : State → Frame → State)
    (hi : exec i s = .next (s.onCore c fun s => s.inP c (k s))) : s.Raises c f i 2 0 0 :=
  h.1.1.raises_of (fun s f => if s.privileged c then k s f else s.raise c f 2 0 0 false) hi (by simp [h.notPrivileged])

/-- MFS of a firmware register in U (R37). -/
theorem State.RunsTask.mfs_raises (rd : Reg) {num : BitVec 15} (hn : 0x100 ≤ num.toNat) : s.Raises c f (.mfs c rd num) 2 0 0 :=
  h.1.1.raises_of _ rfl (by simp [hn, h.notPrivileged])

/-- MTS to a firmware register in U (R37). -/
theorem State.RunsTask.mts_raises (rd : Reg) {num : BitVec 15} (hn : 0x100 ≤ num.toNat) : s.Raises c f (.mts c rd num) 2 0 0 :=
  h.1.1.raises_of _ rfl (by simp [hn, h.notPrivileged])

/-- A TASK instruction raises what it raises for the task its core runs. -/
theorem State.RunsTask.withTask_raises {i : Instr} (k : Nat → Frame → State → State)
    (hi : exec i s = .next (s.onCore c fun s => s.withTask c k)) {cause trap : Nat} {xaddr : Word}
    (hk : k t f s = s.raise c f cause trap xaddr false) : s.Raises c f i cause trap xaddr :=
  h.1.1.raises_of _ hi (by simp only [h.2, hk])

/-- SETEV of flag 31 (R55). -/
theorem State.RunsTask.setev_raises (rd ra : Reg) {rb : Reg} (hb : (f.gr rb).getLsbD 31 = true) :
    s.Raises c f (.setev c rd ra rb) 4 0 0 :=
  h.withTask_raises _ rfl (if_pos hb)

/-- SPAWN with a misaligned descriptor (R54). -/
theorem State.RunsTask.spawn_raises (rd : Reg) {ra : Reg} (ha : (f.gr ra).toNat % 32 ≠ 0) :
    s.Raises c f (.spawn c rd ra) 3 0 (f.gr ra) :=
  h.withTask_raises _ rfl (if_pos ha)

/-- WAITEV of an unmarked task on no flag, or on flag 31 (R56). -/
theorem State.RunsTask.waitev_raises (rd ra : Reg) {rb : Reg} (all : Bool) (hm : (s.task t).marked = false)
    (hb : (f.gr rb).setWidth 32 = 0#32 ∨ (f.gr rb).getLsbD 31 = true) : s.Raises c f (.waitev c rd ra rb all) 4 0 0 := by
  have hmask : (f.gr rb).setWidth 32 = 0#32 ∨ ((f.gr rb).setWidth 32).getLsbD 31 = true := by
    rw [BitVec.getLsbD_setWidth]
    exact hb.imp_right fun h31 => by simp [h31]
  refine h.withTask_raises _ rfl ?_
  simp only [State.orMarked, hm, Bool.false_eq_true, if_false]
  exact if_pos hmask

/-- XRET in a handler returns from it (R70). -/
theorem State.RunsTask.xret_leaves (ha : f.xact = true) : exec (.xret c) s = .next (s.wrote c f.leave) := by
  refine congrArg Host.Outcome.next ((h.1.1.onCore _).trans ?_)
  rw [if_pos ha, h.concludes_setFrame]

end

/-- Settles O8: each line's instruction raises its exception, and an exception enters the handler or ends the task. -/
theorem exceptionEntersHandlerOrEndsTask : Obligations.ExceptionEntersHandlerOrEndsTask := by
  intro s c t f rd ra rb sz sx all off num h a
  have hr : s.Runs c f := h.1.1
  refine ⟨fun cause trap xaddr len hc ht => ⟨fun hx ha => ?_, fun hx => h.raise_kills hx cause trap xaddr len⟩, ?_,
    fun ha => h.xret_leaves ha⟩
  · rw [h.raise_enters hx ha, f.enter_eq hc ht]
  · have plain {i : Instr} {cause : Nat} {xaddr : Word} (hi : s.Raises c f i cause 0 xaddr) (hc : cause < 256 := by decide) :=
      h.raises_entersOrEnds hi hc (by decide)
    simp only [List.forall_mem_cons, List.not_mem_nil, false_imp_iff, implies_true, and_true]
    exact ⟨fun _ => h.raises_entersOrEnds (hr.trap_raises num) (by decide) (Nat.mod_lt _ (by decide)),
      fun hd => plain (hr.bkpt_raises hd),
      fun ha => plain (hr.xret_raises ha),
      fun _ => plain (h.inP_raises _ rfl),
      fun _ => plain (h.inP_raises _ rfl),
      fun _ => plain (h.inP_raises _ rfl),
      fun hn => plain (h.mfs_raises rd hn),
      fun hn => plain (h.mts_raises rd hn),
      fun ha => plain (hr.ld_raises_misalign rd ra ha.1 ha.2),
      fun hs => plain (hr.ld_raises_illegal rd ra off hs),
      fun ha => plain (hr.st_raises_misalign rd ra ha),
      fun ha => plain (hr.jr_raises ra ha),
      fun ha => plain (hr.callr_raises ra ha),
      fun ha => plain (hr.amoAdd_raises_misalign rd ra rb ha),
      fun ha => plain (hr.amoAdd_raises_operand rd ra rb ha.1 (by simp [State.atomicAt, ha.2])),
      fun hb => plain (h.setev_raises rd ra hb),
      fun ha => plain (h.spawn_raises rd ha),
      fun hw => plain (h.waitev_raises rd ra all hw.1 hw.2)⟩

end Sys2Proof.Machine
end
